-- ==== Sys2Proof/Word.lean ====
section
/-! DEFINITION. The word types of the TDR-7200: bytes, the 64-bit words of registers and descriptors (R10), and their
plainest arithmetic. -/

namespace Sys2Proof

/-- One byte of memory or of a packet. -/
abbrev Byte := BitVec 8

/-- One 64-bit word: a register (R10), a descriptor word or a command word. -/
abbrev Word := BitVec 64

/-- A local address (R255) as the decoders use it. -/
abbrev Addr := Nat

end Sys2Proof
end

