-- ==== Sys2Proof/Syntax.lean ====
section
/-! DEFINITION. The commands of the block: one constructor of `Instr` per row of spec/opcode_table.json, with its operands.
Commands that are events of the surroundings (a frame that arrives, a code that fails, a sensor that is sampled) carry what the
surroundings decide as operands, so that every outcome the spec allows is some command. -/

namespace Sys2Proof

/-- Who makes an access (R531): a host session by its session number (R404), management firmware, the side-band (R447), or the
fabric manager of another device (R353). -/
inductive Req where
  | session (n : BitVec 12)
  | mgmt
  | sideband
  | fabric (src : BitVec 16)
  deriving DecidableEq, Repr

/-- A unit that can be disabled (R305). -/
inductive QUnit where
  | queue (q : BitVec 16)
  | core (c : Fin 96)
  | port (p : Fin 8)
  deriving DecidableEq, Repr

/-- What the code over a word of memory, or of a control structure, finds at a read (R127, R267, R268, R461, R462). -/
inductive Ecc where
  | ok
  | corrected
  | uncorrectable
  deriving DecidableEq, Repr

/-- What the feeder finds as a segment streams in (R108, R461): nothing; a parity error of a word that feeds the rows (columns) named; or,
from the code over the tile store and its own buffers, a corrected word, or an uncorrectable one that feeds the rows (columns) named. -/
inductive FeederErr where
  | none
  | rowsOfA (rows : List (Fin 128))
  | colsOfB (cols : List (Fin 128))
  | corrected
  | lostRowsOfA (buffer : Bool) (rows : List (Fin 128))
  | lostColsOfB (buffer : Bool) (cols : List (Fin 128))
  deriving DecidableEq, Repr

/-- What a decant sweep reads (R120, R122): a long slot, an INT32 tile, or an ACC256 tile fetched from memory. -/
inductive DecantSrc where
  | slot (t : Fin 4)
  | tile (t : Fin 24)
  | acc256 (ordinal : Nat)
  deriving DecidableEq, Repr

/-- What a read of a transfer meets (R184, R461): nothing; a corrected error, an uncorrectable error or a parity error at one 64-byte unit of the
source, on a bridge of its path (0 to 3 the die edges, 4 + h the bridge of hub h) or else at the engine's own port or the hub's own datapath; or
what the code over the engine's own buffer finds, corrected or, at one unit, uncorrectable. -/
inductive ReadErr where
  | none
  | corrected (unit : Nat)
  | uncorrectable (unit : Nat)
  | parity (unit : Nat) (bridge : Option (Fin 12))
  | bufCorrected
  | bufUncorrectable (unit : Nat)
  deriving DecidableEq, Repr

/-- What a transfer meets as it lands (R184, R257): nothing; a parity error on the data written, at the receivers named (for a multicast;
otherwise at the one receiver), on a bridge of its path or else on the on-die network; or an uncorrectable error in the read of a unit that it writes in part, the first or the last. -/
inductive LandErr where
  | none
  | parity (receivers : List (Fin 96)) (bridge : Option (Fin 12))
  | rmw (last : Bool)
  deriving DecidableEq, Repr

/-- What a packet's access to memory meets: its read, or its write. -/
structure MemErr where
  read : ReadErr := .none
  land : LandErr := .none
  deriving DecidableEq, Repr

/-- A Valix packet (R322): the header fields and the payload. -/
structure Pkt where
  dst : BitVec 16
  src : BitVec 16
  ptype : BitVec 4
  epoch : Bool
  esc : Bool
  ce : Bool
  ord : Bool
  tc : BitVec 3
  hops : BitVec 5
  dconn : BitVec 12
  gen : BitVec 4
  psn : BitVec 32
  ncode : BitVec 4
  lastf : Bool
  addr : BitVec 48
  tag : BitVec 16
  poison : BitVec 64
  payload : List Byte
  deriving DecidableEq, Repr

/-- What the code over a router buffer finds in a packet (R325), or the code over the routing table in the entry it reads (R462). -/
inductive PktErr where
  | none
  | payloadUnits (mask : BitVec 64)
  | header
  | entryCorrected
  | entryUncorrectable
  deriving DecidableEq, Repr

/-- One received flit group (R318, R319): how many of its FEC codewords could not be corrected, and its 512 bytes. -/
structure FlitGroup where
  fecBad : Nat
  bytes : List Byte
  deriving DecidableEq, Repr

/-- Whether every FEC codeword of a flit group decoded (R319). -/
def FlitGroup.fecOk (g : FlitGroup) : Bool := g.fecBad == 0

/-- Why a link retrains narrower (R316). -/
inductive LaneCause where
  | lostLock
  | fecCodewords
  | failedRetrains
  deriving DecidableEq, Repr

/-- What every frame carries that a port's first checks look at (R403). -/
structure FrameHdr where
  fcsOk : Bool
  length : Nat
  vid : Option (BitVec 12)
  dstMac : BitVec 48
  srcMac : BitVec 48
  deriving DecidableEq, Repr

/-- Whether a dropped frame was addressed to the port (R403, last row). -/
inductive FrameKind where
  | addressedUnsupported
  | badUdpChecksum
  | notAddressed
  deriving DecidableEq, Repr

/-- An INIT message (R404, R405) as received. `qhValid`: its ephemeral key is a valid point. -/
structure InitMsg where
  hrand : BitVec 256
  qh : BitVec 776
  qhValid : Bool
  keyidx : BitVec 16
  hqpn : BitVec 24
  hpsn : BitVec 24
  mtu : Byte
  ackt : Byte
  version : Byte
  length : BitVec 16
  srcMac : BitVec 48
  srcIp : BitVec 128
  deriving DecidableEq, Repr

/-- FINISH (R404): the header's VERSION and LENGTH, HSIG and CONF. Beside it `finish` says whether HSIG verifies against the public key of the
session's host key. -/
structure FinishMsg where
  version : Byte
  length : BitVec 16
  hsig : BitVec 768
  conf : BitVec 128
  deriving DecidableEq, Repr

/-- REKEY or CLOSE (R404): the header's VERSION and LENGTH, and CTR. -/
structure CtlMsg where
  version : Byte
  length : BitVec 16
  ctr : BitVec 48
  deriving DecidableEq, Repr

/-- CERT_REQ (R404): the header's VERSION and LENGTH, OFFSET, and where it came from. -/
structure CertAsk where
  version : Byte
  length : BitVec 16
  offset : BitVec 32
  srcIp : BitVec 128
  deriving DecidableEq, Repr

/-- A RoCEv2 packet of a session (R408, R412), opened. `tagOk` says whether the GCM tag verifies under the keys of its phase, and `icrcOk` whether the
ICRC holds; `prio` and `frameLen` are the priority and the length of its frame (R420). -/
structure Roce where
  destqp : BitVec 24
  opcode : Byte
  pkey : BitVec 16
  psn : BitVec 24
  kphase : Bool
  ctr : BitVec 48
  tagOk : Bool
  ce : Bool
  va : BitVec 64
  rkey : BitVec 32
  dmalen : BitVec 32
  syndrome : Byte
  poison : BitVec 64
  payload : List Byte
  srcMac : BitVec 48
  srcIp : BitVec 128
  icrcOk : Bool := true
  prio : BitVec 3 := 0
  frameLen : Nat := 0
  deriving DecidableEq, Repr

/-- A memory controller (R26): of an HBM4 stack or of a DDR5 channel. -/
inductive MemCtl where
  | stack (s : Fin 32)
  | channel (c : Fin 16)
  deriving DecidableEq, Repr

/-- Where in a DRAM an error lies (R465, MEM_UE): as the controller reports it. -/
structure DramLoc where
  pc : Byte
  bank : Byte
  symbol : Byte
  row : BitVec 32
  column : BitVec 16
  syndrome : BitVec 64
  deriving DecidableEq, Repr

/-- How two sieve outputs differ (R465, SIEVE). -/
structure SieveDiff where
  offset : BitVec 32
  bits : BitVec 32
  xor : BitVec 64
  deriving DecidableEq, Repr

/-- The verdicts of an arbitration (R473). -/
inductive SieveVerdict where
  | originalRight
  | partnerRight
  | noTwoAgree
  deriving DecidableEq, Repr

/-- A failing attempt of a known-answer pass (R477, R465). -/
structure KatFail where
  case : BitVec 16
  unitClass : Byte
  offset : BitVec 32
  bits : BitVec 32
  xor : BitVec 64
  deriving DecidableEq, Repr

/-- What a laggard window measured of one core (R482), in CCLK cycles. -/
structure LagMeasure where
  core : Fin 96
  active : Nat
  held : Nat
  window : Nat
  stalls : BitVec 64
  deriving DecidableEq, Repr

/-- A unit that latches on a lantern token (R478): by its unit identifier (R28). -/
abbrev UnitId := BitVec 16

/-- How an ECDSA signature was made (R435): the private key and the number drawn. A signature verifies against a public key exactly where some such
pair makes both. -/
structure Signer where
  key : Nat
  nonce : Nat
  deriving DecidableEq, Repr

/-- A firmware image (R435, R436): its bytes, header and body, and how its SIG was made; none where SIG does not verify. -/
structure ImgInfo where
  bytes : List Byte
  signer : Option Signer
  deriving DecidableEq, Repr

/-- What a check of an image in a flash slot reads there (R436): the image as it was stored, or one that reads otherwise. -/
structure ImageCheck where
  read : Option ImgInfo
  deriving DecidableEq, Repr

/-- What the manufacturer blows into the fuses (R428, R436, R440): disabled sites, the code of the part, the base MAC address, the serial number, the
hashes of the root-key slots, the seed of the identity key, and the debug fuse. -/
structure FactoryFuses where
  disabled : List Nat
  grade : Nat
  baseMac : BitVec 48
  serial : BitVec 64
  rootHash : List (BitVec 384)
  seed : Nat
  debug : Bool
  deriving DecidableEq, Repr

/-- What the SPD hub of an RDIMM says (R262): its capacity in GiB, whether it has two ranks, whether its devices are x8, whether it has ECC, and
whether it supports each of the rates 6,400, 5,600 and 4,800 MT/s. -/
structure Dimm where
  gib : Nat
  twoRanks : Bool
  x8 : Bool
  ecc : Bool
  rates : BitVec 3
  deriving DecidableEq, Repr

/-- What a start-up finds (R428, R429, R262). `fuses`: what the manufacturer has blown into a part not yet fused; `cfg`, `imgs`, `chain`: what was
programmed into the flash from outside since the device last read it; `hbm`: stacks that train; `ddr`: channels with an RDIMM, what its SPD hub says and whether the channel's training succeeds; `links`:
links that train, with width code and lanes; `ports`: ports that come up, with RATE. -/
structure StartEnv where
  fuseParityOk : Bool
  fuses : Option FactoryFuses
  flashPresent : Bool
  cfg : Option (List Byte × List Byte)
  imgs : List (Fin 6 × ImgInfo)
  chain : Option (List Byte)
  hbm : List (Fin 32)
  ddr : List (Fin 16 × Dimm × Bool)
  links : List (Fin 40 × BitVec 2 × BitVec 4)
  ports : List (Fin 8 × BitVec 2)
  deriving DecidableEq, Repr

/-- What an exit from DOME meets (R513): whether the save area's check word is good, what the checks of the management images read, the controllers whose PHY fails even a full training, and the links and ports that come up. -/
structure WakeEnv where
  saveOk : Bool
  mgmtA : ImageCheck
  mgmtB : ImageCheck
  physFailed : List MemCtl
  links : List (Fin 40 × BitVec 2 × BitVec 4)
  ports : List (Fin 8 × BitVec 2)
  deriving DecidableEq, Repr

/-- The temperature sensors (R557). -/
inductive Sensor where
  | site (n : Fin 104)
  | hub (h : Fin 8) (k : Fin 4)
  | stack (s : Fin 32)
  | pkgStack (s : Fin 32)
  | dome
  deriving DecidableEq, Repr

/-- A power-on reset source (R497): PWR_OK low or the dome supply low. -/
inductive PorSource where
  | pwrOk
  | vddAon
  deriving DecidableEq, Repr

/-- What makes the device leave SHELF (R507). -/
inductive ShelfWake where
  | req (who : Req) (v : Word)
  | auto
  deriving DecidableEq, Repr

/-- What the LINKS policy looks at (R451). -/
inductive LinkTarget where
  | link (l : Fin 40)
  | port (p : Fin 8)
  deriving DecidableEq, Repr

/-- A criterion of R483. -/
inductive RetireWhy where
  | laggard
  | held
  | sieve
  | errors
  deriving DecidableEq, Repr

/-- What the REPAIR policy decides on (R468, R469). -/
inductive RepairWhy where
  | ueRow
  | ceRow
  | ceLane (lane : BitVec 7)
  deriving DecidableEq, Repr

/-- A JTAG instruction (R554). -/
inductive Jtag where
  | bypass
  | idcode
  | samplePreload
  | extest
  | other (code : Nat)
  deriving DecidableEq, Repr

/-- A PLDM sensor (R446): the hottest of a compute die or hub die, package power, or a rail's voltage. -/
inductive PldmSensor where
  | dieTemp (d : Fin 4)
  | hubTemp (h : Fin 8)
  | power
  | rail (r : Fin 14)
  deriving DecidableEq, Repr

/-- A queue an access names, and what the code over its state finds (R462). -/
structure QueueAt where
  q : BitVec 16
  desc : Ecc
  deriving DecidableEq, Repr

/-- A core that runs an operation over records, what the code over the record of a tag finds as it is read (R462), and what the reads of 64-byte
units meet (R268). -/
structure RecordsAt where
  core : Fin 96
  tag : BitVec 12
  found : Ecc
  met : List (BitVec 42 × Ecc)
  deriving DecidableEq, Repr

/-- A packet that is received, and what the code over its connection's entry finds (R462). -/
structure PktAt where
  p : Pkt
  entry : Ecc
  land : LandErr
  deriving DecidableEq, Repr

/-- A packet that is received, and what the code over its connection's entry finds (R462). -/
structure EntryAt where
  p : Pkt
  entry : Ecc
  deriving DecidableEq, Repr

/-- What a target tells the sender of a COMBINE packet beside its ACK (R207, R210, R214, R322): the packet's PSN, the elements counted poisoned and
saturated, the sticky flags of R65, and whether the combine met an uncorrectable unit. -/
structure CombFound where
  psn : BitVec 32
  poisoned : Nat
  saturated : Nat
  fmt : BitVec 9
  lost : Bool
  deriving DecidableEq, Repr

/-- An ACK that is received, what the code over its connection's entry finds (R462), and what it tells of COMBINE packets. -/
structure AckAt where
  p : Pkt
  entry : Ecc
  found : List CombFound
  deriving DecidableEq, Repr

/-- A NAK that is received, what the code over its connection's entry finds (R462), and what the sources of the packets sent again meet as they are
read again (R345). -/
structure NakAt where
  p : Pkt
  entry : Ecc
  met : List (BitVec 42 × Ecc)
  deriving DecidableEq, Repr

/-- A connection without progress, and what the sources of the packets sent again meet as they are read again (R345). -/
structure RtoAt where
  conn : BitVec 12
  met : List (BitVec 42 × Ecc)
  deriving DecidableEq, Repr

/-- A device, and what its FAB_EPOCH reads as (R354). -/
structure EpochAt where
  dev : BitVec 16
  epoch : Word
  deriving DecidableEq, Repr

/-- An engine whose tile is decided, and what the code over the scaling record of its tag finds (R462). -/
structure VerdictAt where
  e : Fin 4
  record : Ecc
  deriving DecidableEq, Repr

/-- An engine whose sampled tile another engine computes too (R473): what the reads of that engine's slot find (R127), and what the reads of 64-byte
units meet (R268). -/
structure SieveAt where
  e : Fin 4
  acc : Ecc
  met : List (BitVec 42 × Ecc)
  deriving DecidableEq, Repr

/-- A word that is read, and what the code over it finds (R462). -/
structure WordAt where
  addr : Word
  found : Ecc
  deriving DecidableEq, Repr

/-- What the reads of a command that starts meet: that of its slot, that of the handle it takes (R294), that of its extension, and those of its
queue's descriptor and of the stage group it names (R462). -/
structure StartMet where
  read : Ecc
  handle : Ecc
  ext : Ecc := .ok
  desc : Ecc := .ok
  group : Ecc := .ok
  deriving DecidableEq, Repr

/-- An INT32 tile that repeats, what the feeder and the read of its accumulators find (R81, R108, R127), and what the reads of 64-byte units of its
operands meet (R268). -/
structure RepeatAt where
  tile : Fin 24
  err : FeederErr
  acc : Ecc
  met : List (BitVec 42 × Ecc)
  deriving DecidableEq, Repr

/-- What the reads of a transfer meet: that of its source, and that of its index entry or of the retry map read with it (R184). -/
structure IssueMet where
  err : ReadErr
  aux : ReadErr
  deriving DecidableEq, Repr

/-- A core, and what the reads of 64-byte units that its command takes meet (R268). -/
structure CoreAt where
  core : Fin 96
  met : List (BitVec 42 × Ecc)
  deriving DecidableEq, Repr

/-- A queue whose command goes on or ends, and what the reads of 64-byte units that this takes meet (R257, R268). -/
structure UnitsAt where
  q : BitVec 16
  met : List (BitVec 42 × Ecc)
  deriving DecidableEq, Repr

/-- A stream context whose stream ends, and what the reads of units that its handle is written into meet (R257). -/
structure EndAt where
  ctx : Fin 4
  met : List (BitVec 42 × Ecc)
  deriving DecidableEq, Repr

/-- A context of 1 to 3, by its number less 1, and what the reads of units that its command takes meet (R257, R268). -/
structure CtxAt where
  ctx : Fin 3
  met : List (BitVec 42 × Ecc)
  deriving DecidableEq, Repr

/-- The tag of a piece that is added, and what the reads of 64-byte units meet as it is (R268). -/
structure PieceAt where
  tag : BitVec 16
  met : List (BitVec 42 × Ecc)
  deriving DecidableEq, Repr

/-- A READ_REQ or SIGNAL that is received, what the code over its connection's entry finds (R462), and what its read meets (R268). -/
structure ReadAt where
  p : Pkt
  entry : Ecc
  read : ReadErr
  deriving DecidableEq, Repr

/-- A SEND or WRITE of a session, and what it meets as it lands (R257). -/
structure RoceLand where
  p : Roce
  land : LandErr
  deriving DecidableEq, Repr

/-- An RDMA READ of a session, and what the reads of its packets meet (R268). -/
structure RoceRead where
  p : Roce
  errs : List ReadErr
  deriving DecidableEq, Repr

/-- The end of a repair's hold: whether a spare was left, and what the repair's own reads of 64-byte units of the row meet (R270). -/
structure HoldEnd where
  spare : Bool
  row : List (BitVec 42 × Ecc)
  deriving DecidableEq, Repr

/-- A request for measurements: the index, and whether the answer is to be signed (R442). -/
structure MeasReq where
  index : Byte
  sign : Bool
  deriving DecidableEq, Repr

/-- The commands of the block, one per row of spec/opcode_table.json. -/
inductive Instr where
  | doorbell (who : Req) (q : QueueAt) (width : Nat) (value : Word)
  | queueEnable (who : Req) (q : BitVec 16) (w0 : Word)
  | queueDisable (who : Req) (q : BitVec 16) (w0 : Word)
  | coreDisable (who : Req) (core : Fin 96)
  | coreDisableClear (who : Req) (core : Fin 96)
  | portDisable (who : Req) (port : Fin 8)
  | quiesceEnd (u : QUnit)
  | quiesceTimeout (u : QUnit)
  | claim (who : Req) (ident : BitVec 32)
  | release (who : Req)
  | forcedRelease (who : Req)
  | commandStart (q : BitVec 16) (read : StartMet)
  | matrix (q : BitVec 16) (met : List (BitVec 42 × Ecc))
  | decant (q : BitVec 16) (met : List (BitVec 42 × Ecc))
  | nop (q : BitVec 16)
  | stream (q : BitVec 16)
  | commandComplete (q : UnitsAt)
  | cqRecordWrite (q : UnitsAt)
  | groupWrite (who : Req) (g : Fin 16) (hi : Bool) (v : Word)
  | indexTake (core : CoreAt)
  | multicastFetch (q : BitVec 16) (operandB : Bool)
  | slotAllocation (core : Fin 96) (e : Fin 4)
  | segmentIssue (core : Fin 96) (e : Fin 4) (err : FeederErr)
  | segmentComplete (core : Fin 96) (e : Fin 4) (acc : Ecc)
  | int32Repeat (core : Fin 96) (e : Fin 4) (tile : RepeatAt)
  | decantSweep (core : Fin 96) (e : Fin 4) (src : DecantSrc) (acc : Ecc)
  | decantVerdict (core : Fin 96) (e : VerdictAt)
  | descriptorBatchRead (core : Fin 96) (ctx : Fin 3) (read : ReadErr)
  | strided (core : Fin 96) (ctx : Fin 3)
  | convert (core : Fin 96) (ctx : CtxAt)
  | gather (core : Fin 96) (ctx : Fin 3)
  | scatter (core : Fin 96) (ctx : Fin 3)
  | transferIssue (core : Fin 96) (ctx : Fin 4) (met : IssueMet)
  | transferLanded (core : Fin 96) (x : Nat) (err : LandErr)
  | streamEnd (core : Fin 96) (ctx : EndAt)
  | handlePost (core : Fin 96) (ctx : CtxAt)
  | add256 (unit : Fin 64) (read : Ecc)
  | add32s (unit : Fin 64) (read : Ecc)
  | max32 (unit : Fin 64) (read : Ecc)
  | min32 (unit : Fin 64) (read : Ecc)
  | maxf (unit : Fin 64) (read : Ecc)
  | minf (unit : Fin 64) (read : Ecc)
  | topk (unit : Fin 64) (read : Ecc)
  | addf (unit : Fin 64) (read : Ecc)
  | map (core : Fin 96)
  | fma (core : Fin 96)
  | rsum (core : Fin 96)
  | rdot (core : Fin 96)
  | lnorm (core : Fin 96)
  | rmsnorm (core : Fin 96)
  | softmax (core : Fin 96)
  | xent (core : Fin 96)
  | sumsq (core : Fin 96)
  | accred (core : CoreAt)
  | adamw (core : Fin 96)
  | topkm (core : Fin 96)
  | amaxSave (core : CoreAt)
  | amaxPush (core : RecordsAt)
  | scaleSave (core : CoreAt)
  | scaleLoad (core : CoreAt)
  | devSave (core : RecordsAt)
  | allreduceX (q : UnitsAt)
  | allreduceR (q : UnitsAt)
  | reduceScatter (q : UnitsAt)
  | allgather (q : UnitsAt)
  | broadcast (q : UnitsAt)
  | barrier (q : UnitsAt)
  | allreduceMax (q : UnitsAt)
  | permute (q : UnitsAt)
  | whisk (q : UnitsAt)
  | alltoall (q : UnitsAt)
  | pieceAdd (hub : Fin 8) (src : BitVec 16) (tag : PieceAt)
  | collectiveStall (q : BitVec 16)
  | flitGroup (link : Fin 40) (g : FlitGroup)
  | hello (link : Fin 40) (id : BitVec 16) (valid : Bool) (nlink : BitVec 6)
  | drain (link : Fin 40) (epoch : Bool) (round : BitVec 6)
  | laneDegrade (link : Fin 40) (cause : LaneCause) (good : BitVec 4)
  | linkTrainRetry (link : Fin 40)
  | linkDown (link : Fin 40)
  | retune (who : Req) (link : Fin 40) (v : Word)
  | retuneDone (link : Fin 40) (ok : Bool)
  | linkEnable (who : Req) (link : Fin 40) (v : Word)
  | route (p : Pkt) (fromLink : Option (Fin 40)) (err : PktErr)
  | escape (n : Nat)
  | write (p : PktAt)
  | combine (p : EntryAt)
  | readReq (p : ReadAt)
  | readResp (p : EntryAt)
  | signal (p : ReadAt)
  | doorbellPacket (p : EntryAt)
  | ack (p : AckAt)
  | nak (p : NakAt)
  | cnp (p : EntryAt)
  | ackDelayUs (c : BitVec 12)
  | gapUs (c : BitVec 12)
  | rtoUs (c : RtoAt)
  | incUs (c : BitVec 12)
  | mgmtRead (p : Pkt)
  | mgmtWrite (p : Pkt)
  | mgmtResponse (p : Pkt)
  | heartbeat (p : Pkt)
  | mgmtSr (p : Pkt)
  | heartbeatSend
  | spireTakeover (epochs : List EpochAt) (overwrite : Bool)
  | seal (who : Req) (v : Word)
  | switch (who : Req) (v : Word)
  | clear (who : Req) (v : Word)
  | routeTableWrite (who : Req) (member : Bool) (bank : Bool) (n : BitVec 8) (v : Word)
  | connectionOpen (who : Req) (c : BitVec 12) (v : Word)
  | connectionClose (who : Req) (c : BitVec 12) (v : Word)
  | cmapUpdate
  | init (port : Fin 8) (m : InitMsg)
  | finish (sess : BitVec 12) (msg : FinishMsg) (sigOk : Bool)
  | handshakeTimeout (sess : BitVec 12)
  | certReq (port : Fin 8) (offset : CertAsk) (len : BitVec 16) (srcMac : BitVec 48)
  | rekey (sess : BitVec 12) (ctr : CtlMsg) (tagOk : Bool)
  | oldPhaseExpiry (sess : BitVec 12)
  | close (sess : BitVec 12) (ctr : CtlMsg) (tagOk : Bool)
  | sessionClose (who : Req) (sess : BitVec 12) (v : Word)
  | sendOnly (port : Fin 8) (p : RoceLand)
  | rdmaWrite (port : Fin 8) (p : RoceLand)
  | rdmaRead (port : Fin 8) (p : RoceRead)
  | acknowledge (port : Fin 8) (p : Roce)
  | ackTimeout (sess : BitVec 12)
  | roceCnp (port : Fin 8) (p : Roce)
  | arpRequest (port : Fin 8) (h : FrameHdr) (target : BitVec 32)
  | neighbourSolicitation (port : Fin 8) (h : FrameHdr) (target : BitVec 128)
  | echoRequest (port : Fin 8) (h : FrameHdr) (v6 : Bool) (target : BitVec 128)
  | pfcPause (port : Fin 8) (h : FrameHdr) (prios : BitVec 8)
  | portLinkDown (port : Fin 8)
  | portTraining (port : Fin 8) (peerAdv : BitVec 4) (trains : BitVec 4)
  | portLinkDisable (who : Req) (port : Fin 8) (v : Word)
  | patrolScrub (c : MemCtl) (unit : BitVec 42) (found : Ecc) (loc : DramLoc)
  | rowRepair (who : Req) (hub : Fin 8) (v : Word)
  | laneRepair (who : Req) (hub : Fin 8) (v : Word)
  | repairHoldEnd (hub : Fin 8) (spare : HoldEnd)
  | localGib (who : Req) (v : Word)
  | bridgeFailure (b : Fin 12)
  | sieveCompare (core : Fin 96) (e : SieveAt) (diff : Option SieveDiff)
  | sieveArbitration (core : Fin 96) (e : SieveAt) (v : SieveVerdict)
  | katPass (first : Option KatFail) (second : Option KatFail)
  | katHeldClear (who : Req) (hi : Bool) (v : Word)
  | laggardWindow (ms : List LagMeasure)
  | fire (who : Req) (v : Word)
  | lanternToken (u : UnitId)
  | retirement (core : Fin 96) (spareTests : List Bool) (badUnits : List (BitVec 18))
  | startUp (env : StartEnv)
  | store (who : Req) (v : Word)
  | storeSector (ok : Bool)
  | holdupSample (code : BitVec 12)
  | holdupRecheck
  | stage (who : Req) (v : Word) (chk : ImageCheck)
  | activate (who : Req) (v : Word) (chk : ImageCheck)
  | commitSvn (who : Req) (v : Word)
  | revoke (who : Req) (v : Word)
  | hostkeyEnable (who : Req) (n : Fin 16) (v : Word)
  | powerPolicy (watts : BitVec 13)
  | thermalPolicy (die : Fin 4)
  | voltagePolicy (core : Fin 96) (up : Bool)
  | linksPolicy (t : LinkTarget)
  | retirePolicy (core : Fin 96) (why : RetireWhy)
  | repairPolicy (c : MemCtl) (why : RepairWhy) (loc : DramLoc)
  | sensorSample (samples : List (Sensor × BitVec 16)) (rails : List (Fin 14 × BitVec 16))
  | thermalTrip (sn : Sensor)
  | kick (who : Req) (v : Word)
  | watchdogExpiry (chk : ImageCheck)
  | entdaa (addr : BitVec 7)
  | setdasa (static : BitVec 7) (dynamic : BitVec 7)
  | setEndpointId (eid : Byte)
  | getEndpointId
  | getMctpVersionSupport
  | getMessageTypeSupport
  | getTid
  | getPldmVersion
  | getPldmTypes
  | getPldmCommands (type : Byte)
  | getSensorReading (sn : PldmSensor)
  | getPdr (handle : BitVec 32)
  | requestUpdate
  | passComponentTable (cls : BitVec 2)
  | updateComponent (cls : BitVec 2) (size : Nat)
  | requestFirmwareData (offset : Nat) (data : List Byte)
  | transferComplete
  | verifyComplete (chk : ImageCheck)
  | applyComplete
  | activateFirmware
  | cancelUpdate
  | getVersion
  | getCapabilities
  | negotiateAlgorithms
  | getDigests
  | getCertificate (slot : Byte) (offset : BitVec 16) (len : BitVec 16)
  | challenge (slot : Byte)
  | getMeasurements (index : MeasReq)
  | unsupportedRequest (code : Byte)
  | vendorRegisterRead (addr : Word)
  | vendorRegisterWrite (addr : Word) (v : Word)
  | powerOnReset (src : PorSource)
  | sysResetN
  | sysResetRelease
  | system (who : Req) (v : Word)
  | coreReset (who : Req) (v : Word)
  | blockReset (who : Req) (v : Word)
  | blockResetTimeout
  | idleEntry
  | idleExit
  | shelf (who : Req) (v : Word)
  | shelfExit (w : ShelfWake)
  | domeEntry (who : Req) (v : Word)
  | wakeN
  | i3cWake
  | timerWake
  | domeExit (env : WakeEnv)
  | padRelease (who : Req) (v : Word)
  | refclkLoss
  | holdoverExpiry
  | refclkReturn
  | jtagInstruction (i : Jtag)
  | readClear (who : Req) (addr : WordAt)
  | registerWrite (who : Req) (addr : Word) (width : Nat) (v : Word)
  | linkTrained (link : Fin 40) (ok : Bool) (lanes : BitVec 4)
  | shelfQuiesceTimeout
  | frameDropped (port : Fin 8) (h : FrameHdr) (k : FrameKind)
  | pauseExpiry (port : Fin 8)
  | retuneHandshake (link : Fin 40)
  | portDisableClear (who : Req) (port : Fin 8)
  | bridgeRestored (b : Fin 12)
  | trstN
  deriving DecidableEq, Repr

end Sys2Proof
end

