-- ==== Sys2Proof/Config.lean ====
section
/-! DEFINITION. What an implementation fixes and the free values: constants with no body, so that no proof can see what they are. -/

namespace Sys2Proof.Config

/-- A free value: the n-th value the device produces where the spec leaves one open. `State.freeCtr` counts how many were drawn. -/
opaque freeValue : Nat → Nat

/-- The record format of TOPKM's inputs and output as a function of the vector operation descriptor's words: the spec names no
format for them (log entry 12). -/
opaque topkmFormat : List Word → Nat

/-- Which neighbour an elementwise function is rounded to when the interval arithmetic of this model cannot tell within its fuel:
applied to the function's number, the argument's numerator and denominator. -/
opaque tieBreak : Nat → Int → Nat → Bool

/-- Which logit a label names that is no integer, reduced modulo the row's length: the spec speaks of integer labels only (R232, log entry 70). -/
opaque fractionLabel : Int → Nat → Nat

/-- Where a local address lies inside its DRAM: bank in bits [3:0], row in [21:4], column in [37:22], rank in [38]. The spec gives the
placement of an address down to its pseudo-channel or channel only (R259, R263). -/
opaque dramPlace : Nat → Nat

/-- How many entries of an ALLTOALL lie in a member's SCRATCH before the list that another sends it (R387, log entry 13): group size, source rank,
destination rank. -/
opaque a2aList : Nat → Nat → Nat → Nat

/-- How many slots lie in the source's SCRATCH before those that a destination returns (R387, log entry 13): group size, source rank, destination
rank. -/
opaque a2aSlots : Nat → Nat → Nat → Nat

/-- The ECC syndrome of an uncorrectable word of an SRAM (R465): unit, structure, address or index, and time. -/
opaque sramSyndrome : Nat → Nat → Nat → Nat → Nat

/-- The bytes of the known-answer suite of a core microcode image (R474). -/
opaque suiteByte : List Byte → Nat → Byte

/-- The data of a link-control flit with some fields, and how many of them are valid: the spec gives what such a flit carries and not its layout
(R317, R321, R337). -/
opaque lctlByte : List Nat → Nat → Byte
opaque lctlLen : List Nat → Nat

/-! ### Cryptography (R404 to R406, R435, R440): fixed functions of standards outside the spec, left open here -/

/-- SHA-384 of a message, and HMAC with SHA-384 of a message under a key. -/
opaque sha384 : List Byte → BitVec 384
opaque hmac384 : List Byte → List Byte → BitVec 384

/-- On brainpoolP384r1: the uncompressed point of a private key, and the x-coordinate of the product of a private key and a point (R406). -/
opaque ecPoint : Nat → BitVec 776
opaque ecdhX : Nat → List Byte → BitVec 384

/-- The ECDSA signature of a digest by a private key, with the number drawn for it (R405, R440). -/
opaque ecdsaSign : Nat → Nat → BitVec 384 → BitVec 768

/-- The device identity key of a fused seed and the SHA-384 hash of the management firmware's KEY (R440). -/
opaque identityKey : Nat → BitVec 384 → Nat

/-- The GCM tag of an empty message with CTR 0 and KPHASE 0 under a key and a direction IV (R406). -/
opaque confTag : List Byte → List Byte → BitVec 128

/-- AES-256-GCM (R408): byte i of the ciphertext, and the tag, of a key, a nonce, the associated data and a message. -/
opaque gcmByte : List Byte → List Byte → List Byte → List Byte → Nat → Byte
opaque gcmTag : List Byte → List Byte → List Byte → List Byte → BitVec 128

/-- The R_Key with which the device writes to a host's mirror ring, by session and PSN (R303, R412): INIT carries none. -/
opaque hostRkey : Nat → Nat → Nat

/-- The REASON of a CLOSE, by session and CTR (R404), and the payload byte of an in-band interrupt, by the answers sent (R443): the spec gives them no
values. -/
opaque closeReason : Nat → Nat → Nat
opaque ibiByte : Nat → Byte

/-- The ICRC of a RoCEv2 packet, and the UDP checksum of a datagram over IPv6 (R403, R408): the addresses and the bytes. -/
opaque icrc : Nat → Nat → List Byte → BitVec 32
opaque udpSum : Nat → Nat → List Byte → BitVec 16

/-- The SHA-384 digest of the boot ROM, and that of a fuse state as numbers, whose form in bytes the spec does not give (R442). -/
opaque romDigest : BitVec 384
opaque fuseDigest : List Nat → BitVec 384

/-- What a responder's signed message covers besides its own fields (R442): the transcript of the exchange, by the number of answers sent. -/
opaque spdmTranscript : Nat → List Byte

/-- The bytes of a message the surroundings sign or build (a quote, a certificate, a platform descriptor record): applied to the
message's kind and the byte's place. -/
opaque blobByte : Nat → Nat → Byte

end Sys2Proof.Config
end

