-- ==== Sys2Proof/Machine/Bits.lean ====
section
/-! DEFINITION. Bit fields, sign extension, little-endian byte order (R9), CRC-32C, and the small list functions the families use. -/

namespace Sys2Proof.Machine

/-- Bits [lo + w - 1 : lo] of a number. -/
def bitsOf (x lo w : Nat) : Nat := x / 2 ^ lo % 2 ^ w

/-- Bit i of a number. -/
def bitOf (x i : Nat) : Bool := x / 2 ^ i % 2 == 1

/-- A field of a 64-bit word. -/
def Word.fld (x : Word) (lo w : Nat) : Nat := bitsOf x.toNat lo w

/-- Replace bits [lo + w - 1 : lo] of a number. -/
def setBits (x lo w v : Nat) : Nat := x - bitsOf x lo w * 2 ^ lo + v % 2 ^ w * 2 ^ lo

/-- The two's-complement value of the low w bits of a number. -/
def sext (w x : Nat) : Int :=
  let y := x % 2 ^ w
  if y < 2 ^ (w - 1) then (y : Int) else (y : Int) - 2 ^ w

/-- The low w bits of an integer in two's complement. -/
def tcBits (w : Nat) (x : Int) : Nat := (x % (2 ^ w : Int)).toNat

/-- The value of a little-endian byte list (R9). -/
def leNat : List Byte → Nat
  | [] => 0
  | b :: bs => b.toNat + 256 * leNat bs

/-- The n bytes of a number, little-endian (R9). -/
def leBytes : Nat → Nat → List Byte
  | 0, _ => []
  | n + 1, x => BitVec.ofNat 8 x :: leBytes n (x / 256)

/-- 1 for true, 0 for false. -/
def b2n (b : Bool) : Nat := if b then 1 else 0

/-- The quotient of a by b rounded up. -/
def ceilDiv (a b : Nat) : Nat := (a + b - 1) / b

/-- Clamp a number to a range. -/
def clampNat (lo hi v : Nat) : Nat := max lo (min hi v)

/-- Clamp an integer to a range. -/
def clampInt (lo hi x : Int) : Int := if x < lo then lo else if hi < x then hi else x

/-- Saturating addition at a counter's all ones (R535). -/
def satAdd (w a b : Nat) : Nat := min (2 ^ w - 1) (a + b)

/-- Replace the i-th element of a list. -/
def setNth {α : Type} : List α → Nat → α → List α
  | [], _, _ => []
  | _ :: xs, 0, y => y :: xs
  | x :: xs, n + 1, y => x :: setNth xs n y

/-- Change the i-th element of a list. -/
def modNth {α : Type} : List α → Nat → (α → α) → List α
  | [], _, _ => []
  | x :: xs, 0, f => f x :: xs
  | x :: xs, n + 1, f => x :: modNth xs n f

/-- Cut a list into pieces of n elements; the fuel bounds the number of pieces. -/
def chunksAux {α : Type} (n : Nat) : Nat → List α → List (List α)
  | 0, _ => []
  | _, [] => []
  | fuel + 1, x :: xs => (x :: xs).take n :: chunksAux n fuel ((x :: xs).drop n)

/-- Cut a list into pieces of n elements. -/
def chunks {α : Type} (n : Nat) (xs : List α) : List (List α) := chunksAux n xs.length xs

/-- One step of the CRC-32C shift register (reflected polynomial 0x82F63B78). -/
def crcStep (c : Nat) : Nat := if c % 2 = 1 then Nat.xor (c / 2) 0x82F63B78 else c / 2

/-- One byte of CRC-32C. -/
def crcByte (c : Nat) (b : Byte) : Nat :=
  let x := Nat.xor c b.toNat
  crcStep (crcStep (crcStep (crcStep (crcStep (crcStep (crcStep (crcStep x)))))))

/-- CRC-32C of a byte list: initial value and final inversion all ones. -/
def crc32c (bs : List Byte) : Nat := Nat.xor (bs.foldl crcByte 0xFFFFFFFF) 0xFFFFFFFF

/-- The number of ones in the low w bits. -/
def popCount : Nat → Nat → Nat
  | 0, _ => 0
  | w + 1, x => x % 2 + popCount w (x / 2)

/-- The numbers below w whose bit is set. -/
def bitList (w x : Nat) : List Nat := (List.range w).filter (bitOf x)

end Sys2Proof.Machine
end

