-- ==== Sys2Proof/Machine/Formats.lean ====
section
/-! DEFINITION. The number formats (R35 to R65): exact values as rationals, rounding, the encoders and decoders of the integer,
block and floating-point formats, comparison, the slices of a TB16 element, and the counting of R64. -/

namespace Sys2Proof.Machine

/-- 2 to an integer power, as an exact rational. -/
def pow2 (k : Int) : Rat := if 0 ≤ k then ((2 ^ k.toNat : Nat) : Rat) else mkRat 1 (2 ^ (-k).toNat)

/-- floor(log2 a) of a positive rational (R46). -/
def ilog2 (a : Rat) : Int :=
  let k : Int := (Nat.log2 a.num.natAbs : Int) - (Nat.log2 a.den : Int)
  if pow2 k ≤ a then (if pow2 (k + 1) ≤ a then k + 1 else k) else k - 1

/-- The magnitude of a rational. -/
def ratAbs (x : Rat) : Rat := if x < 0 then -x else x

/-- The value of an element: an exact real number, or poison with the cause code it carries (R51). -/
inductive Val where
  | num (r : Rat)
  | bad (cause : Nat)
  deriving DecidableEq, Repr

/-- Whether a value is poisoned. -/
def Val.isBad : Val → Bool
  | .num _ => false
  | .bad _ => true

/-- The exact value, 0 for poison. -/
def Val.rat : Val → Rat
  | .num r => r
  | .bad _ => 0

/-- The element formats of R35. -/
inductive Fmt where
  | int4 | int8 | tb4 | tb8 | tb16 | bf16 | fp32 | int32 | acc256
  deriving DecidableEq, Repr

/-- The format of a FORMAT code (R35); codes 0x9 to 0xF are reserved. -/
def Fmt.ofCode : Nat → Option Fmt
  | 0 => some .int4 | 1 => some .int8 | 2 => some .tb4 | 3 => some .tb8 | 4 => some .tb16
  | 5 => some .bf16 | 6 => some .fp32 | 7 => some .int32 | 8 => some .acc256
  | _ => none

/-- The FORMAT code of a format (R35). -/
def Fmt.code : Fmt → Nat
  | .int4 => 0 | .int8 => 1 | .tb4 => 2 | .tb8 => 3 | .tb16 => 4 | .bf16 => 5 | .fp32 => 6 | .int32 => 7 | .acc256 => 8

/-- Bits of one element (R35). -/
def Fmt.bits : Fmt → Nat
  | .int4 => 4 | .int8 => 8 | .tb4 => 4 | .tb8 => 8 | .tb16 => 16 | .bf16 => 16 | .fp32 => 32 | .int32 => 32 | .acc256 => 256

/-- The Tridar block formats (R42). -/
def Fmt.isBlock : Fmt → Bool
  | .tb4 | .tb8 | .tb16 => true
  | _ => false

/-- The formats whose elements are q × 2^S (R39). -/
def Fmt.isInt : Fmt → Bool
  | .int4 | .int8 | .int32 => true
  | _ => false

/-- The floating-point formats (R52). -/
def Fmt.isFp : Fmt → Bool
  | .bf16 | .fp32 => true
  | _ => false

/-- Bytes of one group of 256 elements (R35, R44). -/
def Fmt.groupBytes (f : Fmt) : Nat := (if f.isBlock then 8 else 0) + 32 * f.bits

/-- Bytes a row of L elements occupies (R39, R45). -/
def Fmt.rowBytes (f : Fmt) (l : Nat) : Nat :=
  if f.isBlock then ceilDiv l 256 * f.groupBytes else ceilDiv (l * f.bits) 8

/-- Bytes of one row of an output tile of L columns, block bytes included (R120). -/
def Fmt.tileRow (f : Fmt) (l : Nat) : Nat := ceilDiv (l * f.bits) 8 + (if f.isBlock then ceilDiv l 32 else 0)

/-- The rounding modes of R37 and R83. -/
inductive Rnd where
  | near | zero | stoch
  deriving DecidableEq, Repr

/-- The rounding mode of a 2-bit code; 0b11 is reserved. -/
def Rnd.ofCode : Nat → Option Rnd
  | 0 => some .near | 1 => some .zero | 2 => some .stoch
  | _ => none

/-- Round x to an integer (R86): `r32` is the element's 32-bit value R for stochastic rounding, `sticky` a nonzero amount below
the grid. -/
def roundSt (m : Rnd) (r32 : Nat) (sticky : Bool) (x : Rat) : Int :=
  let y := x.floor
  let f := x - (y : Rat)
  match m with
  | .near =>
    if mkRat 1 2 < f then y + 1
    else if f < mkRat 1 2 then y
    else if sticky then y + 1
    else if y % 2 = 0 then y else y + 1
  | .zero => if 0 ≤ x then y else if 0 < f ∨ sticky = true then y + 1 else y
  | .stoch => if (r32 : Int) < (f * (2 ^ 32 : Nat)).floor then y + 1 else y

/-- Round x to an integer without a sticky bit. -/
def roundQ (m : Rnd) (x : Rat) : Int := roundSt m 0 false x

/-- The counters and sticky flags that conversions raise (R64, R65, R101, R253). -/
structure Ev where
  poisoned : Nat := 0
  flushed : Nat := 0
  saturated : Nat := 0
  repeated : Nat := 0
  fmt : Nat := 0
  acc : Nat := 0
  vec : Nat := 0
  deriving DecidableEq, Repr

/-- Both sets of events. -/
def Ev.add (a b : Ev) : Ev :=
  { poisoned := a.poisoned + b.poisoned, flushed := a.flushed + b.flushed, saturated := a.saturated + b.saturated,
    repeated := a.repeated + b.repeated, fmt := Nat.lor a.fmt b.fmt, acc := Nat.lor a.acc b.acc, vec := Nat.lor a.vec b.vec }

/-- All events of a list. -/
def Ev.sum (es : List Ev) : Ev := es.foldl Ev.add {}

/-- What happened to one element, in the order in which R64 counts it. -/
inductive Mk where
  | none | poison | subnIn | blkFlush | subnOut | sat
  deriving DecidableEq, Repr

/-- The counter and flag of one element's mark (R64). -/
def Mk.ev : Mk → Ev
  | .none => {}
  | .poison => { poisoned := 1, fmt := 0x40 }
  | .subnIn => { flushed := 1 }
  | .blkFlush => { flushed := 1, fmt := 0x4 }
  | .subnOut => { flushed := 1, fmt := 0x2 }
  | .sat => { saturated := 1, fmt := 0x8 }

/-- An element as a unit reads it: its value, whether a subnormal was flushed, and the CORE_FMT_STICKY bits the read sets. -/
structure Rd where
  v : Val
  sub : Bool := false
  fl : Nat := 0
  deriving DecidableEq, Repr

/-- The exact value of the magnitude bits of a floating-point encoding with `fb` fraction bits (R52). -/
def fpMag (fb : Nat) (ex fr : Nat) : Rat :=
  if ex = 0 then (fr : Rat) * pow2 (-126 - fb)
  else ((2 ^ fb + fr : Nat) : Rat) * pow2 ((ex : Int) - 127 - fb)

/-- The input rules of R53 on an encoding with `fb` fraction bits. -/
def readFp (fb : Nat) (subn : Bool) (x : Nat) : Rd :=
  let fr := bitsOf x 0 fb
  let ex := bitsOf x fb 8
  let sg := bitOf x (fb + 8)
  if ex = 255 then
    if fr ≠ 0 then { v := .bad 0x08, fl := 0x10 }
    else { v := .bad (if sg then 0x0A else 0x09), fl := 0x20 }
  else if ex = 0 ∧ fr ≠ 0 ∧ subn = true then { v := .num 0, sub := true, fl := 0x1 }
  else
    let m := fpMag fb ex fr
    { v := .num (if sg then -m else m) }

/-- Fraction bits of a floating-point format. -/
def Fmt.fracBits : Fmt → Nat
  | .bf16 => 7
  | _ => 23

/-- Decode an element that stands alone (R39, R43, R53): S is the tensor scale plus the retry raise of its cell. -/
def readElem (f : Fmt) (s : Int) (subn : Bool) (x : Nat) : Rd :=
  match f with
  | .bf16 => readFp 7 subn x
  | .fp32 => readFp 23 subn x
  | f => { v := .num ((sext f.bits x : Rat) * pow2 s) }

/-- Decode an element of a block with the given block byte (R42, R43). -/
def readBlk (f : Fmt) (s : Int) (blk x : Nat) : Rd :=
  let fl := if bitOf blk 7 then 0x100 else 0
  if bitOf blk 6 then { v := .bad (bitsOf blk 0 6), fl := fl }
  else if bitsOf blk 0 6 = 32 then { v := .num 0, fl := fl }
  else { v := .num ((sext f.bits x : Rat) * pow2 (s + sext 6 blk)), fl := fl }

/-- The causes among values, the smallest first one that applies (R50). -/
def worstCause (vs : List Val) : Option Nat :=
  vs.foldl (fun a v => match a, v with
    | a, .num _ => a
    | none, .bad c => some c
    | some d, .bad c => some (min c d)) none

/-- An encoded block: block byte, elements, what happened to each element, and whether R46 wanted an offset above 31. -/
structure EncBlk where
  blk : Nat
  ms : List Int
  marks : List Mk
  overflow : Bool := false
  /-- The offset of R46 after any increase and before any flush, for the output step of R86. -/
  ofs : Option Int := none
  deriving DecidableEq, Repr

/-- The offset of R46 before any increase, for a block with some nonzero value. -/
def blockOfs (n : Nat) (s : Int) (a : Rat) : Int := ilog2 a - ((n : Int) - 2) - s

/-- The elements of a block at an offset: `rnd i x` rounds element i. -/
def blockMs (s e : Int) (rnd : Nat → Rat → Int) (xs : List Rat) : List Int :=
  (List.range xs.length).zip xs |>.map (fun p => rnd p.1 (p.2 / pow2 (s + e)))

/-- Whether an element exceeds the largest positive value, so that the offset is raised (R46). -/
def blockTooBig (n : Nat) (ms : List Int) : Bool := ms.any (fun m => decide ((2 ^ (n - 1) : Int) - 1 < m))

/-- The clamped form of R48 at offset 31. -/
def blockClamp (n : Nat) (s : Int) (rnd : Nat → Rat → Int) (xs : List Rat) : EncBlk :=
  let ms := blockMs s 31 rnd xs
  let cl := ms.map (clampInt (-(2 ^ (n - 1) : Int)) ((2 ^ (n - 1) : Int) - 1))
  { blk := 31, ms := cl, marks := (ms.zip cl).map (fun p => if p.1 = p.2 then .none else .sat), overflow := true, ofs := some 31 }

/-- encode_block of R46 to R49 for n-bit elements. -/
def encodeBlock (n : Nat) (s : Int) (rnd : Nat → Rat → Int) (vs : List Val) : EncBlk :=
  match worstCause vs with
  | some c => { blk := 0x40 + c % 64, ms := vs.map (fun _ => 0), marks := vs.map (fun _ => .poison) }
  | none =>
    let xs := vs.map Val.rat
    let a := xs.foldl (fun m x => max m (ratAbs x)) 0
    if a = 0 then { blk := 0x20, ms := xs.map (fun _ => 0), marks := xs.map (fun _ => .none) }
    else
      let e := blockOfs n s a
      if e < -31 then
        let e' := if blockTooBig n (blockMs s e rnd xs) then e + 1 else e
        { blk := 0x20, ms := xs.map (fun _ => 0), marks := xs.map (fun x => if x = 0 then .none else .blkFlush), ofs := some e' }
      else if 31 < e then blockClamp n s rnd xs
      else
        let ms := blockMs s e rnd xs
        if blockTooBig n ms then
          if 31 < e + 1 then blockClamp n s rnd xs
          else { blk := tcBits 6 (e + 1), ms := blockMs s (e + 1) rnd xs, marks := xs.map (fun _ => .none), ofs := some (e + 1) }
        else { blk := tcBits 6 e, ms := ms, marks := xs.map (fun _ => .none), ofs := some e }

/-- The encoding of r × q, nonzero and within the range of p significant bits, as sign, exponent and fraction (R52). -/
def fpBits (p : Nat) (y : Rat) : Nat :=
  let sg := if y < 0 then 2 ^ (p + 7) else 0
  let a := ratAbs y
  if a < pow2 (-126) then sg + (a / pow2 (-125 - (p : Int))).floor.toNat
  else
    let k := ilog2 a
    sg + (k + 127).toNat * 2 ^ (p - 1) + ((a / pow2 (k - (p : Int) + 1)).floor.toNat - 2 ^ (p - 1))

/-- Writing a finite value to BF16 (p = 8) or FP32 (p = 24) by R54: the bits and what happened. `rnd` rounds to an integer. DESIGN CHOICE
(log entry 49): with SUBN = 1 an exactly representable subnormal is flushed too; R54's rows for an exact value and for SUBN = 1 both fit it. -/
def encodeFp (p : Nat) (subn : Bool) (rnd : Rat → Int) (y : Rat) : Nat × Mk :=
  if y = 0 then (0, .none)
  else
    let q := pow2 (ilog2 (ratAbs y) - (p : Int) + 1)
    let z := (rnd (y / q) : Rat) * q
    let big := ((2 ^ p - 1 : Nat) : Rat) * pow2 (128 - (p : Int))
    if big < ratAbs z then (fpBits p (if y < 0 then -big else big), .sat)
    else if ratAbs z < pow2 (-126) then
      if subn then (0, .subnOut)
      else
        let qs := pow2 (-125 - (p : Int))
        let zs := (rnd (y / qs) : Rat) * qs
        if zs = 0 then (0, .subnOut) else (fpBits p zs, .none)
    else (fpBits p z, .none)

/-- The quiet NaN of R57. -/
def poisonBits (f : Fmt) (cause : Nat) : Nat :=
  match f with
  | .bf16 => 0x7FC0 + cause % 64
  | .fp32 => 0x7FC00000 + cause % 64
  | _ => 0

/-- Writing a value to a format whose elements stand alone (R40, R41, R54, R57): the bits and what happened. -/
def encodeElem (f : Fmt) (s : Int) (subn : Bool) (rnd : Rat → Int) (v : Val) : Nat × Mk :=
  match v with
  | .bad c => (poisonBits f c, .poison)
  | .num y =>
    match f with
    | .bf16 => encodeFp 8 subn rnd y
    | .fp32 => encodeFp 24 subn rnd y
    | f =>
      let n := f.bits
      let q := rnd (y / pow2 s)
      let c := clampInt (-(2 ^ (n - 1) : Int)) ((2 ^ (n - 1) : Int) - 1) q
      (tcBits n c, if c = q then .none else .sat)

/-- The hi slice of a TB16 element (R61). -/
def sliceHi (m : Int) : Int := Int.fdiv (m + 128) 256

/-- The lo slice of a TB16 element (R61). -/
def sliceLo (m : Int) : Int := m - 256 * sliceHi m

/-- The better of two candidates of a maximum with its index (R58, R59): the larger value, then the lower index. -/
def maxWins (a b : Rat × Nat) : Bool := decide (b.1 < a.1) || (decide (a.1 = b.1) && decide (a.2 ≤ b.2))

/-- The better of two candidates of a minimum with its index (R59). -/
def minWins (a b : Rat × Nat) : Bool := decide (a.1 < b.1) || (decide (a.1 = b.1) && decide (a.2 ≤ b.2))

/-- Insert a candidate into a list in top-k order: value descending, then index ascending (R59). -/
def topkIns (c : Rat × Nat) : List (Rat × Nat) → List (Rat × Nat)
  | [] => [c]
  | d :: ds => if maxWins c d then c :: d :: ds else d :: topkIns c ds

/-- The first k of the candidates in top-k order (R59). -/
def topkOf (k : Nat) (cs : List (Rat × Nat)) : List (Rat × Nat) := (cs.foldl (fun l c => topkIns c l) []).take k

end Sys2Proof.Machine
end

