-- ==== Sys2Proof/Machine/SMap.lean ====
section
/-! DEFINITION. Sparse maps: lists of (key, value) with keys strictly rising and no entry equal to what an unlisted key reads as,
so that equal maps are equal lists. Memory, the register file and every table of state are held so. -/

namespace Sys2Proof.Machine

/-- A sparse map from natural numbers. -/
abbrev SMap (α : Type) := List (Nat × α)

/-- The entry of a key. -/
def smFind {α : Type} : SMap α → Nat → Option α
  | [], _ => none
  | (a, v) :: m, k => if a = k then some v else smFind m k

/-- The value at a key; `d` is what an unlisted key reads as. -/
def smGet {α : Type} (d : Nat → α) (m : SMap α) (k : Nat) : α := (smFind m k).getD (d k)

/-- Insert in order before the first larger key. -/
def smIns {α : Type} : SMap α → Nat → α → SMap α
  | [], k, v => [(k, v)]
  | (a, w) :: m, k, v => if k < a then (k, v) :: (a, w) :: m else (a, w) :: smIns m k v

/-- Remove a key. -/
def smDel {α : Type} (m : SMap α) (k : Nat) : SMap α := m.filter (fun p => p.1 ≠ k)

/-- Write a value at a key; writing what an unlisted key reads as removes the entry. -/
def smPut {α : Type} [DecidableEq α] (d : Nat → α) (m : SMap α) (k : Nat) (v : α) : SMap α :=
  if v = d k then smDel m k else smIns (smDel m k) k v

/-- Keys rise strictly from a bound on and no entry holds the default. -/
def smWfFrom {α : Type} [DecidableEq α] (d : Nat → α) : Nat → SMap α → Bool
  | _, [] => true
  | b, (a, v) :: m => decide (b ≤ a) && decide (v ≠ d a) && smWfFrom d (a + 1) m

/-- The canonical form. -/
def smWf {α : Type} [DecidableEq α] (d : Nat → α) (m : SMap α) : Bool := smWfFrom d 0 m

/-- Rewrite every listed entry; an entry that becomes the default is removed. -/
def smMap {α : Type} [DecidableEq α] (d : Nat → α) (f : Nat → α → α) (m : SMap α) : SMap α :=
  (m.map (fun p => (p.1, f p.1 p.2))).filter (fun p => p.2 ≠ d p.1)

end Sys2Proof.Machine
end

