-- ==== Sys2Proof/Machine/WorkTypes.lean ====
section
/-! DEFINITION. The plain data of the work in progress: commands in flight, the cores' engines, streams and held indices, and the
combine requests of the memory-side atomic units. -/

namespace Sys2Proof.Machine

/-- A tensor descriptor (R141) as fetched. `rsvd`: some reserved field was not 0. -/
structure TDesc where
  base : Nat := 0
  fmt : Nat := 0
  subn : Bool := false
  crnd : Nat := 0
  tscale : Int := 0
  cols : Nat := 0
  tag : Nat := 0
  padMode : Nat := 0
  rows : Nat := 0
  pad : Nat := 0
  stride : Nat := 0
  row0 : Nat := 0
  col0 : Nat := 0
  lcols : Nat := 0
  map : Nat := 0
  rsvd : Bool := false
  deriving DecidableEq, Repr

/-- A first poison event (R187) as one core recorded it. -/
structure PEvent where
  core : Nat
  cause : Nat
  addr : Nat
  ctx : Nat
  deriving DecidableEq, Repr

/-- The command a queue runs, with what its completion record will carry (R298 to R301). -/
structure QRun where
  /-- A command has been read and has not completed. -/
  busy : Bool := false
  words : List Word := []
  ext : List Word := []
  seq : Nat := 0
  /-- The logical core of a STREAM command. -/
  core : Nat := 0
  /-- Cores that take part in a command of a stage group (R149). -/
  cores : List Nat := []
  /-- The lowest-numbered core of the pool among them as the command started (R149). -/
  solo : Option Nat := none
  /-- Cores that have stopped taking indices (R150). -/
  stopped : List Nat := []
  /-- Words of the LND, VOD or collective descriptor. -/
  desc : List Word := []
  tds : List TDesc := []
  /-- Its setup (the MATRIX, DECANT, STREAM, vector or collective step) has been taken. -/
  ready : Bool := false
  /-- Every part of its work that one step does at once is done. -/
  finished : Bool := false
  /-- Status codes of R301 that apply. -/
  st : List Nat := []
  descIdx : Nat := 0xFFFF
  remote : Bool := false
  conn : Nat := 0
  level : Nat := 0
  kind : Nat := 0
  operand : Nat := 0
  faddr : Nat := 0
  cnt : Ev := {}
  maxr : Nat := 0
  maxs : Nat := 0
  ni : Bool := false
  handlePoisoned : Bool := false
  stepSkipped : Bool := false
  pev : List PEvent := []
  ifaults : Nat := 0
  ifaultN : Option Nat := none
  /-- Units of work left undefined (R300): index and tile. -/
  undef : List (Nat × Nat) := []
  onward : Option Nat := none
  notStarted : Bool := false
  /-- The last index each core took, plus 1 (R150). -/
  taken : SMap Nat := []
  /-- The next round to fetch of multicast operands A and B (R155). -/
  mcA : Nat := 0
  mcB : Nat := 0
  /-- Indices handed out, and indices done. -/
  next : Nat := 0
  done : Nat := 0
  /-- Indices of a VECTOR command (R224). -/
  units : Nat := 0
  /-- The layout epoch it carries (R389). -/
  epoch : Nat := 0
  /-- A completion record that waits for room (R303). -/
  record : Option (List Byte) := none
  deriving DecidableEq, Repr

/-- An index a core holds (R150). -/
structure Held where
  q : Nat
  index : Nat
  /-- The next segment to issue. -/
  seg : Nat := 0
  /-- Tiles whose final verdict is reached and whose output is written. -/
  tiles : List Nat := []
  /-- The fetches (R140) of operands A and B that its first segment needs, by their numbers. -/
  fa : Nat := 0
  fb : Nat := 0
  deriving DecidableEq, Repr

/-- The part of an operand that a tile covers (R140): storage rows from r0, elements of the row from k0. -/
structure TileAt where
  r0 : Nat
  nr : Nat
  k0 : Nat
  kr : Nat
  deriving DecidableEq, Repr

/-- A tile of operand A (0) or B (1) in a buffer of its region (R140, R155, R157). `inst` numbers the operand's fetches on the core; for a
multicast operand it is the round. -/
structure OpTile where
  q : Nat
  op : Nat
  inst : Nat
  buf : Nat
  box : TileAt
  landed : Bool := false
  deriving DecidableEq, Repr

/-- A fetch of a tile of operand A or B that context 0 serves for the command processor (R134, R140, R155). -/
structure Fetch where
  /-- Names its transfers. -/
  id : Nat
  q : Nat
  index : Nat
  op : Nat
  inst : Nat
  buf : Nat
  box : TileAt
  /-- A multicast fetch and its receivers (R154). -/
  mc : Bool := false
  receivers : List Nat := []
  /-- The row to read next, and the bytes of it already issued. -/
  row : Nat := 0
  off : Nat := 0
  /-- The 64-byte units of the source that were damaged, each with its cause (R184). -/
  bad : List (Nat × Nat) := []
  deriving DecidableEq, Repr

/-- Bytes on their way to a global address: `pz` lists the 64-byte units of the target that carry poison, and `fill` the bytes of a poisoned
element, none for 0 (R57, R185). -/
structure Wr where
  addr : Nat
  bytes : List Byte
  pz : List Nat := []
  fill : List Byte := []
  deriving DecidableEq, Repr

/-- A row of a tensor in a slot of a command, and the columns read of it. -/
structure RowRef where
  slot : Nat
  row : Nat
  c0 : Nat
  n : Nat
  deriving DecidableEq, Repr

/-- One transfer of a read that context 0 makes for a unit of its core (R134, R166, R217): where it reads, how much, the offset in the tile store where
its bytes go, the retry-map bytes read with it, and, for the first of a row of a tensor, that row. -/
structure RdPiece where
  src : Nat
  len : Nat
  dst : Nat
  map : Nat × Nat := (0, 0)
  row : Option RowRef := none
  deriving DecidableEq, Repr

/-- What context 0 reads for a unit of its core: the addend of a tile for engine `unit` (R84), or the rows of a vector operation, `unit` 4 (R217). What
has been issued stands in `got` as it was read, by source address. -/
structure RdJob where
  /-- Names its transfers. -/
  id : Nat := 0
  q : Nat
  index : Nat
  tile : Nat
  unit : Nat
  todo : List RdPiece
  got : List Wr := []
  deriving DecidableEq, Repr

/-- A chain in a long slot or INT32 tile (R66, R75, R116). State codes: 1 CHAIN, 2 READY, 3 DECANT. -/
structure Chain where
  st : Nat := 0
  q : Nat := 0
  index : Nat := 0
  tile : Nat := 0
  closed : Bool := false
  started : Bool := false
  ksteps : Nat := 0
  grid : Int := 0
  failed : Bool := false
  sat : Bool := false
  shift : Nat := 0
  rows : List Nat := []
  cols : List Nat := []
  cause : Nat := 0
  /-- Elements of an INT32 tile that were clamped (R81), as i * 128 + j. -/
  clamps : List Nat := []
  deriving DecidableEq, Repr

/-- A segment in the array (R105). -/
structure Seg where
  unit : Nat
  last : Bool
  tseg : Nat
  deriving DecidableEq, Repr

/-- The sweep of a decant (R120): what it staged and what it found. -/
structure Dec where
  /-- The slot or tile read; none for an ACC256 source. -/
  unit : Option Nat
  q : Nat
  index : Nat
  tile : Nat
  raise : Nat := 0
  /-- A sweep has been made and its verdict is due. -/
  swept : Bool := false
  overflow : Bool := false
  failed : Bool := false
  /-- What it staged, each with its address in the tile store (R120). -/
  staged : List (Wr × Nat) := []
  topk : List (Wr × Nat) := []
  retry : List Wr := []
  ev : Ev := {}
  /-- Valid elements not counted as poisoned, for the repeated count (R94). -/
  live : Nat := 0
  /-- The largest magnitude written, for the scaling record (R241). -/
  amax : Rat := 0
  deriving DecidableEq, Repr

/-- A matrix engine (R115): which slots are in INT32 mode, the chains that are not FREE (keys 0 to 3 the long slots, 4 + t INT32
tile t), the segment in the array, and the decant in progress. -/
structure Eng where
  mode32 : List Nat := []
  chains : SMap Chain := []
  seg : Option Seg := none
  dec : Option Dec := none
  /-- Slots that hold a tile marked failed (R127). -/
  failed : List Nat := []
  /-- An allocation that waits (R117), for INT32 tiles or not, and the unit freed first since it began to wait. -/
  want : Option Bool := none
  first : Option Nat := none
  deriving DecidableEq, Repr

/-- The descriptor a context runs, and how far its transfers are issued. -/
structure CurDesc where
  words : List Word
  idx : Nat
  /-- The run, index entry or piece to issue next, and the bytes of it already issued. -/
  run : Nat := 0
  off : Nat := 0
  tds : List TDesc := []
  /-- The index entry at hand as it was read: its value, and whether it was poisoned (R174). -/
  entry : Option (Nat × Bool) := none
  /-- What converted columns still have to write, with the nibbles each transfer keeps (R172). -/
  pend : List (Wr × Nat) := []
  deriving DecidableEq, Repr

/-- Staged output that context 0 will write (R134). -/
structure StagedWr where
  q : Nat
  index : Nat
  tile : Nat
  wr : Wr
  /-- Where its bytes stand in a tile store; 0 for a byte that is in no staging region. -/
  src : Nat := 0
  /-- Whether the combine word of the command applies. -/
  comb : Bool := false
  deriving DecidableEq, Repr

/-- A stream context (R165). -/
structure Ctx where
  q : Option Nat := none
  list : Nat := 0
  count : Nat := 0
  /-- Descriptors read so far, and those in the buffer. -/
  fetched : Nat := 0
  buf : List (List Word) := []
  next : Nat := 0
  /-- The descriptor at which the stream stops, and the status of R177: its batch was read poisoned or could not be read. -/
  bad : Option (Nat × Nat) := none
  cur : Option CurDesc := none
  /-- The stream issues nothing more: its last descriptor has been issued, or it was stopped. -/
  ended : Bool := false
  aborted : Bool := false
  firstDst : Nat := 0
  bytes : Nat := 0
  pois : Bool := false
  ifault : Bool := false
  /-- The latest descriptor accepted, and the latest accepted with HANDLE = 1. -/
  lastDesc : List Word := []
  handleDesc : List Word := []
  /-- The handle that waits to be posted and its queue (R190). -/
  handle : Option (Nat × List Byte) := none
  /-- The stream has posted what it posts; its command may complete. -/
  posted : Bool := false
  /-- Context 0 only: the staged outputs to write. -/
  staged : List StagedWr := []
  deriving DecidableEq, Repr

/-- A transfer in flight (R166). -/
structure Xfer where
  ctx : Nat
  q : Nat
  /-- Descriptor index, or tile-counter index and tile for context 0. -/
  idx : Nat
  tile : Nat := 0
  wr : Wr
  /-- The combine word's low word, 0 for a plain write. -/
  comb : Nat := 0
  /-- Receivers of a multicast (R170). -/
  receivers : List Nat := []
  /-- The connection of a remote side, and whether it is the source. -/
  conn : Option Nat := none
  remoteSrc : Bool := false
  /-- A multicast, which writes at no address of its own (R170). -/
  mc : Bool := false
  /-- The first byte read. -/
  src : Nat := 0
  /-- The fetch or read of context 0 it belongs to. -/
  fetch : Option Nat := none
  /-- Data of a remote source that has come back, each with the PSN that brought it; it lands in the order of R180. -/
  got : List (Nat × Wr) := []
  /-- The transfer's far side has answered: data returned, acknowledged, or combined. -/
  ready : Bool := false
  /-- A number that names the transfer in packets and combine requests. -/
  tag : Nat := 0
  /-- Bytes read. -/
  rd : Nat := 0
  /-- Transfer slots it holds: more than one where transfers were merged into one packet (R324). -/
  slots : Nat := 1
  /-- The nibbles a write of 4-bit elements leaves as stored (R172): bit 0 the low half of the first byte, bit 1 the high half of the
  last byte. -/
  keep : Nat := 0
  deriving DecidableEq, Repr

/-- A logical core's units. -/
structure CoreSt where
  /-- Why it is out of the work pool: 0 test, 1 microcode update, 2 replacement, 3 disabled, 4 held after a failed test. -/
  out : List Nat := []
  held : List Held := []
  /-- Tile-store regions of the running command (R156): operand and bytes. -/
  regions : List (Nat × Nat) := []
  /-- The operand tiles of the running command in its regions' buffers. -/
  tiles : List OpTile := []
  /-- The fetches of context 0 in the order in which they were formed. -/
  fetches : List Fetch := []
  /-- The reads of context 0 for the decants and the vector engine, in the order in which they were formed. -/
  reads : List RdJob := []
  /-- The stream context that issued a transfer last (R165). -/
  turn : Nat := 0
  faulted : Bool := false
  eng : List Eng := [{}, {}, {}, {}]
  ctx : List Ctx := [{}, {}, {}, {}]
  xfers : List Xfer := []
  deriving DecidableEq, Repr

/-- A scaling record (R240); FP32 values as their bits. -/
structure ScaleRec where
  hist : List Nat := List.replicate 16 0
  cur : Nat := 0
  cfg : Nat := 0
  headroom : Nat := 0
  tfmt : Nat := 0
  scale : Nat := 0
  hcount : Nat := 0
  step : Nat := 0
  saturated : Nat := 0
  flushed : Nat := 0
  poisoned : Nat := 0
  deriving DecidableEq, Repr

/-- A deviation record (R249). -/
structure DevRec where
  bins : List Nat := List.replicate 16 0
  pos : Nat := 0
  neg : Nat := 0
  samples : Nat := 0
  poisoned : Nat := 0
  deriving DecidableEq, Repr

/-- A sampled tile whose output is held for the sieve (R473). `mismatch`: the partner's output differed and how. -/
structure SieveJob where
  core : Nat
  e : Nat
  q : Nat
  index : Nat
  tile : Nat
  held : List StagedWr
  /-- Its raise (R89), and how often it repeated as INT32 lanes (R81). -/
  raise : Nat := 0
  shift : Nat := 0
  partner : Nat
  sameDie : Bool
  mismatch : Option (Nat × Nat × Nat) := none
  deriving DecidableEq, Repr

/-- A combine request at an atomic unit (R205). `home`: the queue, core and transfer tag of a local sender, or the connection and
PSN of a remote one, or none for a collective engine's own. -/
inductive CombHome where
  | none
  | xfer (q core tag : Nat)
  | conn (c psn : Nat)
  deriving DecidableEq, Repr

/-- A combine request (R201, R205). `tag` is the layout epoch of its command, where this device sent it (R389). -/
structure CombReq where
  comb : Nat
  wr : Wr
  home : CombHome
  tag : Nat := 0
  deriving DecidableEq, Repr

/-- A row of a memory controller: PC or rank, bank and row. -/
structure DramRow where
  pc : Nat
  bank : Nat
  row : Nat
  deriving DecidableEq, Repr

/-- What a memory controller keeps of corrected reads, newest first (R469): the rows of its last 256; for each PC the rows and failing symbols of that
PC's last 256; and the rows that made a record, each with the corrected reads to come before it counts once more. -/
structure CeRing where
  reads : List DramRow := []
  byPc : SMap (List (DramRow × Nat)) := []
  fired : List (DramRow × Nat) := []
  deriving DecidableEq, Repr

/-- A unit's quiesce in progress (R305). -/
structure Quiesce where
  u : QUnit
  /-- The disable bit was cleared meanwhile (R306). -/
  cleared : Bool := false
  /-- Commands of a queue completed ABORTED_DISABLE so far. -/
  aborted : Nat := 0
  deriving DecidableEq, Repr

end Sys2Proof.Machine
end

