-- ==== Sys2Proof/Machine/NetTypes.lean ====
section
/-! DEFINITION. The plain data of the Valix fabric (chapter 11): links, packets in the router, drains and connections; and the messages
the device sends to its surroundings. -/

namespace Sys2Proof.Machine

/-- A packet in the device's router: where it came in, and whether a drain waits for it (R337). -/
structure NetPkt where
  p : Pkt
  src : Option Nat := none
  /-- The virtual channel it came in on. -/
  vc : Nat := 0
  marked : Bool := false
  /-- It has left the input buffer and come back from a link that went down (R333). -/
  moved : Bool := false
  deriving DecidableEq, Repr

/-- A packet in a link's output queue, with the flits not yet sent and where it came in. -/
structure OutPkt where
  p : Pkt
  vc : Nat
  left : Nat
  src : Option Nat := none
  marked : Bool := false
  deriving DecidableEq, Repr

/-- The bytes of a packet whose flits are still arriving on a VC (R318). -/
structure Part where
  bytes : List Byte := []
  marked : Bool := false
  deriving DecidableEq, Repr

/-- A Valix link (R313 to R321). -/
structure LinkSt where
  /-- The GSEQ expected next, and whether groups are discarded until the one after a NAKSEQ (R319). -/
  rxNext : Nat := 0
  rxBad : Bool := false
  parts : SMap Part := []
  /-- The last group accepted and the last accepted at a rejection, where a group has yet to say so (R319). -/
  ackDue : Option Nat := none
  nakDue : Option Nat := none
  /-- The flits of each VC in the input buffer, the credits the neighbour holds, 16 where nothing is listed, and the credits that a group
  has yet to return (R321). -/
  inbuf : SMap Nat := []
  lent : SMap Nat := []
  owed : SMap Nat := []
  /-- The GSEQ of the next group sent, and the replay buffer: the groups sent and not acknowledged, oldest first (R319). -/
  txNext : Nat := 0
  replay : List (List Byte) := []
  /-- The packets whose last flit is in a group of the replay buffer, with the GSEQ of that group: the link holds them still (R333). -/
  unacked : List (OutPkt × Nat) := []
  /-- Link-control flits that wait to be sent (R317, R321, R337), by their fields. -/
  ctl : List (List Nat) := []
  /-- The group replayed last and how many times in succession. -/
  repGroup : Nat := 0
  repCount : Nat := 0
  /-- The second of the last replay and the groups replayed in it (R465). -/
  repSec : Nat × Nat := (0, 0)
  /-- Credits held for each VC (R321); 16 where nothing is listed. -/
  credits : SMap Nat := []
  outq : List OutPkt := []
  /-- The class of 0 to 5 whose turn it is (R326). -/
  turn : Nat := 0
  /-- The highest round of a DRAIN received for each epoch (R337). -/
  drain0 : Nat := 0
  drain1 : Nat := 0
  /-- An epoch whose packets the link may not carry (R337). -/
  bar : Option Bool := none
  /-- A retune waits for the output queues to empty (R316). -/
  retune : Bool := false
  /-- The width and lanes being tried in TRAINING. -/
  tryWidth : Nat := 0
  /-- The width it was UP at and has not gone DOWN from (R362). -/
  upWidth : Option Nat := none
  /-- A lane degradation made it train, and the lanes that work (R316). -/
  narrowing : Bool := false
  lanesOk : Nat := 0xF
  /-- Flits sent for each class, modulo 1,024 (R351). -/
  flits : SMap Nat := []
  deriving DecidableEq, Repr

/-- A drain in progress (R337). `sent`: the DRAIN flits of the next round have been sent. -/
structure Drain where
  epoch : Bool
  round : Option Nat := none
  sent : Bool := false
  deriving DecidableEq, Repr

/-- Whose packet an unacknowledged packet is: a stream transfer's (queue, core, tag), a collective's (queue), or nobody's. -/
inductive TxHome where
  | none
  | xfer (q core tag : Nat)
  | coll (q tag : Nat)
  deriving DecidableEq, Repr

/-- A sequenced packet that waits to be sent or acknowledged. `tag` is the layout epoch of its command (R389), and `src` where the packet's data stand
in this device's memory, from which a retransmission reads them again (R345); none where the packet keeps its own. -/
structure TxPkt where
  p : Pkt
  sends : Nat := 0
  home : TxHome := .none
  tag : Nat := 0
  src : Option Nat := none
  deriving DecidableEq, Repr

/-- An ORD packet held until ePSN reaches it (R341), with the hub it came in on and what its access to memory will meet. -/
structure HeldPkt where
  p : Pkt
  hub : Nat := 0
  err : MemErr := {}
  deriving DecidableEq, Repr

/-- A connection's ends beside its register (R340 to R350). -/
structure ConnSt where
  /-- Unacknowledged packets, oldest first, and packets that wait for the window (R341). -/
  tx : List TxPkt := []
  wait : List TxPkt := []
  /-- PSNs received at or above ePSN, and whether each has been applied. -/
  rx : SMap Bool := []
  hold : List HeldPkt := []
  /-- Packets that arrived since the last ACK (R344). -/
  arrived : Nat := 0
  /-- A gap below the highest PSN received has been seen. -/
  gap : Bool := false
  /-- The time of the last CNP sent, in µs. -/
  cnpAt : Option Nat := none
  rt : Nat := 1000
  steps : Nat := 0
  cutAt : Option Nat := none
  deriving DecidableEq, Repr

/-- An arrival notice (R342): source device, tag, connection, and the address at which its packet's bytes end. -/
structure Notice where
  src : Nat
  tag : Nat
  conn : Nat
  fin : Nat := 0
  deriving DecidableEq, Repr

/-- A group table as fetched (R367): members, this device's rank, first connections of the ring, and each member's device and
connection. -/
structure GTab where
  n : Nat := 1
  rank : Nat := 0
  next : Nat := 0
  prev : Nat := 0
  ents : List (Nat × Nat) := []
  deriving DecidableEq, Repr

/-- A collective that holds a context (R364). -/
structure CollSt where
  ctx : Nat
  /-- The hubs of its lanes, in rank order. -/
  lanes : List Nat
  /-- Its descriptor has been fetched and checked. -/
  ready : Bool := false
  words : List Word := []
  gts : List (Nat × GTab) := []
  bounds : List Nat := []
  bounds2 : List Nat := []
  srcs : List TDesc := []
  out : TDesc := {}
  /-- The phase it is in (R376, R387, R391), and what its lanes or members have sent and received in it. -/
  phase : Nat := 0
  sent : SMap Nat := []
  recv : SMap Nat := []
  /-- ALLTOALL: where each member's list, later its slots, ended; and how many records of each member are kept here. -/
  fins : SMap Nat := []
  kept : SMap Nat := []
  /-- The connections it uses, and the bytes that are undefined if it fails (R385). -/
  conns : List Nat := []
  regions : List (Nat × Nat) := []
  deriving DecidableEq, Repr

/-- The frame around a datagram that a port sends (R403, R404, R408): the destination's MAC and IP addresses, PCP and VID of its 802.1Q tag, DSCP and ECN,
the UDP checksum, and the datagram's payload as it is sent: for a RoCEv2 packet BTH, SEALH, any RETH or AETH, the encrypted payload, the tag and the
ICRC. -/
structure EthTx where
  dstMac : Nat := 0
  dstIp : Nat := 0
  vlan : Option (Nat × Nat) := none
  dscp : Nat := 0
  ecn : Nat := 0
  udpSum : Nat := 0
  wire : List Byte := []
  deriving DecidableEq, Repr

/-- What the device sends to its surroundings: the model's own record of outputs, oldest first. -/
inductive Msg where
  /-- A flit group on a link: its 512 bytes (R318). -/
  | group (link : Nat) (bytes : List Byte)
  /-- A packet whose last flit has gone into a group, on a link and virtual channel. -/
  | pkt (link vc : Nat) (p : Pkt)
  /-- What a link-control flit that has been put into a group says (R317, R321, R337). -/
  | hello (link id : Nat) (valid : Bool)
  | drain (link : Nat) (epoch : Bool) (round : Nat)
  | retune (link : Nat)
  /-- A host session's protocol message or RoCEv2 packet: port, session, kind, its fields and bytes in clear, and the frame they go in. -/
  | host (port sess kind : Nat) (fields : List Nat) (bytes : List Byte) (frame : EthTx)
  /-- An answer on a port's local network: port, kind, bytes. -/
  | net (port kind : Nat) (bytes : List Byte)
  /-- What a target found as it combined the addends of a COMBINE packet, which its connection's sender counts (R207, R210, R214, R322): the
  connection and PSN, the elements poisoned and saturated, the sticky flags of R65, and whether a unit was uncorrectable. -/
  | combined (conn psn poisoned saturated fmt : Nat) (lost : Bool)
  /-- A side-band answer: protocol, code, and its fields. -/
  | side (proto code : Nat) (fields : List Nat)
  /-- A pin driven: its number and level. -/
  | pin (n : Nat) (v : Bool)
  deriving DecidableEq, Repr

end Sys2Proof.Machine
end

