-- ==== Sys2Proof/Machine/HostTypes.lean ====
section
/-! DEFINITION. The plain data of host sessions (chapter 13), of the management complex, its fuses and its flash (chapter 14), and of
resets and power states (chapter 16). -/

namespace Sys2Proof.Machine

/-! ### Sessions -/

/-- A mirror WRITE the device sent and the host has not acknowledged (R303, R413). -/
structure MirrorTx where
  psn : Nat
  va : Nat
  bytes : List Byte
  tries : Nat := 0
  /-- Tries after an RNR NAK, which have a count of their own. -/
  rnr : Nat := 0
  deriving DecidableEq, Repr

/-- A replay window (R409): the highest CTR accepted and those accepted within 1,024 below it. -/
structure Replay where
  hi : Nat := 0
  seen : List Nat := []
  deriving DecidableEq, Repr

/-- An RDMA WRITE whose packets are arriving (R412, R414): the next address, the bytes still to come, and whether it is dropped. -/
structure WriteMsg where
  va : Nat
  left : Nat
  drop : Bool
  deriving DecidableEq, Repr

/-- What a handshake holds (R405, R406): the device's ephemeral private key, the host's ephemeral key, and the bytes of INIT and REPLY. -/
structure Handshake where
  eph : Nat
  qh : List Byte
  msgs : List Byte
  deriving DecidableEq, Repr

/-- The secrets of one key phase (R406, R410): PRK, and the key and the IV of each direction. -/
structure SessKeys where
  prk : List Byte := []
  h2dKey : List Byte := []
  d2hKey : List Byte := []
  h2dIv : List Byte := []
  d2hIv : List Byte := []
  deriving DecidableEq, Repr

/-- A host session beside its register (R404 to R416). -/
structure SessSt where
  /-- The slot is taken. -/
  used : Bool := false
  srcMac : Nat := 0
  srcIp : Nat := 0
  keyidx : Nat := 0
  rkey : Nat := 0
  ackt : Nat := 0
  /-- The ephemeral keys and the messages while the session is in handshake; erased when it opens (R406). -/
  hs : Option Handshake := none
  /-- The secrets of the current key phase, and of the old one while its packets are accepted (R410, R411). -/
  keys : SessKeys := {}
  oldKeys : Option SessKeys := none
  /-- The PSN of the next host request, and of the next request the device sends. -/
  ePsn : Nat := 0
  dPsn : Nat := 0
  /-- Messages completed, as acknowledgements report them. -/
  msn : Nat := 0
  msg : Option WriteMsg := none
  /-- Request packets since the last acknowledgement. -/
  arrived : Nat := 0
  /-- A NAK sequence error has been sent and no packet has been applied since. -/
  nakSent : Bool := false
  rx : Replay := {}
  /-- The window of the old key phase while its packets are accepted (R411), and whether the new phase's first packet has come. -/
  old : Option Replay := none
  newSeen : Bool := false
  /-- A REKEY has moved the session to phase 1, 2, ... since it opened. -/
  rekeys : Nat := 0
  tx : List MirrorTx := []
  rt : Nat := 500
  steps : Nat := 0
  cutAt : Option Nat := none
  cnpAt : Option Nat := none
  /-- When the increase timer was started, in µs. -/
  incAt : Nat := 0
  deriving DecidableEq, Repr

/-! ### Fuses, flash and images -/

/-- The fuses (R428, R436 to R438). -/
structure Fuses where
  /-- Physical sites disabled in fuses (R21). -/
  disabled : List Nat := []
  /-- The code of the part (R2): 0 S, 1 L. -/
  grade : Nat := 0
  baseMac : Nat := 0
  serial : Nat := 0
  /-- The root-key hashes of slots 0 to 3 (R436). -/
  rootHash : List (BitVec 384) := []
  /-- The SVN counters of classes 1 to 3. -/
  svn1 : Nat := 0
  svn2 : Nat := 0
  svn3 : Nat := 0
  /-- Revoked root-key slots. -/
  revoked : List Nat := []
  /-- The slot to run of each class, as the BOOT_SLOT fuse bank and ACTIVATE leave it (R436, R450): bit c − 1. -/
  boot : Nat := 0
  /-- The debug fuse (R554). -/
  debug : Bool := false
  /-- The unique seed of the device identity key (R440). -/
  seed : Nat := 0
  deriving DecidableEq, Repr

/-- The flash as the device left it or found it at start-up (R429): the two configuration slots, and the images by class and slot, at
2 × (class − 1) + slot; `staged` marks a slot that holds an image staged and not yet activated. -/
structure Flash where
  cfg0 : List Byte := []
  cfg1 : List Byte := []
  /-- The device certificate chain (R441). -/
  chain : List Byte := []
  imgs : SMap ImgInfo := []
  staged : List Nat := []
  deriving DecidableEq, Repr

/-- What a store writes (R433, R438, R450). -/
inductive StoreWhat where
  /-- A configuration block, with the slot it goes to. -/
  | cfg (slot : Nat) (block : List Byte)
  /-- An image, to a slot of its class. -/
  | img (cls slot : Nat) (info : ImgInfo)
  /-- The SVN counter of a class. -/
  | svn (cls value : Nat)
  /-- The revocation fuse of a root-key slot. -/
  | revoke (slot : Nat)
  /-- The BOOT_SLOT fuse bank, which names the slot of a class that runs next (R436, R450). -/
  | boot (cls slot : Nat)
  deriving DecidableEq, Repr

/-- A store that runs or waits (R434, R444). `recovery`: it is that of R439, after which the device resets. -/
structure StoreJob where
  what : StoreWhat
  steps : Nat
  done : Nat := 0
  tries : Nat := 0
  unguarded : Bool := false
  recovery : Bool := false
  /-- Whether MGT_UPD_STATUS reports it. -/
  upd : Bool := false
  deriving DecidableEq, Repr

/-- The HOLDUP record (R432, R444). -/
structure Holdup where
  capMf : Nat
  divi : Nat
  vminMv : Nat
  pholdMw : Nat
  tstepMs : Nat
  deriving DecidableEq, Repr

/-- A firmware update over PLDM Type 5 (R446). `stage`: 1 requested, 2 table passed, 3 transferring, 4 transferred, 5 verified,
6 applied. -/
structure Pldm where
  stage : Nat := 0
  cls : Nat := 0
  size : Nat := 0
  image : List Byte := []
  deriving DecidableEq, Repr

/-- The management complex beside its registers. -/
structure Mgmt where
  fuse : Fuses := {}
  flash : Flash := {}
  /-- The device identity key, from the start-up that derived it (R440). -/
  idKey : Option Nat := none
  stores : List StoreJob := []
  holdup : Option Holdup := none
  /-- The last code of HOLDUP_SENSE (R444). -/
  sense : Nat := 0
  pldm : Pldm := {}
  /-- What the checks found on the image of the PLDM update (R446). -/
  pldmInfo : Option ImgInfo := none
  /-- The selected configuration block (R431), and the lists the device keeps (R454): retired sites, and repair words of R432. -/
  block : List Byte := []
  retired : List Nat := []
  /-- The I3C addresses and the MCTP EID (R443, R445). -/
  i3cStatic : Nat := 0x2A
  i3cDynamic : Option Nat := none
  eid : Nat := 0
  /-- A handover to the standby core that goes on (R449): the slot of the image it boots, and whether ACTIVATE asked for it. -/
  handover : Option (Nat × Bool) := none
  /-- A first watchdog expiry waits for a KICK (R504). -/
  wdPending : Bool := false
  /-- The CCLK that POWER and THERMAL ask for each die, in MHz, where one of them holds it down (R451, R452). -/
  powClk : SMap Nat := []
  thermClk : SMap Nat := []
  /-- Milliseconds since the last step up of POWER, and of THERMAL for each die. -/
  powMs : Nat := 0
  thermMs : SMap Nat := []
  /-- Each core's voltage offset in mV (R451). -/
  vOff : SMap Int := []
  /-- When each link (0 to 39) and port (40 to 47) was last retuned by LINKS, in µs. -/
  retunedAt : SMap Nat := []
  /-- Records that blame a core (R483): core, class, time in µs. -/
  blames : List (Nat × Nat × Nat) := []
  /-- Rows in which a read was uncorrectable and whose repair the REPAIR policy has not yet decided (R468): controller, PC or rank, bank,
  row. -/
  ueRows : List (Nat × Nat × Nat × Nat) := []
  /-- Consecutive windows below the laggard limit, by core (R482). -/
  lagRuns : SMap Nat := []
  /-- Links (0 to 39) and ports (40 to 47) that wait for their retune to new PHY tables (R448). -/
  retunes : List Nat := []
  /-- Cores that still run the microcode image that a rolling update replaces (R448). -/
  rolling : List Nat := []
  /-- The core out of the pool for an idle-slot test (R475). -/
  testing : Option Nat := none
  /-- Cores the RETIRE policy has chosen and that are not yet replaced (R452): core and the class of the record behind it. -/
  chosen : List (Nat × Nat) := []
  deriving DecidableEq, Repr

/-! ### Resets and power -/

/-- A block reset that waits for its block to go idle (R502): the unit identifier, whether software had disabled the core, whether
the block's wait has expired, and the writes of its registers that wait for its end (R536), oldest first, as address and value. -/
structure BlockRst where
  unit : Nat
  swDis : Bool
  forced : Bool := false
  writes : List (Nat × Word) := []
  deriving DecidableEq, Repr

/-- What holds or stops the device beside its registers (R497, R500, R508 to R513, R554, R559). -/
structure Power where
  /-- SYS_RESET_N is low; REFCLK is missing and the reset it made is held. -/
  pinLow : Bool := false
  refMissing : Bool := false
  /-- REFCLK is lost and every PLL is in holdover (R518). -/
  holdover : Bool := false
  /-- THERMTRIP_N is low (R559). -/
  tripped : Bool := false
  /-- Entry to DOME (R508): 0 none, 1 waits for a block reset, 2 releases the device; and whether the device is in DOME. -/
  domeStep : Nat := 0
  dome : Bool := false
  /-- The tile-store banks that PWR_RETAIN retains: its value at the last entry to SHELF or DOME (R510, R524). -/
  retain : Nat := 0
  /-- A wake that waits for the end of the entry: its LAST_WAKE code (R512). -/
  wake : Option Nat := none
  /-- PHYs trained before the entry that have not been restored since (R511). -/
  physDue : Bool := false
  block : Option BlockRst := none
  /-- A MEM_PLACE change took effect since the microcode copy was written (R501). -/
  copyStale : Bool := false
  /-- The instruction in the JTAG TAP (R554). -/
  tap : Option Nat := none
  deriving DecidableEq, Repr

end Sys2Proof.Machine
end

