-- ==== Sys2Proof/Machine/RegTable.lean ====
section
/-! DEFINITION. The register map (R528, R529, R540): the name of every register word, where its instances lie, and the fields of
each word with their access type (R12), reset value and the events that return them to it (R14). -/

namespace Sys2Proof.Machine

/-- The register words of R540: one name per word, a register of several words (R529) having one name for each. -/
inductive RegName where
  | TOP_DEVICE_ID
  | TOP_UNIT_COUNT
  | TOP_CCLK_STATUS
  | TOP_CORE_MAP
  | TOP_GROUP_LO
  | TOP_GROUP_HI
  | TOP_TCOUNT
  | TOP_SCALE_STATUS
  | TOP_CHECK_REGION
  | TOP_SIEVE_STATUS
  | TOP_KAT_CTL
  | TOP_KAT_SUITE
  | TOP_KAT_STATUS
  | TOP_KAT_HELD_LO
  | TOP_KAT_HELD_HI
  | TOP_LAG_CTL
  | TOP_LAG_LO
  | TOP_LAG_HI
  | TOP_LANTERN
  | TOP_RETIRE_CMD
  | TOP_RETIRE_STATUS
  | CORE_CP_STATUS
  | CORE_CP_FAULT
  | CORE_CP_FAULT_DESC
  | CORE_CP_INDICES
  | MTX_SLOT_STATE
  | MTX_LANE_STATE
  | MTX_ACTIVE
  | MTX_STALL
  | MTX_DECANT
  | MTX_ECC
  | STR_STATUS
  | STR_CTL
  | STR_BYTES_RD
  | STR_BYTES_WR
  | STR_POISON_FIRST
  | STR_POISON_ADDR
  | STR_ERR_COUNT
  | VEC_STATUS
  | VEC_CYCLES
  | CORE_FMT_STICKY
  | ACC_STICKY
  | VEC_STICKY
  | QM_QDESC_W0
  | QM_QDESC_W1
  | QM_QDESC_W2
  | QM_QDESC_W3
  | QM_QDESC_W4
  | QM_QDESC_W5
  | QM_QDESC_W6
  | QM_QDESC_W7
  | QM_CTL
  | QM_OWNER
  | QM_MB_ACTIVE
  | QM_STATS
  | QM_CORE_DIS_LO
  | QM_CORE_DIS_HI
  | QM_PORT_DIS
  | QM_QUIESCE
  | MEM_DDR_SIZE
  | MEM_PLACE
  | MEM_SCRUB_CTL
  | MEM_DECODE_ERR
  | MEM_STACK
  | MEM_STACK_ECC
  | MEM_DDR_CH
  | MEM_DDR_ECC
  | MEM_REPAIR_CMD
  | MEM_REPAIR_STATUS
  | MEM_ATOM
  | FAB_ID
  | FAB_CTL
  | FAB_EPOCH
  | FAB_BANK_CRC
  | FAB_E2E
  | FAB_CC
  | FAB_SPIRE
  | FAB_DROP
  | FAB_RX
  | FAB_TC_WEIGHT
  | FAB_LINK_STATUS
  | FAB_LINK_CTL
  | FAB_LINK_ERR
  | FAB_PORT_WEIGHT
  | FAB_CMAP
  | FAB_ROUTE_GROUP
  | FAB_ROUTE_MEMBER
  | FAB_CONN_W0
  | FAB_CONN_W1
  | FAB_CONN_W2
  | FAB_CONN_W3
  | COL_CTL
  | COL_STATUS
  | COL_COUNT
  | COL_ERR
  | COL_LAYOUT
  | COL_STAGE_ARENA
  | COL_STAGE_HWM
  | ETH_CTL
  | ETH_STATUS
  | ETH_MAC
  | ETH_IP4
  | ETH_IP6_HI
  | ETH_IP6_LO
  | ETH_HS
  | ETH_CC
  | ETH_DROP
  | ETH_SEAL
  | ETH_ROCE
  | ETH_SESS_W0
  | ETH_SESS_W1
  | ETH_SESS_W2
  | ETH_SESS_W3
  | MGT_STATUS
  | CFG_STATUS
  | MGT_POLICY
  | MGT_PWR
  | MGT_THERM
  | MGT_STORE_CMD
  | MGT_STORE_STATUS
  | MGT_UPD_CMD
  | MGT_UPD_STATUS
  | MGT_ERR_LOG
  | MGT_ERR_CTL
  | MGT_HOSTKEY_W0
  | MGT_HOSTKEY_KEY
  | MGT_HOSTKEY_RSVD
  | MGT_ERR_REC
  | RST_CAUSE
  | RST_CTL
  | RST_BLOCK_CMD
  | RST_BLOCK_STATUS
  | RST_WDOG
  | PWR_CTL
  | PWR_STATUS
  | PWR_RETAIN
  | CLK_STATUS
  | DOME_WAKE
  | DOME_PADS
  | DOME_TIME
  deriving DecidableEq, Repr

namespace RegName


/-- Register words, part 0 of R540. -/
def all0 : List RegName := [.TOP_DEVICE_ID, .TOP_UNIT_COUNT, .TOP_CCLK_STATUS, .TOP_CORE_MAP, .TOP_GROUP_LO, .TOP_GROUP_HI, .TOP_TCOUNT, .TOP_SCALE_STATUS, .TOP_CHECK_REGION, .TOP_SIEVE_STATUS, .TOP_KAT_CTL, .TOP_KAT_SUITE, .TOP_KAT_STATUS, .TOP_KAT_HELD_LO, .TOP_KAT_HELD_HI, .TOP_LAG_CTL, .TOP_LAG_LO, .TOP_LAG_HI, .TOP_LANTERN, .TOP_RETIRE_CMD]

/-- Register words, part 1 of R540. -/
def all1 : List RegName := [.TOP_RETIRE_STATUS, .CORE_CP_STATUS, .CORE_CP_FAULT, .CORE_CP_FAULT_DESC, .CORE_CP_INDICES, .MTX_SLOT_STATE, .MTX_LANE_STATE, .MTX_ACTIVE, .MTX_STALL, .MTX_DECANT, .MTX_ECC, .STR_STATUS, .STR_CTL, .STR_BYTES_RD, .STR_BYTES_WR, .STR_POISON_FIRST, .STR_POISON_ADDR, .STR_ERR_COUNT, .VEC_STATUS, .VEC_CYCLES]

/-- Register words, part 2 of R540. -/
def all2 : List RegName := [.CORE_FMT_STICKY, .ACC_STICKY, .VEC_STICKY, .QM_QDESC_W0, .QM_QDESC_W1, .QM_QDESC_W2, .QM_QDESC_W3, .QM_QDESC_W4, .QM_QDESC_W5, .QM_QDESC_W6, .QM_QDESC_W7, .QM_CTL, .QM_OWNER, .QM_MB_ACTIVE, .QM_STATS, .QM_CORE_DIS_LO, .QM_CORE_DIS_HI, .QM_PORT_DIS, .QM_QUIESCE, .MEM_DDR_SIZE]

/-- Register words, part 3 of R540. -/
def all3 : List RegName := [.MEM_PLACE, .MEM_SCRUB_CTL, .MEM_DECODE_ERR, .MEM_STACK, .MEM_STACK_ECC, .MEM_DDR_CH, .MEM_DDR_ECC, .MEM_REPAIR_CMD, .MEM_REPAIR_STATUS, .MEM_ATOM, .FAB_ID, .FAB_CTL, .FAB_EPOCH, .FAB_BANK_CRC, .FAB_E2E, .FAB_CC, .FAB_SPIRE, .FAB_DROP, .FAB_RX, .FAB_TC_WEIGHT]

/-- Register words, part 4 of R540. -/
def all4 : List RegName := [.FAB_LINK_STATUS, .FAB_LINK_CTL, .FAB_LINK_ERR, .FAB_PORT_WEIGHT, .FAB_CMAP, .FAB_ROUTE_GROUP, .FAB_ROUTE_MEMBER, .FAB_CONN_W0, .FAB_CONN_W1, .FAB_CONN_W2, .FAB_CONN_W3, .COL_CTL, .COL_STATUS, .COL_COUNT, .COL_ERR, .COL_LAYOUT, .COL_STAGE_ARENA, .COL_STAGE_HWM, .ETH_CTL, .ETH_STATUS]

/-- Register words, part 5 of R540. -/
def all5 : List RegName := [.ETH_MAC, .ETH_IP4, .ETH_IP6_HI, .ETH_IP6_LO, .ETH_HS, .ETH_CC, .ETH_DROP, .ETH_SEAL, .ETH_ROCE, .ETH_SESS_W0, .ETH_SESS_W1, .ETH_SESS_W2, .ETH_SESS_W3, .MGT_STATUS, .CFG_STATUS, .MGT_POLICY, .MGT_PWR, .MGT_THERM, .MGT_STORE_CMD, .MGT_STORE_STATUS]

/-- Register words, part 6 of R540. -/
def all6 : List RegName := [.MGT_UPD_CMD, .MGT_UPD_STATUS, .MGT_ERR_LOG, .MGT_ERR_CTL, .MGT_HOSTKEY_W0, .MGT_HOSTKEY_KEY, .MGT_HOSTKEY_RSVD, .MGT_ERR_REC, .RST_CAUSE, .RST_CTL, .RST_BLOCK_CMD, .RST_BLOCK_STATUS, .RST_WDOG, .PWR_CTL, .PWR_STATUS, .PWR_RETAIN, .CLK_STATUS, .DOME_WAKE, .DOME_PADS, .DOME_TIME]

/-- Every register word, in the order of R540. -/
def all : List RegName := all0 ++ all1 ++ all2 ++ all3 ++ all4 ++ all5 ++ all6

end RegName

/-- An instance of a register word: its name and its numbers (core, hub, queue; then the number within it; then a third). -/
structure RegKey where
  name : RegName
  i : Nat := 0
  j : Nat := 0
  t : Nat := 0
  deriving DecidableEq, Repr

/-- Where the instances of a word lie (R528, R529): the address of the first, and count and stride of up to three numbers. -/
structure Geo where
  base : Nat
  n1 : Nat := 1
  s1 : Nat := 0x1000000000000
  n2 : Nat := 1
  s2 : Nat := 0x1000000000000
  n3 : Nat := 1
  s3 : Nat := 0x1000000000000
  deriving DecidableEq, Repr

/-- A single word. -/
def Geo.one (b : Nat) : Geo := { base := b }

/-- Words numbered once. -/
def Geo.of1 (b n1 s1 : Nat) : Geo := { base := b, n1 := n1, s1 := s1 }

/-- Words numbered twice. -/
def Geo.of2 (b n1 s1 n2 s2 : Nat) : Geo := { base := b, n1 := n1, s1 := s1, n2 := n2, s2 := s2 }

/-- Words numbered three times. -/
def Geo.of3 (b n1 s1 n2 s2 n3 s3 : Nat) : Geo :=
  { base := b, n1 := n1, s1 := s1, n2 := n2, s2 := s2, n3 := n3, s3 := s3 }

/-- The place of every word (R528, R540). -/
def geo : RegName → Geo
  | .TOP_DEVICE_ID => Geo.one 0x300000000000
  | .TOP_UNIT_COUNT => Geo.one 0x300000000008
  | .TOP_CCLK_STATUS => Geo.one 0x300000000010
  | .TOP_CORE_MAP => Geo.of1 0x300000000100 96 0x8
  | .TOP_GROUP_LO => Geo.of1 0x300000000800 16 0x10
  | .TOP_GROUP_HI => Geo.of1 0x300000000808 16 0x10
  | .TOP_TCOUNT => Geo.of1 0x300000000900 16 0x8
  | .TOP_SCALE_STATUS => Geo.one 0x300000000a00
  | .TOP_CHECK_REGION => Geo.one 0x300000000b00
  | .TOP_SIEVE_STATUS => Geo.one 0x300000000b08
  | .TOP_KAT_CTL => Geo.one 0x300000000b10
  | .TOP_KAT_SUITE => Geo.one 0x300000000b18
  | .TOP_KAT_STATUS => Geo.one 0x300000000b20
  | .TOP_KAT_HELD_LO => Geo.one 0x300000000b28
  | .TOP_KAT_HELD_HI => Geo.one 0x300000000b30
  | .TOP_LAG_CTL => Geo.one 0x300000000b38
  | .TOP_LAG_LO => Geo.one 0x300000000b40
  | .TOP_LAG_HI => Geo.one 0x300000000b48
  | .TOP_LANTERN => Geo.one 0x300000000b50
  | .TOP_RETIRE_CMD => Geo.one 0x300000000b58
  | .TOP_RETIRE_STATUS => Geo.one 0x300000000b60
  | .CORE_CP_STATUS => Geo.of1 0x300001000100 96 0x100000
  | .CORE_CP_FAULT => Geo.of1 0x300001000108 96 0x100000
  | .CORE_CP_FAULT_DESC => Geo.of1 0x300001000110 96 0x100000
  | .CORE_CP_INDICES => Geo.of1 0x300001000118 96 0x100000
  | .MTX_SLOT_STATE => Geo.of2 0x300001000400 96 0x100000 4 0x40
  | .MTX_LANE_STATE => Geo.of2 0x300001000408 96 0x100000 4 0x40
  | .MTX_ACTIVE => Geo.of2 0x300001000410 96 0x100000 4 0x40
  | .MTX_STALL => Geo.of2 0x300001000418 96 0x100000 4 0x40
  | .MTX_DECANT => Geo.of2 0x300001000420 96 0x100000 4 0x40
  | .MTX_ECC => Geo.of2 0x300001000428 96 0x100000 4 0x40
  | .STR_STATUS => Geo.of1 0x300001000600 96 0x100000
  | .STR_CTL => Geo.of1 0x300001000608 96 0x100000
  | .STR_BYTES_RD => Geo.of1 0x300001000610 96 0x100000
  | .STR_BYTES_WR => Geo.of1 0x300001000618 96 0x100000
  | .STR_POISON_FIRST => Geo.of1 0x300001000620 96 0x100000
  | .STR_POISON_ADDR => Geo.of1 0x300001000628 96 0x100000
  | .STR_ERR_COUNT => Geo.of1 0x300001000630 96 0x100000
  | .VEC_STATUS => Geo.of1 0x300001000700 96 0x100000
  | .VEC_CYCLES => Geo.of1 0x300001000708 96 0x100000
  | .CORE_FMT_STICKY => Geo.of1 0x300001000e00 96 0x100000
  | .ACC_STICKY => Geo.of1 0x300001000e08 96 0x100000
  | .VEC_STICKY => Geo.of1 0x300001000e10 96 0x100000
  | .QM_QDESC_W0 => Geo.of1 0x300020000000 65536 0x40
  | .QM_QDESC_W1 => Geo.of1 0x300020000008 65536 0x40
  | .QM_QDESC_W2 => Geo.of1 0x300020000010 65536 0x40
  | .QM_QDESC_W3 => Geo.of1 0x300020000018 65536 0x40
  | .QM_QDESC_W4 => Geo.of1 0x300020000020 65536 0x40
  | .QM_QDESC_W5 => Geo.of1 0x300020000028 65536 0x40
  | .QM_QDESC_W6 => Geo.of1 0x300020000030 65536 0x40
  | .QM_QDESC_W7 => Geo.of1 0x300020000038 65536 0x40
  | .QM_CTL => Geo.one 0x300020400000
  | .QM_OWNER => Geo.one 0x300020400008
  | .QM_MB_ACTIVE => Geo.one 0x300020400010
  | .QM_STATS => Geo.one 0x300020400018
  | .QM_CORE_DIS_LO => Geo.one 0x300020400020
  | .QM_CORE_DIS_HI => Geo.one 0x300020400028
  | .QM_PORT_DIS => Geo.one 0x300020400030
  | .QM_QUIESCE => Geo.one 0x300020400038
  | .MEM_DDR_SIZE => Geo.of1 0x300030000000 8 0x1000000
  | .MEM_PLACE => Geo.of1 0x300030000008 8 0x1000000
  | .MEM_SCRUB_CTL => Geo.of1 0x300030000010 8 0x1000000
  | .MEM_DECODE_ERR => Geo.of1 0x300030000018 8 0x1000000
  | .MEM_STACK => Geo.of2 0x300030000100 8 0x1000000 4 0x20
  | .MEM_STACK_ECC => Geo.of2 0x300030000108 8 0x1000000 4 0x20
  | .MEM_DDR_CH => Geo.of2 0x300030000200 8 0x1000000 2 0x20
  | .MEM_DDR_ECC => Geo.of2 0x300030000208 8 0x1000000 2 0x20
  | .MEM_REPAIR_CMD => Geo.of1 0x300030000300 8 0x1000000
  | .MEM_REPAIR_STATUS => Geo.of1 0x300030000308 8 0x1000000
  | .MEM_ATOM => Geo.of2 0x300030000400 8 0x1000000 8 0x8
  | .FAB_ID => Geo.of1 0x300030100000 8 0x1000000
  | .FAB_CTL => Geo.of1 0x300030100008 8 0x1000000
  | .FAB_EPOCH => Geo.of1 0x300030100010 8 0x1000000
  | .FAB_BANK_CRC => Geo.of1 0x300030100018 8 0x1000000
  | .FAB_E2E => Geo.of1 0x300030100020 8 0x1000000
  | .FAB_CC => Geo.of1 0x300030100028 8 0x1000000
  | .FAB_SPIRE => Geo.of1 0x300030100030 8 0x1000000
  | .FAB_DROP => Geo.of1 0x300030100038 8 0x1000000
  | .FAB_RX => Geo.of1 0x300030100040 8 0x1000000
  | .FAB_TC_WEIGHT => Geo.of1 0x300030100048 8 0x1000000
  | .FAB_LINK_STATUS => Geo.of2 0x300030100100 8 0x1000000 5 0x80
  | .FAB_LINK_CTL => Geo.of2 0x300030100108 8 0x1000000 5 0x80
  | .FAB_LINK_ERR => Geo.of2 0x300030100110 8 0x1000000 5 0x80
  | .FAB_PORT_WEIGHT => Geo.of2 0x300030100118 8 0x1000000 5 0x80
  | .FAB_CMAP => Geo.of3 0x300030100140 8 0x1000000 5 0x80 8 0x8
  | .FAB_ROUTE_GROUP => Geo.of3 0x300030101000 8 0x1000000 2 0x800 256 0x8
  | .FAB_ROUTE_MEMBER => Geo.of3 0x300030102000 8 0x1000000 2 0x800 256 0x8
  | .FAB_CONN_W0 => Geo.of2 0x300030110000 8 0x1000000 4096 0x20
  | .FAB_CONN_W1 => Geo.of2 0x300030110008 8 0x1000000 4096 0x20
  | .FAB_CONN_W2 => Geo.of2 0x300030110010 8 0x1000000 4096 0x20
  | .FAB_CONN_W3 => Geo.of2 0x300030110018 8 0x1000000 4096 0x20
  | .COL_CTL => Geo.of1 0x300030200000 8 0x1000000
  | .COL_STATUS => Geo.of1 0x300030200008 8 0x1000000
  | .COL_COUNT => Geo.of1 0x300030200010 8 0x1000000
  | .COL_ERR => Geo.of1 0x300030200018 8 0x1000000
  | .COL_LAYOUT => Geo.of1 0x300030200100 8 0x1000000
  | .COL_STAGE_ARENA => Geo.of2 0x300030200200 8 0x1000000 16 0x10
  | .COL_STAGE_HWM => Geo.of2 0x300030200208 8 0x1000000 16 0x10
  | .ETH_CTL => Geo.of1 0x300030300000 8 0x1000000
  | .ETH_STATUS => Geo.of1 0x300030300008 8 0x1000000
  | .ETH_MAC => Geo.of1 0x300030300010 8 0x1000000
  | .ETH_IP4 => Geo.of1 0x300030300018 8 0x1000000
  | .ETH_IP6_HI => Geo.of1 0x300030300020 8 0x1000000
  | .ETH_IP6_LO => Geo.of1 0x300030300028 8 0x1000000
  | .ETH_HS => Geo.of1 0x300030300030 8 0x1000000
  | .ETH_CC => Geo.of1 0x300030300038 8 0x1000000
  | .ETH_DROP => Geo.of1 0x300030300040 8 0x1000000
  | .ETH_SEAL => Geo.of1 0x300030300048 8 0x1000000
  | .ETH_ROCE => Geo.of1 0x300030300050 8 0x1000000
  | .ETH_SESS_W0 => Geo.of2 0x300030301000 8 0x1000000 512 0x20
  | .ETH_SESS_W1 => Geo.of2 0x300030301008 8 0x1000000 512 0x20
  | .ETH_SESS_W2 => Geo.of2 0x300030301010 8 0x1000000 512 0x20
  | .ETH_SESS_W3 => Geo.of2 0x300030301018 8 0x1000000 512 0x20
  | .MGT_STATUS => Geo.one 0x300040000000
  | .CFG_STATUS => Geo.one 0x300040000008
  | .MGT_POLICY => Geo.one 0x300040000010
  | .MGT_PWR => Geo.one 0x300040000018
  | .MGT_THERM => Geo.one 0x300040000020
  | .MGT_STORE_CMD => Geo.one 0x300040000028
  | .MGT_STORE_STATUS => Geo.one 0x300040000030
  | .MGT_UPD_CMD => Geo.one 0x300040000038
  | .MGT_UPD_STATUS => Geo.one 0x300040000040
  | .MGT_ERR_LOG => Geo.one 0x300040000100
  | .MGT_ERR_CTL => Geo.one 0x300040000108
  | .MGT_HOSTKEY_W0 => Geo.of1 0x300040000800 16 0x80
  | .MGT_HOSTKEY_KEY => Geo.of2 0x300040000808 16 0x80 13 0x8
  | .MGT_HOSTKEY_RSVD => Geo.of2 0x300040000870 16 0x80 2 0x8
  | .MGT_ERR_REC => Geo.of2 0x300040001000 256 0x40 8 0x8
  | .RST_CAUSE => Geo.one 0x300040008000
  | .RST_CTL => Geo.one 0x300040008008
  | .RST_BLOCK_CMD => Geo.one 0x300040008010
  | .RST_BLOCK_STATUS => Geo.one 0x300040008018
  | .RST_WDOG => Geo.one 0x300040008020
  | .PWR_CTL => Geo.one 0x300040009000
  | .PWR_STATUS => Geo.one 0x300040009008
  | .PWR_RETAIN => Geo.one 0x300040009010
  | .CLK_STATUS => Geo.one 0x300040009018
  | .DOME_WAKE => Geo.one 0x30004000a000
  | .DOME_PADS => Geo.one 0x30004000a008
  | .DOME_TIME => Geo.one 0x30004000a010

/-- Registers that exist in hub 0 only (R530, R540). -/
def RegName.hub0Only : RegName → Bool
  | .MEM_DDR_SIZE | .MEM_PLACE | .MEM_SCRUB_CTL | .MEM_DECODE_ERR | .FAB_ID | .FAB_CTL | .FAB_EPOCH | .FAB_BANK_CRC
  | .FAB_E2E | .FAB_CC | .FAB_SPIRE | .FAB_DROP | .FAB_RX | .FAB_TC_WEIGHT | .FAB_ROUTE_GROUP | .FAB_ROUTE_MEMBER
  | .FAB_CONN_W0 | .FAB_CONN_W1 | .FAB_CONN_W2 | .FAB_CONN_W3 | .COL_LAYOUT | .COL_STAGE_ARENA | .COL_STAGE_HWM => true
  | _ => false

/-- Whether a register describes a unit of a core and so lies in a CORE window (R528). -/
def RegName.inCore : RegName → Bool
  | .CORE_CP_STATUS | .CORE_CP_FAULT | .CORE_CP_FAULT_DESC | .CORE_CP_INDICES | .MTX_SLOT_STATE | .MTX_LANE_STATE | .MTX_ACTIVE | .MTX_STALL
  | .MTX_DECANT | .MTX_ECC | .STR_STATUS | .STR_CTL | .STR_BYTES_RD | .STR_BYTES_WR | .STR_POISON_FIRST | .STR_POISON_ADDR
  | .STR_ERR_COUNT | .VEC_STATUS | .VEC_CYCLES | .CORE_FMT_STICKY | .ACC_STICKY | .VEC_STICKY => true
  | _ => false

/-- The access types of R12. -/
inductive Acc where
  | ro | rw | w1c | w1s | wo | rc
  deriving DecidableEq, Repr

/-- The sets of events a "Cleared by" column lists (R14): no event; P; P and S; P, S and B; P, S and DOME; P, S, B and DOME; all
six. -/
inductive Clr where
  | none | p | ps | psb | psd | psbd | all
  deriving DecidableEq, Repr

/-- A field of a register word. -/
structure FieldInfo where
  lo : Nat
  w : Nat
  acc : Acc
  rst : Nat
  clr : Clr
  /-- Whether the field counts or measures, so that the lantern latches it (R481, R541). -/
  meas : Bool := false
  deriving DecidableEq, Repr


def fieldsOf_TOP_DEVICE_ID : List FieldInfo := [⟨0, 16, .ro, 29184, .none, false⟩, ⟨16, 8, .ro, 177, .none, false⟩,
      ⟨24, 2, .ro, 0, .none, false⟩, ⟨26, 6, .ro, 1, .none, false⟩]
def fieldsOf_TOP_UNIT_COUNT : List FieldInfo := [⟨0, 7, .ro, 0, .ps, false⟩, ⟨8, 7, .ro, 0, .ps, true⟩,
      ⟨16, 2, .ro, 0, .ps, false⟩, ⟨18, 2, .ro, 0, .ps, false⟩, ⟨20, 2, .ro, 0, .ps, false⟩, ⟨22, 2, .ro, 0, .ps, false⟩]
def fieldsOf_TOP_CCLK_STATUS : List FieldInfo := [⟨0, 16, .ro, 2250, .ps, false⟩, ⟨16, 16, .ro, 2250, .ps, false⟩,
      ⟨32, 16, .ro, 2250, .ps, false⟩, ⟨48, 16, .ro, 2250, .ps, false⟩]
def fieldsOf_TOP_CORE_MAP : List FieldInfo := [⟨0, 7, .ro, 0, .ps, false⟩, ⟨8, 2, .ro, 0, .ps, false⟩,
      ⟨10, 1, .ro, 0, .ps, false⟩]
def fieldsOf_TOP_GROUP_LO : List FieldInfo := [⟨0, 64, .rw, 0, .ps, false⟩]
def fieldsOf_TOP_GROUP_HI : List FieldInfo := [⟨0, 32, .rw, 0, .ps, false⟩, ⟨32, 1, .ro, 0, .ps, false⟩,
      ⟨33, 1, .w1c, 0, .ps, false⟩]
def fieldsOf_TOP_TCOUNT : List FieldInfo := [⟨0, 40, .ro, 0, .ps, true⟩, ⟨40, 1, .ro, 0, .ps, false⟩]
def fieldsOf_TOP_SCALE_STATUS : List FieldInfo := [⟨0, 32, .rc, 0, .psd, true⟩, ⟨32, 16, .rc, 0, .psd, true⟩,
      ⟨48, 16, .rc, 0, .psd, true⟩]
def fieldsOf_TOP_CHECK_REGION : List FieldInfo := [⟨0, 24, .rw, 0, .ps, false⟩, ⟨24, 25, .rw, 0, .ps, false⟩]
def fieldsOf_TOP_SIEVE_STATUS : List FieldInfo := [⟨0, 32, .rc, 0, .psd, true⟩, ⟨32, 12, .rc, 0, .psd, true⟩,
      ⟨44, 8, .rc, 0, .psd, true⟩, ⟨52, 6, .rc, 0, .psd, true⟩, ⟨58, 6, .rc, 0, .psd, true⟩]
def fieldsOf_TOP_KAT_CTL : List FieldInfo := [⟨0, 1, .rw, 1, .ps, false⟩, ⟨1, 16, .rw, 100, .ps, false⟩]
def fieldsOf_TOP_KAT_SUITE : List FieldInfo := [⟨0, 48, .ro, 0, .ps, false⟩, ⟨48, 16, .ro, 0, .ps, false⟩]
def fieldsOf_TOP_KAT_STATUS : List FieldInfo := [⟨0, 7, .ro, 0, .psd, false⟩, ⟨7, 1, .ro, 0, .psd, false⟩,
      ⟨8, 32, .rc, 0, .psd, true⟩, ⟨40, 12, .rc, 0, .psd, true⟩, ⟨52, 12, .rc, 0, .psd, true⟩]
def fieldsOf_TOP_KAT_HELD_LO : List FieldInfo := [⟨0, 64, .w1c, 0, .ps, false⟩]
def fieldsOf_TOP_KAT_HELD_HI : List FieldInfo := [⟨0, 32, .w1c, 0, .ps, false⟩]
def fieldsOf_TOP_LAG_CTL : List FieldInfo := [⟨0, 1, .rw, 1, .ps, false⟩, ⟨1, 7, .rw, 90, .ps, false⟩,
      ⟨8, 14, .rw, 1000, .ps, false⟩, ⟨22, 4, .rw, 1, .ps, false⟩, ⟨26, 10, .ro, 0, .psd, true⟩]
def fieldsOf_TOP_LAG_LO : List FieldInfo := [⟨0, 64, .ro, 0, .psd, false⟩]
def fieldsOf_TOP_LAG_HI : List FieldInfo := [⟨0, 32, .ro, 0, .psd, false⟩]
def fieldsOf_TOP_LANTERN : List FieldInfo := [⟨0, 15, .wo, 0, .none, false⟩, ⟨15, 1, .wo, 0, .none, false⟩,
      ⟨16, 1, .wo, 0, .none, false⟩, ⟨17, 15, .ro, 0, .psd, false⟩, ⟨32, 1, .ro, 1, .psd, false⟩,
      ⟨33, 1, .w1c, 0, .psd, false⟩, ⟨34, 16, .rc, 0, .psd, true⟩]
def fieldsOf_TOP_RETIRE_CMD : List FieldInfo := [⟨0, 7, .wo, 0, .none, false⟩, ⟨7, 1, .wo, 0, .none, false⟩]
def fieldsOf_TOP_RETIRE_STATUS : List FieldInfo := [⟨0, 1, .ro, 0, .ps, false⟩, ⟨1, 2, .ro, 0, .ps, false⟩,
      ⟨3, 1, .w1c, 0, .ps, false⟩]
def fieldsOf_CORE_CP_STATUS : List FieldInfo := [⟨0, 2, .ro, 0, .all, false⟩, ⟨2, 4, .ro, 0, .all, false⟩,
      ⟨6, 40, .ro, 0, .all, false⟩]
def fieldsOf_CORE_CP_FAULT : List FieldInfo := [⟨0, 1, .w1c, 0, .all, false⟩, ⟨1, 2, .ro, 0, .all, false⟩,
      ⟨3, 3, .ro, 0, .all, false⟩, ⟨6, 3, .ro, 0, .all, false⟩, ⟨9, 2, .ro, 0, .all, false⟩, ⟨11, 25, .ro, 0, .all, false⟩]
def fieldsOf_CORE_CP_FAULT_DESC : List FieldInfo := [⟨0, 48, .ro, 0, .all, false⟩]
def fieldsOf_CORE_CP_INDICES : List FieldInfo := [⟨0, 40, .rc, 0, .all, true⟩]
def fieldsOf_MTX_SLOT_STATE : List FieldInfo := [⟨0, 2, .ro, 0, .all, false⟩, ⟨2, 1, .ro, 0, .all, false⟩,
      ⟨3, 1, .ro, 0, .all, false⟩, ⟨4, 4, .ro, 0, .all, false⟩, ⟨8, 4, .ro, 0, .all, false⟩, ⟨12, 4, .ro, 0, .all, false⟩,
      ⟨16, 1, .ro, 0, .all, false⟩, ⟨17, 2, .ro, 0, .all, false⟩, ⟨19, 2, .ro, 0, .all, false⟩]
def fieldsOf_MTX_LANE_STATE : List FieldInfo := [⟨0, 48, .ro, 0, .all, false⟩]
def fieldsOf_MTX_ACTIVE : List FieldInfo := [⟨0, 48, .rc, 0, .all, true⟩]
def fieldsOf_MTX_STALL : List FieldInfo := [⟨0, 48, .rc, 0, .all, true⟩]
def fieldsOf_MTX_DECANT : List FieldInfo := [⟨0, 32, .rc, 0, .all, true⟩, ⟨32, 16, .rc, 0, .all, true⟩]
def fieldsOf_MTX_ECC : List FieldInfo := [⟨0, 32, .rc, 0, .all, true⟩, ⟨32, 1, .w1c, 0, .all, false⟩,
      ⟨33, 2, .ro, 0, .all, false⟩]
def fieldsOf_STR_STATUS : List FieldInfo := [⟨0, 10, .ro, 0, .all, true⟩, ⟨10, 4, .ro, 0, .all, false⟩,
      ⟨14, 4, .ro, 0, .all, false⟩]
def fieldsOf_STR_CTL : List FieldInfo := [⟨0, 10, .rw, 512, .all, false⟩, ⟨10, 10, .rw, 128, .all, false⟩]
def fieldsOf_STR_BYTES_RD : List FieldInfo := [⟨0, 56, .rc, 0, .all, true⟩]
def fieldsOf_STR_BYTES_WR : List FieldInfo := [⟨0, 56, .rc, 0, .all, true⟩]
def fieldsOf_STR_POISON_FIRST : List FieldInfo := [⟨0, 1, .w1c, 0, .all, false⟩, ⟨1, 6, .ro, 0, .all, false⟩,
      ⟨7, 2, .ro, 0, .all, false⟩]
def fieldsOf_STR_POISON_ADDR : List FieldInfo := [⟨0, 64, .ro, 0, .all, false⟩]
def fieldsOf_STR_ERR_COUNT : List FieldInfo := [⟨0, 16, .rc, 0, .all, true⟩, ⟨16, 16, .rc, 0, .all, true⟩,
      ⟨32, 16, .rc, 0, .all, true⟩, ⟨48, 16, .rc, 0, .all, true⟩]
def fieldsOf_VEC_STATUS : List FieldInfo := [⟨0, 2, .ro, 0, .all, false⟩, ⟨2, 8, .ro, 0, .all, false⟩,
      ⟨10, 40, .ro, 0, .all, false⟩]
def fieldsOf_VEC_CYCLES : List FieldInfo := [⟨0, 48, .rc, 0, .all, true⟩]
def fieldsOf_CORE_FMT_STICKY : List FieldInfo := [⟨0, 1, .w1c, 0, .all, false⟩, ⟨1, 1, .w1c, 0, .all, false⟩,
      ⟨2, 1, .w1c, 0, .all, false⟩, ⟨3, 1, .w1c, 0, .all, false⟩, ⟨4, 1, .w1c, 0, .all, false⟩, ⟨5, 1, .w1c, 0, .all, false⟩,
      ⟨6, 1, .w1c, 0, .all, false⟩, ⟨7, 1, .w1c, 0, .all, false⟩, ⟨8, 1, .w1c, 0, .all, false⟩]
def fieldsOf_ACC_STICKY : List FieldInfo := [⟨0, 1, .w1c, 0, .all, false⟩, ⟨1, 1, .w1c, 0, .all, false⟩,
      ⟨2, 1, .w1c, 0, .all, false⟩, ⟨3, 1, .w1c, 0, .all, false⟩, ⟨4, 1, .w1c, 0, .all, false⟩, ⟨5, 1, .w1c, 0, .all, false⟩,
      ⟨6, 1, .w1c, 0, .all, false⟩]
def fieldsOf_VEC_STICKY : List FieldInfo := [⟨0, 1, .w1c, 0, .all, false⟩, ⟨1, 1, .w1c, 0, .all, false⟩,
      ⟨2, 1, .w1c, 0, .all, false⟩, ⟨3, 1, .w1c, 0, .all, false⟩]
def fieldsOf_QM_QDESC_W0 : List FieldInfo := [⟨0, 1, .rw, 0, .psd, false⟩, ⟨1, 2, .ro, 0, .psd, false⟩,
      ⟨3, 2, .rw, 0, .psd, false⟩, ⟨5, 5, .rw, 4, .psd, false⟩, ⟨10, 1, .w1c, 0, .psd, false⟩, ⟨11, 1, .w1c, 0, .psd, false⟩,
      ⟨12, 1, .ro, 0, .psd, false⟩, ⟨16, 16, .rw, 0, .psd, false⟩, ⟨32, 4, .rw, 0, .psd, false⟩,
      ⟨36, 7, .rw, 0, .psd, false⟩, ⟨47, 1, .rw, 0, .psd, false⟩, ⟨48, 16, .rw, 0, .psd, false⟩]
def fieldsOf_QM_QDESC_W1 : List FieldInfo := [⟨0, 48, .rw, 0, .psd, false⟩]
def fieldsOf_QM_QDESC_W2 : List FieldInfo := [⟨0, 32, .rw, 0, .psd, false⟩, ⟨32, 32, .rw, 0, .psd, false⟩]
def fieldsOf_QM_QDESC_W3 : List FieldInfo := [⟨0, 48, .rw, 0, .psd, false⟩]
def fieldsOf_QM_QDESC_W4 : List FieldInfo := [⟨0, 48, .ro, 0xffffffffffff, .psd, false⟩]
def fieldsOf_QM_QDESC_W5 : List FieldInfo := [⟨0, 1, .rw, 0, .psd, false⟩, ⟨1, 16, .rw, 0, .psd, false⟩]
def fieldsOf_QM_QDESC_W6 : List FieldInfo := [⟨0, 64, .rw, 0, .psd, false⟩]
def fieldsOf_QM_QDESC_W7 : List FieldInfo := [⟨0, 48, .rc, 0, .psd, true⟩, ⟨48, 16, .rc, 0, .psd, true⟩]
def fieldsOf_QM_CTL : List FieldInfo := [⟨0, 24, .rw, 10000, .psd, false⟩, ⟨24, 16, .rw, 0, .psd, false⟩,
      ⟨40, 1, .rw, 0, .psd, false⟩]
def fieldsOf_QM_OWNER : List FieldInfo := [⟨0, 32, .ro, 0, .psd, false⟩, ⟨32, 1, .ro, 0, .psd, false⟩,
      ⟨33, 1, .wo, 0, .none, false⟩, ⟨34, 1, .wo, 0, .none, false⟩, ⟨35, 1, .ro, 0, .psd, false⟩]
def fieldsOf_QM_MB_ACTIVE : List FieldInfo := [⟨0, 64, .ro, 0, .psd, false⟩]
def fieldsOf_QM_STATS : List FieldInfo := [⟨0, 16, .rc, 0, .psd, true⟩, ⟨16, 16, .rc, 0, .psd, true⟩,
      ⟨32, 16, .rc, 0, .psd, true⟩, ⟨48, 8, .rc, 0, .psd, true⟩, ⟨56, 8, .rc, 0, .psd, true⟩]
def fieldsOf_QM_CORE_DIS_LO : List FieldInfo := [⟨0, 64, .rw, 0, .psd, false⟩]
def fieldsOf_QM_CORE_DIS_HI : List FieldInfo := [⟨0, 32, .rw, 0, .psd, false⟩]
def fieldsOf_QM_PORT_DIS : List FieldInfo := [⟨0, 8, .rw, 0, .psd, false⟩]
def fieldsOf_QM_QUIESCE : List FieldInfo := [⟨0, 1, .ro, 0, .psd, false⟩, ⟨1, 8, .ro, 0, .psd, false⟩]
def fieldsOf_MEM_DDR_SIZE : List FieldInfo := [⟨0, 13, .ro, 0, .ps, false⟩, ⟨13, 5, .ro, 0, .ps, false⟩,
      ⟨18, 9, .ro, 0, .ps, false⟩, ⟨27, 2, .ro, 0, .ps, false⟩]
def fieldsOf_MEM_PLACE : List FieldInfo := [⟨0, 9, .rw, 0, .ps, false⟩, ⟨9, 9, .ro, 0, .ps, false⟩,
      ⟨18, 1, .ro, 0, .ps, false⟩]
def fieldsOf_MEM_SCRUB_CTL : List FieldInfo := [⟨0, 16, .rw, 24, .ps, false⟩, ⟨16, 1, .rw, 1, .ps, false⟩]
def fieldsOf_MEM_DECODE_ERR : List FieldInfo := [⟨0, 32, .rc, 0, .psd, true⟩]
def fieldsOf_MEM_STACK : List FieldInfo := [⟨0, 1, .ro, 0, .psb, false⟩, ⟨1, 1, .ro, 0, .psb, false⟩,
      ⟨2, 5, .ro, 0, .psb, false⟩, ⟨7, 6, .ro, 0, .ps, true⟩, ⟨13, 10, .ro, 0, .ps, true⟩]
def fieldsOf_MEM_STACK_ECC : List FieldInfo := [⟨0, 32, .rc, 0, .psbd, true⟩, ⟨32, 16, .rc, 0, .psbd, true⟩,
      ⟨48, 16, .rc, 0, .psbd, true⟩]
def fieldsOf_MEM_DDR_CH : List FieldInfo := [⟨0, 2, .ro, 0, .psb, false⟩, ⟨2, 1, .ro, 0, .psb, false⟩,
      ⟨3, 10, .ro, 0, .ps, true⟩]
def fieldsOf_MEM_DDR_ECC : List FieldInfo := [⟨0, 32, .rc, 0, .psbd, true⟩, ⟨32, 16, .rc, 0, .psbd, true⟩,
      ⟨48, 16, .rc, 0, .psbd, true⟩]
def fieldsOf_MEM_REPAIR_CMD : List FieldInfo := [⟨0, 3, .wo, 0, .none, false⟩, ⟨3, 5, .wo, 0, .none, false⟩,
      ⟨8, 2, .wo, 0, .none, false⟩, ⟨10, 4, .wo, 0, .none, false⟩, ⟨14, 18, .wo, 0, .none, false⟩,
      ⟨32, 7, .wo, 0, .none, false⟩, ⟨39, 1, .wo, 0, .none, false⟩]
def fieldsOf_MEM_REPAIR_STATUS : List FieldInfo := [⟨0, 1, .ro, 0, .psb, false⟩, ⟨1, 2, .ro, 0, .psb, false⟩,
      ⟨3, 1, .w1c, 0, .psb, false⟩, ⟨4, 16, .ro, 0, .ps, false⟩]
def fieldsOf_MEM_ATOM : List FieldInfo := [⟨0, 48, .rc, 0, .psd, true⟩, ⟨48, 7, .ro, 0, .psd, true⟩]
def fieldsOf_FAB_ID : List FieldInfo := [⟨0, 16, .ro, 0, .ps, false⟩, ⟨16, 1, .ro, 0, .ps, false⟩,
      ⟨17, 2, .ro, 0, .ps, false⟩, ⟨19, 16, .ro, 0, .psd, false⟩]
def fieldsOf_FAB_CTL : List FieldInfo := [⟨0, 5, .rw, 31, .psd, false⟩, ⟨5, 16, .rw, 2048, .psd, false⟩,
      ⟨21, 11, .rw, 256, .psd, false⟩]
def fieldsOf_FAB_EPOCH : List FieldInfo := [⟨0, 1, .ro, 0, .psd, false⟩, ⟨1, 2, .ro, 0, .psd, false⟩,
      ⟨3, 2, .ro, 0, .psd, false⟩, ⟨5, 6, .ro, 0, .psd, false⟩, ⟨11, 2, .wo, 0, .none, false⟩, ⟨13, 1, .wo, 0, .none, false⟩,
      ⟨14, 1, .wo, 0, .none, false⟩, ⟨15, 1, .ro, 1, .psd, false⟩, ⟨16, 1, .w1c, 0, .psd, false⟩]
def fieldsOf_FAB_BANK_CRC : List FieldInfo := [⟨0, 32, .ro, 0, .psd, false⟩, ⟨32, 32, .ro, 0, .psd, false⟩]
def fieldsOf_FAB_E2E : List FieldInfo := [⟨0, 5, .rw, 16, .psd, false⟩, ⟨5, 5, .rw, 1, .psd, false⟩,
      ⟨10, 8, .rw, 8, .psd, false⟩, ⟨18, 12, .rw, 64, .psd, false⟩, ⟨30, 4, .rw, 7, .psd, false⟩, ⟨34, 4, .rw, 2, .psd, false⟩]
def fieldsOf_FAB_CC : List FieldInfo := [⟨0, 10, .rw, 10, .psd, false⟩, ⟨10, 8, .rw, 64, .psd, false⟩,
      ⟨18, 6, .rw, 4, .psd, false⟩, ⟨24, 6, .rw, 8, .psd, false⟩, ⟨30, 4, .rw, 5, .psd, false⟩,
      ⟨34, 10, .rw, 5, .psd, false⟩, ⟨44, 1, .rw, 1, .psd, false⟩]
def fieldsOf_FAB_SPIRE : List FieldInfo := [⟨0, 16, .rw, 0, .ps, false⟩, ⟨16, 16, .rw, 0, .ps, false⟩,
      ⟨32, 10, .rw, 100, .ps, false⟩, ⟨42, 4, .rw, 10, .ps, false⟩, ⟨46, 1, .ro, 0, .psd, false⟩]
def fieldsOf_FAB_DROP : List FieldInfo := [⟨0, 16, .rc, 0, .psd, true⟩, ⟨16, 16, .rc, 0, .psd, true⟩,
      ⟨32, 16, .rc, 0, .psd, true⟩, ⟨48, 16, .rc, 0, .psd, true⟩]
def fieldsOf_FAB_RX : List FieldInfo := [⟨0, 16, .rc, 0, .psd, true⟩, ⟨16, 16, .rc, 0, .psd, true⟩,
      ⟨32, 16, .rc, 0, .psd, true⟩, ⟨48, 16, .rc, 0, .psd, true⟩]
def fieldsOf_FAB_TC_WEIGHT : List FieldInfo := [⟨0, 48, .rw, 0x10101010101, .psd, false⟩]
def fieldsOf_FAB_LINK_STATUS : List FieldInfo := [⟨0, 3, .ro, 0, .psbd, false⟩, ⟨3, 2, .ro, 0, .psbd, false⟩,
      ⟨5, 4, .ro, 0, .psbd, false⟩, ⟨9, 16, .ro, 0, .psbd, false⟩, ⟨25, 6, .ro, 0, .psbd, false⟩,
      ⟨31, 1, .ro, 0, .psbd, false⟩]
def fieldsOf_FAB_LINK_CTL : List FieldInfo := [⟨0, 1, .rw, 1, .psd, false⟩, ⟨1, 2, .rw, 0, .psd, false⟩,
      ⟨3, 1, .wo, 0, .none, false⟩]
def fieldsOf_FAB_LINK_ERR : List FieldInfo := [⟨0, 16, .rc, 0, .psbd, true⟩, ⟨16, 16, .rc, 0, .psbd, true⟩,
      ⟨32, 8, .rc, 0, .psbd, true⟩, ⟨40, 8, .rc, 0, .psbd, true⟩]
def fieldsOf_FAB_PORT_WEIGHT : List FieldInfo := [⟨0, 32, .rw, 0, .psd, false⟩]
def fieldsOf_FAB_CMAP : List FieldInfo := [⟨0, 16, .ro, 0, .psbd, true⟩, ⟨16, 16, .rc, 0, .psbd, true⟩,
      ⟨32, 32, .rc, 0, .psbd, true⟩]
def fieldsOf_FAB_ROUTE_GROUP : List FieldInfo := [⟨0, 40, .rw, 0, .psd, false⟩, ⟨40, 6, .rw, 63, .psd, false⟩]
def fieldsOf_FAB_ROUTE_MEMBER : List FieldInfo := [⟨0, 40, .rw, 0, .psd, false⟩, ⟨40, 6, .rw, 63, .psd, false⟩]
def fieldsOf_FAB_CONN_W0 : List FieldInfo := [⟨0, 1, .rw, 0, .psd, false⟩, ⟨1, 2, .ro, 0, .psd, false⟩,
      ⟨3, 3, .rw, 0, .psd, false⟩, ⟨6, 1, .rw, 0, .psd, false⟩, ⟨7, 4, .rw, 0, .psd, false⟩, ⟨11, 16, .rw, 0, .psd, false⟩,
      ⟨27, 12, .rw, 0, .psd, false⟩]
def fieldsOf_FAB_CONN_W1 : List FieldInfo := [⟨0, 32, .ro, 0, .psd, false⟩, ⟨32, 32, .ro, 0, .psd, false⟩]
def fieldsOf_FAB_CONN_W2 : List FieldInfo := [⟨0, 10, .ro, 1000, .psd, false⟩, ⟨10, 9, .ro, 0, .psd, true⟩,
      ⟨19, 29, .rc, 0, .psd, true⟩]
def fieldsOf_FAB_CONN_W3 : List FieldInfo := [⟨0, 24, .rc, 0, .psd, true⟩, ⟨24, 24, .rc, 0, .psd, true⟩,
      ⟨48, 2, .ro, 0, .psd, false⟩]
def fieldsOf_COL_CTL : List FieldInfo := [⟨0, 4, .rw, 4, .psbd, false⟩, ⟨4, 10, .rw, 100, .psbd, false⟩]
def fieldsOf_COL_STATUS : List FieldInfo := [⟨0, 4, .ro, 0, .psbd, false⟩, ⟨4, 4, .ro, 0, .psbd, false⟩]
def fieldsOf_COL_COUNT : List FieldInfo := [⟨0, 32, .rc, 0, .psbd, true⟩, ⟨32, 32, .rc, 0, .psbd, true⟩]
def fieldsOf_COL_ERR : List FieldInfo := [⟨0, 16, .rc, 0, .psbd, true⟩, ⟨16, 16, .rc, 0, .psbd, true⟩,
      ⟨32, 16, .rc, 0, .psbd, true⟩]
def fieldsOf_COL_LAYOUT : List FieldInfo := [⟨0, 16, .ro, 0, .psd, false⟩, ⟨16, 32, .ro, 0, .psd, false⟩,
      ⟨48, 1, .ro, 0, .psd, false⟩]
def fieldsOf_COL_STAGE_ARENA : List FieldInfo := [⟨0, 36, .rw, 0, .psd, false⟩, ⟨36, 28, .rw, 0, .psd, false⟩]
def fieldsOf_COL_STAGE_HWM : List FieldInfo := [⟨0, 36, .rc, 0, .psd, true⟩, ⟨36, 16, .rc, 0, .psd, true⟩]
def fieldsOf_ETH_CTL : List FieldInfo := [⟨0, 1, .rw, 1, .psd, false⟩, ⟨1, 1, .rw, 1, .psd, false⟩,
      ⟨2, 4, .rw, 15, .psd, false⟩, ⟨6, 1, .rw, 0, .psd, false⟩, ⟨7, 12, .rw, 0, .psd, false⟩, ⟨19, 3, .rw, 3, .psd, false⟩,
      ⟨22, 6, .rw, 26, .psd, false⟩, ⟨28, 1, .rw, 0, .psd, false⟩, ⟨29, 3, .rw, 3, .psd, false⟩,
      ⟨32, 3, .rw, 5, .psd, false⟩, ⟨35, 1, .w1c, 0, .psd, false⟩]
def fieldsOf_ETH_STATUS : List FieldInfo := [⟨0, 2, .ro, 0, .psbd, false⟩, ⟨2, 2, .ro, 0, .psbd, false⟩,
      ⟨4, 1, .ro, 0, .none, false⟩, ⟨5, 10, .ro, 0, .psbd, true⟩, ⟨15, 1, .ro, 0, .psbd, false⟩]
def fieldsOf_ETH_MAC : List FieldInfo := [⟨0, 48, .ro, 0, .ps, false⟩, ⟨48, 1, .ro, 0, .ps, false⟩]
def fieldsOf_ETH_IP4 : List FieldInfo := [⟨0, 32, .rw, 0, .ps, false⟩]
def fieldsOf_ETH_IP6_HI : List FieldInfo := [⟨0, 64, .rw, 0, .ps, false⟩]
def fieldsOf_ETH_IP6_LO : List FieldInfo := [⟨0, 64, .rw, 0, .ps, false⟩]
def fieldsOf_ETH_HS : List FieldInfo := [⟨0, 16, .rw, 47920, .psd, false⟩, ⟨16, 10, .rw, 64, .psd, false⟩]
def fieldsOf_ETH_CC : List FieldInfo := [⟨0, 45, .rw, 0x10154811000a, .psd, false⟩, ⟨45, 4, .rw, 2, .psd, false⟩]
def fieldsOf_ETH_DROP : List FieldInfo := [⟨0, 16, .rc, 0, .psbd, true⟩, ⟨16, 16, .rc, 0, .psbd, true⟩,
      ⟨32, 16, .rc, 0, .psbd, true⟩, ⟨48, 16, .rc, 0, .psbd, true⟩]
def fieldsOf_ETH_SEAL : List FieldInfo := [⟨0, 16, .rc, 0, .psbd, true⟩, ⟨16, 16, .rc, 0, .psbd, true⟩,
      ⟨32, 16, .rc, 0, .psbd, true⟩, ⟨48, 16, .rc, 0, .psbd, true⟩]
def fieldsOf_ETH_ROCE : List FieldInfo := [⟨0, 16, .rc, 0, .psbd, true⟩, ⟨16, 16, .rc, 0, .psbd, true⟩,
      ⟨32, 16, .rc, 0, .psbd, true⟩, ⟨48, 16, .rc, 0, .psbd, true⟩]
def fieldsOf_ETH_SESS_W0 : List FieldInfo := [⟨0, 2, .ro, 0, .psbd, false⟩, ⟨2, 32, .ro, 0, .psbd, false⟩,
      ⟨34, 1, .ro, 0, .psbd, false⟩, ⟨35, 1, .ro, 0, .psbd, false⟩, ⟨36, 1, .wo, 0, .none, false⟩]
def fieldsOf_ETH_SESS_W1 : List FieldInfo := [⟨0, 24, .ro, 0, .psbd, false⟩, ⟨24, 3, .ro, 0, .psbd, false⟩]
def fieldsOf_ETH_SESS_W2 : List FieldInfo := [⟨0, 48, .ro, 0, .psbd, false⟩]
def fieldsOf_ETH_SESS_W3 : List FieldInfo := [⟨0, 10, .ro, 0, .psbd, false⟩, ⟨10, 32, .rc, 0, .psbd, true⟩]
def fieldsOf_MGT_STATUS : List FieldInfo := [⟨0, 4, .ro, 1, .ps, false⟩, ⟨4, 1, .ro, 0, .ps, false⟩,
      ⟨5, 1, .ro, 0, .ps, false⟩, ⟨6, 1, .ro, 0, .ps, false⟩, ⟨7, 3, .ro, 0, .ps, false⟩, ⟨10, 1, .ro, 0, .ps, false⟩]
def fieldsOf_CFG_STATUS : List FieldInfo := [⟨0, 1, .ro, 0, .ps, false⟩, ⟨1, 1, .ro, 0, .ps, false⟩,
      ⟨2, 1, .ro, 0, .ps, false⟩, ⟨3, 1, .ro, 0, .ps, false⟩, ⟨4, 1, .ro, 0, .ps, false⟩, ⟨5, 1, .ro, 0, .ps, false⟩,
      ⟨32, 32, .ro, 0, .ps, false⟩]
def fieldsOf_MGT_POLICY : List FieldInfo := [⟨0, 2, .rw, 2, .ps, false⟩, ⟨2, 2, .rw, 2, .ps, false⟩,
      ⟨4, 2, .rw, 2, .ps, false⟩, ⟨6, 2, .rw, 1, .ps, false⟩, ⟨8, 2, .rw, 1, .ps, false⟩, ⟨10, 2, .rw, 1, .ps, false⟩,
      ⟨12, 1, .rw, 0, .ps, false⟩]
def fieldsOf_MGT_PWR : List FieldInfo := [⟨0, 13, .rw, 4500, .ps, false⟩, ⟨13, 13, .ro, 0, .psd, true⟩]
def fieldsOf_MGT_THERM : List FieldInfo := [⟨0, 7, .rw, 95, .ps, false⟩, ⟨7, 8, .ro, 0, .psd, true⟩]
def fieldsOf_MGT_STORE_CMD : List FieldInfo := [⟨0, 48, .wo, 0, .none, false⟩, ⟨48, 1, .wo, 0, .none, false⟩,
      ⟨49, 1, .wo, 0, .none, false⟩, ⟨50, 1, .wo, 0, .none, false⟩]
def fieldsOf_MGT_STORE_STATUS : List FieldInfo := [⟨0, 1, .ro, 0, .ps, false⟩, ⟨1, 1, .ro, 0, .ps, false⟩,
      ⟨2, 1, .w1c, 0, .ps, false⟩, ⟨3, 4, .ro, 0, .ps, false⟩, ⟨7, 16, .ro, 0, .psd, true⟩]
def fieldsOf_MGT_UPD_CMD : List FieldInfo := [⟨0, 48, .wo, 0, .none, false⟩, ⟨48, 3, .wo, 0, .none, false⟩,
      ⟨51, 2, .wo, 0, .none, false⟩, ⟨53, 2, .wo, 0, .none, false⟩, ⟨55, 1, .wo, 0, .none, false⟩]
def fieldsOf_MGT_UPD_STATUS : List FieldInfo := [⟨0, 1, .ro, 0, .ps, false⟩, ⟨1, 1, .w1c, 0, .ps, false⟩,
      ⟨2, 4, .ro, 0, .ps, false⟩]
def fieldsOf_MGT_ERR_LOG : List FieldInfo := [⟨0, 32, .ro, 0, .ps, false⟩, ⟨32, 32, .rw, 0, .ps, false⟩]
def fieldsOf_MGT_ERR_CTL : List FieldInfo := [⟨0, 16, .rc, 0, .ps, true⟩, ⟨16, 8, .ro, 0, .ps, false⟩,
      ⟨24, 16, .rc, 0, .ps, true⟩, ⟨40, 4, .rw, 4, .ps, false⟩, ⟨44, 20, .rc, 0, .ps, true⟩]
def fieldsOf_MGT_HOSTKEY_W0 : List FieldInfo := [⟨0, 1, .rw, 0, .ps, false⟩, ⟨32, 32, .rw, 0, .ps, false⟩]
def fieldsOf_MGT_HOSTKEY_KEY : List FieldInfo := [⟨0, 64, .rw, 0, .ps, false⟩]
def fieldsOf_MGT_HOSTKEY_RSVD : List FieldInfo := []
def fieldsOf_MGT_ERR_REC : List FieldInfo := [⟨0, 64, .ro, 0, .ps, false⟩]
def fieldsOf_RST_CAUSE : List FieldInfo := [⟨0, 1, .w1c, 1, .p, false⟩, ⟨1, 1, .w1c, 0, .p, false⟩,
      ⟨2, 1, .w1c, 0, .p, false⟩, ⟨3, 1, .w1c, 0, .p, false⟩, ⟨4, 1, .w1c, 0, .p, false⟩, ⟨5, 1, .w1c, 0, .p, false⟩,
      ⟨6, 1, .w1c, 0, .p, false⟩, ⟨7, 1, .w1c, 0, .p, false⟩, ⟨8, 2, .ro, 0, .p, false⟩, ⟨10, 16, .ro, 0, .p, true⟩]
def fieldsOf_RST_CTL : List FieldInfo := [⟨0, 8, .wo, 0, .none, false⟩, ⟨8, 1, .wo, 0, .none, false⟩,
      ⟨9, 1, .wo, 0, .none, false⟩, ⟨16, 1, .ro, 0, .ps, false⟩]
def fieldsOf_RST_BLOCK_CMD : List FieldInfo := [⟨0, 16, .wo, 0, .none, false⟩, ⟨16, 1, .wo, 0, .none, false⟩]
def fieldsOf_RST_BLOCK_STATUS : List FieldInfo := [⟨0, 1, .ro, 0, .ps, false⟩, ⟨1, 2, .ro, 0, .ps, false⟩,
      ⟨3, 1, .w1c, 0, .ps, false⟩, ⟨4, 16, .ro, 0, .ps, false⟩]
def fieldsOf_RST_WDOG : List FieldInfo := [⟨0, 1, .rw, 1, .ps, false⟩, ⟨1, 16, .rw, 1000, .ps, false⟩,
      ⟨17, 1, .wo, 0, .none, false⟩, ⟨18, 8, .rc, 0, .ps, true⟩]
def fieldsOf_PWR_CTL : List FieldInfo := [⟨0, 2, .wo, 0, .none, false⟩, ⟨2, 1, .rw, 1, .ps, false⟩,
      ⟨3, 16, .rw, 100, .ps, false⟩, ⟨19, 1, .rw, 1, .ps, false⟩]
def fieldsOf_PWR_STATUS : List FieldInfo := [⟨0, 3, .ro, 0, .ps, false⟩, ⟨3, 1, .w1c, 0, .ps, false⟩,
      ⟨4, 2, .ro, 0, .ps, false⟩, ⟨6, 2, .ro, 0, .ps, false⟩, ⟨8, 16, .rc, 0, .ps, true⟩, ⟨24, 16, .rc, 0, .ps, true⟩]
def fieldsOf_PWR_RETAIN : List FieldInfo := [⟨0, 16, .rw, 0, .ps, false⟩]
def fieldsOf_CLK_STATUS : List FieldInfo := [⟨0, 1, .ro, 0, .ps, false⟩, ⟨1, 4, .ro, 0, .ps, false⟩,
      ⟨5, 8, .ro, 0, .ps, false⟩, ⟨13, 1, .ro, 0, .ps, false⟩, ⟨14, 16, .rc, 0, .ps, true⟩]
def fieldsOf_DOME_WAKE : List FieldInfo := [⟨0, 1, .rw, 1, .ps, false⟩, ⟨1, 1, .rw, 1, .ps, false⟩,
      ⟨2, 1, .rw, 0, .ps, false⟩, ⟨3, 1, .ro, 0, .ps, false⟩, ⟨4, 32, .rw, 3600, .ps, false⟩]
def fieldsOf_DOME_PADS : List FieldInfo := [⟨0, 1, .ro, 0, .ps, false⟩, ⟨1, 1, .wo, 0, .none, false⟩,
      ⟨2, 1, .w1c, 0, .ps, false⟩]
def fieldsOf_DOME_TIME : List FieldInfo := [⟨0, 48, .ro, 0, .p, true⟩]
/-- The fields of every word, reserved fields left out. A reset value "start-up" or "fuse" stands here as 0 and is written by
start-up; `resetField` adds the reset values that depend on the register's number. -/
def fieldsOf : RegName → List FieldInfo
  | .TOP_DEVICE_ID => fieldsOf_TOP_DEVICE_ID
  | .TOP_UNIT_COUNT => fieldsOf_TOP_UNIT_COUNT
  | .TOP_CCLK_STATUS => fieldsOf_TOP_CCLK_STATUS
  | .TOP_CORE_MAP => fieldsOf_TOP_CORE_MAP
  | .TOP_GROUP_LO => fieldsOf_TOP_GROUP_LO
  | .TOP_GROUP_HI => fieldsOf_TOP_GROUP_HI
  | .TOP_TCOUNT => fieldsOf_TOP_TCOUNT
  | .TOP_SCALE_STATUS => fieldsOf_TOP_SCALE_STATUS
  | .TOP_CHECK_REGION => fieldsOf_TOP_CHECK_REGION
  | .TOP_SIEVE_STATUS => fieldsOf_TOP_SIEVE_STATUS
  | .TOP_KAT_CTL => fieldsOf_TOP_KAT_CTL
  | .TOP_KAT_SUITE => fieldsOf_TOP_KAT_SUITE
  | .TOP_KAT_STATUS => fieldsOf_TOP_KAT_STATUS
  | .TOP_KAT_HELD_LO => fieldsOf_TOP_KAT_HELD_LO
  | .TOP_KAT_HELD_HI => fieldsOf_TOP_KAT_HELD_HI
  | .TOP_LAG_CTL => fieldsOf_TOP_LAG_CTL
  | .TOP_LAG_LO => fieldsOf_TOP_LAG_LO
  | .TOP_LAG_HI => fieldsOf_TOP_LAG_HI
  | .TOP_LANTERN => fieldsOf_TOP_LANTERN
  | .TOP_RETIRE_CMD => fieldsOf_TOP_RETIRE_CMD
  | .TOP_RETIRE_STATUS => fieldsOf_TOP_RETIRE_STATUS
  | .CORE_CP_STATUS => fieldsOf_CORE_CP_STATUS
  | .CORE_CP_FAULT => fieldsOf_CORE_CP_FAULT
  | .CORE_CP_FAULT_DESC => fieldsOf_CORE_CP_FAULT_DESC
  | .CORE_CP_INDICES => fieldsOf_CORE_CP_INDICES
  | .MTX_SLOT_STATE => fieldsOf_MTX_SLOT_STATE
  | .MTX_LANE_STATE => fieldsOf_MTX_LANE_STATE
  | .MTX_ACTIVE => fieldsOf_MTX_ACTIVE
  | .MTX_STALL => fieldsOf_MTX_STALL
  | .MTX_DECANT => fieldsOf_MTX_DECANT
  | .MTX_ECC => fieldsOf_MTX_ECC
  | .STR_STATUS => fieldsOf_STR_STATUS
  | .STR_CTL => fieldsOf_STR_CTL
  | .STR_BYTES_RD => fieldsOf_STR_BYTES_RD
  | .STR_BYTES_WR => fieldsOf_STR_BYTES_WR
  | .STR_POISON_FIRST => fieldsOf_STR_POISON_FIRST
  | .STR_POISON_ADDR => fieldsOf_STR_POISON_ADDR
  | .STR_ERR_COUNT => fieldsOf_STR_ERR_COUNT
  | .VEC_STATUS => fieldsOf_VEC_STATUS
  | .VEC_CYCLES => fieldsOf_VEC_CYCLES
  | .CORE_FMT_STICKY => fieldsOf_CORE_FMT_STICKY
  | .ACC_STICKY => fieldsOf_ACC_STICKY
  | .VEC_STICKY => fieldsOf_VEC_STICKY
  | .QM_QDESC_W0 => fieldsOf_QM_QDESC_W0
  | .QM_QDESC_W1 => fieldsOf_QM_QDESC_W1
  | .QM_QDESC_W2 => fieldsOf_QM_QDESC_W2
  | .QM_QDESC_W3 => fieldsOf_QM_QDESC_W3
  | .QM_QDESC_W4 => fieldsOf_QM_QDESC_W4
  | .QM_QDESC_W5 => fieldsOf_QM_QDESC_W5
  | .QM_QDESC_W6 => fieldsOf_QM_QDESC_W6
  | .QM_QDESC_W7 => fieldsOf_QM_QDESC_W7
  | .QM_CTL => fieldsOf_QM_CTL
  | .QM_OWNER => fieldsOf_QM_OWNER
  | .QM_MB_ACTIVE => fieldsOf_QM_MB_ACTIVE
  | .QM_STATS => fieldsOf_QM_STATS
  | .QM_CORE_DIS_LO => fieldsOf_QM_CORE_DIS_LO
  | .QM_CORE_DIS_HI => fieldsOf_QM_CORE_DIS_HI
  | .QM_PORT_DIS => fieldsOf_QM_PORT_DIS
  | .QM_QUIESCE => fieldsOf_QM_QUIESCE
  | .MEM_DDR_SIZE => fieldsOf_MEM_DDR_SIZE
  | .MEM_PLACE => fieldsOf_MEM_PLACE
  | .MEM_SCRUB_CTL => fieldsOf_MEM_SCRUB_CTL
  | .MEM_DECODE_ERR => fieldsOf_MEM_DECODE_ERR
  | .MEM_STACK => fieldsOf_MEM_STACK
  | .MEM_STACK_ECC => fieldsOf_MEM_STACK_ECC
  | .MEM_DDR_CH => fieldsOf_MEM_DDR_CH
  | .MEM_DDR_ECC => fieldsOf_MEM_DDR_ECC
  | .MEM_REPAIR_CMD => fieldsOf_MEM_REPAIR_CMD
  | .MEM_REPAIR_STATUS => fieldsOf_MEM_REPAIR_STATUS
  | .MEM_ATOM => fieldsOf_MEM_ATOM
  | .FAB_ID => fieldsOf_FAB_ID
  | .FAB_CTL => fieldsOf_FAB_CTL
  | .FAB_EPOCH => fieldsOf_FAB_EPOCH
  | .FAB_BANK_CRC => fieldsOf_FAB_BANK_CRC
  | .FAB_E2E => fieldsOf_FAB_E2E
  | .FAB_CC => fieldsOf_FAB_CC
  | .FAB_SPIRE => fieldsOf_FAB_SPIRE
  | .FAB_DROP => fieldsOf_FAB_DROP
  | .FAB_RX => fieldsOf_FAB_RX
  | .FAB_TC_WEIGHT => fieldsOf_FAB_TC_WEIGHT
  | .FAB_LINK_STATUS => fieldsOf_FAB_LINK_STATUS
  | .FAB_LINK_CTL => fieldsOf_FAB_LINK_CTL
  | .FAB_LINK_ERR => fieldsOf_FAB_LINK_ERR
  | .FAB_PORT_WEIGHT => fieldsOf_FAB_PORT_WEIGHT
  | .FAB_CMAP => fieldsOf_FAB_CMAP
  | .FAB_ROUTE_GROUP => fieldsOf_FAB_ROUTE_GROUP
  | .FAB_ROUTE_MEMBER => fieldsOf_FAB_ROUTE_MEMBER
  | .FAB_CONN_W0 => fieldsOf_FAB_CONN_W0
  | .FAB_CONN_W1 => fieldsOf_FAB_CONN_W1
  | .FAB_CONN_W2 => fieldsOf_FAB_CONN_W2
  | .FAB_CONN_W3 => fieldsOf_FAB_CONN_W3
  | .COL_CTL => fieldsOf_COL_CTL
  | .COL_STATUS => fieldsOf_COL_STATUS
  | .COL_COUNT => fieldsOf_COL_COUNT
  | .COL_ERR => fieldsOf_COL_ERR
  | .COL_LAYOUT => fieldsOf_COL_LAYOUT
  | .COL_STAGE_ARENA => fieldsOf_COL_STAGE_ARENA
  | .COL_STAGE_HWM => fieldsOf_COL_STAGE_HWM
  | .ETH_CTL => fieldsOf_ETH_CTL
  | .ETH_STATUS => fieldsOf_ETH_STATUS
  | .ETH_MAC => fieldsOf_ETH_MAC
  | .ETH_IP4 => fieldsOf_ETH_IP4
  | .ETH_IP6_HI => fieldsOf_ETH_IP6_HI
  | .ETH_IP6_LO => fieldsOf_ETH_IP6_LO
  | .ETH_HS => fieldsOf_ETH_HS
  | .ETH_CC => fieldsOf_ETH_CC
  | .ETH_DROP => fieldsOf_ETH_DROP
  | .ETH_SEAL => fieldsOf_ETH_SEAL
  | .ETH_ROCE => fieldsOf_ETH_ROCE
  | .ETH_SESS_W0 => fieldsOf_ETH_SESS_W0
  | .ETH_SESS_W1 => fieldsOf_ETH_SESS_W1
  | .ETH_SESS_W2 => fieldsOf_ETH_SESS_W2
  | .ETH_SESS_W3 => fieldsOf_ETH_SESS_W3
  | .MGT_STATUS => fieldsOf_MGT_STATUS
  | .CFG_STATUS => fieldsOf_CFG_STATUS
  | .MGT_POLICY => fieldsOf_MGT_POLICY
  | .MGT_PWR => fieldsOf_MGT_PWR
  | .MGT_THERM => fieldsOf_MGT_THERM
  | .MGT_STORE_CMD => fieldsOf_MGT_STORE_CMD
  | .MGT_STORE_STATUS => fieldsOf_MGT_STORE_STATUS
  | .MGT_UPD_CMD => fieldsOf_MGT_UPD_CMD
  | .MGT_UPD_STATUS => fieldsOf_MGT_UPD_STATUS
  | .MGT_ERR_LOG => fieldsOf_MGT_ERR_LOG
  | .MGT_ERR_CTL => fieldsOf_MGT_ERR_CTL
  | .MGT_HOSTKEY_W0 => fieldsOf_MGT_HOSTKEY_W0
  | .MGT_HOSTKEY_KEY => fieldsOf_MGT_HOSTKEY_KEY
  | .MGT_HOSTKEY_RSVD => fieldsOf_MGT_HOSTKEY_RSVD
  | .MGT_ERR_REC => fieldsOf_MGT_ERR_REC
  | .RST_CAUSE => fieldsOf_RST_CAUSE
  | .RST_CTL => fieldsOf_RST_CTL
  | .RST_BLOCK_CMD => fieldsOf_RST_BLOCK_CMD
  | .RST_BLOCK_STATUS => fieldsOf_RST_BLOCK_STATUS
  | .RST_WDOG => fieldsOf_RST_WDOG
  | .PWR_CTL => fieldsOf_PWR_CTL
  | .PWR_STATUS => fieldsOf_PWR_STATUS
  | .PWR_RETAIN => fieldsOf_PWR_RETAIN
  | .CLK_STATUS => fieldsOf_CLK_STATUS
  | .DOME_WAKE => fieldsOf_DOME_WAKE
  | .DOME_PADS => fieldsOf_DOME_PADS
  | .DOME_TIME => fieldsOf_DOME_TIME

/-- A named field: its register word, lowest bit and width. -/
structure Fld where
  reg : RegName
  lo : Nat
  w : Nat
  deriving DecidableEq, Repr

namespace F

def TOP_DEVICE_ID.PART : Fld := ⟨.TOP_DEVICE_ID, 0, 16⟩
def TOP_DEVICE_ID.STEPPING : Fld := ⟨.TOP_DEVICE_ID, 16, 8⟩
def TOP_DEVICE_ID.GRADE : Fld := ⟨.TOP_DEVICE_ID, 24, 2⟩
def TOP_DEVICE_ID.FAMILY : Fld := ⟨.TOP_DEVICE_ID, 26, 6⟩
def TOP_UNIT_COUNT.CORES : Fld := ⟨.TOP_UNIT_COUNT, 0, 7⟩
def TOP_UNIT_COUNT.PRESENT : Fld := ⟨.TOP_UNIT_COUNT, 8, 7⟩
def TOP_UNIT_COUNT.SPARES_D0 : Fld := ⟨.TOP_UNIT_COUNT, 16, 2⟩
def TOP_UNIT_COUNT.SPARES_D1 : Fld := ⟨.TOP_UNIT_COUNT, 18, 2⟩
def TOP_UNIT_COUNT.SPARES_D2 : Fld := ⟨.TOP_UNIT_COUNT, 20, 2⟩
def TOP_UNIT_COUNT.SPARES_D3 : Fld := ⟨.TOP_UNIT_COUNT, 22, 2⟩
def TOP_CCLK_STATUS.DIE0_MHZ : Fld := ⟨.TOP_CCLK_STATUS, 0, 16⟩
def TOP_CCLK_STATUS.DIE1_MHZ : Fld := ⟨.TOP_CCLK_STATUS, 16, 16⟩
def TOP_CCLK_STATUS.DIE2_MHZ : Fld := ⟨.TOP_CCLK_STATUS, 32, 16⟩
def TOP_CCLK_STATUS.DIE3_MHZ : Fld := ⟨.TOP_CCLK_STATUS, 48, 16⟩
def TOP_CORE_MAP.SITE : Fld := ⟨.TOP_CORE_MAP, 0, 7⟩
def TOP_CORE_MAP.STATE : Fld := ⟨.TOP_CORE_MAP, 8, 2⟩
def TOP_CORE_MAP.WAS_SPARE : Fld := ⟨.TOP_CORE_MAP, 10, 1⟩
def TOP_GROUP_LO.CORES_LO : Fld := ⟨.TOP_GROUP_LO, 0, 64⟩
def TOP_GROUP_HI.CORES_HI : Fld := ⟨.TOP_GROUP_HI, 0, 32⟩
def TOP_GROUP_HI.PENDING : Fld := ⟨.TOP_GROUP_HI, 32, 1⟩
def TOP_GROUP_HI.GROUP_CONFLICT : Fld := ⟨.TOP_GROUP_HI, 33, 1⟩
def TOP_TCOUNT.NEXT : Fld := ⟨.TOP_TCOUNT, 0, 40⟩
def TOP_TCOUNT.CLOSED : Fld := ⟨.TOP_TCOUNT, 40, 1⟩
def TOP_SCALE_STATUS.PUSHES : Fld := ⟨.TOP_SCALE_STATUS, 0, 32⟩
def TOP_SCALE_STATUS.CLAMPED : Fld := ⟨.TOP_SCALE_STATUS, 32, 16⟩
def TOP_SCALE_STATUS.POISON_SKIPS : Fld := ⟨.TOP_SCALE_STATUS, 48, 16⟩
def TOP_CHECK_REGION.BASE : Fld := ⟨.TOP_CHECK_REGION, 0, 24⟩
def TOP_CHECK_REGION.SIZE : Fld := ⟨.TOP_CHECK_REGION, 24, 25⟩
def TOP_SIEVE_STATUS.SAMPLED : Fld := ⟨.TOP_SIEVE_STATUS, 0, 32⟩
def TOP_SIEVE_STATUS.MISMATCHES : Fld := ⟨.TOP_SIEVE_STATUS, 32, 12⟩
def TOP_SIEVE_STATUS.REWRITTEN : Fld := ⟨.TOP_SIEVE_STATUS, 44, 8⟩
def TOP_SIEVE_STATUS.UNRESOLVED : Fld := ⟨.TOP_SIEVE_STATUS, 52, 6⟩
def TOP_SIEVE_STATUS.ABANDONED : Fld := ⟨.TOP_SIEVE_STATUS, 58, 6⟩
def TOP_KAT_CTL.EN : Fld := ⟨.TOP_KAT_CTL, 0, 1⟩
def TOP_KAT_CTL.PERIOD_MS : Fld := ⟨.TOP_KAT_CTL, 1, 16⟩
def TOP_KAT_SUITE.ADDR : Fld := ⟨.TOP_KAT_SUITE, 0, 48⟩
def TOP_KAT_SUITE.SIZE_MIB : Fld := ⟨.TOP_KAT_SUITE, 48, 16⟩
def TOP_KAT_STATUS.NEXT : Fld := ⟨.TOP_KAT_STATUS, 0, 7⟩
def TOP_KAT_STATUS.RUNNING : Fld := ⟨.TOP_KAT_STATUS, 7, 1⟩
def TOP_KAT_STATUS.PASSES : Fld := ⟨.TOP_KAT_STATUS, 8, 32⟩
def TOP_KAT_STATUS.FAILS : Fld := ⟨.TOP_KAT_STATUS, 40, 12⟩
def TOP_KAT_STATUS.SKIPPED : Fld := ⟨.TOP_KAT_STATUS, 52, 12⟩
def TOP_KAT_HELD_LO.CORES_LO : Fld := ⟨.TOP_KAT_HELD_LO, 0, 64⟩
def TOP_KAT_HELD_HI.CORES_HI : Fld := ⟨.TOP_KAT_HELD_HI, 0, 32⟩
def TOP_LAG_CTL.EN : Fld := ⟨.TOP_LAG_CTL, 0, 1⟩
def TOP_LAG_CTL.PCT : Fld := ⟨.TOP_LAG_CTL, 1, 7⟩
def TOP_LAG_CTL.WINDOW_MS : Fld := ⟨.TOP_LAG_CTL, 8, 14⟩
def TOP_LAG_CTL.WINDOWS : Fld := ⟨.TOP_LAG_CTL, 22, 4⟩
def TOP_LAG_CTL.MEDIAN : Fld := ⟨.TOP_LAG_CTL, 26, 10⟩
def TOP_LAG_LO.CORES_LO : Fld := ⟨.TOP_LAG_LO, 0, 64⟩
def TOP_LAG_HI.CORES_HI : Fld := ⟨.TOP_LAG_HI, 0, 32⟩
def TOP_LANTERN.ID : Fld := ⟨.TOP_LANTERN, 0, 15⟩
def TOP_LANTERN.FIRE : Fld := ⟨.TOP_LANTERN, 15, 1⟩
def TOP_LANTERN.FABRIC : Fld := ⟨.TOP_LANTERN, 16, 1⟩
def TOP_LANTERN.LAST_ID : Fld := ⟨.TOP_LANTERN, 17, 15⟩
def TOP_LANTERN.DONE : Fld := ⟨.TOP_LANTERN, 32, 1⟩
def TOP_LANTERN.REFUSED : Fld := ⟨.TOP_LANTERN, 33, 1⟩
def TOP_LANTERN.IGNORED : Fld := ⟨.TOP_LANTERN, 34, 16⟩
def TOP_RETIRE_CMD.CORE : Fld := ⟨.TOP_RETIRE_CMD, 0, 7⟩
def TOP_RETIRE_CMD.GO : Fld := ⟨.TOP_RETIRE_CMD, 7, 1⟩
def TOP_RETIRE_STATUS.BUSY : Fld := ⟨.TOP_RETIRE_STATUS, 0, 1⟩
def TOP_RETIRE_STATUS.RESULT : Fld := ⟨.TOP_RETIRE_STATUS, 1, 2⟩
def TOP_RETIRE_STATUS.REFUSED : Fld := ⟨.TOP_RETIRE_STATUS, 3, 1⟩
def CORE_CP_STATUS.STATE : Fld := ⟨.CORE_CP_STATUS, 0, 2⟩
def CORE_CP_STATUS.GROUP : Fld := ⟨.CORE_CP_STATUS, 2, 4⟩
def CORE_CP_STATUS.INDEX : Fld := ⟨.CORE_CP_STATUS, 6, 40⟩
def CORE_CP_FAULT.VALID : Fld := ⟨.CORE_CP_FAULT, 0, 1⟩
def CORE_CP_FAULT.KIND : Fld := ⟨.CORE_CP_FAULT, 1, 2⟩
def CORE_CP_FAULT.OPERAND : Fld := ⟨.CORE_CP_FAULT, 3, 3⟩
def CORE_CP_FAULT.LEVEL : Fld := ⟨.CORE_CP_FAULT, 6, 3⟩
def CORE_CP_FAULT.ENGINE : Fld := ⟨.CORE_CP_FAULT, 9, 2⟩
def CORE_CP_FAULT.REQUESTED : Fld := ⟨.CORE_CP_FAULT, 11, 25⟩
def CORE_CP_FAULT_DESC.LND : Fld := ⟨.CORE_CP_FAULT_DESC, 0, 48⟩
def CORE_CP_INDICES.TAKEN : Fld := ⟨.CORE_CP_INDICES, 0, 40⟩
def MTX_SLOT_STATE.SLOT0_STATE : Fld := ⟨.MTX_SLOT_STATE, 0, 2⟩
def MTX_SLOT_STATE.SLOT0_INT32 : Fld := ⟨.MTX_SLOT_STATE, 2, 1⟩
def MTX_SLOT_STATE.SLOT0_FAILED : Fld := ⟨.MTX_SLOT_STATE, 3, 1⟩
def MTX_SLOT_STATE.SLOT1 : Fld := ⟨.MTX_SLOT_STATE, 4, 4⟩
def MTX_SLOT_STATE.SLOT2 : Fld := ⟨.MTX_SLOT_STATE, 8, 4⟩
def MTX_SLOT_STATE.SLOT3 : Fld := ⟨.MTX_SLOT_STATE, 12, 4⟩
def MTX_SLOT_STATE.BUSY : Fld := ⟨.MTX_SLOT_STATE, 16, 1⟩
def MTX_SLOT_STATE.SEG_SLOT : Fld := ⟨.MTX_SLOT_STATE, 17, 2⟩
def MTX_SLOT_STATE.SEG_PASS : Fld := ⟨.MTX_SLOT_STATE, 19, 2⟩
def MTX_LANE_STATE.TILE_STATE : Fld := ⟨.MTX_LANE_STATE, 0, 48⟩
def MTX_ACTIVE.ACTIVE_CYCLES : Fld := ⟨.MTX_ACTIVE, 0, 48⟩
def MTX_STALL.STALL_CYCLES : Fld := ⟨.MTX_STALL, 0, 48⟩
def MTX_DECANT.SWEEPS : Fld := ⟨.MTX_DECANT, 0, 32⟩
def MTX_DECANT.INT32_REPEATS : Fld := ⟨.MTX_DECANT, 32, 16⟩
def MTX_ECC.CORRECTED : Fld := ⟨.MTX_ECC, 0, 32⟩
def MTX_ECC.UNCORRECTED : Fld := ⟨.MTX_ECC, 32, 1⟩
def MTX_ECC.UNC_SLOT : Fld := ⟨.MTX_ECC, 33, 2⟩
def STR_STATUS.OUTSTANDING : Fld := ⟨.STR_STATUS, 0, 10⟩
def STR_STATUS.CTX_BUSY : Fld := ⟨.STR_STATUS, 10, 4⟩
def STR_STATUS.CTX_HQ_WAIT : Fld := ⟨.STR_STATUS, 14, 4⟩
def STR_CTL.MAX_OUT : Fld := ⟨.STR_CTL, 0, 10⟩
def STR_CTL.CP_RESERVE : Fld := ⟨.STR_CTL, 10, 10⟩
def STR_BYTES_RD.BYTES : Fld := ⟨.STR_BYTES_RD, 0, 56⟩
def STR_BYTES_WR.BYTES : Fld := ⟨.STR_BYTES_WR, 0, 56⟩
def STR_POISON_FIRST.VALID : Fld := ⟨.STR_POISON_FIRST, 0, 1⟩
def STR_POISON_FIRST.CAUSE : Fld := ⟨.STR_POISON_FIRST, 1, 6⟩
def STR_POISON_FIRST.CONTEXT : Fld := ⟨.STR_POISON_FIRST, 7, 2⟩
def STR_POISON_ADDR.ADDR : Fld := ⟨.STR_POISON_ADDR, 0, 64⟩
def STR_ERR_COUNT.UNCORR : Fld := ⟨.STR_ERR_COUNT, 0, 16⟩
def STR_ERR_COUNT.PARITY : Fld := ⟨.STR_ERR_COUNT, 16, 16⟩
def STR_ERR_COUNT.INDEX_FAULTS : Fld := ⟨.STR_ERR_COUNT, 32, 16⟩
def STR_ERR_COUNT.DESC_ERRORS : Fld := ⟨.STR_ERR_COUNT, 48, 16⟩
def VEC_STATUS.STATE : Fld := ⟨.VEC_STATUS, 0, 2⟩
def VEC_STATUS.OPC : Fld := ⟨.VEC_STATUS, 2, 8⟩
def VEC_STATUS.INDEX : Fld := ⟨.VEC_STATUS, 10, 40⟩
def VEC_CYCLES.ACTIVE : Fld := ⟨.VEC_CYCLES, 0, 48⟩
def CORE_FMT_STICKY.SUBN_IN_FLUSHED : Fld := ⟨.CORE_FMT_STICKY, 0, 1⟩
def CORE_FMT_STICKY.SUBN_OUT_FLUSHED : Fld := ⟨.CORE_FMT_STICKY, 1, 1⟩
def CORE_FMT_STICKY.BLOCK_FLUSHED : Fld := ⟨.CORE_FMT_STICKY, 2, 1⟩
def CORE_FMT_STICKY.SATURATED : Fld := ⟨.CORE_FMT_STICKY, 3, 1⟩
def CORE_FMT_STICKY.NAN_IN : Fld := ⟨.CORE_FMT_STICKY, 4, 1⟩
def CORE_FMT_STICKY.INF_IN : Fld := ⟨.CORE_FMT_STICKY, 5, 1⟩
def CORE_FMT_STICKY.POISON_OUT : Fld := ⟨.CORE_FMT_STICKY, 6, 1⟩
def CORE_FMT_STICKY.POISON_CMP : Fld := ⟨.CORE_FMT_STICKY, 7, 1⟩
def CORE_FMT_STICKY.RSVD_BIT7 : Fld := ⟨.CORE_FMT_STICKY, 8, 1⟩
def ACC_STICKY.INT32_REPEAT : Fld := ⟨.ACC_STICKY, 0, 1⟩
def ACC_STICKY.INT32_SAT : Fld := ⟨.ACC_STICKY, 1, 1⟩
def ACC_STICKY.DECANT_RETRY : Fld := ⟨.ACC_STICKY, 2, 1⟩
def ACC_STICKY.DECANT_SAT : Fld := ⟨.ACC_STICKY, 3, 1⟩
def ACC_STICKY.ADDEND_TRUNC : Fld := ⟨.ACC_STICKY, 4, 1⟩
def ACC_STICKY.ADDEND_SAT : Fld := ⟨.ACC_STICKY, 5, 1⟩
def ACC_STICKY.CHAIN_LIMIT : Fld := ⟨.ACC_STICKY, 6, 1⟩
def VEC_STICKY.DOMAIN : Fld := ⟨.VEC_STICKY, 0, 1⟩
def VEC_STICKY.LABEL_FAULT : Fld := ⟨.VEC_STICKY, 1, 1⟩
def VEC_STICKY.STEP_SKIPPED : Fld := ⟨.VEC_STICKY, 2, 1⟩
def VEC_STICKY.ELEM_KEPT : Fld := ⟨.VEC_STICKY, 3, 1⟩
def QM_QDESC.EN : Fld := ⟨.QM_QDESC_W0, 0, 1⟩
def QM_QDESC.STATE : Fld := ⟨.QM_QDESC_W0, 1, 2⟩
def QM_QDESC.TYPE : Fld := ⟨.QM_QDESC_W0, 3, 2⟩
def QM_QDESC.LOG2_ENTRIES : Fld := ⟨.QM_QDESC_W0, 5, 5⟩
def QM_QDESC.REFUSED : Fld := ⟨.QM_QDESC_W0, 10, 1⟩
def QM_QDESC.DB_ERR : Fld := ⟨.QM_QDESC_W0, 11, 1⟩
def QM_QDESC.FULL_WAIT : Fld := ⟨.QM_QDESC_W0, 12, 1⟩
def QM_QDESC.CQ : Fld := ⟨.QM_QDESC_W0, 16, 16⟩
def QM_QDESC.GROUP : Fld := ⟨.QM_QDESC_W0, 32, 4⟩
def QM_QDESC.CORE : Fld := ⟨.QM_QDESC_W0, 36, 7⟩
def QM_QDESC.EVQ_SEL : Fld := ⟨.QM_QDESC_W0, 47, 1⟩
def QM_QDESC.EVQ : Fld := ⟨.QM_QDESC_W0, 48, 16⟩
def QM_QDESC.RING : Fld := ⟨.QM_QDESC_W1, 0, 48⟩
def QM_QDESC.HEAD : Fld := ⟨.QM_QDESC_W2, 0, 32⟩
def QM_QDESC.TAIL : Fld := ⟨.QM_QDESC_W2, 32, 32⟩
def QM_QDESC.SEQ : Fld := ⟨.QM_QDESC_W3, 0, 48⟩
def QM_QDESC.DONE_SEQ : Fld := ⟨.QM_QDESC_W4, 0, 48⟩
def QM_QDESC.MIRROR : Fld := ⟨.QM_QDESC_W5, 0, 1⟩
def QM_QDESC.SESSION : Fld := ⟨.QM_QDESC_W5, 1, 16⟩
def QM_QDESC.MIRROR_ADDR : Fld := ⟨.QM_QDESC_W6, 0, 64⟩
def QM_QDESC.ENTRIES : Fld := ⟨.QM_QDESC_W7, 0, 48⟩
def QM_QDESC.STALE_DB : Fld := ⟨.QM_QDESC_W7, 48, 16⟩
def QM_CTL.QUIESCE_US : Fld := ⟨.QM_CTL, 0, 24⟩
def QM_CTL.EVQ : Fld := ⟨.QM_CTL, 24, 16⟩
def QM_CTL.EVQ_EN : Fld := ⟨.QM_CTL, 40, 1⟩
def QM_OWNER.OWNER_ID : Fld := ⟨.QM_OWNER, 0, 32⟩
def QM_OWNER.OWNED : Fld := ⟨.QM_OWNER, 32, 1⟩
def QM_OWNER.CLAIM : Fld := ⟨.QM_OWNER, 33, 1⟩
def QM_OWNER.RELEASE : Fld := ⟨.QM_OWNER, 34, 1⟩
def QM_OWNER.RELEASING : Fld := ⟨.QM_OWNER, 35, 1⟩
def QM_MB_ACTIVE.ACTIVE : Fld := ⟨.QM_MB_ACTIVE, 0, 64⟩
def QM_STATS.FOREIGN_DB : Fld := ⟨.QM_STATS, 0, 16⟩
def QM_STATS.EV_DROPPED : Fld := ⟨.QM_STATS, 16, 16⟩
def QM_STATS.MIRROR_LOST : Fld := ⟨.QM_STATS, 32, 16⟩
def QM_STATS.CQ_LOST : Fld := ⟨.QM_STATS, 48, 8⟩
def QM_STATS.HQ_DROPPED : Fld := ⟨.QM_STATS, 56, 8⟩
def QM_CORE_DIS_LO.CORES_LO : Fld := ⟨.QM_CORE_DIS_LO, 0, 64⟩
def QM_CORE_DIS_HI.CORES_HI : Fld := ⟨.QM_CORE_DIS_HI, 0, 32⟩
def QM_PORT_DIS.PORTS : Fld := ⟨.QM_PORT_DIS, 0, 8⟩
def QM_QUIESCE.CORES_BUSY : Fld := ⟨.QM_QUIESCE, 0, 1⟩
def QM_QUIESCE.PORTS_BUSY : Fld := ⟨.QM_QUIESCE, 1, 8⟩
def MEM_DDR_SIZE.SIZE_GIB : Fld := ⟨.MEM_DDR_SIZE, 0, 13⟩
def MEM_DDR_SIZE.CHANNELS : Fld := ⟨.MEM_DDR_SIZE, 13, 5⟩
def MEM_DDR_SIZE.DIMM_GIB : Fld := ⟨.MEM_DDR_SIZE, 18, 9⟩
def MEM_DDR_SIZE.RATE : Fld := ⟨.MEM_DDR_SIZE, 27, 2⟩
def MEM_PLACE.LOCAL_GIB : Fld := ⟨.MEM_PLACE, 0, 9⟩
def MEM_PLACE.NEXT_GIB : Fld := ⟨.MEM_PLACE, 9, 9⟩
def MEM_PLACE.PENDING : Fld := ⟨.MEM_PLACE, 18, 1⟩
def MEM_SCRUB_CTL.PERIOD_H : Fld := ⟨.MEM_SCRUB_CTL, 0, 16⟩
def MEM_SCRUB_CTL.DDR_EN : Fld := ⟨.MEM_SCRUB_CTL, 16, 1⟩
def MEM_DECODE_ERR.COUNT : Fld := ⟨.MEM_DECODE_ERR, 0, 32⟩
def MEM_STACK.TRAINED : Fld := ⟨.MEM_STACK, 0, 1⟩
def MEM_STACK.HELD : Fld := ⟨.MEM_STACK, 1, 1⟩
def MEM_STACK.HELD_PC : Fld := ⟨.MEM_STACK, 2, 5⟩
def MEM_STACK.LANES_REPAIRED : Fld := ⟨.MEM_STACK, 7, 6⟩
def MEM_STACK.ROWS_REPAIRED : Fld := ⟨.MEM_STACK, 13, 10⟩
def MEM_STACK_ECC.CORRECTED : Fld := ⟨.MEM_STACK_ECC, 0, 32⟩
def MEM_STACK_ECC.UNCORRECTED : Fld := ⟨.MEM_STACK_ECC, 32, 16⟩
def MEM_STACK_ECC.SCRUB_UNC : Fld := ⟨.MEM_STACK_ECC, 48, 16⟩
def MEM_DDR_CH.STATE : Fld := ⟨.MEM_DDR_CH, 0, 2⟩
def MEM_DDR_CH.HELD : Fld := ⟨.MEM_DDR_CH, 2, 1⟩
def MEM_DDR_CH.ROWS_REPAIRED : Fld := ⟨.MEM_DDR_CH, 3, 10⟩
def MEM_DDR_ECC.CORRECTED : Fld := ⟨.MEM_DDR_ECC, 0, 32⟩
def MEM_DDR_ECC.UNCORRECTED : Fld := ⟨.MEM_DDR_ECC, 32, 16⟩
def MEM_DDR_ECC.SCRUB_UNC : Fld := ⟨.MEM_DDR_ECC, 48, 16⟩
def MEM_REPAIR_CMD.TARGET : Fld := ⟨.MEM_REPAIR_CMD, 0, 3⟩
def MEM_REPAIR_CMD.PC : Fld := ⟨.MEM_REPAIR_CMD, 3, 5⟩
def MEM_REPAIR_CMD.KIND : Fld := ⟨.MEM_REPAIR_CMD, 8, 2⟩
def MEM_REPAIR_CMD.BANK : Fld := ⟨.MEM_REPAIR_CMD, 10, 4⟩
def MEM_REPAIR_CMD.ROW : Fld := ⟨.MEM_REPAIR_CMD, 14, 18⟩
def MEM_REPAIR_CMD.LANE : Fld := ⟨.MEM_REPAIR_CMD, 32, 7⟩
def MEM_REPAIR_CMD.RANK : Fld := ⟨.MEM_REPAIR_CMD, 39, 1⟩
def MEM_REPAIR_STATUS.BUSY : Fld := ⟨.MEM_REPAIR_STATUS, 0, 1⟩
def MEM_REPAIR_STATUS.RESULT : Fld := ⟨.MEM_REPAIR_STATUS, 1, 2⟩
def MEM_REPAIR_STATUS.REFUSED : Fld := ⟨.MEM_REPAIR_STATUS, 3, 1⟩
def MEM_REPAIR_STATUS.DONE : Fld := ⟨.MEM_REPAIR_STATUS, 4, 16⟩
def MEM_ATOM.REQUESTS : Fld := ⟨.MEM_ATOM, 0, 48⟩
def MEM_ATOM.QUEUED : Fld := ⟨.MEM_ATOM, 48, 7⟩
def FAB_ID.DEVICE_ID : Fld := ⟨.FAB_ID, 0, 16⟩
def FAB_ID.VALID : Fld := ⟨.FAB_ID, 16, 1⟩
def FAB_ID.ROLE : Fld := ⟨.FAB_ID, 17, 2⟩
def FAB_ID.TERM : Fld := ⟨.FAB_ID, 19, 16⟩
def FAB_CTL.HOP_LIMIT : Fld := ⟨.FAB_CTL, 0, 5⟩
def FAB_CTL.ESC_WAIT : Fld := ⟨.FAB_CTL, 5, 16⟩
def FAB_CTL.MARK_THRESH : Fld := ⟨.FAB_CTL, 21, 11⟩
def FAB_EPOCH.CUR : Fld := ⟨.FAB_EPOCH, 0, 1⟩
def FAB_EPOCH.BANK0 : Fld := ⟨.FAB_EPOCH, 1, 2⟩
def FAB_EPOCH.BANK1 : Fld := ⟨.FAB_EPOCH, 3, 2⟩
def FAB_EPOCH.ROUND : Fld := ⟨.FAB_EPOCH, 5, 6⟩
def FAB_EPOCH.SEAL : Fld := ⟨.FAB_EPOCH, 11, 2⟩
def FAB_EPOCH.SWITCH : Fld := ⟨.FAB_EPOCH, 13, 1⟩
def FAB_EPOCH.CLEAR : Fld := ⟨.FAB_EPOCH, 14, 1⟩
def FAB_EPOCH.DRAINED : Fld := ⟨.FAB_EPOCH, 15, 1⟩
def FAB_EPOCH.REFUSED : Fld := ⟨.FAB_EPOCH, 16, 1⟩
def FAB_BANK_CRC.CRC0 : Fld := ⟨.FAB_BANK_CRC, 0, 32⟩
def FAB_BANK_CRC.CRC1 : Fld := ⟨.FAB_BANK_CRC, 32, 32⟩
def FAB_E2E.ACK_N : Fld := ⟨.FAB_E2E, 0, 5⟩
def FAB_E2E.ACK_DELAY_US : Fld := ⟨.FAB_E2E, 5, 5⟩
def FAB_E2E.GAP_US : Fld := ⟨.FAB_E2E, 10, 8⟩
def FAB_E2E.RTO_US : Fld := ⟨.FAB_E2E, 18, 12⟩
def FAB_E2E.RETRY_MAX : Fld := ⟨.FAB_E2E, 30, 4⟩
def FAB_E2E.CNP_GAP_US : Fld := ⟨.FAB_E2E, 34, 4⟩
def FAB_CC.RATE_MIN : Fld := ⟨.FAB_CC, 0, 10⟩
def FAB_CC.BETA : Fld := ⟨.FAB_CC, 10, 8⟩
def FAB_CC.CUT_HOLD_US : Fld := ⟨.FAB_CC, 18, 6⟩
def FAB_CC.INC_US : Fld := ⟨.FAB_CC, 24, 6⟩
def FAB_CC.FAST_STEPS : Fld := ⟨.FAB_CC, 30, 4⟩
def FAB_CC.AI : Fld := ⟨.FAB_CC, 34, 10⟩
def FAB_CC.CC_EN : Fld := ⟨.FAB_CC, 44, 1⟩
def FAB_SPIRE.PRIMARY : Fld := ⟨.FAB_SPIRE, 0, 16⟩
def FAB_SPIRE.STANDBY : Fld := ⟨.FAB_SPIRE, 16, 16⟩
def FAB_SPIRE.HB_US : Fld := ⟨.FAB_SPIRE, 32, 10⟩
def FAB_SPIRE.HB_MISS : Fld := ⟨.FAB_SPIRE, 42, 4⟩
def FAB_SPIRE.ACTIVE : Fld := ⟨.FAB_SPIRE, 46, 1⟩
def FAB_DROP.NOROUTE : Fld := ⟨.FAB_DROP, 0, 16⟩
def FAB_DROP.HOPLIMIT : Fld := ⟨.FAB_DROP, 16, 16⟩
def FAB_DROP.EPOCH_ERR : Fld := ⟨.FAB_DROP, 32, 16⟩
def FAB_DROP.HDR_ERR : Fld := ⟨.FAB_DROP, 48, 16⟩
def FAB_RX.WINDOW_DROP : Fld := ⟨.FAB_RX, 0, 16⟩
def FAB_RX.ORD_DROP : Fld := ⟨.FAB_RX, 16, 16⟩
def FAB_RX.CONN_NAK : Fld := ⟨.FAB_RX, 32, 16⟩
def FAB_RX.MGMT_REFUSED : Fld := ⟨.FAB_RX, 48, 16⟩
def FAB_TC_WEIGHT.W : Fld := ⟨.FAB_TC_WEIGHT, 0, 48⟩
def FAB_LINK_STATUS.STATE : Fld := ⟨.FAB_LINK_STATUS, 0, 3⟩
def FAB_LINK_STATUS.WIDTH : Fld := ⟨.FAB_LINK_STATUS, 3, 2⟩
def FAB_LINK_STATUS.LANES : Fld := ⟨.FAB_LINK_STATUS, 5, 4⟩
def FAB_LINK_STATUS.NBR_ID : Fld := ⟨.FAB_LINK_STATUS, 9, 16⟩
def FAB_LINK_STATUS.NBR_LINK : Fld := ⟨.FAB_LINK_STATUS, 25, 6⟩
def FAB_LINK_STATUS.NBR_VALID : Fld := ⟨.FAB_LINK_STATUS, 31, 1⟩
def FAB_LINK_CTL.EN : Fld := ⟨.FAB_LINK_CTL, 0, 1⟩
def FAB_LINK_CTL.MAX_WIDTH : Fld := ⟨.FAB_LINK_CTL, 1, 2⟩
def FAB_LINK_CTL.RETUNE : Fld := ⟨.FAB_LINK_CTL, 3, 1⟩
def FAB_LINK_ERR.REPLAYS : Fld := ⟨.FAB_LINK_ERR, 0, 16⟩
def FAB_LINK_ERR.FEC_UNCORR : Fld := ⟨.FAB_LINK_ERR, 16, 16⟩
def FAB_LINK_ERR.RETRAINS : Fld := ⟨.FAB_LINK_ERR, 32, 8⟩
def FAB_LINK_ERR.DEGRADES : Fld := ⟨.FAB_LINK_ERR, 40, 8⟩
def FAB_PORT_WEIGHT.W : Fld := ⟨.FAB_PORT_WEIGHT, 0, 32⟩
def FAB_CMAP.OCC_AVG : Fld := ⟨.FAB_CMAP, 0, 16⟩
def FAB_CMAP.MARKS : Fld := ⟨.FAB_CMAP, 16, 16⟩
def FAB_CMAP.KFLITS : Fld := ⟨.FAB_CMAP, 32, 32⟩
def FAB_ROUTE_GROUP.CAND : Fld := ⟨.FAB_ROUTE_GROUP, 0, 40⟩
def FAB_ROUTE_GROUP.FALLBACK : Fld := ⟨.FAB_ROUTE_GROUP, 40, 6⟩
def FAB_ROUTE_MEMBER.CAND : Fld := ⟨.FAB_ROUTE_MEMBER, 0, 40⟩
def FAB_ROUTE_MEMBER.FALLBACK : Fld := ⟨.FAB_ROUTE_MEMBER, 40, 6⟩
def FAB_CONN.EN : Fld := ⟨.FAB_CONN_W0, 0, 1⟩
def FAB_CONN.STATE : Fld := ⟨.FAB_CONN_W0, 1, 2⟩
def FAB_CONN.TC : Fld := ⟨.FAB_CONN_W0, 3, 3⟩
def FAB_CONN.DB : Fld := ⟨.FAB_CONN_W0, 6, 1⟩
def FAB_CONN.GEN : Fld := ⟨.FAB_CONN_W0, 7, 4⟩
def FAB_CONN.PEER_ID : Fld := ⟨.FAB_CONN_W0, 11, 16⟩
def FAB_CONN.PEER_CONN : Fld := ⟨.FAB_CONN_W0, 27, 12⟩
def FAB_CONN.TX_PSN : Fld := ⟨.FAB_CONN_W1, 0, 32⟩
def FAB_CONN.RX_EPSN : Fld := ⟨.FAB_CONN_W1, 32, 32⟩
def FAB_CONN.RATE : Fld := ⟨.FAB_CONN_W2, 0, 10⟩
def FAB_CONN.UNACKED : Fld := ⟨.FAB_CONN_W2, 10, 9⟩
def FAB_CONN.RETX : Fld := ⟨.FAB_CONN_W2, 19, 29⟩
def FAB_CONN.CNP_RX : Fld := ⟨.FAB_CONN_W3, 0, 24⟩
def FAB_CONN.CE_RX : Fld := ⟨.FAB_CONN_W3, 24, 24⟩
def FAB_CONN.ERR_CAUSE : Fld := ⟨.FAB_CONN_W3, 48, 2⟩
def COL_CTL.SHARE : Fld := ⟨.COL_CTL, 0, 4⟩
def COL_CTL.STALL_MS : Fld := ⟨.COL_CTL, 4, 10⟩
def COL_STATUS.CTX_BUSY : Fld := ⟨.COL_STATUS, 0, 4⟩
def COL_STATUS.CTX_WAIT : Fld := ⟨.COL_STATUS, 4, 4⟩
def COL_COUNT.PIECES_TX : Fld := ⟨.COL_COUNT, 0, 32⟩
def COL_COUNT.PIECES_RX : Fld := ⟨.COL_COUNT, 32, 32⟩
def COL_ERR.MALFORMED : Fld := ⟨.COL_ERR, 0, 16⟩
def COL_ERR.STALLS : Fld := ⟨.COL_ERR, 16, 16⟩
def COL_ERR.STALE_EPOCH : Fld := ⟨.COL_ERR, 32, 16⟩
def COL_LAYOUT.CUR : Fld := ⟨.COL_LAYOUT, 0, 16⟩
def COL_LAYOUT.OLD_PENDING : Fld := ⟨.COL_LAYOUT, 16, 32⟩
def COL_LAYOUT.WHISK : Fld := ⟨.COL_LAYOUT, 48, 1⟩
def COL_STAGE_ARENA.BASE : Fld := ⟨.COL_STAGE_ARENA, 0, 36⟩
def COL_STAGE_ARENA.SIZE : Fld := ⟨.COL_STAGE_ARENA, 36, 28⟩
def COL_STAGE_HWM.HWM : Fld := ⟨.COL_STAGE_HWM, 0, 36⟩
def COL_STAGE_HWM.OUTSIDE : Fld := ⟨.COL_STAGE_HWM, 36, 16⟩
def ETH_CTL.EN : Fld := ⟨.ETH_CTL, 0, 1⟩
def ETH_CTL.AUTONEG : Fld := ⟨.ETH_CTL, 1, 1⟩
def ETH_CTL.ADV : Fld := ⟨.ETH_CTL, 2, 4⟩
def ETH_CTL.VLAN_EN : Fld := ⟨.ETH_CTL, 6, 1⟩
def ETH_CTL.VID : Fld := ⟨.ETH_CTL, 7, 12⟩
def ETH_CTL.PCP : Fld := ⟨.ETH_CTL, 19, 3⟩
def ETH_CTL.DSCP : Fld := ⟨.ETH_CTL, 22, 6⟩
def ETH_CTL.PFC_EN : Fld := ⟨.ETH_CTL, 28, 1⟩
def ETH_CTL.PFC_PRIO : Fld := ⟨.ETH_CTL, 29, 3⟩
def ETH_CTL.MTU : Fld := ⟨.ETH_CTL, 32, 3⟩
def ETH_CTL.REFUSED : Fld := ⟨.ETH_CTL, 35, 1⟩
def ETH_STATUS.LINK : Fld := ⟨.ETH_STATUS, 0, 2⟩
def ETH_STATUS.RATE : Fld := ⟨.ETH_STATUS, 2, 2⟩
def ETH_STATUS.NETWORK : Fld := ⟨.ETH_STATUS, 4, 1⟩
def ETH_STATUS.SESSIONS : Fld := ⟨.ETH_STATUS, 5, 10⟩
def ETH_STATUS.PAUSED : Fld := ⟨.ETH_STATUS, 15, 1⟩
def ETH_MAC.MAC : Fld := ⟨.ETH_MAC, 0, 48⟩
def ETH_MAC.FROM_CFG : Fld := ⟨.ETH_MAC, 48, 1⟩
def ETH_IP4.ADDR : Fld := ⟨.ETH_IP4, 0, 32⟩
def ETH_IP6_HI.ADDR_HI : Fld := ⟨.ETH_IP6_HI, 0, 64⟩
def ETH_IP6_LO.ADDR_LO : Fld := ⟨.ETH_IP6_LO, 0, 64⟩
def ETH_HS.SC_PORT : Fld := ⟨.ETH_HS, 0, 16⟩
def ETH_HS.HS_RATE : Fld := ⟨.ETH_HS, 16, 10⟩
def ETH_CC.CC : Fld := ⟨.ETH_CC, 0, 45⟩
def ETH_CC.CNP_GAP_US : Fld := ⟨.ETH_CC, 45, 4⟩
def ETH_DROP.FCS : Fld := ⟨.ETH_DROP, 0, 16⟩
def ETH_DROP.NOT_MINE : Fld := ⟨.ETH_DROP, 16, 16⟩
def ETH_DROP.UNSUPPORTED : Fld := ⟨.ETH_DROP, 32, 16⟩
def ETH_DROP.OVERSIZE : Fld := ⟨.ETH_DROP, 48, 16⟩
def ETH_SEAL.TAG_FAIL : Fld := ⟨.ETH_SEAL, 0, 16⟩
def ETH_SEAL.NO_SESSION : Fld := ⟨.ETH_SEAL, 16, 16⟩
def ETH_SEAL.REPLAY : Fld := ⟨.ETH_SEAL, 32, 16⟩
def ETH_SEAL.HS_LIMITED : Fld := ⟨.ETH_SEAL, 48, 16⟩
def ETH_ROCE.RETX : Fld := ⟨.ETH_ROCE, 0, 16⟩
def ETH_ROCE.NAK_TX : Fld := ⟨.ETH_ROCE, 16, 16⟩
def ETH_ROCE.CNP_TX : Fld := ⟨.ETH_ROCE, 32, 16⟩
def ETH_ROCE.PAUSE_RX : Fld := ⟨.ETH_ROCE, 48, 16⟩
def ETH_SESS.STATE : Fld := ⟨.ETH_SESS_W0, 0, 2⟩
def ETH_SESS.IDENTITY : Fld := ⟨.ETH_SESS_W0, 2, 32⟩
def ETH_SESS.KPHASE : Fld := ⟨.ETH_SESS_W0, 34, 1⟩
def ETH_SESS.REKEY_DUE : Fld := ⟨.ETH_SESS_W0, 35, 1⟩
def ETH_SESS.CLOSE : Fld := ⟨.ETH_SESS_W0, 36, 1⟩
def ETH_SESS.REMOTE_QPN : Fld := ⟨.ETH_SESS_W1, 0, 24⟩
def ETH_SESS.PMTU : Fld := ⟨.ETH_SESS_W1, 24, 3⟩
def ETH_SESS.TX_CTR : Fld := ⟨.ETH_SESS_W2, 0, 48⟩
def ETH_SESS.RATE : Fld := ⟨.ETH_SESS_W3, 0, 10⟩
def ETH_SESS.RETX : Fld := ⟨.ETH_SESS_W3, 10, 32⟩
def MGT_STATUS.STAGE : Fld := ⟨.MGT_STATUS, 0, 4⟩
def MGT_STATUS.RECOVERY : Fld := ⟨.MGT_STATUS, 4, 1⟩
def MGT_STATUS.FUSE_ERR : Fld := ⟨.MGT_STATUS, 5, 1⟩
def MGT_STATUS.ACTIVE_CORE : Fld := ⟨.MGT_STATUS, 6, 1⟩
def MGT_STATUS.SLOTS : Fld := ⟨.MGT_STATUS, 7, 3⟩
def MGT_STATUS.MIXED_UCODE : Fld := ⟨.MGT_STATUS, 10, 1⟩
def CFG_STATUS.DEFAULTS_USED : Fld := ⟨.CFG_STATUS, 0, 1⟩
def CFG_STATUS.SLOT : Fld := ⟨.CFG_STATUS, 1, 1⟩
def CFG_STATUS.SLOT0_BAD : Fld := ⟨.CFG_STATUS, 2, 1⟩
def CFG_STATUS.SLOT1_BAD : Fld := ⟨.CFG_STATUS, 3, 1⟩
def CFG_STATUS.UNKNOWN_REC : Fld := ⟨.CFG_STATUS, 4, 1⟩
def CFG_STATUS.BAD_REC : Fld := ⟨.CFG_STATUS, 5, 1⟩
def CFG_STATUS.SEQ : Fld := ⟨.CFG_STATUS, 32, 32⟩
def MGT_POLICY.POWER : Fld := ⟨.MGT_POLICY, 0, 2⟩
def MGT_POLICY.THERMAL : Fld := ⟨.MGT_POLICY, 2, 2⟩
def MGT_POLICY.VOLTAGE : Fld := ⟨.MGT_POLICY, 4, 2⟩
def MGT_POLICY.LINKS : Fld := ⟨.MGT_POLICY, 6, 2⟩
def MGT_POLICY.RETIRE : Fld := ⟨.MGT_POLICY, 8, 2⟩
def MGT_POLICY.REPAIR : Fld := ⟨.MGT_POLICY, 10, 2⟩
def MGT_POLICY.PERSIST : Fld := ⟨.MGT_POLICY, 12, 1⟩
def MGT_PWR.CAP_W : Fld := ⟨.MGT_PWR, 0, 13⟩
def MGT_PWR.MEASURED_W : Fld := ⟨.MGT_PWR, 13, 13⟩
def MGT_THERM.THROTTLE_C : Fld := ⟨.MGT_THERM, 0, 7⟩
def MGT_THERM.HOTTEST_C : Fld := ⟨.MGT_THERM, 7, 8⟩
def MGT_STORE_CMD.SRC : Fld := ⟨.MGT_STORE_CMD, 0, 48⟩
def MGT_STORE_CMD.STORE : Fld := ⟨.MGT_STORE_CMD, 48, 1⟩
def MGT_STORE_CMD.REPLACE : Fld := ⟨.MGT_STORE_CMD, 49, 1⟩
def MGT_STORE_CMD.UNGUARDED : Fld := ⟨.MGT_STORE_CMD, 50, 1⟩
def MGT_STORE_STATUS.BUSY : Fld := ⟨.MGT_STORE_STATUS, 0, 1⟩
def MGT_STORE_STATUS.DEFERRED : Fld := ⟨.MGT_STORE_STATUS, 1, 1⟩
def MGT_STORE_STATUS.REFUSED : Fld := ⟨.MGT_STORE_STATUS, 2, 1⟩
def MGT_STORE_STATUS.RESULT : Fld := ⟨.MGT_STORE_STATUS, 3, 4⟩
def MGT_STORE_STATUS.HOLDUP_MJ : Fld := ⟨.MGT_STORE_STATUS, 7, 16⟩
def MGT_UPD_CMD.SRC : Fld := ⟨.MGT_UPD_CMD, 0, 48⟩
def MGT_UPD_CMD.OP : Fld := ⟨.MGT_UPD_CMD, 48, 3⟩
def MGT_UPD_CMD.CLASS : Fld := ⟨.MGT_UPD_CMD, 51, 2⟩
def MGT_UPD_CMD.KEYSLOT : Fld := ⟨.MGT_UPD_CMD, 53, 2⟩
def MGT_UPD_CMD.UNGUARDED : Fld := ⟨.MGT_UPD_CMD, 55, 1⟩
def MGT_UPD_STATUS.BUSY : Fld := ⟨.MGT_UPD_STATUS, 0, 1⟩
def MGT_UPD_STATUS.REFUSED : Fld := ⟨.MGT_UPD_STATUS, 1, 1⟩
def MGT_UPD_STATUS.RESULT : Fld := ⟨.MGT_UPD_STATUS, 2, 4⟩
def MGT_ERR_LOG.HEAD : Fld := ⟨.MGT_ERR_LOG, 0, 32⟩
def MGT_ERR_LOG.TAIL : Fld := ⟨.MGT_ERR_LOG, 32, 32⟩
def MGT_ERR_CTL.LOST : Fld := ⟨.MGT_ERR_CTL, 0, 16⟩
def MGT_ERR_CTL.LOST_CLASS : Fld := ⟨.MGT_ERR_CTL, 16, 8⟩
def MGT_ERR_CTL.SUPPRESSED : Fld := ⟨.MGT_ERR_CTL, 24, 16⟩
def MGT_ERR_CTL.CE_ROW : Fld := ⟨.MGT_ERR_CTL, 40, 4⟩
def MGT_ERR_CTL.CE_OTHER : Fld := ⟨.MGT_ERR_CTL, 44, 20⟩
def MGT_HOSTKEY.EN : Fld := ⟨.MGT_HOSTKEY_W0, 0, 1⟩
def MGT_HOSTKEY.IDENTITY : Fld := ⟨.MGT_HOSTKEY_W0, 32, 32⟩
def MGT_HOSTKEY.KEY : Fld := ⟨.MGT_HOSTKEY_KEY, 0, 64⟩
def MGT_ERR_REC.RECORD : Fld := ⟨.MGT_ERR_REC, 0, 64⟩
def RST_CAUSE.POR : Fld := ⟨.RST_CAUSE, 0, 1⟩
def RST_CAUSE.PIN : Fld := ⟨.RST_CAUSE, 1, 1⟩
def RST_CAUSE.SOFT : Fld := ⟨.RST_CAUSE, 2, 1⟩
def RST_CAUSE.WDOG : Fld := ⟨.RST_CAUSE, 3, 1⟩
def RST_CAUSE.REFCLK : Fld := ⟨.RST_CAUSE, 4, 1⟩
def RST_CAUSE.RECOVERY : Fld := ⟨.RST_CAUSE, 5, 1⟩
def RST_CAUSE.DOME_LOST : Fld := ⟨.RST_CAUSE, 6, 1⟩
def RST_CAUSE.CORE : Fld := ⟨.RST_CAUSE, 7, 1⟩
def RST_CAUSE.LAST : Fld := ⟨.RST_CAUSE, 8, 2⟩
def RST_CAUSE.SYS_COUNT : Fld := ⟨.RST_CAUSE, 10, 16⟩
def RST_CTL.KEY : Fld := ⟨.RST_CTL, 0, 8⟩
def RST_CTL.CORE : Fld := ⟨.RST_CTL, 8, 1⟩
def RST_CTL.SYSTEM : Fld := ⟨.RST_CTL, 9, 1⟩
def RST_CTL.CORE_BUSY : Fld := ⟨.RST_CTL, 16, 1⟩
def RST_BLOCK_CMD.UNIT : Fld := ⟨.RST_BLOCK_CMD, 0, 16⟩
def RST_BLOCK_CMD.GO : Fld := ⟨.RST_BLOCK_CMD, 16, 1⟩
def RST_BLOCK_STATUS.BUSY : Fld := ⟨.RST_BLOCK_STATUS, 0, 1⟩
def RST_BLOCK_STATUS.RESULT : Fld := ⟨.RST_BLOCK_STATUS, 1, 2⟩
def RST_BLOCK_STATUS.REFUSED : Fld := ⟨.RST_BLOCK_STATUS, 3, 1⟩
def RST_BLOCK_STATUS.UNIT : Fld := ⟨.RST_BLOCK_STATUS, 4, 16⟩
def RST_WDOG.EN : Fld := ⟨.RST_WDOG, 0, 1⟩
def RST_WDOG.TIMEOUT_MS : Fld := ⟨.RST_WDOG, 1, 16⟩
def RST_WDOG.KICK : Fld := ⟨.RST_WDOG, 17, 1⟩
def RST_WDOG.EXPIRIES : Fld := ⟨.RST_WDOG, 18, 8⟩
def PWR_CTL.REQ : Fld := ⟨.PWR_CTL, 0, 2⟩
def PWR_CTL.AUTO_IDLE : Fld := ⟨.PWR_CTL, 2, 1⟩
def PWR_CTL.IDLE_US : Fld := ⟨.PWR_CTL, 3, 16⟩
def PWR_CTL.AUTO_WAKE : Fld := ⟨.PWR_CTL, 19, 1⟩
def PWR_STATUS.STATE : Fld := ⟨.PWR_STATUS, 0, 3⟩
def PWR_STATUS.REFUSED : Fld := ⟨.PWR_STATUS, 3, 1⟩
def PWR_STATUS.REFUSE_WHY : Fld := ⟨.PWR_STATUS, 4, 2⟩
def PWR_STATUS.LAST_WAKE : Fld := ⟨.PWR_STATUS, 6, 2⟩
def PWR_STATUS.SHELF_ENTRIES : Fld := ⟨.PWR_STATUS, 8, 16⟩
def PWR_STATUS.DOME_ENTRIES : Fld := ⟨.PWR_STATUS, 24, 16⟩
def PWR_RETAIN.BANKS : Fld := ⟨.PWR_RETAIN, 0, 16⟩
def CLK_STATUS.REFCLK_OK : Fld := ⟨.CLK_STATUS, 0, 1⟩
def CLK_STATUS.CCLK_LOCK : Fld := ⟨.CLK_STATUS, 1, 4⟩
def CLK_STATUS.HCLK_LOCK : Fld := ⟨.CLK_STATUS, 5, 8⟩
def CLK_STATUS.MCLK_LOCK : Fld := ⟨.CLK_STATUS, 13, 1⟩
def CLK_STATUS.LOSSES : Fld := ⟨.CLK_STATUS, 14, 16⟩
def DOME_WAKE.EN_PIN : Fld := ⟨.DOME_WAKE, 0, 1⟩
def DOME_WAKE.EN_I3C : Fld := ⟨.DOME_WAKE, 1, 1⟩
def DOME_WAKE.EN_TIMER : Fld := ⟨.DOME_WAKE, 2, 1⟩
def DOME_WAKE.LATCHED : Fld := ⟨.DOME_WAKE, 3, 1⟩
def DOME_WAKE.TIMER_S : Fld := ⟨.DOME_WAKE, 4, 32⟩
def DOME_PADS.HELD : Fld := ⟨.DOME_PADS, 0, 1⟩
def DOME_PADS.RELEASE : Fld := ⟨.DOME_PADS, 1, 1⟩
def DOME_PADS.REFUSED : Fld := ⟨.DOME_PADS, 2, 1⟩
def DOME_TIME.TIME_US : Fld := ⟨.DOME_TIME, 0, 48⟩

end F

end Sys2Proof.Machine
end

