-- ==== Sys2Proof/Machine/State.lean ====
section
/-! DEFINITION. The state of the device as plain data, the reasons a step can stop, and the state after reset. -/

namespace Sys2Proof.Machine

/-- The reasons a step can stop with a fault. -/
inductive Fault where
  /-- No meaning raises it: the spec gives the device no event that stops it. Safe. -/
  | none
  deriving DecidableEq, Repr

/-- The reasons a step can be refused. -/
inductive Refusal where
  /-- A command with no meaning yet. Safe. -/
  | notModelled (mnemonic : String)
  /-- A JTAG instruction that reaches the debug logic of a debug-fused part (R554): the spec says nothing of that logic. Safe. -/
  | debugLogic
  deriving DecidableEq, Repr

/-- The state of the device. -/
structure State where
  /-- The register words that do not hold their reset value, by address. -/
  regs : SMap Word := []
  /-- The lantern shadows that are not 0 (R481), by the address of the register they shadow. -/
  shadow : SMap Word := []
  /-- The bytes of HBM4, DDR5 and the tile stores that are not 0, by local address. -/
  mem : SMap Byte := []
  /-- The 64-byte units that carry a poison mark (R257), by unit number. -/
  marks : SMap Bool := []
  /-- Accumulator memory (R74): the 192-bit element (i, j) of slot t of engine n at ((n * 4 + t) * 128 + i) * 128 + j. -/
  acc : SMap (BitVec 192) := []
  /-- The command each queue runs. -/
  runs : SMap QRun := []
  /-- The logical cores. -/
  cores : SMap CoreSt := []
  /-- The combine requests held by each atomic unit (R264), oldest first. -/
  units : SMap (List CombReq) := []
  /-- The scaling table (R240) and the deviation records (R249), by tag. -/
  scales : SMap ScaleRec := []
  devs : SMap DevRec := []
  /-- Sampled tiles held for the sieve (R473). -/
  sieve : List SieveJob := []
  /-- The quiesces in progress (R305). -/
  quiesce : List Quiesce := []
  /-- Writes to a stage group's registers that wait for its command (R152): group, which word, value. -/
  groupPend : List (Nat × Bool × Word) := []
  /-- The queue each unit served last (R292). -/
  lastServed : SMap Nat := []
  /-- The error records of each class in its window of one second (R467): the window and the count; key 0x1000 + p counts the
  HOST_DROP records of port p. -/
  errWin : SMap (Nat × Nat) := []
  /-- The temperatures last sampled, in 0.125 °C (R557), by sensor number; 0x8000 where none was sampled. -/
  temps : SMap Nat := []
  /-- The rail voltages last sampled, in mV, by rail number. -/
  volts : SMap Nat := []
  /-- The Valix links that are not as after reset (R313 to R321). -/
  links : SMap LinkSt := []
  /-- The connections (R340). -/
  conns : SMap ConnSt := []
  /-- Packets in the router that wait to be routed (R329), in the order in which they came. -/
  net : List NetPkt := []
  /-- Packets delivered to this device's units and not yet taken. -/
  arrived : List NetPkt := []
  /-- The drain in progress (R337). -/
  drain : Option Drain := none
  /-- Arrival notices for the collective engines (R342). -/
  notices : List Notice := []
  /-- The collectives that run, by queue. -/
  colls : SMap CollSt := []
  /-- The host sessions in handshake or open, by number (R404). -/
  sess : SMap SessSt := []
  /-- Handshakes (R407) and echo replies (R403) of each port: a second and the count in it. -/
  hsWin : SMap (Nat × Nat) := []
  echoWin : SMap (Nat × Nat) := []
  /-- RoCEv2 packets that a received pause holds back (R420), oldest first, and the ports whose own pause is in force. -/
  ethHold : List Msg := []
  pauseTx : List Nat := []
  /-- The management complex (chapter 14). -/
  mg : Mgmt := {}
  /-- Resets and power states (chapter 16). -/
  pw : Power := {}
  /-- The microseconds that have passed, for everything but error records (R34): the model's own field. -/
  us : Nat := 0
  /-- When a NAK CONN was last sent to each source, in µs (R341). -/
  nakAt : SMap Nat := []
  /-- Heartbeat intervals missed by a standby, and the highest term it has seen (R354). -/
  hbMissed : Nat := 0
  termSeen : Nat := 0
  /-- A heartbeat has come in the present interval, and the term in which this device's own fabric manager acts (R354). -/
  hbSeen : Bool := false
  spireTerm : Nat := 0
  /-- The die bridges that have failed (R18): 0 to 3 the die edges, 4 + h the bridge of hub h. -/
  bridges : List Nat := []
  /-- Units that have not yet latched the present lantern token (R478), and whether it goes on over connections. -/
  lantern : List Nat := []
  lanternFabric : Bool := false
  /-- The corrected reads each memory controller keeps (R469): stacks 0 to 31, channels 32 to 47. -/
  ceRings : SMap CeRing := []
  /-- The row and lane repairs made since start-up (R271): hub and MEM_REPAIR_CMD word. -/
  repairs : List (Nat × Nat) := []
  /-- The next number that names a transfer. -/
  nextTag : Nat := 0
  /-- What the device has sent: the model's own record of outputs, oldest first. -/
  out : List Msg := []
  /-- Free values drawn so far: the model's own field. -/
  freeCtr : Nat := 0
  /-- The commands that are waiting, first in, first out. -/
  pending : List Instr := []
  deriving DecidableEq, Repr

/-- The device right after a power-on reset (R428, R499): at DOME_UP, every register at its reset value, no fuse blown, an empty flash,
and nothing waiting. -/
def State.reset : State := {}

end Sys2Proof.Machine
end

