-- ==== Sys2Proof/Machine/Ops.lean ====
section
/-! DEFINITION. The named operations over the state: registers and their fields, memory and its poison marks, ring entries, events
(R304), error records (R463 to R467), and drawing a free value. -/

namespace Sys2Proof.Machine

/-! ### Registers -/

/-- The address of a register word (R529). -/
def RegKey.addr (k : RegKey) : Nat :=
  let g := geo k.name
  g.base + k.i * g.s1 + k.j * g.s2 + k.t * g.s3

/-- Whether the numbers of a register word are in range (R540). -/
def RegKey.valid (k : RegKey) : Bool :=
  let g := geo k.name
  decide (k.i < g.n1) && decide (k.j < g.n2) && decide (k.t < g.n3)

/-- The instance of a word at an address, if the address is one of it (R529). -/
def RegName.at? (n : RegName) (a : Nat) : Option RegKey :=
  let g := geo n
  if a < g.base then none
  else
    let o := a - g.base
    let i := o / g.s1
    let o1 := o - i * g.s1
    let j := o1 / g.s2
    let o2 := o1 - j * g.s2
    let t := o2 / g.s3
    if i < g.n1 ∧ j < g.n2 ∧ t < g.n3 ∧ o2 - t * g.s3 = 0 then some ⟨n, i, j, t⟩ else none

/-- The register word assigned to an address (R528, R540); none where the word is unassigned. -/
def keyOf (a : Nat) : Option RegKey := RegName.all.findSome? (fun n => n.at? a)

/-- The reset value of a field (R14): the table's, but for TOP_GROUP of group 0 (R160) and ETH_STATUS.NETWORK (R423). -/
def RegKey.resetField (k : RegKey) (f : FieldInfo) : Nat :=
  match k.name with
  | .TOP_GROUP_LO => if k.i = 0 then 2 ^ 64 - 1 else 0
  | .TOP_GROUP_HI => if k.i = 0 ∧ f.lo = 0 then 2 ^ 32 - 1 else f.rst
  | .ETH_STATUS => if f.lo = 4 then k.i / 4 else f.rst
  | _ => f.rst

/-- The reset value of a register word. -/
def RegKey.resetWord (k : RegKey) : Word :=
  BitVec.ofNat 64 (((fieldsOf k.name).map (fun f => k.resetField f % 2 ^ f.w * 2 ^ f.lo)).foldl (· + ·) 0)

/-- What a register word that is not listed reads as: its reset value. -/
def regDefault (a : Nat) : Word := match keyOf a with
  | some k => k.resetWord
  | none => 0

/-- The value a register word holds. -/
def State.rd (s : State) (k : RegKey) : Word := smGet (fun _ => k.resetWord) s.regs k.addr

/-- Put a value into a register word; a word whose numbers are out of range does not exist. -/
def State.wr (s : State) (k : RegKey) (v : Word) : State :=
  { s with regs := if k.valid then smPut (fun _ => k.resetWord) s.regs k.addr v else s.regs }

/-- The value of a register field. -/
def State.fg (s : State) (f : Fld) (i : Nat := 0) (j : Nat := 0) (t : Nat := 0) : Nat :=
  bitsOf (s.rd ⟨f.reg, i, j, t⟩).toNat f.lo f.w

/-- Set a register field to a value, cut to its width. -/
def State.fs (s : State) (f : Fld) (v : Nat) (i : Nat := 0) (j : Nat := 0) (t : Nat := 0) : State :=
  s.wr ⟨f.reg, i, j, t⟩ (BitVec.ofNat 64 (setBits (s.rd ⟨f.reg, i, j, t⟩).toNat f.lo f.w v))

/-- Whether a one-bit field is 1. -/
def State.fb (s : State) (f : Fld) (i : Nat := 0) (j : Nat := 0) (t : Nat := 0) : Bool := s.fg f i j t == 1

/-- Count events in a counter, which stops at all ones (R535). -/
def State.fc (s : State) (f : Fld) (n : Nat) (i : Nat := 0) (j : Nat := 0) (t : Nat := 0) : State :=
  s.fs f (satAdd f.w (s.fg f i j t) n) i j t

/-- Set bits of a flag field. -/
def State.fo (s : State) (f : Fld) (bits : Nat) (i : Nat := 0) (j : Nat := 0) (t : Nat := 0) : State :=
  s.fs f (Nat.lor (s.fg f i j t) bits) i j t

/-- Set one bit of the pair of LO and HI words that holds one bit for each logical core. -/
def State.setCoreBit (s : State) (lo hi : Fld) (c : Nat) (v : Bool) : State :=
  if c < 64 then s.fs { lo with lo := lo.lo + c, w := 1 } (b2n v)
  else s.fs { hi with lo := hi.lo + (c - 64), w := 1 } (b2n v)

/-- One bit of such a pair. -/
def State.coreBit (s : State) (lo hi : Fld) (c : Nat) : Bool :=
  if c < 64 then s.fb { lo with lo := lo.lo + c, w := 1 } else s.fb { hi with lo := hi.lo + (c - 64), w := 1 }

/-- Draw a free value. -/
def State.free (s : State) : Nat × State := (Config.freeValue s.freeCtr, { s with freeCtr := s.freeCtr + 1 })

/-- Send a message. -/
def State.emit (s : State) (m : Msg) : State := { s with out := s.out ++ [m] }

/-- Whether the device is READY (R428) and neither stopped by a trip (R559) nor in DOME (R508): what is not start-up, wake or reset acts
only then. -/
def State.live (s : State) : Bool := s.fg F.MGT_STATUS.STAGE == 8 && !s.pw.tripped && !s.pw.dome

/-- Whether anything in the device takes register accesses: not in DOME (R508), and not after a trip (R559). -/
def State.powered (s : State) : Bool := !s.pw.tripped && !s.pw.dome

/-! ### The parts of the state that are tables -/

/-- The command a queue runs. -/
def State.run (s : State) (q : Nat) : QRun := smGet (fun _ => {}) s.runs q

/-- Change what a queue runs. -/
def State.setRun (s : State) (q : Nat) (r : QRun) : State := { s with runs := smPut (fun _ => {}) s.runs q r }

/-- Change what a queue runs by a function. -/
def State.modRun (s : State) (q : Nat) (f : QRun → QRun) : State := s.setRun q (f (s.run q))

/-- A logical core. -/
def State.core (s : State) (c : Nat) : CoreSt := smGet (fun _ => {}) s.cores c

/-- Replace a logical core. -/
def State.setCore (s : State) (c : Nat) (x : CoreSt) : State := { s with cores := smPut (fun _ => {}) s.cores c x }

/-- Change a logical core by a function. -/
def State.modCore (s : State) (c : Nat) (f : CoreSt → CoreSt) : State := s.setCore c (f (s.core c))

/-- Engine e of a core. -/
def CoreSt.engine (c : CoreSt) (e : Nat) : Eng := c.eng.getD e {}

/-- Context x of a core's stream engine. -/
def CoreSt.context (c : CoreSt) (x : Nat) : Ctx := c.ctx.getD x {}

/-- Change engine e of the four of a core (R28). -/
def CoreSt.modEng (c : CoreSt) (e : Nat) (f : Eng → Eng) : CoreSt :=
  { c with eng := (List.range 4).map (fun i => if i = e then f (c.engine i) else c.engine i) }

/-- Change context x of the four of a core's stream engine (R165). -/
def CoreSt.modCtx (c : CoreSt) (x : Nat) (f : Ctx → Ctx) : CoreSt :=
  { c with ctx := (List.range 4).map (fun i => if i = x then f (c.context i) else c.context i) }

/-- Change an engine. -/
def State.modEng (s : State) (c e : Nat) (f : Eng → Eng) : State := s.modCore c (fun k => k.modEng e f)

/-- Change a stream context. -/
def State.modCtx (s : State) (c x : Nat) (f : Ctx → Ctx) : State := s.modCore c (fun k => k.modCtx x f)

/-- The combine requests of an atomic unit. -/
def State.unitQ (s : State) (u : Nat) : List CombReq := smGet (fun _ => []) s.units u

/-- Replace the combine requests of an atomic unit. -/
def State.setUnitQ (s : State) (u : Nat) (l : List CombReq) : State := { s with units := smPut (fun _ => []) s.units u l }

/-! ### Engines -/

/-- The slot a unit lies in: keys 0 to 3 are the long slots, 4 + t INT32 tile t. -/
def unitSlot (u : Nat) : Nat := if u < 4 then u else (u - 4) / 6

/-- A FREE long slot, the lowest (R115, R117). DESIGN CHOICE (log entry 53): the spec names the lowest for an INT32 allocation; of several FREE
slots a long one takes the lowest too. -/
def Eng.freeSlot (e : Eng) : Option Nat := (List.range 4).find? (fun t => !e.mode32.contains t && (smFind e.chains t).isNone)

/-- A FREE INT32 tile in a slot already in INT32 mode (R117). -/
def Eng.freeTile (e : Eng) : Option Nat :=
  (List.range 24).find? (fun t => e.mode32.contains (t / 6) && (smFind e.chains (4 + t)).isNone)

/-- The unit an allocation would take now (R117): for INT32 tiles a FREE tile of a slot in INT32 mode, else tile 0 of a FREE slot. -/
def Eng.freshUnit (e : Eng) (lanes : Bool) : Option Nat :=
  if lanes then (e.freeTile.map (4 + ·)).or (e.freeSlot.map (fun t => 4 + 6 * t)) else e.freeSlot

/-- The unit an allocation takes (R117): one that waited takes the unit freed first. -/
def Eng.unitFor (e : Eng) (lanes : Bool) : Option Nat :=
  if e.want = some lanes then e.first.or (e.freshUnit lanes) else e.freshUnit lanes

/-- Set an engine right after chains have left it: an INT32 slot whose six tiles are FREE leaves its mode, a slot that holds nothing is not
marked failed, and a waiting allocation notes the unit freed first (R115 to R117, R127). DESIGN CHOICE (log entry 56): the slot leaves INT32 mode
at once; R115 says only when it may. -/
def Eng.tidy (e : Eng) : Eng :=
  let holds := fun (sl : Nat) => e.chains.any (fun p => unitSlot p.1 == sl)
  let e1 := { e with mode32 := e.mode32.filter holds, failed := e.failed.filter holds }
  match e.want with
  | some l => { e1 with first := e1.first.or (e1.freshUnit l) }
  | none => e1

/-- Set an engine right after a command's work on it is abandoned: no allocation waits any more. -/
def Eng.quit (e : Eng) : Eng := { e.tidy with want := none, first := none }

/-! ### The local address map -/

/-- The ranges of R255. -/
inductive Rng where
  | hbm
  | firmware
  | ddr
  | tile (core : Nat)
  | debug
  | regs
  | shadow
  | doorbell
  | none
  deriving DecidableEq, Repr

/-- A present logical core (R22, R24): numbered, and not absent. -/
def State.present (s : State) (c : Nat) : Bool :=
  decide (c < s.fg F.TOP_UNIT_COUNT.CORES) && decide (s.fg F.TOP_CORE_MAP.STATE c ≠ 2)

/-- Bytes of DDR5 (R262, R273). -/
def State.ddrSize (s : State) : Nat := s.fg F.MEM_DDR_SIZE.SIZE_GIB * 2 ^ 30

/-- The end of HBM4 and the base of the firmware region (R255, R261). -/
def hbmEnd : Nat := 0x018000000000
def fwBase : Nat := 0x017FF0000000
def ddrBase : Nat := 0x100000000000
def tileBase : Nat := 0x200000000000
def dbgBase : Nat := 0x210000000000
def regBase : Nat := 0x300000000000
def bellBase : Nat := 0x310000000000

/-- Whether the device is in SHELF or leaving it, its compute dies gated (R505, R507, R524). -/
def State.inShelf (s : State) : Bool := s.fg F.PWR_STATUS.STATE == 2 || s.fg F.PWR_STATUS.STATE == 4

/-- The range an address is decoded to (R255). The tile store of an absent core is not decoded (R256), nor is any tile store or debug window in SHELF
(R507). -/
def State.rng (s : State) (a : Nat) : Rng :=
  if a < fwBase then .hbm
  else if a < hbmEnd then .firmware
  else if ddrBase ≤ a ∧ a < ddrBase + s.ddrSize then .ddr
  else if tileBase ≤ a ∧ a < tileBase + 96 * 0x1000000 then
    (if s.present ((a - tileBase) / 0x1000000) && !s.inShelf then .tile ((a - tileBase) / 0x1000000) else .none)
  else if dbgBase ≤ a ∧ a < dbgBase + 384 * 0x200000 then (if s.inShelf then .none else .debug)
  else if regBase ≤ a ∧ a < regBase + 0x8000000000 then .regs
  else if regBase + 0x8000000000 ≤ a ∧ a < regBase + 0x10000000000 then .shadow
  else if bellBase ≤ a ∧ a < bellBase + 65536 * 0x40 ∧ a % 0x40 = 0 then .doorbell
  else .none

/-- The one range of R177 both ends lie in: HBM4, DDR5, or one tile store; `write` excludes the firmware region (R261). -/
def State.target (s : State) (lo hi : Nat) (write : Bool) : Bool :=
  match s.rng lo, s.rng hi with
  | .hbm, .hbm => true
  | .hbm, .firmware => !write
  | .firmware, .firmware => !write
  | .ddr, .ddr => true
  | .tile c, .tile d => c == d
  | _, _ => false

/-- A range of n bytes that a stream may read or write (R177). -/
def State.okRange (s : State) (a n : Nat) (write : Bool) : Bool :=
  if n = 0 then s.target a a write else s.target a (a + n - 1) write

/-- XOR of the w-bit slices of a number. -/
def foldXor (w : Nat) : Nat → Nat → Nat
  | 0, _ => 0
  | k + 1, x => Nat.xor (x % 2 ^ w) (foldXor w k (x / 2 ^ w))

/-- Where an HBM4 address lies (R259). -/
structure HbmLoc where
  stack : Nat
  spc : Nat
  row : Nat
  unit : Nat
  byte : Nat
  deriving DecidableEq, Repr

/-- hbm_map of R259 for a value of LOCAL_GIB (R258). -/
def hbmMap (localGib a : Nat) : HbmLoc :=
  let lr := localGib * 16384
  let ir := 6291456 - lr
  let g := a / 256
  if g < ir * 1024 then
    let row := g / 1024
    let pc := Nat.xor (g % 1024) (foldXor 10 3 row)
    { stack := pc % 32, spc := pc / 32, row := row, unit := 2 * (pc % 32) + pc / 32 / 16, byte := a % 256 }
  else
    let h := g - ir * 1024
    let c := h / (lr * 256)
    let l := h % (lr * 256)
    let p8 := Nat.xor (l % 256) (foldXor 8 3 (l / 256))
    let stack := 8 * c + p8 % 8
    { stack := stack, spc := p8 / 8, row := ir + l / 256, unit := 2 * stack + p8 / 8 / 16, byte := a % 256 }

/-- The atomic unit that serves an HBM4 address (R259). -/
def State.atomUnit (s : State) (a : Nat) : Nat := (hbmMap (s.fg F.MEM_PLACE.LOCAL_GIB) a).unit

/-- The DDR5 channel and the granule's place in it (R263), for n channels in use. -/
def ddrMap (n a : Nat) : Nat × Nat :=
  let g := (a - ddrBase) / 4096
  let b := if n = 16 then 4 else 3
  let i := Nat.xor g (foldXor b 16 (g / 2 ^ b)) % n
  (if n = 8 then 2 * i else i, g / 2 ^ b)

/-! ### Memory -/

/-- One byte of memory; a byte nothing has written reads 0 (DESIGN CHOICE, log entry 1). -/
def State.byte (s : State) (a : Nat) : Byte := smGet (fun _ => 0) s.mem a

/-- n bytes from an address on. -/
def State.bytes (s : State) (a n : Nat) : List Byte := (List.range n).map (fun i => s.byte (a + i))

/-- A little-endian number of n bytes (R9). -/
def State.le (s : State) (a n : Nat) : Nat := leNat (s.bytes a n)

/-- n 64-bit words. -/
def State.words (s : State) (a n : Nat) : List Word := (List.range n).map (fun i => BitVec.ofNat 64 (s.le (a + 8 * i) 8))

/-- Whether a 64-byte unit carries a poison mark (R257). -/
def State.mark (s : State) (u : Nat) : Bool := smGet (fun _ => false) s.marks u

/-- The 64-byte units that n bytes from a touch. -/
def unitsOf (a n : Nat) : List Nat := if n = 0 then [] else (List.range ((a + n - 1) / 64 - a / 64 + 1)).map (· + a / 64)

/-- Whether any of n bytes from a lies in a marked unit. -/
def State.marked (s : State) (a n : Nat) : Bool := (unitsOf a n).any s.mark

/-- Put bytes into a byte map. -/
def putBytes (m : SMap Byte) (a : Nat) : List Byte → SMap Byte
  | [] => m
  | b :: bs => putBytes (smPut (fun _ => 0) m a b) (a + 1) bs

/-- The mark of a unit after a write of n bytes at a (R257): a whole unit takes the write's poison, a part keeps a mark. -/
def markAfter (old : Bool) (a n u : Nat) (poison : Bool) : Bool :=
  if a ≤ u * 64 ∧ u * 64 + 64 ≤ a + n then poison else old || poison

/-- Write bytes with the poison of each unit (R179, R185, R257). -/
def State.store (s : State) (a : Nat) (bs : List Byte) (pz : List Nat := []) : State :=
  { s with
    mem := putBytes s.mem a bs
    marks := (unitsOf a bs.length).foldl
      (fun m u => smPut (fun _ => false) m u (markAfter (smGet (fun _ => false) m u) a bs.length u (pz.contains u))) s.marks }

/-- Write a little-endian number of n bytes. -/
def State.storeLe (s : State) (a n v : Nat) : State := s.store a (leBytes n v)

/-- Mark a unit poisoned with data 0 (R268). -/
def State.poisonUnit (s : State) (u : Nat) : State := s.store (u * 64) (List.replicate 64 0) [u]

/-- Bytes, and the marks of their units, become free values. -/
def State.freeFill (s : State) (a n : Nat) : State :=
  let bs := (List.range n).map (fun i => BitVec.ofNat 8 (Config.freeValue (s.freeCtr + i)))
  let us := unitsOf a n
  let pz := us.filter (fun u => Config.freeValue (s.freeCtr + n + (u - a / 64)) % 2 == 1)
  { s with freeCtr := s.freeCtr + n + us.length }.store a bs pz

/-- The device ID that global addresses carry (R170, R355); 0 while VALID = 0. -/
def State.devId (s : State) : Nat := if s.fb F.FAB_ID.VALID then s.fg F.FAB_ID.DEVICE_ID else 0

/-- A local address as a global fabric address (R170). -/
def State.global (s : State) (a : Nat) : Nat := s.devId * 2 ^ 48 + a % 2 ^ 48

/-- Count an access to an address not decoded (R256, R538). -/
def State.decodeErr (s : State) (n : Nat := 1) : State := s.fc F.MEM_DECODE_ERR.COUNT n

/-! ### Rings and events -/

/-- Queue types of R281. -/
def qCommand : Nat := 0
def qCompletion : Nat := 1
def qHandle : Nat := 2
def qEvent : Nat := 3

/-- Bytes of one ring entry (R281). -/
def entryBytes (type : Nat) : Nat := if type = 0 then 64 else 32

/-- An enabled queue of a type (R283). -/
def State.qOn (s : State) (q type : Nat) : Bool := s.fg F.QM_QDESC.STATE q == 1 && s.fg F.QM_QDESC.TYPE q == type

/-- Entries of a queue's ring (R283). -/
def State.ringSize (s : State) (q : Nat) : Nat := 2 ^ s.fg F.QM_QDESC.LOG2_ENTRIES q

/-- Entries held (R283). -/
def State.ringHeld (s : State) (q : Nat) : Nat :=
  (s.fg F.QM_QDESC.TAIL q + 2 ^ 32 - s.fg F.QM_QDESC.HEAD q) % 2 ^ 32

/-- The address of the entry at a counter value (R283). -/
def State.ringAddr (s : State) (q i : Nat) : Nat :=
  s.fg F.QM_QDESC.RING q + i % s.ringSize q * entryBytes (s.fg F.QM_QDESC.TYPE q)

/-- PHASE of a record written at the TAIL in force (R298): the inverse of bit LOG2_ENTRIES of TAIL. -/
def State.phase (s : State) (q : Nat) : Nat :=
  if bitOf (s.fg F.QM_QDESC.TAIL q) (s.fg F.QM_QDESC.LOG2_ENTRIES q) then 0 else 1

/-- Produce one entry of a ring. -/
def State.ringPut (s : State) (q : Nat) (bs : List Byte) : State :=
  let t := s.fg F.QM_QDESC.TAIL q
  ((s.store (s.ringAddr q t) bs).fs F.QM_QDESC.TAIL ((t + 1) % 2 ^ 32) q).fc F.QM_QDESC.ENTRIES 1 q

/-- Event kinds of R304. -/
def evDoorbellRefused : Nat := 1
def evEnableRefused : Nat := 2
def evQueueStopped : Nat := 3
def evWriterWait : Nat := 4
def evUnitQuiesced : Nat := 5
def evOwnerChanged : Nat := 6
def evErrorRecord : Nat := 7

/-- Post an event (R304). -/
def State.event (s : State) (kind : Nat) (q : Option Nat) (detail value addr : Nat) : State :=
  let dflt := if s.fb F.QM_CTL.EVQ_EN then some (s.fg F.QM_CTL.EVQ) else none
  let dest := match q with
    | some q => if s.fb F.QM_QDESC.EVQ_SEL q then some (s.fg F.QM_QDESC.EVQ q) else dflt
    | none => dflt
  match dest with
  | none => s
  | some e =>
    if s.qOn e qEvent = true ∧ s.ringHeld e < s.ringSize e then
      s.ringPut e (leBytes 2 kind ++ leBytes 2 (q.getD 0) ++ leBytes 4 detail ++ leBytes 8 value ++ leBytes 8 addr ++
        leBytes 8 (b2n q.isNone + s.phase e * 2 ^ 63))
    else s.fc F.QM_STATS.EV_DROPPED 1

/-! ### Error records -/

/-- Unit identifier of R28. -/
def uid (cls idx : Nat) : Nat := cls * 4096 + idx

/-- The operation an error record names (R463). -/
structure OpRef where
  q : Nat
  seq : Nat
  opc : Nat
  index : Nat := 0
  tile : Nat := 0
  deriving DecidableEq, Repr

/-- Sensor numbers: sites 0 to 103, hub dies 104 + 4h + k, stacks 136 + s, package stacks 168 + s, the dome 200 (R557). -/
def sensorNo : Sensor → Nat
  | .site n => n.val
  | .hub h k => 104 + 4 * h.val + k.val
  | .stack s => 136 + s.val
  | .pkgStack s => 168 + s.val
  | .dome => 200

/-- The logical core a unit identifier lies in (R28), if any. -/
def unitCore (u : Nat) : Option Nat :=
  match u / 4096 with
  | 2 | 4 | 5 | 6 => some (u % 4096)
  | 3 => some (u % 4096 / 4)
  | _ => none

/-- The lower of the two compute dies that a die edge joins (R18). -/
def edgeDie (b : Nat) : Nat := if b = 0 then 0 else if b = 1 then 2 else b - 2

/-- The sensor nearest to a unit (R463): of a hub die the first of its four; for a compute die as a whole and for a die edge, that of the first hub of
the (lower) die (log entry 20). -/
def State.sensorOf (s : State) (u : Nat) : Nat :=
  match unitCore u with
  | some c => s.fg F.TOP_CORE_MAP.SITE c
  | none =>
    match u / 4096 with
    | 0x0 => 104 + 8 * (u % 4096)
    | 0x1 => u % 4096
    | 0x7 => 104 + 4 * (u % 4096)
    | 0x8 => 136 + u % 4096
    | 0x9 => 104 + 4 * (u % 4096 / 2)
    | 0xA => 104 + 4 * (u % 4096 / 5)
    | 0xB | 0xC => 104 + 4 * (u % 4096)
    | 0xD => 104 + 4 * (u % 4096 / 8)
    | 0xF => if 8 ≤ u % 4096 then 104 + 4 * (u % 4096 - 8) else 104 + 8 * edgeDie (u % 4096)
    | _ => 104

/-- The rail that supplies a unit (R547). Where a unit draws on several, its logic's (log entry 20). -/
def State.railNo (s : State) (u : Nat) : Nat :=
  match unitCore u with
  | some c => s.fg F.TOP_CORE_MAP.SITE c / 26
  | none =>
    match u / 4096 with
    | 0x0 => u % 4096
    | 0x1 => u % 4096 / 26
    | 0x8 => 5
    | 0x9 => 9
    | 0xA | 0xB => 7
    | 0xE => if u % 4096 = 2 then 12 else if 3 ≤ u % 4096 then 13 else 4
    | 0xF => if 8 ≤ u % 4096 then 4 else edgeDie (u % 4096)
    | _ => 4

/-- The rail number and voltage an error record carries: the last sample of the unit's rail (R463). -/
def State.railOf (s : State) (u : Nat) : Nat × Nat := (s.railNo u, smGet (fun _ => 0) s.volts (s.railNo u))

/-- Bytes at offsets within a record: offset, length, value. -/
def fieldsAt (l : List (Nat × Nat × Nat)) : Nat := (l.map (fun x => x.2.2 % 256 ^ x.2.1 * 256 ^ x.1)).foldl (· + ·) 0

/-- Local time in µs, which only error records use (R34, R463). -/
def State.now (s : State) : Nat := s.fg F.DOME_TIME.TIME_US

/-- The second a record falls in (R467). -/
def State.second (s : State) : Nat := s.now / 1000000

/-- Records of a class so far in the present second (R467). -/
def State.errSoFar (s : State) (cls : Nat) : Nat :=
  let w := smGet (fun _ => (0, 0)) s.errWin cls
  if w.1 = s.second then w.2 else 0

/-- The 64 bytes of an error record as one number (R463). -/
def State.recordBits (s : State) (cls unit : Nat) (unit2 : Option Nat) (acted : Bool) (op : Option OpRef)
    (synd : List (Nat × Nat × Nat)) : Nat :=
  let rail := s.railOf unit
  let base := [(0, 1, cls), (1, 1, b2n op.isSome + 2 * b2n unit2.isSome + 4 * b2n acted), (2, 2, unit), (4, 2, unit2.getD 0),
    (6, 2, rail.1), (8, 6, s.now), (14, 2, smGet (fun _ => 0x8000) s.temps (s.sensorOf unit)), (16, 2, rail.2)]
  let opf := match op with
    | some o => [(18, 2, o.q), (20, 6, o.seq), (26, 1, o.opc), (28, 5, o.index), (33, 2, o.tile)]
    | none => []
  fieldsAt (base ++ opf ++ [(36, 4, s.fg F.MGT_ERR_LOG.HEAD)] ++ synd)

/-- The second identifier of a record about a unit inside a core (R464): its physical site. -/
def State.siteOf (s : State) (unit : Nat) : Option Nat := (unitCore unit).map (fun c => uid 1 (s.fg F.TOP_CORE_MAP.SITE c))

/-- A day in µs, within which records count toward a retirement (R483). -/
def dayUs : Nat := 86400000000

/-- Note the core a record blames for the criteria of R483: an SRAM_UE or PARITY record that names a unit of it, or a SIEVE record of
verdict 1 or 2. -/
def State.noteBlame (s : State) (cls unit : Nat) (synd : List (Nat × Nat × Nat)) : State :=
  match unitCore unit with
  | some c =>
    if cls = 1 ∨ cls = 2 ∨ (cls = 6 ∧ synd.contains (46, 1, 3) = false) then
      { s with mg := { s.mg with blames := (c, cls, s.now) :: s.mg.blames.filter (fun b => decide (s.now < b.2.2 + dayUs)) } }
    else s
  | none => s

/-- Raise an error record (R463 to R467): rate check, log, event. -/
def State.errRec (s : State) (cls unit : Nat) (op : Option OpRef) (synd : List (Nat × Nat × Nat)) (acted : Bool := false)
    (unit2 : Option Nat := none) : State :=
  let n := s.errSoFar cls
  if 100 ≤ n then s.fc F.MGT_ERR_CTL.SUPPRESSED 1
  else
    let s1 := { s with errWin := smPut (fun _ => (0, 0)) s.errWin cls (s.second, n + 1) }
    let head := s1.fg F.MGT_ERR_LOG.HEAD
    if (head + 2 ^ 32 - s1.fg F.MGT_ERR_LOG.TAIL) % 2 ^ 32 = 256 then
      let s2 := if s1.fg F.MGT_ERR_CTL.LOST = 0 then s1.fs F.MGT_ERR_CTL.LOST_CLASS cls else s1
      s2.fc F.MGT_ERR_CTL.LOST 1
    else
      let u2 := match unit2 with
        | some u => some u
        | none => s1.siteOf unit
      let r := s1.recordBits cls unit u2 acted op synd
      let s2 := (List.range 8).foldl
        (fun t w => t.wr ⟨.MGT_ERR_REC, head % 256, w, 0⟩ (BitVec.ofNat 64 (bitsOf r (64 * w) 64))) s1
      let s3 := (s2.fs F.MGT_ERR_LOG.HEAD ((head + 1) % 2 ^ 32)).noteBlame cls unit synd
      s3.event evErrorRecord (op.map (·.q)) cls 0 ((⟨.MGT_ERR_REC, head % 256, 0, 0⟩ : RegKey).addr)

/-- The bank of a tile store that holds an address: one of 1 MiB (R510). -/
def tileBank (a : Nat) : Nat := (a - tileBase) % 0x1000000 / 0x100000

/-- An uncorrectable SRAM error (R461, R462). The spec names no code whose syndrome it would be: a free function of where and when. -/
def State.sramRec (s : State) (unit structure_ bank addr : Nat) (op : Option OpRef) : State :=
  s.errRec 0x01 unit op [(40, 1, structure_), (41, 1, if structure_ = 0 then tileBank addr else bank), (48, 8, addr),
    (56, 8, Config.sramSyndrome unit structure_ addr s.us)]

/-- The operation of a queue's running command, for an error record. -/
def State.opRef (s : State) (q : Nat) (index : Nat := 0) (tile : Nat := 0) : OpRef :=
  { q := q, seq := (s.run q).seq, opc := bitsOf ((s.run q).words.headD 0).toNat 0 8, index := index, tile := tile }

/-! ### Memory reads with what their code finds -/

/-- Where in its DRAM an address lies, as an error record names it (R465): PC or rank, bank, row, column. -/
structure DramAt where
  pc : Nat
  bank : Nat
  row : Nat
  column : Nat
  deriving DecidableEq, Repr

/-- The controller of an HBM4 or DDR5 address (0 to 31 stacks, 32 to 47 channels), and the place in its DRAM. -/
def State.dramOf (s : State) (a : Nat) : Nat × DramAt :=
  let p := Config.dramPlace a
  let d : DramAt := { pc := bitsOf p 38 1, bank := bitsOf p 0 4, row := bitsOf p 4 18, column := bitsOf p 22 16 }
  if a < hbmEnd then
    let l := hbmMap (s.fg F.MEM_PLACE.LOCAL_GIB) a
    (l.stack, { d with pc := l.spc })
  else (32 + (ddrMap (s.fg F.MEM_DDR_SIZE.CHANNELS) a).1, d)

/-- The unit identifier of a memory controller (R28). -/
def ctlUnit (k : Nat) : Nat := if k < 32 then uid 8 k else uid 9 (k - 32)

/-- The SYND bytes that MEM_UE, MEM_CE_ROW and MEM_REPAIR share (R465). -/
def memSynd (flags : Nat) (d : DramAt) (symbol a : Nat) : List (Nat × Nat × Nat) :=
  [(40, 1, flags), (41, 1, d.pc), (42, 1, d.bank), (43, 1, symbol), (44, 4, d.row), (48, 2, d.column), (56, 8, a)]

/-- Count a corrected read in its controller's register (R276, R277). -/
def State.ceCount (s : State) (k : Nat) : State :=
  if k < 32 then s.fc F.MEM_STACK_ECC.CORRECTED 1 (k / 4) (k % 4) else s.fc F.MEM_DDR_ECC.CORRECTED 1 ((k - 32) / 2) ((k - 32) % 2)

/-- The ring of a controller. -/
def State.ceRing (s : State) (k : Nat) : CeRing := smGet (fun _ => {}) s.ceRings k

/-- The row of a place. -/
def DramAt.rowOf (d : DramAt) : DramRow := { pc := d.pc, bank := d.bank, row := d.row }

/-- The corrected reads of a PC that a controller keeps. -/
def CeRing.ofPc (r : CeRing) (pc : Nat) : List (DramRow × Nat) := smGet (fun _ => []) r.byPc pc

/-- A corrected read is kept; a row that made a record counts once more after 256 further ones (R469). -/
def CeRing.note (r : CeRing) (x : DramRow) (symbol : Nat) : CeRing :=
  { reads := (x :: r.reads).take 256
    byPc := smPut (fun _ => []) r.byPc x.pc (((x, symbol) :: r.ofPc x.pc).take 256)
    fired := (r.fired.map (fun f => (f.1, f.2 - 1))).filter (fun f => f.2 != 0) }

/-- A controller notes a corrected read (R469): MEM_CE_ROW when one row accounts for CE_ROW of the last 256. -/
def State.ceNote (s : State) (k : Nat) (d : DramAt) (symbol a : Nat) : State :=
  let r := (s.ceRing k).note d.rowOf symbol
  let n := (r.reads.filter (fun x => x == d.rowOf)).length
  let due := decide (s.fg F.MGT_ERR_CTL.CE_ROW ≤ n) && !r.fired.any (fun f => f.1 == d.rowOf)
  let ring : CeRing := if due then { r with fired := (d.rowOf, 256) :: r.fired } else r
  let s1 := { s.ceCount k with ceRings := smPut (fun _ => {}) s.ceRings k ring }
  if due then s1.errRec 0x04 (ctlUnit k) none (memSynd 0 d symbol a ++ [(52, 4, n)]) else s1

/-- A unit is found uncorrectable (R268): marked with data 0, counted, recorded. -/
def State.ueNote (s : State) (k : Nat) (d : DramAt) (symbol a flags : Nat) (op : Option OpRef) : State :=
  let s1 := s.poisonUnit (a / 64)
  let s2 := if k < 32 then s1.fc F.MEM_STACK_ECC.UNCORRECTED 1 (k / 4) (k % 4)
    else s1.fc F.MEM_DDR_ECC.UNCORRECTED 1 ((k - 32) / 2) ((k - 32) % 2)
  let s3 := { s2 with mg := { s2.mg with ueRows := (k, d.pc, d.bank, d.row) :: s2.mg.ueRows.filter (fun r => r != (k, d.pc, d.bank, d.row)) } }
  s3.errRec 0x03 (ctlUnit k) op (memSynd flags d symbol a)

/-- Count and treat what the code over a DRAM unit found (R268): the state after, and the cause of poison if the unit is poisoned for
this reader. The failing symbol is a free value. -/
def State.dramRead (s : State) (a : Nat) (found : Ecc) (op : Option OpRef) (combine : Bool := false) : State × Option Nat :=
  let k := s.dramOf a
  match found with
  | .ok => (s, if s.mark (a / 64) then some 3 else none)
  | .corrected => (s.free.2.ceNote k.1 k.2 (s.free.1 % 256) a, if s.mark (a / 64) then some 3 else none)
  | .uncorrectable => (s.free.2.ueNote k.1 k.2 (s.free.1 % 256) a (2 * b2n combine) op, some 1)

/-- A read of a command, descriptor or record at an address, with what the code finds (R268, R301): the state after, the cause of
poison if the bytes cannot be used. -/
def State.codeRead (s : State) (a n : Nat) (found : Ecc) (op : Option OpRef) : State × Option Nat :=
  match s.rng a with
  | .tile c =>
    match found with
    | .ok => (s, if s.marked a n then some 3 else none)
    | .corrected => (s.fc F.MGT_ERR_CTL.CE_OTHER 1, if s.marked a n then some 3 else none)
    | .uncorrectable => (s.sramRec (uid 2 c) 0 0 a op, some 1)
  | _ =>
    let r := s.dramRead a found op
    (r.1, if r.2.isSome || s.marked a n then some (r.2.getD 3) else none)

/-! ### Which fields an event clears (R14, R515) -/

/-- The events of a "Cleared by" column that clear fields here: power-on, system, core (and SHELF), block, DOME. -/
inductive Level where
  | por
  | sys
  | core
  | block
  | dome
  deriving DecidableEq, Repr

/-- Whether a "Cleared by" column lists an event (R14). After a power-on reset nothing of a register is left, the fuses not yet read. -/
def Clr.lists (c : Clr) (l : Level) : Bool :=
  match l with
  | .por => true
  | .sys => c != .p && c != .none
  | .core => c == .all
  | .block => c == .psb || c == .psbd || c == .all
  | .dome => c == .psd || c == .psbd || c == .all

/-- A register word after an event. -/
def clearWord (k : RegKey) (l : Level) (w : Word) : Word :=
  BitVec.ofNat 64 (((fieldsOf k.name).map (fun f =>
    (if f.clr.lists l then k.resetField f % 2 ^ f.w else bitsOf w.toNat f.lo f.w) * 2 ^ f.lo)).sum)

/-! ### Units, blocks and their registers (R28, R502, R536) -/

/-- The unit that holds a register word, as an identifier of R28. -/
def RegKey.unit (k : RegKey) : Nat :=
  match k.name with
  | .CORE_CP_STATUS | .CORE_CP_FAULT | .CORE_CP_FAULT_DESC | .CORE_CP_INDICES | .CORE_FMT_STICKY | .ACC_STICKY => uid 6 k.i
  | .MTX_SLOT_STATE | .MTX_LANE_STATE | .MTX_ACTIVE | .MTX_STALL | .MTX_DECANT | .MTX_ECC => uid 3 (4 * k.i + k.j)
  | .STR_STATUS | .STR_CTL | .STR_BYTES_RD | .STR_BYTES_WR | .STR_POISON_FIRST | .STR_POISON_ADDR | .STR_ERR_COUNT => uid 5 k.i
  | .VEC_STATUS | .VEC_CYCLES | .VEC_STICKY => uid 4 k.i
  | .MEM_STACK | .MEM_STACK_ECC => uid 8 (4 * k.i + k.j)
  | .MEM_DDR_CH | .MEM_DDR_ECC => uid 9 (2 * k.i + k.j)
  | .MEM_ATOM => uid 0xD (8 * k.i + k.j)
  | .FAB_LINK_STATUS | .FAB_LINK_CTL | .FAB_LINK_ERR | .FAB_PORT_WEIGHT | .FAB_CMAP => uid 0xA (5 * k.i + k.j)
  | .COL_CTL | .COL_STATUS | .COL_COUNT | .COL_ERR => uid 0xC k.i
  | .ETH_CTL | .ETH_STATUS | .ETH_MAC | .ETH_IP4 | .ETH_IP6_HI | .ETH_IP6_LO | .ETH_HS | .ETH_CC | .ETH_DROP | .ETH_SEAL | .ETH_ROCE
  | .ETH_SESS_W0 | .ETH_SESS_W1 | .ETH_SESS_W2 | .ETH_SESS_W3 => uid 0xB k.i
  | .MEM_REPAIR_CMD | .MEM_REPAIR_STATUS => uid 7 k.i
  | .QM_QDESC_W0 | .QM_QDESC_W1 | .QM_QDESC_W2 | .QM_QDESC_W3 | .QM_QDESC_W4 | .QM_QDESC_W5 | .QM_QDESC_W6 | .QM_QDESC_W7 => uid 7 (k.i % 8)
  | .MGT_STATUS | .CFG_STATUS | .MGT_POLICY | .MGT_PWR | .MGT_THERM | .MGT_STORE_CMD | .MGT_STORE_STATUS | .MGT_UPD_CMD
  | .MGT_UPD_STATUS | .MGT_ERR_LOG | .MGT_ERR_CTL | .MGT_HOSTKEY_W0 | .MGT_HOSTKEY_KEY | .MGT_HOSTKEY_RSVD | .MGT_ERR_REC | .RST_CAUSE
  | .RST_CTL | .RST_BLOCK_CMD | .RST_BLOCK_STATUS | .RST_WDOG | .PWR_CTL | .PWR_STATUS | .PWR_RETAIN | .CLK_STATUS | .DOME_WAKE
  | .DOME_PADS | .DOME_TIME => uid 0xE 0
  | _ => uid 7 0

/-- The memory controller that the last repair command of a hub named (R278). -/
def State.repairUnit (s : State) (h : Nat) : Nat :=
  let t := bitsOf (s.rd ⟨.MEM_REPAIR_CMD, h, 0, 0⟩).toNat 0 3
  if t ≤ 3 then uid 8 (4 * h + t) else if t ≤ 5 then uid 9 (2 * h + (t - 4)) else 0xFFFF

/-- Whether a register word belongs to a block (R502). -/
def State.inBlock (s : State) (u : Nat) (k : RegKey) : Bool :=
  if u / 4096 = 2 then k.name.inCore && k.i == u % 4096
  else k.unit == u || (k.name == .MEM_REPAIR_STATUS && s.repairUnit k.i == u)

/-- Whether a register word belongs to a block whose own reset goes on (R536). -/
def State.inReset (s : State) (k : RegKey) : Bool :=
  match s.pw.block with
  | some b => s.inBlock b.unit k
  | none => false

/-- A write of a register of such a block waits for the end of the reset (R536). -/
def State.holdWrite (s : State) (k : RegKey) (v : Nat) : State :=
  { s with pw := { s.pw with block := s.pw.block.map (fun b => { b with writes := b.writes ++ [(k.addr, BitVec.ofNat 64 v)] }) } }

end Sys2Proof.Machine
end

