-- ==== Sys2Proof/Machine/Operands.lean ====
section
/-! DEFINITION. The operand forms: tensor descriptors (R141), the loop-nest descriptor and its iteration points (R136 to R150), the
decant control word (R83), the combine word (R201), the sieve word (R289), and reading elements of tensors in memory. -/

namespace Sys2Proof.Machine

/-! ### Tensor descriptors -/

/-- Decode the eight words of a tensor descriptor (R141). -/
def TDesc.ofWords (w : List Word) : TDesc :=
  let x := fun i => (w.getD i 0).toNat
  { base := bitsOf (x 0) 0 48, fmt := bitsOf (x 0) 48 4, subn := bitOf (x 0) 52, crnd := bitsOf (x 0) 53 2,
    tscale := sext 8 (bitsOf (x 0) 56 8), cols := bitsOf (x 1) 0 40, tag := bitsOf (x 1) 40 12, padMode := bitsOf (x 1) 52 2,
    rows := bitsOf (x 2) 0 32, pad := bitsOf (x 2) 32 16, stride := bitsOf (x 3) 0 48, row0 := bitsOf (x 4) 0 32,
    col0 := bitsOf (x 5) 0 40, lcols := bitsOf (x 6) 0 40, map := bitsOf (x 7) 0 48,
    rsvd := bitOf (x 0) 55 || bitsOf (x 1) 54 10 != 0 || bitsOf (x 2) 48 16 != 0 || bitsOf (x 3) 48 16 != 0 ||
      bitsOf (x 4) 32 32 != 0 || bitsOf (x 5) 40 24 != 0 || bitsOf (x 6) 40 24 != 0 || bitsOf (x 7) 48 16 != 0 }

/-- The format of a descriptor, ACC256 standing in for a reserved code (which R563 refuses). -/
def TDesc.f (t : TDesc) : Fmt := (Fmt.ofCode t.fmt).getD .acc256

/-- The bytes of a tensor's storage, from its base on (R563). -/
def TDesc.extent (t : TDesc) : Nat := (t.rows - 1) * t.stride + t.f.rowBytes t.cols

/-- Whether PAD lies in the range of R146 for the descriptor's format. -/
def TDesc.padOk (t : TDesc) : Bool :=
  match t.f with
  | .bf16 | .fp32 => bitsOf t.pad 7 8 != 255
  | .acc256 => false
  | f =>
    let p := sext 16 t.pad
    let n := min f.bits 32
    decide (-(2 ^ (n - 1) : Int) ≤ p) && decide (p ≤ (2 ^ (n - 1) : Int) - 1)

/-- The checks of R143 and R563 every descriptor passes, storage and COLS = 0 left out. DESIGN CHOICE (log entry 60): ROWS = 0 and, but where a rule
lets a row have no elements, COLS = 0 are refused; R141 gives the two fields no range. -/
def TDesc.formOk (t : TDesc) : Bool :=
  !t.rsvd && (Fmt.ofCode t.fmt).isSome && decide (t.crnd ≤ 1) && decide (t.padMode ≤ 2) &&
  (t.padMode != 1 || t.padOk) && decide (1 ≤ t.rows) &&
  decide ((t.row0 + t.rows - 1) * t.lcols + t.lcols < 2 ^ 48) && decide (t.f.rowBytes t.cols ≤ t.stride) &&
  (!t.f.isBlock || t.base % 8 == 0)

/-- The same with at least one column. -/
def TDesc.fieldsOk (t : TDesc) : Bool := t.formOk && decide (1 ≤ t.cols)

/-- The storage rule of R563 for a tensor that is read or written. -/
def State.storageOk (s : State) (t : TDesc) (write : Bool) : Bool := s.okRange t.base t.extent write

/-- The checks of a tensor whose rows may have no elements (R226, R373): storage of no bytes lies everywhere. -/
def State.emptyOk (s : State) (t : TDesc) (write : Bool) : Bool := t.formOk && (t.extent == 0 || s.storageOk t write)

/-- A tensor descriptor that passes every check of R143 and R563. -/
def State.tdescOk (s : State) (t : TDesc) (write : Bool) : Bool := t.fieldsOk && s.storageOk t write

/-- The address of storage row r. -/
def TDesc.rowAddr (t : TDesc) (r : Nat) : Nat := t.base + r * t.stride

/-- The linear index of element (r, c) of the storage (R142). -/
def TDesc.linear (t : TDesc) (r c : Nat) : Nat := (t.row0 + r) * t.lcols + t.col0 + c

/-- The address of the retry-map byte of element (r, c) of the storage (R90, R142). -/
def TDesc.mapAddr (t : TDesc) (r c : Nat) : Nat :=
  t.map + (t.row0 + r) / 128 * ceilDiv t.lcols 128 + (t.col0 + c) / 128

/-- The raise of an element's retry cell (R182), and whether the map byte is poisoned. -/
def State.raiseAt (s : State) (t : TDesc) (r c : Nat) : Nat × Bool :=
  if t.map = 0 then (0, false)
  else (bitsOf (s.byte (t.mapAddr r c)).toNat 0 4, s.mark (t.mapAddr r c / 64))

/-- The address and length of an element's own bytes in its row; a TB4 or INT4 element shares its byte. -/
def elemSpan (f : Fmt) (rowBase c : Nat) : Nat × Nat :=
  let b := f.bits
  if f.isBlock then (rowBase + c / 256 * f.groupBytes + 8 + c % 256 * b / 8, max 1 (b / 8))
  else (rowBase + c * b / 8, max 1 (b / 8))

/-- The address of the block byte of an element (R44). -/
def blockByteAddr (f : Fmt) (rowBase c : Nat) : Nat := rowBase + c / 256 * f.groupBytes + c % 256 / 32

/-- The raw bits of an element. -/
def State.elemBits (s : State) (f : Fmt) (rowBase c : Nat) : Nat :=
  let sp := elemSpan f rowBase c
  if f.bits = 4 then bitsOf (s.byte sp.1).toNat (c % 2 * 4) 4 else s.le sp.1 sp.2

/-- Whether an element's unit, or any unit under its block, is marked poisoned (R185). -/
def State.elemMarked (s : State) (f : Fmt) (rowBase c : Nat) : Bool :=
  if f.isBlock then
    let b0 := c / 32 * 32
    let sp := elemSpan f rowBase b0
    s.mark (blockByteAddr f rowBase c / 64) || s.marked sp.1 (4 * f.bits)
  else
    let sp := elemSpan f rowBase c
    s.marked sp.1 sp.2

/-- The retry-map bytes of columns c0 … c0+n−1 of row r (R142). -/
def TDesc.mapBytes (t : TDesc) (r c0 n : Nat) : List Nat :=
  if t.map = 0 ∨ n = 0 then []
  else (List.range ((t.col0 + c0 + n - 1) / 128 - (t.col0 + c0) / 128 + 1)).map (· + t.mapAddr r c0)

/-- The first poison that reading columns c0 … c0+n−1 of a row at `rb` meets, lowest address first: a marked unit, a block byte with
POISON = 1 with its own cause, then a marked unit of the row's retry map (R182, R184, R187). -/
def State.rowPoison (s : State) (t : TDesc) (rb r c0 n : Nat) : Option (Nat × Nat) :=
  let f := t.f
  let sp := elemSpan f rb c0
  let e := elemSpan f rb (c0 + n - 1)
  let blks := if f.isBlock then (List.range ((c0 + n - 1) / 32 - c0 / 32 + 1)).map (fun i => blockByteAddr f rb ((c0 / 32 + i) * 32)) else []
  let us := if n = 0 then [] else unitsOf sp.1 (e.1 + e.2 - sp.1) ++ blks.map (· / 64)
  let hits := us.filterMap (fun u => if s.mark u then some (3, u * 64) else none) ++
    (if n = 0 then [] else blks.filterMap (fun a =>
      let b := (s.byte a).toNat
      if bitOf b 6 && !s.mark (a / 64) then some (bitsOf b 0 6, a / 64 * 64) else none))
  let least := hits.foldl (fun (x : Option (Nat × Nat)) y => match x with
    | some z => if y.2 < z.2 then some y else x
    | none => some y) none
  least.or ((t.mapBytes r c0 n).findSome? (fun a => if s.mark (a / 64) then some (3, a / 64 * 64) else none))

/-- Read an element of a tensor as an exact value with its retry map applied (R39, R43, R53, R182, R185). -/
def State.readEl (s : State) (t : TDesc) (r c : Nat) : Rd :=
  let f := t.f
  let rb := t.rowAddr r
  let m := s.raiseAt t r c
  if s.elemMarked f rb c then { v := .bad 3 }
  else if m.2 then { v := .bad 3 }
  else if f.isBlock then readBlk f (t.tscale + m.1) (s.byte (blockByteAddr f rb c)).toNat (s.elemBits f rb c)
  else readElem f (t.tscale + m.1) t.subn (s.elemBits f rb c)

/-- The value of the pad element (R146). -/
def TDesc.padVal (t : TDesc) : Rat :=
  match t.padMode with
  | 1 =>
    match t.f with
    | .bf16 | .fp32 => (readFp 7 t.subn t.pad).v.rat
    | _ => (sext 16 t.pad : Rat) * pow2 t.tscale
  | 2 =>
    match t.f with
    | .bf16 => -(((2 ^ 8 - 1 : Nat) : Rat) * pow2 120)
    | .fp32 => -(((2 ^ 24 - 1 : Nat) : Rat) * pow2 104)
    | f => -(((2 ^ (f.bits - 1) : Nat) : Rat) * pow2 (t.tscale + (if f.isBlock then 31 else 0)))
  | _ => 0

/-- The pad element of a matrix operand as an integer (R146, R147). -/
def TDesc.padInt (t : TDesc) : Int :=
  match t.padMode with
  | 1 => sext 16 t.pad
  | 2 => -(2 ^ (t.f.bits - 1) : Int)
  | _ => 0

/-! ### The loop-nest descriptor -/

/-- A loop of the nest (R137): dimension 0 M, 1 N, 2 K. -/
structure Loop where
  dim : Nat
  step : Nat
  rsvd : Bool
  deriving DecidableEq, Repr

/-- An operand entry (R139). -/
structure OpEnt where
  tdesc : Nat
  level : Nat
  bufs : Nat
  mc : Bool
  res : Bool
  rsvd : Bool
  deriving DecidableEq, Repr

/-- A loop-nest descriptor (R136). -/
structure Lnd where
  version : Nat
  nloops : Nat
  douter : Nat
  dloops : Nat
  mmode : Nat
  kseg : Nat
  k : Nat
  tm : Nat
  tn : Nat
  m : Nat
  n : Nat
  tsBase : Nat
  tsSize : Nat
  mcast : Nat
  loops : List Loop
  ents : List OpEnt
  rsvd : Bool
  deriving DecidableEq, Repr

/-- Decode a loop entry (R137). -/
def Loop.ofWord (w : Word) : Loop :=
  let x := w.toNat
  { dim := bitsOf x 0 2, step := bitsOf x 4 40, rsvd := bitsOf x 2 2 != 0 || bitsOf x 44 20 != 0 }

/-- Decode an operand entry (R139). -/
def OpEnt.ofWord (w : Word) : OpEnt :=
  let x := w.toNat
  { tdesc := bitsOf x 0 48, level := bitsOf x 48 3, bufs := bitsOf x 51 2 + 1, mc := bitOf x 53, res := bitOf x 54,
    rsvd := bitsOf x 55 9 != 0 }

/-- Decode the 17 words of an LND (R136). -/
def Lnd.ofWords (w : List Word) : Lnd :=
  let x := fun i => (w.getD i 0).toNat
  let nl := bitsOf (x 0) 8 3
  { version := bitsOf (x 0) 0 8, nloops := nl, douter := bitsOf (x 0) 11 3, dloops := bitsOf (x 0) 14 3,
    mmode := bitsOf (x 0) 24 8, kseg := bitsOf (x 0) 32 16, k := bitsOf (x 1) 0 40, tm := bitsOf (x 1) 40 7 + 1,
    tn := bitsOf (x 1) 47 7 + 1, m := bitsOf (x 2) 0 32, n := bitsOf (x 2) 32 32, tsBase := bitsOf (x 3) 0 24,
    tsSize := bitsOf (x 3) 24 25, mcast := x 4 + bitsOf (x 5) 0 32 * 2 ^ 64,
    loops := ((w.drop 6).take nl).map Loop.ofWord, ents := ((w.drop 12).take 5).map OpEnt.ofWord,
    rsvd := bitsOf (x 0) 17 7 != 0 || bitsOf (x 0) 48 16 != 0 || bitsOf (x 1) 54 10 != 0 || bitsOf (x 3) 49 15 != 0 ||
      bitsOf (x 5) 32 32 != 0 || ((w.drop (6 + nl)).take (6 - nl)).any (fun y => y != 0) }

/-- Entry of operand A, B, OUT, ADD or TOPK (0 to 4). -/
def Lnd.ent (l : Lnd) (i : Nat) : OpEnt := l.ents.getD i (OpEnt.ofWord 0)

/-- The part of the output and of K an iteration covers: position and range in M, N and K (R138). -/
structure Box where
  m0 : Nat
  mr : Nat
  n0 : Nat
  nr : Nat
  k0 : Nat
  kr : Nat
  deriving DecidableEq, Repr

/-- Range of a box in a dimension. -/
def Box.range (b : Box) (dim : Nat) : Nat := match dim with
  | 0 => b.mr
  | 1 => b.nr
  | _ => b.kr

/-- Advance a box to iteration i of a loop (R138: clipped at the extent). -/
def Box.iter (b : Box) (l : Loop) (i : Nat) : Box :=
  let r := min l.step (b.range l.dim - i * l.step)
  match l.dim with
  | 0 => { b with m0 := b.m0 + i * l.step, mr := r }
  | 1 => { b with n0 := b.n0 + i * l.step, nr := r }
  | _ => { b with k0 := b.k0 + i * l.step, kr := r }

/-- The iteration points of a nest of loops inside a box, outer loop first (R138, R150). -/
def iterPts : List Loop → Box → List Box
  | [], b => [b]
  | l :: ls, b => (List.range (ceilDiv (b.range l.dim) l.step)).flatMap (fun i => iterPts ls (b.iter l i))

/-- The whole of a command's work. -/
def Lnd.whole (l : Lnd) : Box := { m0 := 0, mr := l.m, n0 := 0, nr := l.n, k0 := 0, kr := l.k }

/-- The rounds of a command (R150). -/
def Lnd.rounds (l : Lnd) : List Box := iterPts (l.loops.take l.douter) l.whole

/-- The indices of a command in their order, each with its round (R150); DLOOPS = 0 makes the whole command index 0 (R144). -/
def Lnd.indices (l : Lnd) : List (Nat × Box) :=
  if l.dloops = 0 then [(0, l.whole)]
  else ((List.range l.rounds.length).zip l.rounds).flatMap (fun p =>
    (iterPts ((l.loops.drop l.douter).take l.dloops) p.2).map (fun b => (p.1, b)))

/-- The segments of an index in walk order (R138, R150). -/
def Lnd.segments (l : Lnd) (b : Box) : List Box :=
  iterPts (if l.dloops = 0 then l.loops else l.loops.drop (l.douter + l.dloops)) b

/-- The origins of the tiles of an index, in the order in which the nest first reaches them (R144). -/
def Lnd.tiles (l : Lnd) (b : Box) : List (Nat × Nat) := ((l.segments b).map (fun x => (x.m0, x.n0))).eraseDups

/-- The ordinal of a segment's tile within its index (R144). -/
def tileOrdinal (ts : List (Nat × Nat)) (b : Box) : Nat := ts.idxOf (b.m0, b.n0)

/-- Whether segment i of an index carries the close mark: the last one of its tile (R144). -/
def Lnd.closes (l : Lnd) (b : Box) (i : Nat) : Bool :=
  let segs := l.segments b
  match segs[i]? with
  | none => false
  | some x => !((segs.drop (i + 1)).any (fun y => y.m0 == x.m0 && y.n0 == x.n0))

/-- The extent of a dimension that one iteration of loop `lev` covers, the largest over the command (R140, R156): the smallest
step among loops 0 to lev of that dimension, clipped at the extent. LEVEL 7 covers the whole; a distributed level covers one index. -/
def Lnd.levelExtent (l : Lnd) (lev dim : Nat) : Nat :=
  let ext := match dim with
    | 0 => l.m
    | 1 => l.n
    | _ => l.k
  let upTo := if lev = 7 then 0
    else if l.dloops ≠ 0 ∧ l.douter ≤ lev ∧ lev < l.douter + l.dloops then l.douter + l.dloops
    else lev + 1
  ((l.loops.take upTo).filter (fun x => x.dim == dim)).foldl (fun a x => min a x.step) ext

/-- Passes of R62 and R111 as pairs: whether the hi (true) or lo (false) slice of a TB16 operand enters. -/
def passList (passes : Nat) (aWide bWide : Bool) : List (Bool × Bool) :=
  [(true, true)] ++ (if 2 ≤ passes ∧ bWide = true then [(true, false)] else []) ++
    (if passes = 3 ∧ aWide = true then [(false, true)] else [])

/-- K-steps a chain may hold (R76). -/
def chainLimit (a b : Fmt) : Nat := if a = .tb16 ∧ b = .tb16 then 2 ^ 34 else 2 ^ 40 - 1

/-- The rules of R138 for a nest that walks the dimensions `dims`. DEDUCED (log entry 61): its last rule, "A K loop outside the DOUTER loops
is not allowed" under the name "K outer ends", is read as: no K loop among the DOUTER loops; read the other way it would forbid every K loop
that R138 itself asks for. -/
def Lnd.loopsOk (l : Lnd) (dims : List Nat) (blockK : Bool) : Bool :=
  let steps := fun d => (l.loops.filter (fun x => x.dim == d)).map (·.step)
  let inner := fun d => match d with
    | 0 => l.tm
    | 1 => l.tn
    | _ => 32 * l.kseg
  l.loops.all (fun x => !x.rsvd && dims.contains x.dim && decide (1 ≤ x.step)) &&
  dims.all (fun d =>
    let st := steps d
    decide (st ≠ []) && st.getLast? == some (inner d) &&
    ((st.zip (st.drop 1)).all (fun p => p.1 % p.2 == 0))) &&
  (!blockK || (steps 2).all (fun x => x % 256 == 0 || decide (l.k ≤ x))) &&
  ((l.loops.take l.douter).all (fun x => x.dim != 2))

/-! ### Control words -/

/-- The decant control word (R83). -/
structure DecCtl where
  ofmt : Nat
  rmode : Nat
  retryMax : Nat
  add : Nat
  topk : Bool
  k : Nat
  topkOnly : Bool
  grid : Int
  rsvd : Bool
  step : Nat
  deriving DecidableEq, Repr

/-- Decode the decant control word (R83). -/
def DecCtl.ofWord (w : Word) : DecCtl :=
  let x := w.toNat
  { ofmt := bitsOf x 0 4, rmode := bitsOf x 4 2, retryMax := bitsOf x 6 4, add := bitsOf x 10 2, topk := bitOf x 12,
    k := bitsOf x 13 6 + 1, topkOnly := bitOf x 19, grid := sext 10 (bitsOf x 20 10), rsvd := bitsOf x 30 2 != 0,
    step := bitsOf x 32 32 }

/-- The rules of R83 on the word alone. -/
def DecCtl.ok (d : DecCtl) : Bool :=
  !d.rsvd && decide (1 ≤ d.ofmt ∧ d.ofmt ≤ 8) && decide (d.rmode ≤ 2) && decide (d.retryMax ≤ 8) && decide (d.add ≤ 2) &&
  (d.ofmt != 8 || (d.add == 0 && !d.topk && d.rmode == 0))

/-- The combine word (R201). -/
structure Comb where
  op : Nat
  k : Nat
  vfmt : Nat
  cdelta : Int
  rsvd : Bool
  deriving DecidableEq, Repr

/-- Decode the combine word (R201). -/
def Comb.ofNat (x : Nat) : Comb :=
  { op := bitsOf x 0 4, k := bitsOf x 4 4 + 1, vfmt := bitsOf x 8 4, cdelta := sext 48 (bitsOf x 12 48),
    rsvd := bitsOf x 60 4 != 0 }

/-- The rules of R201: reserved values, and fields the OP does not use. -/
def Comb.ok (c : Comb) : Bool :=
  !c.rsvd && decide (c.op ≤ 8) && (c.op == 7 || (c.k == 1 && c.vfmt == 0)) && (c.op != 7 || decide (1 ≤ c.vfmt ∧ c.vfmt ≤ 7)) &&
  (if c.op = 2 then c.cdelta % 256 == 0 else c.cdelta == 0)

/-- What the decant control word and the combine word of a MATRIX (`dc` = false) or DECANT command must say together, without its descriptors (R83,
R201, R203, R290). -/
def combDecOk (dc : Bool) (c : Comb) (d : DecCtl) : Bool :=
  d.ok && (!dc || d.ofmt != 8) && c.ok &&
  (match c.op with
  | 0 => true
  | 1 => d.ofmt == 8
  | 2 | 3 | 4 => d.ofmt == 7 && d.retryMax == 0
  | 5 | 6 | 8 => d.ofmt == 6 && d.retryMax == 0
  | 7 => d.topk && d.topkOnly && c.k == d.k && decide (d.k ≤ 16)
  | _ => false)

/-- The granule of a combine (R202), in bytes. -/
def Comb.granule (c : Comb) : Nat := match c.op with
  | 0 => 1
  | 1 => 32
  | 2 => 4
  | 7 => 16 * c.k
  | 8 => 4
  | _ => 64

/-- Whether a combined run may go to n bytes at a (R204): HBM4 outside the firmware region, aligned, and the carry plane of
ADD32S likewise and apart from the value plane. `any`: a run that a write is refused (R256, R261) counts as one that may. -/
def State.combOk (s : State) (c : Comb) (a n : Nat) (any : Bool := false) : Bool :=
  let al := if c.op = 7 then 256 else c.granule
  let hbm := fun (x m : Nat) => decide (x + m ≤ fwBase) || (any && !s.okRange x m true)
  decide (1 ≤ n) && hbm a n && a % al == 0 && n % c.granule == 0 &&
  (c.op != 2 ||
    let b := (2 * (a : Int) + c.cdelta) % (2 ^ 48 : Int)
    let lo := b.toNat
    hbm lo (2 * n) && (decide (a + n ≤ lo) || decide (lo + 2 * n ≤ a)))

/-- Whether a combine is outside the invariant modes (R214). -/
def Comb.notInvariant (c : Comb) : Bool := c.op == 8

end Sys2Proof.Machine
end

