-- ==== Sys2Proof/Machine/Exact.lean ====
section
/-! DEFINITION. Rolma exact accumulation as pure functions: promotion (R70, R71, R80), the decant of a tile (R84 to R94), top-k
records (R125), and the exact partial format XPF (R98 to R100). -/

namespace Sys2Proof.Machine

/-! ### Promotion -/

/-- The 32 elements of one K-block of a row of an operand as the feeder delivers them (R104, R107). -/
structure OpBlk where
  bad : Bool := false
  zero : Bool := false
  e : Int := 0
  ms : List Int
  /-- Elements clamped by the retry map (R182). -/
  clamped : Nat := 0
  /-- The cause of a poisoned block, 3 under a 64-byte mark (R51, R71). -/
  cause : Nat := 0
  /-- CORE_FMT_STICKY bits that reading the block byte sets (R42). -/
  fl : Nat := 0
  deriving DecidableEq, Repr

/-- Give a block of n-bit elements at offset e its raises, one for each element (R182): the block takes the smallest raise, an element of a
cell raised further is multiplied up, and past offset 31 every element is; each is clamped to the element range. The new offset, the elements
and how many were clamped. DESIGN CHOICE (log entry 47): R182 says nothing of a block that lies in two cells. -/
def raiseBlock (n : Nat) (e : Int) (rs : List Nat) (ms : List Int) : Int × List Int × Nat :=
  let r := rs.foldl min (rs.headD 0)
  let up := (e + r - 31).toNat
  let xs := (ms.zip rs).map (fun p => p.1 * 2 ^ (p.2 - r + up))
  let ys := xs.map (clampInt (-(2 ^ (n - 1) : Int)) ((2 ^ (n - 1) : Int) - 1))
  (min 31 (e + r), ys, ((xs.zip ys).filter (fun p => p.1 != p.2)).length)

/-- Slice of an element (R61): a narrow operand enters as it is. -/
def sliceOf (wide hi : Bool) (m : Int) : Int := if wide then (if hi then sliceHi m else sliceLo m) else m

/-- The partial of one K-block of one slice pass (R69). -/
def partialSum (aw bw : Bool) (p : Bool × Bool) (a b : List Int) : Int :=
  ((a.zip b).map (fun x => sliceOf aw p.1 x.1 * sliceOf bw p.2 x.2)).foldl (· + ·) 0

/-- The number of TB16 hi slices among the factors of a pass (R70). -/
def hiCount (aw bw : Bool) (p : Bool × Bool) : Nat := b2n (aw && p.1) + b2n (bw && p.2)

/-- The promotion of one K-block into an ACC192 element, all its passes (R70, R71); the elements of a poisoned block are 0 (R107). -/
def promoteLong (aw bw : Bool) (ps : List (Bool × Bool)) (acc : Int) (a b : OpBlk) : Int :=
  if a.zero || b.zero then acc
  else ps.foldl (fun s p =>
    s + partialSum aw bw p a.ms b.ms * 2 ^ (64 + a.e + b.e + 8 * (hiCount aw bw p : Int)).toNat) acc

/-- The promotion of one K-block into an INT32 lane and whether it was clamped (R80). -/
def promote32 (acc : Int × Bool) (a b : OpBlk) : Int × Bool :=
  let x := acc.1 + partialSum false false (true, true) a.ms b.ms
  let c := clampInt (-(2 ^ 31 : Int)) (2 ^ 31 - 1) x
  (c, acc.2 || c != x)

/-! ### The decant -/

/-- The 32-bit value R of an element (R87). -/
def hash32 (tag step x : Nat) : Nat :=
  let m := 2 ^ 64
  let z := Nat.lor (x % m) (tag * 2 ^ 48 % m)
  let z := Nat.xor z (step * 0x9E3779B97F4A7C15 % m)
  let z := Nat.xor z (z / 2 ^ 30) * 0xBF58476D1CE4E5B9 % m
  let z := Nat.xor z (z / 2 ^ 27) * 0x94D049BB133111EB % m
  let z := Nat.xor z (z / 2 ^ 31)
  z / 2 ^ 32

/-- One element in the decant register (R84): v = a × 2^G, the sticky bit, poison, and whether the addend was clamped. -/
structure DEl where
  a : Int
  sticky : Bool := false
  bad : Option Nat := none
  sat : Bool := false
  /-- The addend was a flushed subnormal (R53). -/
  sub : Bool := false
  fl : Nat := 0
  deriving DecidableEq, Repr

/-- Add the addend to an element (R84, R53). -/
def addAddend (g : Int) (a : Int) (b : Rd) : DEl :=
  match b.v with
  | .bad _ => { a := a, bad := some 4, fl := b.fl }
  | .num x =>
    if pow2 (g + 255) ≤ ratAbs x then
      let c : Int := 2 ^ 255 - 1
      { a := a + (if x < 0 then -c else c), sat := true, sub := b.sub, fl := b.fl }
    else
      let y := x / pow2 g
      { a := a + y.floor, sticky := decide ((y.floor : Rat) ≠ y), sub := b.sub, fl := b.fl }

/-- The value of an element. -/
def DEl.val (g : Int) (d : DEl) : Val := match d.bad with
  | some _ => .bad 4
  | none => .num ((d.a : Rat) * pow2 g)

/-- The exponent of the output step of a floating-point output (R86). -/
def fpStep (p : Nat) (v : Rat) : Int :=
  if v = 0 then -125 - (p : Int) else max (ilog2 (ratAbs v) - (p : Int) + 1) (-125 - (p : Int))

/-- One element as the decant writes it: bits, block byte, what happened, its written value, and whether its sticky bit was ignored
(ADDEND_TRUNC). -/
structure OutEl where
  bits : Nat
  blk : Nat := 0
  mark : Mk
  v : Val
  ovf : Bool := false
  trunc : Bool := false
  deriving DecidableEq, Repr

/-- Decant of an element of a format whose elements stand alone (R85, R86, R89). -/
def decantElem (f : Fmt) (s : Int) (subn : Bool) (m : Rnd) (g : Int) (r32 : Nat) (d : DEl) : OutEl :=
  let v := d.val g
  let qe := match f with
    | .bf16 => fpStep 8 v.rat
    | .fp32 => fpStep 24 v.rat
    | _ => s
  let use := decide (g + 1 ≤ qe)
  let w := encodeElem f s subn (roundSt m r32 (d.sticky && use)) v
  let back := if f.isFp then (readFp f.fracBits false w.1).v else (readElem f s false w.1).v
  { bits := w.1, mark := w.2, v := if v.isBad then v else back, ovf := f.isInt && w.2 == .sat,
    trunc := d.sticky && !use && !v.isBad }

/-- Decant of the elements of one block that lie in the tile (R46, R85, R86). -/
def decantBlock (f : Fmt) (s : Int) (m : Rnd) (g : Int) (ds : List (Nat × DEl)) : List OutEl :=
  let vs := ds.map (fun d => d.2.val g)
  let plain := encodeBlock f.bits s (fun i => roundSt m ((ds.getD i (0, ⟨0, false, none, false, false, 0⟩)).1) false) vs
  let use := match plain.ofs with
    | some e => decide (g + 1 ≤ s + e)
    | none => false
  let enc := if use then
      encodeBlock f.bits s (fun i =>
        let d := ds.getD i (0, ⟨0, false, none, false, false, 0⟩)
        roundSt m d.1 d.2.sticky) vs
    else plain
  (ds.zip (enc.ms.zip enc.marks)).map (fun x =>
    { bits := tcBits f.bits x.2.1, blk := enc.blk, mark := x.2.2, v := (readBlk f s enc.blk (tcBits f.bits x.2.1)).v,
      ovf := enc.overflow, trunc := x.1.2.sticky && !use && !bitOf enc.blk 6 })

/-- Decant of one row of a tile (R123: valid elements only); the row's first element lies at storage column c0. Each element comes
with its R. -/
def decantRow (f : Fmt) (s : Int) (subn : Bool) (m : Rnd) (g : Int) (c0 : Nat) (ds : List (Nat × DEl)) : List OutEl :=
  match f with
  | .acc256 => ds.map (fun d =>
      { bits := tcBits 256 d.2.a, mark := if d.2.bad.isSome then .poison else .none, v := d.2.val g })
  | f =>
    if f.isBlock then
      let first := ds.take (32 - c0 % 32)
      let rest := chunks 32 (ds.drop (32 - c0 % 32))
      (first :: rest).flatMap (decantBlock f s m g)
    else ds.map (fun d => decantElem f s subn m g d.1 d.2)

/-- The events of one valid element, counted once (R64, R84, R94): its mark, the addend's flush, and the addend's clamp where nothing else
of the element counts; every flag of what happened to it is set (R65). DEDUCED (log entry 86): the addend's clamp sets SATURATED, as row 5 of R64
says of a clamped element, beside the ADDEND_SAT of R84. -/
def outEv (d : DEl) (o : OutEl) : Ev :=
  let mk := if o.mark = .poison then .poison else if d.sub then .subnIn else o.mark
  let e := mk.ev
  let e := if d.sat ∧ mk = .none then { e with saturated := e.saturated + 1 } else e
  { e with fmt := Nat.lor (Nat.lor o.mark.ev.fmt (if d.sat && o.mark != .poison then 0x8 else 0)) d.fl,
           acc := Nat.lor (if o.trunc then 0x10 else 0) (if d.sat then 0x20 else 0) }

/-! ### Bytes of a row -/

/-- Bytes that a row of elements occupies when written from storage column c0 on: elements packed by R39, a nibble outside taken
from `old`. -/
def packElems (f : Fmt) (c0 : Nat) (old : Nat → Byte) (es : List Nat) : List Byte :=
  if f.bits = 4 then
    let n := es.length
    if n = 0 then []
    else
      let b0 := c0 / 2
      (List.range ((c0 + n - 1) / 2 - b0 + 1)).map (fun i =>
        let nib := fun (c : Nat) (lo : Nat) =>
          if c0 ≤ c ∧ c < c0 + n then es.getD (c - c0) 0 % 16 else bitsOf (old i).toNat lo 4
        BitVec.ofNat 8 (nib (2 * (b0 + i)) 0 + 16 * nib (2 * (b0 + i) + 1) 4))
  else es.flatMap (fun x => leBytes (f.bits / 8) x)

/-- The writes of a row of a format without blocks: the element bytes with the units poisoned integers mark (R40). -/
def plainWrites (f : Fmt) (rowAddr c0 : Nat) (old : Nat → Byte) (es : List (Nat × Bool)) : List Wr :=
  if es.isEmpty then []
  else
    let a := (elemSpan f rowAddr c0).1
    let pz := ((List.range es.length).zip es).flatMap (fun p =>
      if p.2.2 then (let sp := elemSpan f rowAddr (c0 + p.1); unitsOf sp.1 sp.2) else [])
    [{ addr := a, bytes := packElems f c0 (fun i => old (a + i)) (es.map (·.1)), pz := pz.eraseDups,
       fill := if f.isFp then leBytes (f.bits / 8) (poisonBits f 2) else [] }]

/-- The writes of a row of a block format from storage column c0 (R44, R45): block bytes and elements, and where the row ends in this
piece (`toEnd`) the padding of its last group. DESIGN CHOICE (log entry 48): where a tile's first column is no multiple of 32, the block byte of
the block it shares with its neighbour is written by each tile as that tile's elements give it, and a TB4 element at an odd first column is
written with a byte whose other half is 0; R148 gives every block one byte and does not say which tile's. -/
def blockWrites (f : Fmt) (rowAddr c0 : Nat) (toEnd : Bool) (es : List (Nat × Nat)) : List Wr :=
  let n := es.length
  let upTo := if toEnd then ceilDiv (c0 + n) 256 * 256 else c0 + n
  let all := es ++ List.replicate (upTo - (c0 + n)) (0, 0x20)
  let lastBlk := if n = 0 then 0x20 else (es.getD (n - 1) (0, 0x20)).2
  let fixed := ((List.range all.length).zip all).map (fun p =>
    if p.1 < n then p.2 else if (c0 + p.1) / 32 = (c0 + n - 1) / 32 ∧ n ≠ 0 then (0, lastBlk) else p.2)
  let groups := (List.range (ceilDiv upTo 256 - c0 / 256)).map (· + c0 / 256)
  groups.flatMap (fun gr =>
    let lo := max c0 (gr * 256)
    let hi := min upTo (gr * 256 + 256)
    let mine := (fixed.drop (lo - c0)).take (hi - lo)
    let blks := (List.range ((hi - 1) / 32 - lo / 32 + 1)).map (fun b =>
      BitVec.ofNat 8 (mine.getD (max lo ((lo / 32 + b) * 32) - lo) (0, 0x20)).2)
    if hi ≤ lo then []
    else
      [{ addr := blockByteAddr f rowAddr lo, bytes := blks },
       { addr := (elemSpan f rowAddr lo).1, bytes := packElems f lo (fun _ => 0) (mine.map (·.1)) }])

/-- The writes of a row of decanted or converted elements. -/
def rowWrites (f : Fmt) (rowAddr c0 : Nat) (toEnd : Bool) (old : Nat → Byte) (es : List OutEl) : List Wr :=
  if f.isBlock then blockWrites f rowAddr c0 toEnd (es.map (fun o => (o.bits, o.blk)))
  else plainWrites f rowAddr c0 old (es.map (fun o => (o.bits, o.v.isBad && !f.isFp)))

/-! ### Top-k records -/

/-- A top-k record (R125) with the value its bits give; `none` for a vacant place. -/
structure TopRec where
  pos : Nat
  value : Nat
  blk : Nat
  raise : Nat
  deriving DecidableEq, Repr

/-- The 16 bytes of a record (R125). -/
def TopRec.bytes (r : TopRec) : List Byte :=
  leBytes 6 r.pos ++ leBytes 2 0 ++ leBytes 4 r.value ++ leBytes 1 r.blk ++ leBytes 1 r.raise ++ leBytes 2 0

/-- A vacant place (R60, R125). -/
def vacantBytes (f : Fmt) (raise : Nat) : List Byte :=
  leBytes 6 0xFFFFFFFFFFFF ++ leBytes 2 0 ++ leBytes 4 (poisonBits f 4) ++ leBytes 1 0 ++ leBytes 1 raise ++ leBytes 2 0x44

/-- The 32-bit VALUE of an element (R125): INT8 and TB elements sign-extended. -/
def topValue (f : Fmt) (bits : Nat) : Nat :=
  match f with
  | .bf16 | .fp32 | .int32 => bits
  | f => tcBits 32 (sext f.bits bits)

/-- The records of one row in rank order (R93, R125, R126): `g0` is the global column of the first element. -/
def topkRow (f : Fmt) (k raise g0 : Nat) (es : List OutEl) : List Byte :=
  let cands := ((List.range es.length).zip es).filterMap (fun p => match p.2.v with
    | .num v => some (v, p.1)
    | .bad _ => none)
  let best := topkOf k cands
  let recs := best.flatMap (fun c =>
    let o := es.getD c.2 ⟨0, 0, .none, .num 0, false, false⟩
    ({ pos := g0 + c.2, value := topValue f o.bits, blk := o.blk, raise := raise } : TopRec).bytes)
  recs ++ (List.replicate (k - best.length) (vacantBytes f raise)).flatten

/-- Read a record in memory (R125): vacant when POS is all ones or POISON is not 0. -/
def readTop (bs : List Byte) : Option TopRec :=
  let pos := leNat (bs.take 6)
  if pos = 0xFFFFFFFFFFFF ∨ bs.getD 14 0 ≠ 0 then none
  else some { pos := pos, value := leNat ((bs.drop 8).take 4), blk := (bs.getD 12 0).toNat,
              raise := bitsOf (bs.getD 13 0).toNat 0 4 }

/-- What a record's bits read as at scale S = 0 plus its RAISE (R125, R212): the value and the flags the read sets (R53, R42). -/
def TopRec.rd (f : Fmt) (r : TopRec) : Rd :=
  if f.isBlock then readBlk f r.raise r.blk r.value
  else if f.isFp then readFp f.fracBits false r.value
  else readElem f r.raise false r.value

/-! ### XPF -/

/-- Trailing zero bits of a nonzero number, at most the fuel. -/
def trailZeros : Nat → Nat → Nat
  | 0, _ => 0
  | k + 1, x => if x % 2 = 1 then 0 else 1 + trailZeros k (x / 2)

/-- The smallest width, at least 1, that holds an integer in two's complement. -/
def tcWidth (x : Int) : Nat := if x < 0 then Nat.log2 ((-x - 1).toNat) + (if x = -1 then 1 else 2)
  else if x = 0 then 1 else Nat.log2 x.toNat + 2

/-- The header of an XPF block (R98). -/
def xpfHeader (low w : Nat) (zero poison cont : Bool) (cause : Nat) : Nat :=
  low + w * 2 ^ 8 + b2n zero * 2 ^ 16 + b2n poison * 2 ^ 17 + b2n cont * 2 ^ 18 + cause * 2 ^ 24

/-- Elements of w bits packed least significant bit first (R98). -/
def packBits (w : Nat) (xs : List Int) : List Byte :=
  leBytes (ceilDiv (w * xs.length) 8)
    (((List.range xs.length).zip xs).map (fun p => tcBits w p.2 * 2 ^ (w * p.1))).sum

/-- One XPF block of values that are not all zero, at LOW and width w. -/
def xpfBlock (low w : Nat) (cont : Bool) (xs : List Int) : List Byte :=
  leBytes 4 (xpfHeader low w false false cont 0) ++ packBits w xs

/-- The canonical encoding of 32 ACC256 values (R99); a poisoned value carries its cause. -/
def xpfEncode (vs : List (Except Nat Int)) : List Byte :=
  let causes := vs.filterMap (fun v => match v with | .error c => some c | .ok _ => none)
  match causes with
  | c :: cs => leBytes 4 (xpfHeader 0 0 false true false (cs.foldl min c))
  | [] =>
    let xs := vs.map (fun v => match v with | .error _ => 0 | .ok x => x)
    let nz := xs.filter (fun x => decide (x ≠ 0))
    if nz.isEmpty then leBytes 4 (xpfHeader 0 0 true false false 0)
    else
      let l := (nz.map (fun x => trailZeros 256 (tcBits 256 x))).foldl min 256
      let ys := xs.map (fun x => Int.fdiv x (2 ^ l : Nat))
      let w := (ys.map tcWidth).foldl max 1
      if w ≤ 192 then xpfBlock l w false ys
      else
        let zs := ys.map (fun x => Int.fdiv (x + 2 ^ 191) (2 ^ 192 : Nat))
        let lo := (ys.zip zs).map (fun p => p.1 - 2 ^ 192 * p.2)
        xpfBlock l 192 true lo ++ xpfBlock (l + 192) ((zs.map tcWidth).foldl max 1) false zs

/-- A decoded XPF block (R100): what it adds to each of 32 elements, poison, or malformed; and whether another follows. -/
inductive XpfDec where
  | add (xs : List Int) (cont : Bool) (rest : List Byte)
  | poison (cause : Nat) (rest : List Byte)
  | malformed
  deriving DecidableEq, Repr

/-- Decode one XPF block (R98, R100). -/
def xpfDecode (bs : List Byte) : XpfDec :=
  if bs.length < 4 then .malformed
  else
    let h := leNat (bs.take 4)
    let rest := bs.drop 4
    let low := bitsOf h 0 8
    let w := bitsOf h 8 8
    let zero := bitOf h 16
    let poison := bitOf h 17
    if 192 < w ∨ (w = 0 ∧ zero = false ∧ poison = false) ∨ 256 < low + w ∨ bitsOf h 19 5 ≠ 0 ∨ bitsOf h 30 2 ≠ 0 then .malformed
    else if poison then .poison (bitsOf h 24 6) rest
    else if zero then .add (List.replicate 32 0) (bitOf h 18) rest
    else if rest.length < 4 * w then .malformed
    else
      let x := leNat (rest.take (4 * w))
      .add ((List.range 32).map (fun i => sext w (bitsOf x (w * i) w) * 2 ^ low)) (bitOf h 18) (rest.drop (4 * w))

end Sys2Proof.Machine
end

