-- ==== Sys2Proof/Machine/Flags.lean ====
section
/-! DEFINITION. Sticky flags and counters: what conversions set in a core (R65, R101, R253) and add to a command's completion
(R64, R298), the first poison event (R187), and the status of a command (R301). -/

namespace Sys2Proof.Machine

/-- Set the sticky flags of a core (R65, R101, R253). -/
def State.sticky (s : State) (c : Nat) (e : Ev) : State :=
  ((s.fo ⟨.CORE_FMT_STICKY, 0, 9⟩ e.fmt c).fo ⟨.ACC_STICKY, 0, 7⟩ e.acc c).fo ⟨.VEC_STICKY, 0, 4⟩ e.vec c

/-- Add events to the counters of the command a queue runs (R298). -/
def State.count (s : State) (q : Nat) (e : Ev) : State := s.modRun q (fun r => { r with cnt := r.cnt.add e })

/-- Events of work a core does for a queue's command. -/
def State.events (s : State) (c q : Nat) (e : Ev) : State := (s.sticky c e).count q e

/-- Record that a status code applies to a queue's command (R301). -/
def State.fail (s : State) (q code : Nat) : State :=
  s.modRun q (fun r => { r with st := if r.st.contains code then r.st else code :: r.st })

/-- Status codes of R301. -/
def stOk : Nat := 0
def stDescError : Nat := 1
def stDescPoisoned : Nat := 2
def stResource : Nat := 3
def stUncorrectable : Nat := 4
def stAbortedDisable : Nat := 5
def stAbortedReset : Nat := 6
def stConnection : Nat := 7

/-- The status a record carries: the first that applies in the order of R301. -/
def statusOf (st : List Nat) : Nat := ([1, 2, 6, 5, 7, 4, 3].find? (fun c => st.contains c)).getD 0

/-- A descriptor error of a queue's command at a descriptor index and address (R301, R299). -/
def State.descError (s : State) (q : Nat) (idx addr : Nat) (code : Nat := 1) : State :=
  (s.fail q code).modRun q (fun r => { r with descIdx := idx, faddr := addr })

/-- Record a unit of work left undefined (R300). -/
def State.undef (s : State) (q index tile : Nat) : State :=
  s.modRun q (fun r => { r with undef := if r.undef.contains (index, tile) then r.undef else r.undef ++ [(index, tile)] })

/-- A first poison event (R187): kept by the command for each core, and by the engine until it is cleared (R196). -/
def State.poisonEvent (s : State) (c q ctx cause addr : Nat) : State :=
  let ga := s.global (addr / 64 * 64)
  let s1 := s.modRun q (fun r =>
    if r.pev.any (fun p => p.core == c) then r else { r with pev := r.pev ++ [⟨c, cause, ga, ctx⟩] })
  if s1.fb F.STR_POISON_FIRST.VALID c then s1
  else (((s1.fs F.STR_POISON_FIRST.VALID 1 c).fs F.STR_POISON_FIRST.CAUSE cause c).fs F.STR_POISON_FIRST.CONTEXT ctx c).fs
    F.STR_POISON_ADDR.ADDR ga c

/-- An index fault of entry n (R188). -/
def State.indexFault (s : State) (c q n : Nat) (countStr : Bool := true) : State :=
  let s1 := s.modRun q (fun r =>
    { r with ifaults := satAdd 32 r.ifaults 1, ifaultN := match r.ifaultN with | some m => some m | none => some n })
  if countStr then s1.fc F.STR_ERR_COUNT.INDEX_FAULTS 1 c else s1

/-- The unit identifier of a bridge (R28): 0 to 3 the die edges, 4 + h the bridge of hub h. -/
def bridgeUnit (b : Nat) : Nat := uid 0xF (if b < 4 then b else b + 4)

/-- The path and the bridge a PARITY record names (R465): a bridge of the way, or else the path of the unit's own. -/
def parityPath (own : Nat) (b : Option Nat) : Nat × Nat :=
  match b with
  | some k => (if k < 4 then 2 else 3, bridgeUnit k)
  | none => (own, 0xFFFF)

/-- A parity error on a data path (R461). -/
def State.parityRec (s : State) (unit path addr : Nat) (op : Option OpRef) (bridge : Option Nat := none) : State :=
  s.errRec 0x02 unit op [(40, 1, (parityPath path bridge).1), (42, 2, (parityPath path bridge).2), (48, 8, addr)]

/-- What the code over a control structure finds as an entry of it is read (R461, R462): a corrected error is counted; an uncorrectable
one is recorded with the structure and the index, and has its outcome. -/
def State.ctlMet (s : State) (found : Ecc) (unit structure_ index : Nat) (f : State → State) : State :=
  match found with
  | .ok => s
  | .corrected => s.fc F.MGT_ERR_CTL.CE_OTHER 1
  | .uncorrectable => f (s.sramRec unit structure_ 0 index none)

end Sys2Proof.Machine
end

