-- ==== Sys2Proof/Machine/HostOps.lean ====
section
/-! DEFINITION. Shared operations of the host ports (chapter 13): which port takes packets, sealed messages, the slots of sessions and
their closing, the checks of R409, the RC acknowledgements of R413, and completion mirrors (R303). -/

namespace Sys2Proof.Machine

/-! ### Ports -/

/-- ETH_STATUS.LINK codes (R423). -/
def ethDown : Nat := 0
def ethTraining : Nat := 1
def ethUp : Nat := 2
def ethDisabled : Nat := 3

/-- Whether a port's link is up. -/
def State.portUp (s : State) (p : Nat) : Bool := s.live && s.fg F.ETH_STATUS.LINK p == ethUp

/-- Whether a port takes packets: its link is up, it is not disabled (R305), and no block reset of it waits (R502). -/
def State.portTakes (s : State) (p : Nat) : Bool :=
  s.portUp p && !s.fb { F.QM_PORT_DIS.PORTS with lo := p, w := 1 } && !s.quiesce.any (fun x => x.u == .port (Fin.ofNat 8 p)) && (match s.pw.block with
  | some b => b.unit != uid 0xB p
  | none => true)

/-- A port's payload ceiling in 0.1 GB/s (R401, R419). -/
def ethCeiling (rate : Nat) : Nat :=
  match rate with
  | 0 => 500
  | 1 | 2 => 250
  | _ => 125

/-- n bytes of a number, most significant first, as session control and the RoCEv2 headers carry them (R404, R417). -/
def beBytes (n v : Nat) : List Byte := (leBytes n v).reverse

/-- The port's IPv6 address. -/
def State.ip6 (s : State) (p : Nat) : Nat := s.fg F.ETH_IP6_HI.ADDR_HI p * 2 ^ 64 + s.fg F.ETH_IP6_LO.ADDR_LO p

/-- Whether an IP address is an IPv4 one, as ::ffff:a.b.c.d (R465). -/
def isIp4 (ip : Nat) : Bool := ip / 2 ^ 32 == 0xFFFF

/-- The port's own address towards a peer. -/
def State.ownIp (s : State) (p ip : Nat) : Nat := if isIp4 ip then 0xFFFF00000000 + s.fg F.ETH_IP4.ADDR p else s.ip6 p

/-- The frame of a datagram to a peer (R403): ECT(0) is ECN code 0b10. -/
def State.ethTx (s : State) (p mac ip : Nat) (wire : List Byte) : EthTx :=
  { dstMac := mac, dstIp := ip,
    vlan := if s.fb F.ETH_CTL.VLAN_EN p then some (s.fg F.ETH_CTL.PCP p, s.fg F.ETH_CTL.VID p) else none,
    dscp := s.fg F.ETH_CTL.DSCP p, ecn := 2,
    udpSum := if isIp4 ip then 0 else (Config.udpSum (s.ip6 p) ip wire).toNat,
    wire := wire }

/-- The second of a limit by the second (R403, R407). -/
def State.usSecond (s : State) : Nat := s.us / 1000000

/-- Send a RoCEv2 packet of a port; a pause in force on its priority holds it back (R420). -/
def State.sendRoce (s : State) (p : Nat) (m : Msg) : State :=
  if s.fb F.ETH_STATUS.PAUSED p && s.fg F.ETH_CTL.PCP p == s.fg F.ETH_CTL.PFC_PRIO p then { s with ethHold := s.ethHold ++ [m] }
  else s.emit m

/-- The port a message leaves by. -/
def msgPort (m : Msg) : Option Nat :=
  match m with
  | .host p _ _ _ _ _ => some p
  | _ => none

/-- Whether a pause holds back what a port owes. -/
def State.portOwes (s : State) (p : Nat) : Bool := s.ethHold.any (fun m => msgPort m == some p)

/-- The pause in force on a port ends with nothing sent: its link went down, and RC retransmission recovers what it held back (R420, R421). -/
def State.dropHeld (s : State) (p : Nat) : State :=
  let s1 := s.fs F.ETH_STATUS.PAUSED 0 p
  { s1 with ethHold := s1.ethHold.filter (fun m => msgPort m != some p), pauseTx := s1.pauseTx.filter (fun x => x != p) }

/-- Send what a pause held back. -/
def State.unpause (s : State) (p : Nat) : State :=
  let s1 := s.fs F.ETH_STATUS.PAUSED 0 p
  { s1 with ethHold := s1.ethHold.filter (fun m => msgPort m != some p),
            out := s1.out ++ s1.ethHold.filter (fun m => msgPort m == some p) }

/-! ### Sessions -/

/-- Whether a session is open (R404, R427). -/
def State.sessOpen (s : State) (n : Nat) : Bool := s.fg F.ETH_SESS.STATE (n / 512) (n % 512) == 2

/-- The identity of a session. -/
def State.sessIdent (s : State) (n : Nat) : Nat := s.fg F.ETH_SESS.IDENTITY (n / 512) (n % 512)

/-- A session beside its register. -/
def State.ses (s : State) (n : Nat) : SessSt := smGet (fun _ => {}) s.sess n

/-- Replace a session. -/
def State.setSes (s : State) (n : Nat) (x : SessSt) : State := { s with sess := smPut (fun _ => {}) s.sess n x }

/-- Change a session by a function. -/
def State.modSes (s : State) (n : Nat) (f : SessSt → SessSt) : State := s.setSes n (f (s.ses n))

/-- A field of a session's register (R427). -/
def State.sg (s : State) (f : Fld) (n : Nat) : Nat := s.fg f (n / 512) (n % 512)

/-- Set a field of a session's register. -/
def State.ss (s : State) (f : Fld) (v n : Nat) : State := s.fs f v (n / 512) (n % 512)

/-- Count the open sessions of a port in ETH_STATUS.SESSIONS (R423). -/
def State.showSess (s : State) (p : Nat) : State :=
  s.fs F.ETH_STATUS.SESSIONS ((s.sess.filter (fun x => x.1 / 512 == p && s.sessOpen x.1)).length) p

/-- Whether a message is a READ response of a session (R412); `ends`: the last of one READ. -/
def isResp (n : Nat) (ends : Bool) (m : Msg) : Bool :=
  match m with
  | .host _ k kind _ _ _ => k == n && decide ((if ends then 0x10F else 0x10D) ≤ kind ∧ kind ≤ 0x110)
  | _ => false

/-- A slot is freed: it holds nothing, responses still held back stop (R421), and copies it had not got acknowledged count in MIRROR_LOST (R303, R305). -/
def State.freeSlot (s : State) (n : Nat) : State :=
  let lost := (s.ses n).tx.length
  let s1 := [RegName.ETH_SESS_W0, .ETH_SESS_W1, .ETH_SESS_W2, .ETH_SESS_W3].foldl (fun t r => t.wr ⟨r, n / 512, n % 512, 0⟩ 0) s
  ({ s1 with sess := smDel s1.sess n, ethHold := s1.ethHold.filter (fun m => !isResp n false m) }.fc F.QM_STATS.MIRROR_LOST lost).showSess (n / 512)

/-- Message kinds: the TYPE codes of R404, and 0x100 + the opcodes of R412. -/
def kReply : Nat := 2
def kRekeyAck : Nat := 4
def kClose : Nat := 5
def kReject : Nat := 6
def kCert : Nat := 8

/-- Take the next CTR of a session's sending direction (R408, R410): REKEY_DUE past 2^47. -/
def State.nextCtr (s : State) (n : Nat) : State :=
  let c := s.sg F.ETH_SESS.TX_CTR n + 1
  let s1 := s.ss F.ETH_SESS.TX_CTR c n
  if 2 ^ 47 < c then s1.ss F.ETH_SESS.REKEY_DUE 1 n else s1

/-- The 8-byte header of a session-control message (R404). -/
def scHeader (type version sess length : Nat) (status : Nat := 0) : List Byte :=
  [BitVec.ofNat 8 type, BitVec.ofNat 8 version] ++ beBytes 2 sess ++ beBytes 2 length ++ beBytes 2 status

/-- The nonce of a sealed packet (R408). -/
def sealNonce (iv : List Byte) (ctr : Nat) : List Byte := iv ++ [0, 0] ++ beBytes 6 ctr

/-- A sealed REKEY_ACK or CLOSE (R404, R410, R411): CTR, a CLOSE's REASON, and TAG. DEDUCED: TAG is the GCM tag of an empty message whose
associated data are the bytes before it (log entry 102). -/
def State.ctlWire (s : State) (n kind ctr : Nat) : List Byte :=
  let k := (s.ses n).keys
  let why := if kind = kClose then beBytes 1 (Config.closeReason n ctr) else []
  let body := scHeader kind 1 n (30 + why.length) (if kind = kRekeyAck then 1 else 0) ++ beBytes 6 ctr ++ why
  body ++ beBytes 16 (Config.gcmTag k.d2hKey (sealNonce k.d2hIv ctr) body []).toNat

/-- BTH of a packet the device sends, in RoCEv2's layout (PRESUMED, log entry 30): opcode, pad count, P_Key 0xFFFF, destination QPN, the
acknowledge request of a WRITE, and PSN. -/
def bth (op pad qpn psn : Nat) : List Byte :=
  [BitVec.ofNat 8 op, BitVec.ofNat 8 (16 * pad), 0xFF, 0xFF, 0] ++ beBytes 3 qpn ++ [if op = 0x0A then 0x80 else 0] ++ beBytes 3 psn

/-- RETH of a mirror WRITE, AETH of a response or an acknowledgement (R412); a READ Response Middle and a CNP have neither. -/
def rethAeth (op n : Nat) (fields : List Nat) : List Byte :=
  let f := fun i => fields.getD i 0
  if op = 0x0A then beBytes 8 (f 1) ++ beBytes 4 (Config.hostRkey n (f 0)) ++ beBytes 4 (f 2)
  else if op = 0x0E ∨ op = 0x81 then []
  else beBytes 1 (f 1) ++ beBytes 3 (f 2)

/-- A RoCEv2 packet of a session as it is sent (R408): BTH, SEALH, RETH or AETH, the encrypted payload, the tag, and the ICRC over all of it. -/
def State.roceWire (s : State) (n op ctr : Nat) (fields : List Nat) (bytes : List Byte) : List Byte :=
  let x := s.ses n
  let pad := (4 - bytes.length % 4) % 4
  let msg := if op = 0x81 then List.replicate 16 0 else bytes ++ List.replicate pad 0
  let poison := if 0x0D ≤ op ∧ op ≤ 0x10 then fields.getD 3 0 else 0
  let aad := bth op pad (s.sg F.ETH_SESS.REMOTE_QPN n) (fields.getD 0 0) ++
    (beBytes 6 ctr ++ [BitVec.ofNat 8 (s.sg F.ETH_SESS.KPHASE n), 0] ++ beBytes 8 poison) ++ rethAeth op n fields
  let nonce := sealNonce x.keys.d2hIv ctr
  let pkt := aad ++ (List.range msg.length).map (Config.gcmByte x.keys.d2hKey nonce aad msg) ++ beBytes 16 (Config.gcmTag x.keys.d2hKey nonce aad msg).toNat
  pkt ++ leBytes 4 (Config.icrc (s.ownIp (n / 512) x.srcIp) x.srcIp pkt).toNat

/-- Send a sealed message of a session: CTR and KPHASE come first among its fields. A session whose CTR has reached 2^48 − 1 closes
(R410). -/
def State.seal (s : State) (n kind : Nat) (fields : List Nat) (bytes : List Byte) : State :=
  if !s.sessOpen n then s else
  let s1 := s.nextCtr n
  let c := s1.sg F.ETH_SESS.TX_CTR n
  let wire := if 0x100 ≤ kind then s1.roceWire n (kind - 0x100) c fields bytes else s1.ctlWire n kind c
  let m := Msg.host (n / 512) n kind (c :: s1.sg F.ETH_SESS.KPHASE n :: fields) bytes (s1.ethTx (n / 512) (s1.ses n).srcMac (s1.ses n).srcIp wire)
  let s2 := if 0x100 ≤ kind then s1.sendRoce (n / 512) m else s1.emit m
  if c = 2 ^ 48 - 1 then s2.freeSlot n else s2

/-- Close a session, with CLOSE where it may be sent (R411, R421). -/
def State.closeSess (s : State) (n : Nat) (send : Bool) : State :=
  ((if send && s.portUp (n / 512) then s.seal n kClose [] [] else s).freeSlot n)

/-- Close every session of a port and free its slots in handshake; the state and how many sessions were closed (R305, R421). -/
def State.closePort (s : State) (p : Nat) (send : Bool := true) : State × Nat :=
  let mine := (s.sess.map (·.1)).filter (fun n => n / 512 == p)
  let opens := mine.filter s.sessOpen
  let s1 := { s with ethHold := s.ethHold.filter (fun m => msgPort m != some p), pauseTx := s.pauseTx.filter (fun x => x != p) }
  (mine.foldl (fun t n => t.closeSess n (send && s.sessOpen n)) s1, opens.length)

/-- Copy a completion record to the host's mirror ring, or drop it where the session is not open or its link is down (R303, R421). -/
def State.mirrorSend (s : State) (n addr : Nat) (bs : List Byte) : State :=
  if n < 4096 ∧ s.sessOpen n = true ∧ s.portUp (n / 512) = true then
    let x := s.ses n
    let s1 := s.setSes n { x with dPsn := (x.dPsn + 1) % 2 ^ 24, tx := x.tx ++ [{ psn := x.dPsn, va := addr, bytes := bs }] }
    s1.seal n 0x10A [x.dPsn, addr, bs.length] bs
  else s.fc F.QM_STATS.MIRROR_LOST 1

/-! ### Opening a packet (R409) -/

/-- The first drop of R409 in a second on a port raises a record (R409, R465, R467). -/
def State.hostDrop (s : State) (p reason mac ip : Nat) : State :=
  let key := 0x1000 + p
  let w := smGet (fun _ => (0, 0)) s.errWin key
  let n := if w.1 = s.second then w.2 else 0
  let s1 := { s with errWin := smPut (fun _ => (0, 0)) s.errWin key (s.second, n + 1) }
  if n = 0 then s1.errRec 0x0D (uid 0xB p) none [(40, 1, reason), (42, 6, mac), (48, 16, ip)] else s1

/-- Whether a CTR is refused as a replay (R409). -/
def Replay.refuses (r : Replay) (ctr : Nat) : Bool := decide (ctr + 1024 ≤ r.hi) || r.seen.contains ctr

/-- Mark a CTR seen. -/
def Replay.mark (r : Replay) (ctr : Nat) : Replay :=
  let hi := max r.hi ctr
  { hi := hi, seen := (ctr :: r.seen).filter (fun c => decide (hi < c + 1024)) }

/-- The replay window a packet of a key phase falls under; none where the session has no key of that phase (R409, R411). -/
def State.window (s : State) (n : Nat) (phase : Bool) : Option Replay :=
  if s.sg F.ETH_SESS.KPHASE n = b2n phase then some (s.ses n).rx else (s.ses n).old

/-- The checks of R409 on a packet of session n: the state after and whether it passed. -/
def State.opens (s : State) (p : Nat) (n : Option Nat) (phase : Bool) (ctr : Nat) (tagOk : Bool) (mac ip : Nat) : State × Bool :=
  match n with
  | none => ((s.fc F.ETH_SEAL.NO_SESSION 1 p).hostDrop p 1 mac ip, false)
  | some n =>
    if n / 512 ≠ p ∨ s.sessOpen n = false then ((s.fc F.ETH_SEAL.NO_SESSION 1 p).hostDrop p 1 mac ip, false)
    else
      match s.window n phase with
      | none => ((s.fc F.ETH_SEAL.TAG_FAIL 1 p).hostDrop p 2 mac ip, false)
      | some w =>
        if !tagOk then ((s.fc F.ETH_SEAL.TAG_FAIL 1 p).hostDrop p 2 mac ip, false)
        else if w.refuses ctr then ((s.fc F.ETH_SEAL.REPLAY 1 p).hostDrop p 3 mac ip, false)
        else if s.sg F.ETH_SESS.KPHASE n = b2n phase then
          (s.modSes n (fun x => { x with rx := w.mark ctr, newSeen := x.newSeen || x.old.isSome }), true)
        else (s.modSes n (fun x => { x with old := some (w.mark ctr) }), true)

/-- A CNP for a packet with a congestion mark, at most one every CNP_GAP_US (R418). -/
def State.noteMark (s : State) (n : Nat) (ce : Bool) : State :=
  if !ce then s
  else
    let due := match (s.ses n).cnpAt with
      | none => true
      | some t => decide (s.fg F.ETH_CC.CNP_GAP_US (n / 512) ≤ s.us - t)
    if due then ((s.modSes n (fun x => { x with cnpAt := some s.us })).seal n 0x181 [] []).fc F.ETH_ROCE.CNP_TX 1 (n / 512) else s

/-- The session a destination QPN names (R405). -/
def qpnSess (qpn : Nat) : Option Nat := if 0x100 ≤ qpn ∧ qpn < 0x1100 then some (qpn - 0x100) else none

/-- The port and the packet of a RoCEv2 frame that waits to be taken. -/
def roceOf : Instr → Option (Nat × Roce)
  | .sendOnly p x => some (p.val, x.p)
  | .rdmaWrite p x => some (p.val, x.p)
  | .rdmaRead p x => some (p.val, x.p)
  | .acknowledge p x => some (p.val, x)
  | .roceCnp p x => some (p.val, x)
  | _ => none

/-- The bytes of a port's receive buffer for PFC_PRIO (R420): the frames that have arrived at it and wait to be taken (log entry 32). -/
def State.rxHeld (s : State) (p : Nat) : Nat :=
  (s.pending.map (fun c => match roceOf c with
    | some (k, x) => if k = p ∧ x.prio.toNat = s.fg F.ETH_CTL.PFC_PRIO p then x.frameLen else 0
    | none => 0)).sum

/-- The port's own pause (R420): sent while its receive buffer holds more than 48 KiB, and released below 24 KiB. -/
def State.ownPause (s : State) (p : Nat) : State :=
  let prio : Byte := BitVec.ofNat 8 (s.fg F.ETH_CTL.PFC_PRIO p)
  let held := s.rxHeld p
  if s.pauseTx.contains p then
    if held < 24576 then { s with pauseTx := s.pauseTx.filter (fun x => x != p) }.emit (.net p 5 [prio, 0]) else s
  else if s.fb F.ETH_CTL.PFC_EN p && decide (49152 < held) then { s with pauseTx := s.pauseTx ++ [p] }.emit (.net p 5 [prio, 1])
  else s

/-- Take a RoCEv2 packet: the state after, and its session where it passes (R409, R418). A bad ICRC drops it, as RoCEv2 does (PRESUMED, log entry
30). -/
def State.openRoce (s : State) (port : Nat) (p : Roce) : State × Option Nat :=
  if !s.portTakes port then (s, none)
  else if !p.icrcOk then (s.ownPause port, none)
  else
    let s := s.ownPause port
    let n := qpnSess p.destqp.toNat
    let r := s.opens port n p.kphase p.ctr.toNat p.tagOk p.srcMac.toNat p.srcIp.toNat
    match n, r.2 with
    | some k, true => (r.1.noteMark k p.ce, some k)
    | _, _ => (r.1, none)

/-! ### Acknowledgements (R413) -/

/-- AETH syndromes of InfiniBand, as RoCEv2 carries them (PRESUMED, log entry 30). -/
def synAck : Nat := 0x1F
def synRnr : Nat := 0x21
def synSeq : Nat := 0x60
def synInvalid : Nat := 0x61
def synAccess : Nat := 0x62

/-- Send an Acknowledge packet. -/
def State.sendAeth (s : State) (n psn syn : Nat) : State :=
  let s1 := if syn = synAck then s.modSes n (fun x => { x with arrived := 0 }) else s.fc F.ETH_ROCE.NAK_TX 1 (n / 512)
  s1.seal n 0x111 [psn, syn, (s1.ses n).msn] []

/-- A NAK that ends the session (R412, R414). -/
def State.nakClose (s : State) (n psn syn : Nat) : State := (s.sendAeth n psn syn).freeSlot n

/-! ### The rate of a session (R419) -/

/-- A field of FAB_CC's layout within ETH_CC.CC (R425). -/
def State.ccField (s : State) (p : Nat) (f : Fld) : Nat := bitsOf (s.fg F.ETH_CC.CC p) f.lo f.w

/-- A CNP cuts the rate (R350, R419). -/
def State.cutRate (s : State) (n : Nat) : State :=
  let p := n / 512
  let x := s.ses n
  let free := match x.cutAt with
    | none => true
    | some t => decide (s.ccField p F.FAB_CC.CUT_HOLD_US ≤ s.us - t)
  if s.ccField p F.FAB_CC.CC_EN = 0 ∨ free = false then s
  else
    let r := s.sg F.ETH_SESS.RATE n
    let r1 := max (s.ccField p F.FAB_CC.RATE_MIN) (r - r * s.ccField p F.FAB_CC.BETA / 256)
    (s.setSes n { x with rt := r, steps := 0, cutAt := some s.us, incAt := s.us }).ss F.ETH_SESS.RATE
      (min r1 (ethCeiling (s.fg F.ETH_STATUS.RATE p))) n

/-- The increase of a session's rate when INC_US have passed since its timer started (R350, R419). -/
def State.raiseRate (s : State) (n : Nat) : State :=
  let p := n / 512
  let x := s.ses n
  if s.sessOpen n = false ∨ s.ccField p F.FAB_CC.CC_EN = 0 ∨ s.us < x.incAt + s.ccField p F.FAB_CC.INC_US then s
  else
    let r := s.sg F.ETH_SESS.RATE n
    let top := ethCeiling (s.fg F.ETH_STATUS.RATE p)
    if x.steps < s.ccField p F.FAB_CC.FAST_STEPS then
      (s.setSes n { x with steps := x.steps + 1, incAt := s.us }).ss F.ETH_SESS.RATE (min top ((r + x.rt) / 2)) n
    else
      let r1 := min top (r + s.ccField p F.FAB_CC.AI)
      (s.setSes n { x with steps := x.steps + 1, incAt := s.us, rt := r1 }).ss F.ETH_SESS.RATE r1 n

end Sys2Proof.Machine
end

