-- ==== Sys2Proof/Machine/Paths.lean ====
section
/-! DEFINITION. The paths over die bridges (R18), what holds requests to memory back (R266, R270), and what reads and writes of memory meet
(R184, R257, R268, R461). -/

namespace Sys2Proof.Machine

/-- Whether a block reset of a unit is asked for and has not ended (R502). -/
def State.resetting (s : State) (u : Nat) : Bool :=
  match s.pw.block with
  | some b => b.unit == u
  | none => false

/-! ### Paths over the bridges -/

/-- The die edges a transfer from compute die a to compute die b crosses (R18). -/
def dieEdges (a b : Nat) : List Nat :=
  if a = b then []
  else if a / 2 = b / 2 then [a / 2]
  else if a % 2 = b % 2 then [2 + a % 2]
  else [a / 2, 2 + b % 2]

/-- The bridges between a compute die and a hub (R18). -/
def hubPath (die h : Nat) : List Nat := dieEdges die (h / 2) ++ [4 + h]

/-- The hub a memory address lies on, or the core of a tile-store address. -/
def State.homeOf (s : State) (a : Nat) : Nat ⊕ Nat :=
  match s.rng a with
  | .hbm | .firmware => .inl ((hbmMap (s.fg F.MEM_PLACE.LOCAL_GIB) a).stack / 4)
  | .ddr => .inl ((ddrMap (s.fg F.MEM_DDR_SIZE.CHANNELS) a).1 / 2)
  | .tile c => .inr c
  | _ => .inl 0

/-- The compute die of a core. -/
def State.coreDie (s : State) (c : Nat) : Nat := s.fg F.TOP_CORE_MAP.SITE c / 26

/-- The 256-byte granules that n bytes from an address touch, by their first addresses. -/
def granulesOf (a n : Nat) : List Nat := (List.range ((a % 256 + n + 255) / 256)).map (fun i => a / 256 * 256 + 256 * i)

/-- Whether requests to an address wait: a repair holds its pseudo-channel or channel (R270), or its controller is to be reset (R266, R502). -/
def State.memHeld (s : State) (a : Nat) : Bool :=
  match s.rng a with
  | .hbm | .firmware =>
    let l := hbmMap (s.fg F.MEM_PLACE.LOCAL_GIB) a
    s.resetting (uid 8 l.stack) || s.fb F.MEM_STACK.HELD (l.stack / 4) (l.stack % 4) && s.fg F.MEM_STACK.HELD_PC (l.stack / 4) (l.stack % 4) == l.spc
  | .ddr => (let ch := (ddrMap (s.fg F.MEM_DDR_SIZE.CHANNELS) a).1; s.resetting (uid 9 ch) || s.fb F.MEM_DDR_CH.HELD (ch / 2) (ch % 2))
  | _ => false

/-- The bridges between a core and an address (R18). -/
def State.wayOf (s : State) (c a : Nat) : List Nat :=
  match s.homeOf a with
  | .inl h => hubPath (s.coreDie c) h
  | .inr d => dieEdges (s.coreDie c) (s.coreDie d)

/-- Whether a core reaches an address over bridges that work (R18). DESIGN CHOICE (log entry 88): the bridges of the request's way are looked at; R18
gives that way only, and data coming back between diagonal dies is taken to come back over the same bridges. -/
def State.wayOk (s : State) (c a : Nat) : Bool :=
  s.bridges.isEmpty || (s.wayOf c a).all (fun b => !s.bridges.contains b)

/-- Whether a core can now access n bytes at an address: bridges work (R18) and no repair holds them (R270). -/
def State.pathOk (s : State) (c a n : Nat) : Bool := (granulesOf a n).all (fun g => s.wayOk c g && !s.memHeld g)

/-- The bridges between two hubs (R18, R317). -/
def hubsWay (h g : Nat) : List Nat := if h = g then [] else [4 + h] ++ dieEdges (h / 2) (g / 2) ++ [4 + g]

/-- The bridges between a hub and an address (R18). -/
def State.hubWayOf (s : State) (h a : Nat) : List Nat :=
  match s.homeOf a with
  | .inl g => hubsWay h g
  | .inr d => [4 + h] ++ dieEdges (h / 2) (s.coreDie d)

/-- A bridge that lies on a hub's way to an address. -/
def State.hubBridge (s : State) (h a : Nat) (b : Option (Fin 12)) : Option Nat := (b.map (·.val)).filter ((s.hubWayOf h a).contains ·)

/-- A bridge that lies on a core's way to an address. -/
def State.coreBridge (s : State) (c a : Nat) (b : Option (Fin 12)) : Option Nat := (b.map (·.val)).filter ((s.wayOf c a).contains ·)

/-- Whether a hub and an address can reach each other (R18). -/
def State.hubPathOk (s : State) (h a : Nat) : Bool := s.bridges.isEmpty || (s.hubWayOf h a).all (fun b => !s.bridges.contains b)

/-- Whether a hub can now access n bytes at an address: bridges work (R18) and no repair holds them (R270). -/
def State.hubWay (s : State) (h a n : Nat) : Bool := (granulesOf a n).all (fun g => s.hubPathOk h g && !s.memHeld g)

/-- Whether a hub can now access some runs of bytes. -/
def State.hubReach (s : State) (h : Nat) (spans : List (Nat × Nat)) : Bool := spans.all (fun x => s.hubWay h x.1 x.2)

/-- Whether every one of some cores can now access some runs of bytes (R18, R270). -/
def State.coresReach (s : State) (cs : List Nat) (spans : List (Nat × Nat)) : Bool := cs.all (fun c => spans.all (fun x => s.pathOk c x.1 x.2))

/-- Whether two hubs reach each other (R18, R317). -/
def State.hubsMeet (s : State) (h g : Nat) : Bool := (hubsWay h g).all (fun b => !s.bridges.contains b)

/-! ### What reads and writes of memory meet -/

/-- The unit of a source that a read finds damaged, counted from the source's first unit, and its cause (R184). -/
def errHit (e : ReadErr) : Option (Nat × Nat) :=
  match e with
  | .uncorrectable u | .bufUncorrectable u => some (u, 1)
  | .parity u _ => some (u, 2)
  | _ => none

/-- Unit u of n bytes from a, the last one where they have fewer. -/
def unitIn (a n u : Nat) : Nat := a / 64 + min u ((a % 64 + n - 1) / 64)

/-- The unit of a source that a read damages, and its cause. -/
def hitUnit (a n : Nat) (err : ReadErr) : List (Nat × Nat) := ((errHit err).map (fun h => (unitIn a n h.1, h.2))).toList

/-- The state as a reader sees it to whom some units came damaged: they read as marked. -/
def State.seenBad (s : State) (us : List Nat) : State := { s with marks := us.foldl (fun m u => smPut (fun _ => false) m u true) s.marks }

/-- The core whose tile store holds an address. -/
def State.tileOf (s : State) (a : Nat) : Option Nat :=
  match s.rng a with
  | .tile d => some d
  | _ => none

/-- A list of units with what the code finds in each. -/
def unitList (l : List (BitVec 42 × Ecc)) : List (Nat × Ecc) := l.map (fun x => (x.1.toNat, x.2))

/-- What the code over a memory or tile-store unit finds as it is read (R268, R461). -/
def State.unitMet (s : State) (u : Nat) (found : Ecc) (op : Option OpRef) : State :=
  match found, s.tileOf (u * 64) with
  | .ok, _ => s
  | .corrected, some _ => s.fc F.MGT_ERR_CTL.CE_OTHER 1
  | .uncorrectable, some d => s.sramRec (uid 2 d) 0 0 (u * 64) op
  | e, none => (s.dramRead (u * 64) e op).1

/-- What a read by a hub meets (R184, R268, R461): of memory, on its datapath, or in its router buffer. -/
def State.hubMet (s : State) (h a n : Nat) (err : ReadErr) (op : Option OpRef) : State :=
  match err with
  | .none => s
  | .corrected u => s.unitMet (unitIn a n u) .corrected op
  | .uncorrectable u => s.unitMet (unitIn a n u) .uncorrectable op
  | .parity u b => s.parityRec (uid 7 h) 4 (unitIn a n u * 64) op (s.hubBridge h a b)
  | .bufCorrected => s.fc F.MGT_ERR_CTL.CE_OTHER 1
  | .bufUncorrectable u => s.sramRec (uid 7 h) 5 0 (unitIn a n u * 64) op

/-- Some runs of bytes are read, and a list says what the code finds in units of them (R268, R461). -/
def State.listMet (s : State) (spans : List (Nat × Nat)) (met : List (Nat × Ecc)) (op : Option OpRef) : State :=
  met.foldl (fun t x => if spans.any (fun r => (unitsOf r.1 r.2).contains x.1) then t.unitMet x.1 x.2 op else t) s

/-- The state as a reader sees it to whom such a list brings units that cannot be corrected. -/
def State.seenList (s : State) (met : List (Nat × Ecc)) : State := s.seenBad ((met.filter (fun x => x.2 == .uncorrectable)).map (·.1))

/-- The unit that receives a write, for a parity record (R183, R464). -/
def State.receiver (s : State) (a : Nat) : Nat :=
  match s.rng a with
  | .hbm | .firmware => uid 8 (hbmMap (s.fg F.MEM_PLACE.LOCAL_GIB) a).stack
  | .ddr => uid 9 (ddrMap (s.fg F.MEM_DDR_SIZE.CHANNELS) a).1
  | .tile c => uid 2 c
  | _ => uid 7 0

/-- The bytes of a poisoned run (R185): 0, or the pattern of a poisoned element. -/
def Wr.lostBytes (w : Wr) : List Byte :=
  (List.range w.bytes.length).map (fun i => if w.fill.isEmpty then 0 else w.fill.getD ((w.addr + i) % w.fill.length) 0)

/-- The bytes and poison of a raw copy (R185): a unit any damaged byte lands in is marked, with its bytes 0. -/
def State.rawWr (s : State) (src dst len : Nat) (spoil : Bool) (err : ReadErr) : Wr :=
  let seen := s.seenBad ((hitUnit src len err).map (·.1))
  let bad := if spoil then unitsOf dst len else
    ((List.range len).filterMap (fun i => if seen.mark ((src + i) / 64) then some ((dst + i) / 64) else none)).eraseDups
  { addr := dst, pz := bad,
    bytes := (List.range len).map (fun i => if bad.contains ((dst + i) / 64) then 0 else s.byte (src + i)) }

/-- Whether what a write of n bytes at a meets marks some unit (R184, R257): a unit that it wholly covers is not read. -/
def landHurts (a n : Nat) (err : LandErr) : Bool :=
  match err with
  | .none => false
  | .parity _ _ => true
  | .rmw last => (let u := if last then (a + n - 1) / 64 else a / 64; n != 0 && !(decide (a ≤ u * 64) && decide (u * 64 + 64 ≤ a + n)))

/-- A unit written in part whose read was uncorrectable (R257): it is marked, and the write will keep the mark. -/
def State.rmwMet (s : State) (a n : Nat) (err : LandErr) (op : Option OpRef) : State :=
  match err with
  | .rmw last =>
    let u := if last then (a + n - 1) / 64 else a / 64
    if landHurts a n err then (s.unitMet u .uncorrectable op).poisonUnit u else s
  | _ => s

/-- Some runs of bytes are about to be written, and a list says what the code finds in the units that they write in part (R257): a corrected error is
counted, and a unit that cannot be corrected is marked. -/
def State.rmwList (s : State) (spans : List (Nat × Nat)) (met : List (Nat × Ecc)) (op : Option OpRef) : State :=
  met.foldl (fun t x =>
    if spans.any (fun r => (unitsOf r.1 r.2).contains x.1 && !(decide (r.1 ≤ x.1 * 64) && decide (x.1 * 64 + 64 ≤ r.1 + r.2))) then
      match x.2 with
      | .uncorrectable => (t.unitMet x.1 .uncorrectable op).poisonUnit x.1
      | e => t.unitMet x.1 e op
    else t) s

/-- Store a write at an address with what it meets there (R179, R184, R257): a parity error marks every unit written; `path` is the path a record names
where the error is on no bridge of `way` (R465). -/
def State.storeMet (s : State) (w : Wr) (a : Nat) (err : LandErr) (path : Nat) (op : Option OpRef) (way : List Nat := []) : State :=
  let n := w.bytes.length
  let s1 := s.rmwMet a n err op
  match err with
  | .parity _ b => (s1.store a w.lostBytes (unitsOf a n)).parityRec (s1.receiver a) path a op ((b.map (·.val)).filter (way.contains ·))
  | _ => s1.store a w.bytes (w.pz.map (fun u => u + a / 64 - w.addr / 64))

end Sys2Proof.Machine
end

