-- ==== Sys2Proof/Machine/StreamOps.lean ====
section
/-! DEFINITION. Shared operations of streams and quiesces: handles and their posting (R189, R190), the end of a stream (R181), and
the list of units that quiesce (R305). -/

namespace Sys2Proof.Machine

/-- A quiesce in progress of a unit. -/
def State.quiescing (s : State) (u : QUnit) : Option Quiesce := s.quiesce.find? (fun x => x.u == u)

/-- Remove a unit's quiesce. -/
def State.endQuiesce (s : State) (u : QUnit) : State := { s with quiesce := s.quiesce.filter (fun x => x.u != u) }

/-- Change a unit's quiesce. -/
def State.modQuiesce (s : State) (u : QUnit) (f : Quiesce → Quiesce) : State :=
  { s with quiesce := s.quiesce.map (fun x => if x.u == u then f x else x) }

/-- Whether a core is disabled (R305, R306): its bit is set, or it is still quiescing, since a bit cleared meanwhile takes effect at the end. -/
def State.coreOff (s : State) (c : Nat) : Bool :=
  s.coreBit F.QM_CORE_DIS_LO.CORES_LO F.QM_CORE_DIS_HI.CORES_HI c || (s.quiescing (.core (Fin.ofNat 96 c))).isSome

/-- The bytes of a handle (R189): `w` is the descriptor its fields come from. -/
def handleBytes (cx : Ctx) (w : List Word) (core seq : Nat) (aborted : Bool) : List Byte :=
  let x := fun i => (w.getD i 0).toNat
  leBytes 32 (fieldsAt [(0, 6, cx.firstDst), (8, 4, min cx.bytes 0xFFFFFFFF), (12, 1, bitsOf (x 0) 32 6),
    (13, 1, b2n cx.pois + 2 * b2n cx.ifault + 4 * b2n aborted), (14, 1, core), (16, 8, x 15), (24, 4, seq)])

/-- The handle a stream posts at its end (R190): from the ending descriptor, or from the latest accepted with HANDLE = 1 where the
stream stopped early; with its queue. -/
def Ctx.endHandle (cx : Ctx) (core seq : Nat) : Option (Nat × List Byte) :=
  let w := if cx.aborted then cx.handleDesc else cx.lastDesc
  let x := (w.headD 0).toNat
  if w.isEmpty ∨ bitOf x 9 = false then none else some (bitsOf x 16 16, handleBytes cx w core seq cx.aborted)

/-- A stream is over (R181): its context is free and its command may complete. -/
def State.streamOver (s : State) (c x : Nat) : State :=
  match ((s.core c).context x).q with
  | some q => (s.modCtx c x (fun _ => {})).modRun q (fun r => { r with finished := true, ready := true })
  | none => s

/-- Whether a writer waits on a full queue (R303, R308): a record that is due in it, or a handle. -/
def State.writerWaits (s : State) (q : Nat) : Bool :=
  s.runs.any (fun p => p.2.record.isSome && s.fg F.QM_QDESC.CQ p.1 == q) ||
  s.cores.any (fun p => p.2.ctx.any (fun x => (x.handle.map (·.1)) == some q))

/-- FULL_WAIT of a queue as its writers wait (R308). -/
def State.showWait (s : State) (q : Nat) : State := s.fs F.QM_QDESC.FULL_WAIT (b2n (s.writerWaits q)) q

/-- Where the next entry of a ring of a type goes, if the queue is enabled: 32 bytes. -/
def State.tailSpan (s : State) (q type : Nat) : List (Nat × Nat) := if s.qOn q type then [(s.ringAddr q (s.fg F.QM_QDESC.TAIL q), 32)] else []

/-- Post a handle, drop it, or wait for room (R190). -/
def State.postHandle (s : State) (c x : Nat) (hq : Nat) (bs : List Byte) : State :=
  if !s.qOn hq qHandle then ((s.fc F.QM_STATS.HQ_DROPPED 1).streamOver c x).showWait hq
  else if s.ringHeld hq < s.ringSize hq then ((s.ringPut hq bs).streamOver c x).showWait hq
  else
    let s1 := s.modCtx c x (fun y => { y with handle := some (hq, bs), posted := true })
    if s1.fb F.QM_QDESC.FULL_WAIT hq then s1
    else (s1.fs F.QM_QDESC.FULL_WAIT 1 hq).event evWriterWait (some hq) 0 (s1.fg F.QM_QDESC.TAIL hq) 0

/-- Where the handle of a context goes that waits to be posted, or that the stream's end posts (R190): its queue, and its slot. -/
def State.handleSlot (s : State) (c x : Nat) : Option (Nat × List (Nat × Nat)) :=
  let cx := (s.core c).context x
  let h := cx.handle.or (cx.endHandle c (s.run (cx.q.getD 0)).seq)
  h.map (fun p => (p.1, s.tailSpan p.1 qHandle))

/-- Whether the handle of a context can be written now (R18, R270). -/
def State.mayPost (s : State) (c x : Nat) : Bool := match s.handleSlot c x with
  | some h => s.hubReach (h.1 % 8) h.2
  | none => true

/-- What the write of a context's handle meets (R257). -/
def State.postMet (s : State) (c x : Nat) (met : List (Nat × Ecc)) : State := match s.handleSlot c x with
  | some h => s.rmwList h.2 met none
  | none => s

/-- The end of a stream takes effect (R181): the handle first, then the command. -/
def State.closeStream (s : State) (c x : Nat) : State :=
  let cx := (s.core c).context x
  match cx.q with
  | none => s
  | some q =>
    match cx.endHandle c (s.run q).seq with
    | some h => s.postHandle c x h.1 h.2
    | none => s.streamOver c x

end Sys2Proof.Machine
end

