-- ==== Sys2Proof/Machine/Queue.lean ====
section
/-! DEFINITION. Queues and commands (R280 to R312): ownership, doorbells, enabling and disabling, starting and completing commands. -/

namespace Sys2Proof.Machine

/-! ### Who may write (R280) -/

/-- Whether a session is one of the owner's. -/
def State.ownerSess (s : State) (n : Nat) : Bool :=
  s.fb F.QM_OWNER.OWNED && s.sessOpen n && s.sessIdent n == s.fg F.QM_OWNER.OWNER_ID

/-- Whether the QM accepts a write from a requester (R280): sessions of the owner's identity, management firmware and the side-band. A
fabric manager reaches no register of the QM (R353), and a Valix doorbell packet passes by its connection's DB bit (R341). -/
def State.qmAllows (s : State) (who : Req) : Bool :=
  match who with
  | .session n => s.ownerSess n.toNat
  | .mgmt | .sideband => true
  | .fabric _ => false

/-- A write the QM drops (R280). -/
def State.foreign (s : State) : State := s.fc F.QM_STATS.FOREIGN_DB 1

/-- A write of the QM (R280): made, or dropped; nothing answers before READY, in DOME or after a trip. -/
def State.qmWrite (s : State) (who : Req) (f : State → State) : State :=
  if !s.live then s else if s.qmAllows who then f s else s.foreign

/-- Management firmware, or the side-band acting as it (R447). -/
def isMgmt (who : Req) : Bool :=
  match who with
  | .mgmt | .sideband => true
  | _ => false

/-! ### Pool and groups -/

/-- Whether a core is in the work pool (R24, R151). -/
def State.inPool (s : State) (c : Nat) : Bool := s.present c && (s.core c).out.isEmpty

/-- Show in TOP_CORE_MAP whether a present core is in the pool (R24). -/
def State.showPool (s : State) (c : Nat) : State :=
  if s.present c then s.fs F.TOP_CORE_MAP.STATE (if (s.core c).out.isEmpty then 0 else 1) c else s

/-- Multicast fetches of a core pass to the next receiver (R155): those not yet issued, or, with `all`, those under way too, which begin again.
A core that leaves stays a receiver of a command whose indices it still holds, unless it is disabled. -/
def State.handFetches (s : State) (c : Nat) (all disabled : Bool) : State :=
  let move := fun (f : Fetch) => f.mc && (all || (f.row == 0 && f.off == 0))
  let mine := (s.core c).fetches.filter move
  let s1 := s.modCore c (fun k => { k with
    fetches := k.fetches.filter (fun f => !move f)
    xfers := k.xfers.filter (fun x => !mine.any (fun f => x.fetch == some f.id)) })
  mine.foldl (fun t f =>
    let stays := !disabled && (s.core c).held.any (fun h => h.q == f.q)
    let rs := f.receivers.filter (fun d => d != c || stays)
    match rs.find? (fun d => d != c && t.inPool d) with
    | some d => t.modCore d (fun k => { k with fetches := k.fetches ++ [{ f with receivers := rs, row := 0, off := 0, bad := [] }] })
    | none => if stays then t.modCore c (fun k => { k with fetches := k.fetches ++ [{ f with receivers := rs, row := 0, off := 0, bad := [] }] }) else t) s1

/-- Take a core out of the pool for a reason; the multicast fetches it has not begun pass on. -/
def State.leavePool (s : State) (c why : Nat) : State :=
  ((s.modCore c (fun k => { k with out := if k.out.contains why then k.out else why :: k.out })).showPool c).handFetches c false (why == 3)

/-- End a reason for which a core is out of the pool. -/
def State.joinPool (s : State) (c why : Nat) : State :=
  (s.modCore c (fun k => { k with out := k.out.filter (fun x => x != why) })).showPool c

/-- Whether a group's registers name a core (R160). -/
def State.groupBit (s : State) (g c : Nat) : Bool :=
  if c < 64 then s.fb { F.TOP_GROUP_LO.CORES_LO with lo := c, w := 1 } g
  else s.fb { F.TOP_GROUP_HI.CORES_HI with lo := c - 64, w := 1 } g

/-- The group a core belongs to: the lowest that names it (R152). -/
def State.groupOf (s : State) (c : Nat) : Option Nat := (List.range 16).find? (fun g => s.groupBit g c)

/-- The cores of a group, in ascending order, in the pool or not (R152). -/
def State.groupMembers (s : State) (g : Nat) : List Nat :=
  (List.range (s.fg F.TOP_UNIT_COUNT.CORES)).filter (fun c => s.groupOf c == some g)

/-- The in-pool cores of a group, in ascending order (R149). -/
def State.groupCores (s : State) (g : Nat) : List Nat := (s.groupMembers g).filter s.inPool

/-! ### Commands in their rings -/

/-- The queues whose descriptor does not hold its reset value. -/
def State.queues (s : State) : List Nat :=
  s.regs.filterMap (fun p =>
    if 0x300020000000 ≤ p.1 ∧ p.1 < 0x300020400000 ∧ (p.1 - 0x300020000000) % 64 = 0 then some ((p.1 - 0x300020000000) / 64)
    else none)

/-- The header of a command (R286). -/
structure Hdr where
  opc : Nat
  ext : Bool
  fence : Bool
  fence2 : Bool
  hwait : Bool
  mbtag : Nat
  hq : Nat
  waitseq : Nat
  waitq : Nat
  waitseq2 : Nat
  waitq2 : Nat
  rsvd : Bool
  deriving DecidableEq, Repr

/-- Decode a command's header (R286). -/
def Hdr.ofWords (w : List Word) : Hdr :=
  let x := fun i => (w.getD i 0).toNat
  { opc := bitsOf (x 0) 0 8, ext := bitOf (x 0) 8, fence := bitOf (x 0) 9, fence2 := bitOf (x 0) 10, hwait := bitOf (x 0) 11,
    mbtag := bitsOf (x 0) 16 6, hq := bitsOf (x 0) 22 16, waitseq := bitsOf (x 1) 0 48, waitq := bitsOf (x 1) 48 16,
    waitseq2 := bitsOf (x 2) 0 48, waitq2 := bitsOf (x 2) 48 16,
    rsvd := bitsOf (x 0) 12 4 != 0 || bitsOf (x 0) 38 26 != 0 }

/-- The words of the command at a queue's head (R283, R286). -/
def State.headWords (s : State) (q : Nat) : List Word := s.words (s.ringAddr q (s.fg F.QM_QDESC.HEAD q)) 8

/-- The words of the extension behind it (R288). -/
def State.extWords (s : State) (q : Nat) : List Word := s.words (s.ringAddr q (s.fg F.QM_QDESC.HEAD q + 1)) 8

/-- Ring slots of the head command (R285). -/
def State.headSlots (s : State) (q : Nat) : Nat := if (Hdr.ofWords (s.headWords q)).ext then 2 else 1

/-- Whether a fence is met (R293). -/
def State.fenceMet (s : State) (w seq : Nat) : Bool :=
  decide ((s.fg F.QM_QDESC.DONE_SEQ w + 2 ^ 48 - seq) % 2 ^ 48 < 2 ^ 47)

/-- Whether an address may be named by an extension (R288): a stream target, aligned; 0 names nothing. -/
def State.extAddrOk (s : State) (a align : Nat) (write : Bool) : Bool := a == 0 || (a % align == 0 && s.okRange a align write)

/-- Whether an extension is legal (R288). -/
def State.extOk (s : State) (e : List Word) : Bool :=
  let x := fun i => (e.getD i 0).toNat
  bitsOf (x 0) 48 16 == 0 && bitsOf (x 1) 48 16 == 0 && bitsOf (x 2) 32 32 == 0 && bitsOf (x 3) 48 16 == 0 &&
  bitsOf (x 4) 48 16 == 0 && x 5 == 0 && x 6 == 0 && x 7 == 0 &&
  s.extAddrOk (x 0) 64 true && s.extAddrOk (x 1) 8 true && s.extAddrOk (x 3) 64 false && s.extAddrOk (x 4) 64 false

/-- Whether the words of a command other than its header are legal for its opcode (R83, R201, R203, R287, R289): its descriptors are not looked at, so
a reserved value here comes before a descriptor read poisoned (R301). -/
def opWordsOk (h : Hdr) (w : List Word) : Bool :=
  let x := fun i => (w.getD i 0).toNat
  let sieve := x 6
  (h.opc == 5 || x 7 == 0) &&
  (match h.opc with
  | 1 => bitsOf (x 3) 48 16 == 0 && bitsOf sieve 6 58 == 0 && (bitsOf sieve 0 5 ≤ 20 || bitsOf sieve 0 5 == 31) &&
      !(bitOf sieve 5 && bitsOf sieve 0 5 == 31) && (!bitOf sieve 5 || h.ext) && combDecOk false (Comb.ofNat (x 5)) (DecCtl.ofWord (w.getD 4 0))
  | 2 => bitsOf (x 3) 48 16 == 0 && sieve == 0 && combDecOk true (Comb.ofNat (x 5)) (DecCtl.ofWord (w.getD 4 0))
  | 3 => bitsOf (x 3) 48 16 == 0 && x 4 == 0 && x 5 == 0 && x 6 == 0
  | 4 => bitsOf (x 3) 48 16 == 0 && bitsOf (x 4) 16 48 == 0 && bitsOf (x 4) 0 16 != 0 && x 6 == 0 && (Comb.ofNat (x 5)).ok
  | 5 => bitsOf (x 3) 48 16 == 0 && x 5 == 0 && x 6 == 0 && x 7 == 0
  | 6 => x 3 == 0 && x 4 == 0 && x 5 == 0 && x 6 == 0
  | _ => false)

/-- Whether the head command, its extension apart, breaks a rule of R286 to R289, R293 or R294. -/
def State.headerBad (s : State) (q : Nat) : Bool :=
  let w := s.headWords q
  let h := Hdr.ofWords w
  h.rsvd || !opWordsOk h w || (h.fence && s.fg F.QM_QDESC.TYPE h.waitq != 0) || (h.fence2 && s.fg F.QM_QDESC.TYPE h.waitq2 != 0) ||
  (h.hwait && !s.qOn h.hq qHandle)

/-- Whether the head command breaks a rule of R286 to R289, R293 or R294. -/
def State.headBad (s : State) (q : Nat) : Bool :=
  s.headerBad q || ((Hdr.ofWords (s.headWords q)).ext && !s.extOk (s.extWords q))

/-- Whether a head command waits for nothing any more (R292): its fences are met and its handle is there. A fence on a queue that is no command
queue, or a handle queue that is not enabled, is an error of the command and awaits nothing (R293, R294). -/
def State.headMet (s : State) (q : Nat) : Bool :=
  let h := Hdr.ofWords (s.headWords q)
  let met := fun (on : Bool) (w seq : Nat) => !on || s.fg F.QM_QDESC.TYPE w != qCommand || s.fenceMet w seq
  met h.fence h.waitq h.waitseq && met h.fence2 h.waitq2 h.waitseq2 &&
    (!h.hwait || !s.qOn h.hq qHandle || decide (1 ≤ s.ringHeld h.hq))

/-- Whether a queue has a head command that is ready (R285, R292). -/
def State.headReady (s : State) (q : Nat) : Bool :=
  s.qOn q qCommand && !(s.run q).busy && decide (1 ≤ s.ringHeld q) && decide (s.headSlots q ≤ s.ringHeld q) && s.headMet q


/-- Whether an opcode runs on the compute dies (R307). -/
def coreBound (opc : Nat) : Bool := decide (1 ≤ opc ∧ opc ≤ 4)

/-- Opcode of the command a queue runs. -/
def QRun.opc (r : QRun) : Nat := bitsOf (r.words.headD 0).toNat 0 8

/-- Whether a group has a command in progress (R152). -/
def State.groupBusy (s : State) (g : Nat) : Bool :=
  s.runs.any (fun p => p.2.busy && decide (1 ≤ p.2.opc ∧ p.2.opc ≤ 3) && s.fg F.QM_QDESC.GROUP p.1 == g)

/-- A free stream context of a core among 1 to 3 (R165). -/
def State.freeCtx (s : State) (c : Nat) : Option Nat := [1, 2, 3].find? (fun x => ((s.core c).context x).q.isNone)

/-- Whether the compute dies run commands: ACTIVE, and no core reset in progress (R501, R506, R507). -/
def State.diesRun (s : State) : Bool := s.fg F.PWR_STATUS.STATE == 0 && !s.fb F.RST_CTL.CORE_BUSY

/-- Whether work on the compute dies goes on: also while the device waits to enter SHELF (R507). -/
def State.diesGo (s : State) : Bool :=
  (s.fg F.PWR_STATUS.STATE == 0 || s.fg F.PWR_STATUS.STATE == 3) && !s.fb F.RST_CTL.CORE_BUSY

/-- The device leaves IDLE (R506). -/
def State.leaveIdle (s : State) : State := if s.fg F.PWR_STATUS.STATE = 1 then s.fs F.PWR_STATUS.STATE 0 else s

/-- Whether a queue's head command is bound to the cores and ready (R292, R506). -/
def State.coreReady (s : State) (q : Nat) : Bool := s.headReady q && coreBound (Hdr.ofWords (s.headWords q)).opc

/-- Whether a job of the cores is under way: a test, sieve work or a retirement (R506). -/
def State.coreJobs (s : State) : Bool := !s.sieve.isEmpty || !s.mg.chosen.isEmpty || s.mg.testing.isSome

/-- The device leaves IDLE when a command bound to the cores is ready or a job of theirs has started (R506). -/
def State.idleGo (s : State) : State := if s.coreJobs || s.queues.any s.coreReady then s.leaveIdle else s

/-- The first word of the collective descriptor a command names (R369, R370); none where it cannot be read. -/
def State.collWord0 (s : State) (w : List Word) : Option Nat :=
  let a := bitsOf (w.getD 3 0).toNat 0 48
  if a % 128 = 0 ∧ s.okRange a 128 false = true ∧ s.marked a 128 = false then some (s.le a 8) else none

/-- Whether one of n descriptors of a list, up to its last, is a multicast one (R168, R475). -/
def State.listMulticasts (s : State) : Nat → Nat → Bool
  | 0, _ => false
  | n + 1, a => (let w := s.le a 8; bitOf w 10 || (!bitOf w 8 && s.listMulticasts n (a + 128)))

/-- Whether a STREAM command has a multicast descriptor, by its words (R286, R475). DEDUCED (log entry 101): its list in memory says so, whichever
descriptors have been fetched. -/
def State.wordsMulticast (s : State) (w : List Word) : Bool :=
  s.listMulticasts (bitsOf (w.getD 4 0).toNat 0 16) (bitsOf (w.getD 3 0).toNat 0 48)

/-- Whether a STREAM command with a multicast descriptor runs on the device (R475). -/
def State.multicasting (s : State) : Bool :=
  s.runs.any (fun p => p.2.busy && p.2.opc == 4 && s.wordsMulticast p.2.words) ||
  s.cores.any (fun p => p.2.xfers.any (fun x => !x.receivers.isEmpty && x.ctx != 0))

/-- The units a head command is bound to (R287): 0x100 + a group, 0x200 + a core, 0x300 + each collective engine its descriptor names, 0x308 the QM. -/
def State.boundTo (s : State) (q : Nat) : List Nat :=
  match (Hdr.ofWords (s.headWords q)).opc with
  | 1 | 2 | 3 => [0x100 + s.fg F.QM_QDESC.GROUP q]
  | 4 => [0x200 + s.fg F.QM_QDESC.CORE q]
  | 5 => (match s.collWord0 (s.headWords q) with
    | some x => (bitList 8 (bitsOf x 16 8)).map (0x300 + ·)
    | none => [0x308])
  | _ => [0x308]

/-- The lowest context free on every lane (R364). -/
def State.collCtx (s : State) (lanes : List Nat) : Option Nat :=
  (List.range 4).find? (fun x => s.colls.all (fun c => c.2.ctx != x || lanes.all (fun h => !c.2.lanes.contains h)))

/-- Whether a core is absent or disabled, so that a STREAM bound to it ends unstarted (R305). -/
def State.lostCore (s : State) (c : Nat) : Bool := !s.present c || s.coreOff c

/-- Whether a core takes part in a running command, which keeps its cores whatever its group's registers say since (R152). -/
def State.coreTaken (s : State) (c : Nat) : Bool :=
  s.runs.any (fun p => p.2.busy && decide (1 ≤ p.2.opc ∧ p.2.opc ≤ 3) && p.2.cores.contains c)

/-- Whether the unit a head command is bound to can take it now (R134, R152, R165). -/
def State.unitFree (s : State) (q : Nat) : Bool :=
  let opc := (Hdr.ofWords (s.headWords q)).opc
  if s.headBad q then true
  else
    match opc with
    | 1 | 2 | 3 =>
      let g := s.fg F.QM_QDESC.GROUP q
      s.diesRun && !s.groupBusy g && !(s.groupCores g).isEmpty && !(s.groupMembers g).any s.coreTaken
    | 4 =>
      let c := s.fg F.QM_QDESC.CORE q
      s.diesRun && (s.lostCore c || (s.inPool c && (s.freeCtx c).isSome)) && !(s.mg.testing.isSome && s.wordsMulticast (s.headWords q))
    | 5 =>
      match s.collWord0 (s.headWords q) with
      | none => true
      | some x => !(bitOf x 15 && s.fb F.COL_LAYOUT.WHISK) && !(bitList 8 (bitsOf x 16 8)).any (fun h => s.resetting (uid 0xC h)) && (s.collCtx (bitList 8 (bitsOf x 16 8))).isSome
    | _ => true

/-- How far a queue lies after the one a unit served last (R292). -/
def rrDist (last q : Nat) : Nat := (q + 65536 - last - 1) % 65536

/-- Whether a queue is next in the round robin of its unit, among those whose head commands it can take now (R292). DESIGN CHOICE (log entry 66): a
COLLECTIVE, which takes several engines at once, goes by the round robin of the lowest of them. -/
def State.rrNext (s : State) (q : Nat) : Bool :=
  let u := (s.boundTo q).headD 0x308
  let last := smGet (fun _ => 65535) s.lastServed u
  s.queues.all (fun p => !((s.boundTo p).contains u && s.headReady p && s.unitFree p) || decide (rrDist last q ≤ rrDist last p))

/-- Take the head handle of a handle queue (R294): its flags byte, whether it was read poisoned, and the slot is freed; `found` is what the code
finds as it is read. -/
def State.takeHandle (s : State) (hq : Nat) (found : Ecc) : State × Nat × Bool :=
  let h := s.fg F.QM_QDESC.HEAD hq
  let a := s.ringAddr hq h
  let r := s.codeRead a 32 found none
  ((r.1.fs F.QM_QDESC.HEAD ((h + 1) % 2 ^ 32) hq).fc F.QM_QDESC.ENTRIES 1 hq, (r.1.byte (a + 13)).toNat, r.2.isSome)

/-- Read the head command from the ring and give it its sequence number (R291). -/
def State.readHead (s : State) (q : Nat) : State :=
  let w := s.headWords q
  let h := Hdr.ofWords w
  let ext := if h.ext then s.extWords q else []
  let seq := s.fg F.QM_QDESC.SEQ q
  let n := s.headSlots q
  let s1 := s.setRun q { busy := true, words := w, ext := ext, seq := seq, core := s.fg F.QM_QDESC.CORE q,
                           epoch := s.fg F.COL_LAYOUT.CUR }
  ((s1.fs F.QM_QDESC.SEQ ((seq + 1) % 2 ^ 48) q).fs F.QM_QDESC.HEAD ((s.fg F.QM_QDESC.HEAD q + n) % 2 ^ 32) q).fc
    F.QM_QDESC.ENTRIES n q

/-- End a command with a status before it does anything (R301). -/
def State.endUnstarted (s : State) (q code : Nat) : State :=
  (s.fail q code).modRun q (fun r => { r with finished := true, ready := true, notStarted := code == 5 || code == 6 })

/-- Bind a started command to its unit: the cores of its group, its stream context (R149, R165). -/
def State.bind (s : State) (q : Nat) : State :=
  let r := s.run q
  match r.opc with
  | 1 | 2 | 3 =>
    let g := s.fg F.QM_QDESC.GROUP q
    let s1 := s.modRun q (fun r => { r with cores := s.groupMembers g, solo := (s.groupCores g).head? })
    (s1.fs F.TOP_TCOUNT.NEXT 0 g).fs F.TOP_TCOUNT.CLOSED 0 g
  | 4 =>
    if !s.lostCore r.core then
      match s.freeCtx r.core with
      | some x => s.modCtx r.core x (fun _ =>
          { q := some q, list := bitsOf (r.words.getD 3 0).toNat 0 48, count := bitsOf (r.words.getD 4 0).toNat 0 16 })
      | none => s
    else s.endUnstarted q 5
  | 5 =>
    match s.collWord0 r.words with
    | none => s
    | some x =>
      let lanes := bitList 8 (bitsOf x 16 8)
      match s.collCtx lanes with
      | some n => { s with colls := smIns (smDel s.colls q) q { ctx := n, lanes := lanes } }
      | none => s
  | _ => s

/-- What a command that starts reads: its slots, and the handle it takes (R285, R294). -/
def State.startSpans (s : State) (q : Nat) : List (Nat × Nat) :=
  let h := Hdr.ofWords (s.headWords q)
  (List.range (s.headSlots q)).map (fun i => (s.ringAddr q (s.fg F.QM_QDESC.HEAD q + i), 64)) ++
    (if h.hwait && s.qOn h.hq qHandle then [(s.ringAddr h.hq (s.fg F.QM_QDESC.HEAD h.hq), 32)] else [])

/-- COMMAND_START (R292, R294): `m` is what the code finds as the QM reads the command, its extension and the handle taken. A command whose slots
cannot be read now waits (R18, R270). -/
def commandStart (q : Nat) (m : StartMet) (s : State) : State :=
  if !(s.headReady q && s.unitFree q && s.rrNext q && s.hubReach (q % 8) (s.startSpans q)) then s
  else
    let bad := s.headBad q
    let h := Hdr.ofWords (s.headWords q)
    let us := s.boundTo q
    let a := s.ringAddr q (s.fg F.QM_QDESC.HEAD q)
    let c := s.codeRead a 64 m.read none
    let x := if h.ext then c.1.codeRead (s.ringAddr q (s.fg F.QM_QDESC.HEAD q + 1)) 64 m.ext none else (c.1, none)
    let s1 := { x.1.readHead q with lastServed := us.foldl (fun t u => smPut (fun _ => 65535) t u q) x.1.lastServed }
    if c.2.isSome || (x.2.isSome && !s.headerBad q) then (s1.modRun q (fun r => { r with faddr := a, ext := [] })).endUnstarted q 2
    else if bad then (s1.modRun q (fun r => { r with faddr := a })).endUnstarted q 1
    else if h.hwait then
      let t := s1.takeHandle h.hq m.handle
      if t.2.2 then t.1.endUnstarted q 2
      else if bitOf t.2.1 2 then t.1.endUnstarted q 5
      else (t.1.modRun q (fun r => { r with handlePoisoned := bitOf t.2.1 0 })).bind q
    else s1.bind q

/-! ### Completion -/

/-- A collective's work ends (R385): its contexts are free, its notices gone if it failed, and then its output and working buffer are
undefined and its list has one entry. -/
def State.collEnd (s : State) (q : Nat) : State :=
  match smFind s.colls q with
  | none => s
  | some k =>
    let s1 := { s with colls := smDel s.colls q }
    let s2 := if k.ready && bitOf (k.words.headD 0).toNat 15 then s1.fs F.COL_LAYOUT.WHISK 0 else s1
    if (s2.run q).st.isEmpty then s2
    else
      let s3 := { s2 with notices := s2.notices.filter (fun n => !k.conns.contains n.conn) }
      let s3 := if k.ready then s3.undef q 0 0xFFFF else s3
      k.regions.foldl (fun t r => t.freeFill r.1 r.2) s3

/-- The units of work of a command left undefined (R300): `tilesOf i` gives the tiles of an index and `total` the indices. -/
def undefCount (r : QRun) (tilesOf : Nat → Nat) (total : Nat) : Nat :=
  let l := (r.undef.map (fun u => if u.2 = 0xFFFF then tilesOf u.1 else 1)).sum
  let o := match r.onward with
    | some i => ((List.range (total - i)).map (fun j => tilesOf (i + j))).sum
    | none => 0
  min 0xFFFFFFFF (l + o)

/-- Indices of a command (R150, R224); descriptors of a STREAM, those its command names until the list is known to end sooner (R176, R300). -/
def QRun.total (r : QRun) : Nat :=
  match r.opc with
  | 1 | 2 => (Lnd.ofWords r.desc).indices.length
  | 3 => r.units
  | 4 => if r.next = 0 then bitsOf (r.words.getD 4 0).toNat 0 16 else r.next
  | _ => r.next

/-- The first index never handed out as a command is abandoned, if any (R300). -/
def QRun.unhanded (r : QRun) : Option Nat := if 1 ≤ r.opc ∧ r.opc ≤ 3 ∧ r.ready = true ∧ r.next < r.total then r.onward.or (some r.next) else r.onward

/-- UNDEF of a queue's command (R300). -/
def QRun.undefUnits (r : QRun) : Nat :=
  if r.notStarted then 0xFFFFFFFF
  else
    match r.opc with
    | 1 | 2 =>
      let l := Lnd.ofWords r.desc
      let idx := l.indices
      undefCount r (fun i => match idx[i]? with
        | some b => (l.tiles b.2).length
        | none => 1) idx.length
    | 3 => undefCount r (fun _ => 1) r.units
    | 5 => if r.st.isEmpty ∨ (statusOf r.st ≤ 2 ∧ r.undef = []) then 0 else 1
    | _ => undefCount r (fun _ => 1) r.total

/-- Whether a command's combine word is ADDF, which marks the record of the whole command (R301, R302). -/
def QRun.addf (r : QRun) : Bool :=
  (r.opc == 1 || r.opc == 2 || r.opc == 4) && statusOf r.st == 0 && (Comb.ofNat (r.words.getD 5 0).toNat).notInvariant

/-- FLAGS bits 0 to 3 and 6 of a record (R298, R302); NI of a command that failed describes the work done (R301). -/
def QRun.flags (r : QRun) : Nat :=
  b2n (r.ni || r.addf) + 2 * b2n (!r.pev.isEmpty) + 4 * b2n (decide (0 < r.ifaults)) + 8 * b2n r.stepSkipped + 64 * b2n r.handlePoisoned

/-- DETAIL of a record (R301). -/
def QRun.detail (r : QRun) : Nat :=
  match statusOf r.st with
  | 0 => 0
  | 1 | 2 => r.descIdx + b2n r.remote * 2 ^ 16
  | 7 => r.conn
  | 3 => r.level + r.kind * 8 + r.operand * 32
  | _ => r.undefUnits

/-- The list entries of a command (R300), in ascending order: of one that was never started, none of its work was handed out. -/
def QRun.listEntries (r : QRun) : List Nat :=
  if r.notStarted && r.opc != 6 then [0xFFFF * 2 ^ 40 + 2 ^ 63]
  else ((r.undef.map (fun u => u.1 + u.2 * 2 ^ 40)).mergeSort (fun a b =>
      decide (bitsOf a 0 40 * 65536 + a / 2 ^ 40 ≤ bitsOf b 0 40 * 65536 + b / 2 ^ 40))) ++
    (match r.onward with
    | some i => [i + 0xFFFF * 2 ^ 40 + 2 ^ 63]
    | none => [])

/-- The first poison event the report names: that of the lowest-numbered core (R187). -/
def QRun.firstPoison (r : QRun) : Option PEvent :=
  r.pev.foldl (fun a p => match a with
    | none => some p
    | some x => if p.core < x.core then some p else some x) none

/-- The bytes of a report (R299). -/
def QRun.report (r : QRun) (q listed : Nat) : List Byte :=
  let p := r.firstPoison.getD ⟨0, 0, 0, 0⟩
  leBytes 64 (fieldsAt [(0, 6, r.seq), (6, 2, q), (8, 1, statusOf r.st), (9, 1, p.cause + 64 * p.ctx), (16, 8, p.addr),
    (24, 4, r.ifaultN.getD 0), (28, 4, r.ifaults), (32, 8, if statusOf r.st = 0 then 0 else r.faddr), (40, 4, r.undefUnits),
    (44, 4, listed)])

/-- The bytes of a completion record without PHASE (R298). -/
def QRun.recordBytes (r : QRun) (q : Nat) (reported listOver : Bool) : List Byte :=
  let h := Hdr.ofWords r.words
  let sat := fun n => min n 0xFFFFFFFF
  leBytes 32 (fieldsAt [(0, 6, r.seq), (6, 2, q), (8, 1, statusOf r.st),
    (9, 1, r.flags + 16 * b2n reported + 32 * b2n listOver), (10, 1, r.maxr + 16 * r.maxs), (11, 1, h.mbtag),
    (12, 4, sat r.cnt.poisoned), (16, 4, sat r.cnt.flushed), (20, 4, sat r.cnt.saturated), (24, 4, sat r.cnt.repeated),
    (28, 4, r.detail)])

/-- Set PHASE in a record for a queue's present TAIL (R298). -/
def State.withPhase (s : State) (cq : Nat) (bs : List Byte) : List Byte :=
  bs.take 9 ++ [BitVec.ofNat 8 (bitsOf (bs.getD 9 0).toNat 0 7 + 128 * s.phase cq)] ++ bs.drop 10

/-- Apply the writes to a group's registers that waited for its command (R152). -/
def State.applyGroup (s : State) (g : Nat) (hi : Bool) (v : Nat) : State :=
  let s1 := if hi then s.fs F.TOP_GROUP_HI.CORES_HI (bitsOf v 0 32) g else s.fs F.TOP_GROUP_LO.CORES_LO v g
  (List.range 16).foldl (fun t h =>
    if (List.range 96).any (fun c => t.groupBit h c && (List.range h).any (fun l => t.groupBit l c)) then
      t.fs F.TOP_GROUP_HI.GROUP_CONFLICT 1 h else t) s1

/-- GROUP_UPDATE: every waiting write of a group takes effect (R152). -/
def State.groupUpdate (s : State) (g : Nat) : State :=
  let mine := s.groupPend.filter (fun p => p.1 == g)
  if mine.isEmpty then s
  else
    let s1 := mine.foldl (fun t p => t.applyGroup g p.2.1 p.2.2.toNat) s
    ({ s1 with groupPend := s1.groupPend.filter (fun p => p.1 != g) }).fs F.TOP_GROUP_HI.PENDING 0 g

/-- The command of a queue is over: DONE_SEQ takes its number, its group's waiting writes apply, its cores give up what they hold for it
(R152, R157, R295). -/
def State.retire (s : State) (q : Nat) : State :=
  let r := s.run q
  let s0 := if statusOf r.st = stAbortedDisable then
      s.modQuiesce (.queue (BitVec.ofNat 16 q)) (fun x => { x with aborted := x.aborted + 1 }) else s
  let s1 := (s0.setRun q {}).fs F.QM_QDESC.DONE_SEQ r.seq q
  if 1 ≤ r.opc ∧ r.opc ≤ 3 then
    let s2 := r.cores.foldl (fun t c => (t.modCore c (fun k =>
      { k with regions := [], faulted := false, tiles := k.tiles.filter (fun m => m.q != q), fetches := k.fetches.filter (fun f => f.q != q),
               reads := k.reads.filter (fun j => j.q != q) })).fs
        F.CORE_CP_STATUS.STATE 0 c) s1
    s2.groupUpdate (s.fg F.QM_QDESC.GROUP q)
  else s1

/-- Write a completion record, or let it wait, or drop it (R295, R303). -/
def State.deliver (s : State) (q : Nat) (bs : List Byte) : State :=
  let cq := s.fg F.QM_QDESC.CQ q
  if !s.qOn cq qCompletion then ((s.fc F.QM_STATS.CQ_LOST 1).retire q).showWait cq
  else if s.ringHeld cq < s.ringSize cq then
    let rec' := s.withPhase cq bs
    let slot := s.fg F.QM_QDESC.TAIL cq % s.ringSize cq
    let s1 := s.ringPut cq rec'
    let s2 := if s1.fb F.QM_QDESC.MIRROR cq then
        s1.mirrorSend (s1.fg F.QM_QDESC.SESSION cq) (s1.fg F.QM_QDESC.MIRROR_ADDR cq + slot * 32) rec' else s1
    (s2.retire q).showWait cq
  else
    let s1 := s.modRun q (fun r => { r with record := some bs })
    if s1.fb F.QM_QDESC.FULL_WAIT cq then s1
    else (s1.fs F.QM_QDESC.FULL_WAIT 1 cq).event evWriterWait (some cq) 0 (s1.fg F.QM_QDESC.TAIL cq) 0

/-- Write the list and the report of a command (R299, R300); the state, whether a report was written and whether the list overflowed. -/
def State.writeReport (s : State) (q : Nat) : State × Bool × Bool :=
  let r := s.run q
  let x := fun i => (r.ext.getD i 0).toNat
  let entries := if x 1 = 0 ∨ s.extAddrOk (x 1) 8 true = false then [] else r.listEntries
  let fits := ((List.range entries.length).zip (entries.take (x 2))).takeWhile (fun p => s.okRange (x 1 + 8 * p.1) 8 true)
  let listed := fits.map (·.2)
  let s1 := if listed.isEmpty then s else s.store (x 1) (listed.flatMap (leBytes 8))
  let due := decide (x 0 ≠ 0) && s.extAddrOk (x 0) 64 true && (statusOf r.st != 0 || !r.pev.isEmpty || decide (0 < r.ifaults))
  let s2 := if due then s1.store (x 0) (r.report q listed.length) else s1
  (s2, due, decide (listed.length < entries.length))

/-- Whether any transfer, staged output or combine of a queue's command is still in flight (R295). -/
def State.inFlight (s : State) (q : Nat) : Bool :=
  s.cores.any (fun p => p.2.xfers.any (fun x => x.q == q) || (p.2.context 0).staged.any (fun w => w.q == q)) ||
  s.units.any (fun p => p.2.any (fun c => match c.home with
    | .xfer q' _ _ => q' == q
    | _ => false))

/-- Whether a stage group's command has handed out everything, holds nothing, and waits for no comparison of the sieve (R150, R473). -/
def State.allDone (s : State) (q total : Nat) : Bool :=
  let r := s.run q
  let g := s.fg F.QM_QDESC.GROUP q
  (decide (total ≤ r.next) || s.fb F.TOP_TCOUNT.CLOSED g) && !(s.cores.any (fun p => p.2.held.any (fun h => h.q == q))) &&
    !(s.sieve.any (fun j => j.q == q))

/-- Whether a command has nothing left to do (R150, R295). -/
def State.workDone (s : State) (q : Nat) : Bool :=
  let r := s.run q
  r.busy && r.record.isNone && (r.finished || (r.ready && decide (1 ≤ r.opc ∧ r.opc ≤ 3) && s.allDone q r.total)) && !s.inFlight q

/-- What the end of a command writes: its list, its report and its record (R295). -/
def State.doneSpans (s : State) (q : Nat) : List (Nat × Nat) :=
  let r := s.run q
  let x := fun i => (r.ext.getD i 0).toNat
  ([(x 1, 8 * min r.listEntries.length (x 2)), (x 0, 64)].filter (fun p => p.1 != 0 && s.okRange p.1 p.2 true)) ++ s.tailSpan (s.fg F.QM_QDESC.CQ q) qCompletion

/-- COMMAND_COMPLETE (R295): list, report, record; `met` is what the code finds in the units they write in part (R257). They wait while they cannot be
written (R18, R270). -/
def commandComplete (q : Nat) (s : State) (met : List (Nat × Ecc) := []) : State :=
  if !s.workDone q || !s.hubReach (q % 8) (s.doneSpans q) then s
  else
    let w := (s.rmwList (s.doneSpans q) met none).writeReport q
    w.1.deliver q ((w.1.run q).recordBytes q w.2.1 w.2.2)

/-- CQ_RECORD_WRITE (R303): a record that waited is written once there is room, or dropped once its queue is not enabled; `met` as at
COMMAND_COMPLETE. -/
def cqRecordWrite (q : Nat) (met : List (Nat × Ecc)) (s : State) : State :=
  match (s.run q).record with
  | none => s
  | some bs =>
    let cq := s.fg F.QM_QDESC.CQ q
    if (s.qOn cq qCompletion && decide (s.ringSize cq ≤ s.ringHeld cq)) || !s.hubReach (q % 8) (s.tailSpan cq qCompletion) then s
    else ((s.rmwList (s.tailSpan cq qCompletion) met none).modRun q (fun r => { r with record := none })).deliver q bs

/-- NOP (R287): completes as soon as its fences and handle wait were met. -/
def nop (q : Nat) (s : State) : State :=
  if (s.run q).busy && (s.run q).opc == 6 && !(s.run q).finished then
    s.modRun q (fun r => { r with ready := true, finished := true })
  else s

/-! ### Doorbells -/

/-- A refused doorbell (R284, R304). -/
def State.refuseDoorbell (s : State) (q : Nat) (v : Word) : State :=
  (s.fs F.QM_QDESC.DB_ERR 1 q).event evDoorbellRefused (some q) 0 v.toNat 0

/-- Apply a doorbell (R284). -/
def State.applyDoorbell (s : State) (q width : Nat) (v : Word) : State :=
  let value := bitsOf v.toNat 0 32
  let cmd := s.fg F.QM_QDESC.TYPE q == qCommand
  if width ≠ 8 ∨ bitsOf v.toNat 32 32 ≠ 0 ∨ s.fg F.QM_QDESC.STATE q ≠ 1 then s.refuseDoorbell q v
  else
    let p := if cmd then s.fg F.QM_QDESC.TAIL q else s.fg F.QM_QDESC.HEAD q
    let held := s.ringHeld q
    let room := if cmd then s.ringSize q - held else held
    let d := (value + 2 ^ 32 - p) % 2 ^ 32
    if d = 0 ∨ 2 ^ 31 ≤ d then s.fc F.QM_QDESC.STALE_DB 1 q
    else if room < d then s.refuseDoorbell q v
    else if cmd then s.fs F.QM_QDESC.TAIL value q
    else s.fs F.QM_QDESC.HEAD value q

/-- DOORBELL (R280, R284). -/
def doorbell (who : Req) (q width : Nat) (v : Word) (s : State) : State := s.qmWrite who (fun t => t.applyDoorbell q width v)

/-! ### Enabling and disabling queues -/

/-- Why an enable is refused (R283): 1 ring, 2 CQ, 3 reserved field. DEDUCED (log entry 67): indices further apart than the ring's entries are a
fault of the ring, which never holds more. -/
def State.enableFault (s : State) (q : Nat) : Option Nat :=
  let n := s.fg F.QM_QDESC.LOG2_ENTRIES q
  let ring := s.fg F.QM_QDESC.RING q
  let type := s.fg F.QM_QDESC.TYPE q
  if n < 4 ∨ 20 < n ∨ ring % 4096 ≠ 0 ∨ ¬ (s.okRange ring (2 ^ n * entryBytes type) true = true) ∨ tileBase ≤ ring ∨ 2 ^ n < s.ringHeld q then some 1
  else if type = qCommand ∧ ¬ (s.qOn (s.fg F.QM_QDESC.CQ q) qCompletion = true) then some 2
  else if 96 ≤ s.fg F.QM_QDESC.CORE q then some 3
  else none

/-- A refused enable (R283, R304). -/
def State.refuseEnable (s : State) (q why : Nat) : State :=
  (s.fs F.QM_QDESC.REFUSED 1 q).event evEnableRefused (some q) why 0 0

/-- EN := 1 (R283, R306). -/
def State.enable (s : State) (q : Nat) : State :=
  match s.fg F.QM_QDESC.STATE q with
  | 0 =>
    match s.enableFault q with
    | some why => s.refuseEnable q why
    | none => (s.fs F.QM_QDESC.EN 1 q).fs F.QM_QDESC.STATE 1 q
  | 2 => s.refuseEnable q 4
  | _ => s

/-- A queue reaches STOPPED (R305). -/
def State.stopQueue (s : State) (q aborted : Nat) : State :=
  ((s.fs F.QM_QDESC.STATE 0 q).fs F.QM_QDESC.EN 0 q).event evQueueStopped (some q) aborted (s.fg F.QM_QDESC.DONE_SEQ q) 0

/-- Whether a completion queue is named by a command queue that is not STOPPED (R306). -/
def State.cqNamed (s : State) (cq : Nat) : Bool :=
  s.queues.any (fun q => s.fg F.QM_QDESC.TYPE q == qCommand && s.fg F.QM_QDESC.STATE q != 0 && s.fg F.QM_QDESC.CQ q == cq)

/-- Command queues whose head command waits on a handle queue (R306). -/
def State.handleWaiters (s : State) (hq : Nat) : List Nat :=
  s.queues.filter (fun q =>
    s.qOn q qCommand && !(s.run q).busy && decide (1 ≤ s.ringHeld q) && decide (s.headSlots q ≤ s.ringHeld q) &&
    !s.headBad q && (let h := Hdr.ofWords (s.headWords q); h.hwait && h.hq == hq))

/-- EN := 0 (R305, R306). -/
def State.disable (s : State) (q : Nat) : State :=
  if s.fg F.QM_QDESC.STATE q ≠ 1 then s
  else if s.fg F.QM_QDESC.TYPE q = qCommand then
    let s1 := (s.fs F.QM_QDESC.EN 0 q).fs F.QM_QDESC.STATE 2 q
    { s1 with quiesce := s1.quiesce ++ [{ u := .queue (BitVec.ofNat 16 q) }] }
  else if s.fg F.QM_QDESC.TYPE q = qCompletion ∧ s.cqNamed q = true then s.fs F.QM_QDESC.REFUSED 1 q
  else if s.fg F.QM_QDESC.TYPE q = qHandle then
    let ws := s.handleWaiters q
    (ws.foldl (fun t w => (t.readHead w).endUnstarted w 5) s).stopQueue q 0
  else s.stopQueue q 0

/-- The fields of word 0 a write may change only while STOPPED (R308): TYPE, LOG2_ENTRIES, CQ, GROUP, CORE, EVQ_SEL, EVQ. -/
def qdescCfg : List Fld := [F.QM_QDESC.TYPE, F.QM_QDESC.LOG2_ENTRIES, F.QM_QDESC.CQ, F.QM_QDESC.GROUP, F.QM_QDESC.CORE,
  F.QM_QDESC.EVQ_SEL, F.QM_QDESC.EVQ]

/-- A write of word 0 of a queue descriptor (R308, R533). -/
def State.writeQdesc0 (s : State) (q : Nat) (w : Word) : State :=
  let x := w.toNat
  let s1 := if bitOf x 10 then s.fs F.QM_QDESC.REFUSED 0 q else s
  let s1 := if bitOf x 11 then s1.fs F.QM_QDESC.DB_ERR 0 q else s1
  let same := qdescCfg.all (fun f => s.fg f q == bitsOf x f.lo f.w)
  let s2 := if same then s1
    else if s.fg F.QM_QDESC.STATE q = 0 then qdescCfg.foldl (fun t f => t.fs f (bitsOf x f.lo f.w) q) s1
    else s1.fs F.QM_QDESC.REFUSED 1 q
  if bitOf x 0 then s2.enable q else s2.disable q

/-- QUEUE_ENABLE (R283) and QUEUE_DISABLE (R305): the write of word 0 that carries EN. -/
def queueWrite (who : Req) (q : Nat) (w : Word) (s : State) : State := s.qmWrite who (fun t => t.writeQdesc0 q w)

/-! ### Quiesce -/

/-- CORE_DISABLE (R305): the core leaves the pool and its quiesce starts. -/
def State.disableCore (s : State) (c : Nat) : State :=
  if s.coreBit F.QM_CORE_DIS_LO.CORES_LO F.QM_CORE_DIS_HI.CORES_HI c then
    s.modQuiesce (.core (Fin.ofNat 96 c)) (fun x => { x with cleared := false })
  else
    let s1 := (s.setCoreBit F.QM_CORE_DIS_LO.CORES_LO F.QM_CORE_DIS_HI.CORES_HI c true).leavePool c 3
    if (s1.quiescing (.core (Fin.ofNat 96 c))).isSome then
      s1.modQuiesce (.core (Fin.ofNat 96 c)) (fun x => { x with cleared := false })
    else { s1 with quiesce := s1.quiesce ++ [{ u := .core (Fin.ofNat 96 c) }] }

/-- CORE_DISABLE_CLEAR (R306): the core rejoins the pool, at once or when its quiesce ends. -/
def State.enableCore (s : State) (c : Nat) : State :=
  let s1 := s.setCoreBit F.QM_CORE_DIS_LO.CORES_LO F.QM_CORE_DIS_HI.CORES_HI c false
  if (s1.quiescing (.core (Fin.ofNat 96 c))).isSome then
    s1.modQuiesce (.core (Fin.ofNat 96 c)) (fun x => { x with cleared := true })
  else s1.joinPool c 3

/-- PORT_DISABLE (R305). -/
def State.disablePort (s : State) (p : Nat) : State :=
  let f : Fld := { F.QM_PORT_DIS.PORTS with lo := p, w := 1 }
  let u : QUnit := .port (Fin.ofNat 8 p)
  if s.fb f then s.modQuiesce u (fun x => { x with cleared := false })
  else
    let s1 := s.fs f 1
    if (s1.quiescing u).isSome then s1.modQuiesce u (fun x => { x with cleared := false })
    else { s1 with quiesce := s1.quiesce ++ [{ u := u }] }

/-- PORT_DISABLE_CLEAR (R306). -/
def State.enablePort (s : State) (p : Nat) : State :=
  (s.fs { F.QM_PORT_DIS.PORTS with lo := p, w := 1 } 0).modQuiesce (.port (Fin.ofNat 8 p)) (fun x => { x with cleared := true })

/-- Abort the commands left in a queue's ring, in order, while its completion queue has room (R305): fuel bounds the count. -/
def State.abortRing : Nat → Nat → State → State
  | 0, _, s => s
  | n + 1, q, s =>
    if (s.run q).busy || s.ringHeld q == 0 || decide (s.ringHeld q < s.headSlots q) then s
    else
      let s1 := (s.readHead q).endUnstarted q 5
      State.abortRing n q (commandComplete q s1)

/-- Clear OWNED when a release is complete (R280). -/
def State.clearOwner (s : State) (detail : Nat) : State :=
  let old := s.fg F.QM_OWNER.OWNER_ID
  (((s.fs F.QM_OWNER.OWNER_ID 0).fs F.QM_OWNER.OWNED 0).fs F.QM_OWNER.RELEASING 0).event evOwnerChanged none detail old 0

/-- Carry a forced release on: once every command queue is STOPPED the others stop, then OWNED clears (R280). -/
def State.releaseStep (s : State) : State :=
  if !s.fb F.QM_OWNER.RELEASING then s
  else if s.queues.any (fun q => s.fg F.QM_QDESC.TYPE q == qCommand && s.fg F.QM_QDESC.STATE q != 0) then s
  else
    let s1 := s.queues.foldl (fun t q => if t.fg F.QM_QDESC.STATE q != 0 then t.disable q else t) s
    if s1.queues.any (fun q => s1.fg F.QM_QDESC.STATE q != 0) then s1 else s1.clearOwner 3

/-- The end of a queue's quiesce when its running command is over: the commands left are aborted and the queue stops (R305). -/
def State.finishQueue (s : State) (q : Nat) : State :=
  let u : QUnit := .queue (BitVec.ofNat 16 q)
  let s1 := State.abortRing (s.ringHeld q) q s
  if (s1.run q).busy then s1
  else
    let n := ((s1.quiescing u).map (·.aborted)).getD 0
    ((s1.endQuiesce u).stopQueue q n).releaseStep

/-- Whether a core has finished what a disable lets it finish (R305). -/
def State.coreIdle (s : State) (c : Nat) : Bool :=
  let k := s.core c
  k.held.isEmpty && k.xfers.isEmpty && (k.context 0).staged.isEmpty && !s.sieve.any (fun j => j.core == c)

/-- A core's quiesce is over (R305, R306). -/
def State.finishCore (s : State) (c lost : Nat) : State :=
  let u : QUnit := .core (Fin.ofNat 96 c)
  let cleared := ((s.quiescing u).map (·.cleared)).getD false
  let s1 := ((s.endQuiesce u).handFetches c true true).event evUnitQuiesced none 0 c lost
  if cleared then s1.joinPool c 3 else s1

/-- A port's quiesce is over: its sessions are closed (R305). -/
def State.finishPort (s : State) (p : Nat) : State :=
  let u : QUnit := .port (Fin.ofNat 8 p)
  let c := s.closePort p
  (c.1.endQuiesce u).event evUnitQuiesced none 1 p c.2

/-- What a core holds of an index when it is abandoned (R128, R300): the tiles not yet written, or the whole index. -/
def State.abandonIndex (s : State) (c : Nat) (h : Held) (code : Nat := stAbortedDisable) : State :=
  let r := s.run h.q
  let s1 := s.fail h.q code
  let s2 := match r.opc with
    | 1 | 2 =>
      let l := Lnd.ofWords r.desc
      match l.indices[h.index]? with
      | some b =>
        if h.tiles.isEmpty then s1.undef h.q h.index 0xFFFF
        else ((List.range (l.tiles b.2).length).filter (fun t => !h.tiles.contains t)).foldl (fun t i => t.undef h.q h.index i) s1
      | none => s1
    | _ => s1.undef h.q h.index 0xFFFF
  (s2.modRun h.q (fun r => { r with done := r.done + 1 })).modCore c (fun k => { k with
    held := k.held.filter (fun x => !(x.q == h.q && x.index == h.index))
    fetches := k.fetches.filter (fun f => f.mc || !(f.q == h.q && f.index == h.index))
    reads := k.reads.filter (fun j => !(j.q == h.q && j.index == h.index))
    xfers := k.xfers.filter (fun x => !k.fetches.any (fun f => !f.mc && f.q == h.q && f.index == h.index && x.fetch == some f.id) &&
      !k.reads.any (fun j => j.q == h.q && j.index == h.index && x.fetch == some j.id))
    eng := k.eng.map (fun e => Eng.quit { e with
      chains := e.chains.filter (fun p => !(p.2.q == h.q && p.2.index == h.index))
      seg := match e.seg with
        | some g => (match smFind e.chains g.unit with
          | some ch => if ch.q == h.q && ch.index == h.index then none else some g
          | none => some g)
        | none => none
      dec := match e.dec with
        | some d => if d.q == h.q && d.index == h.index then none else some d
        | none => none }) })

/-- Abandon the stream of a context (R192): the descriptor in hand is undefined, the rest were never handed out, and the stream ends
aborted. -/
def State.abandonCtx (s : State) (c x code : Nat) : State :=
  let cx := (s.core c).context x
  match cx.q with
  | none => s
  | some q =>
    if cx.posted then s
    else
      let s0 := ((s.core c).xfers.filter (fun y => y.ctx == x)).foldl (fun t y => t.undef q y.idx 0xFFFF) s
      let s1 := match cx.cur with
        | some d => s0.undef q d.idx 0xFFFF
        | none => s0
      let s2 := (s1.fail q code).modRun q (fun r => { r with onward := if cx.next < cx.count then some cx.next else r.onward })
      let s3 := s2.modCore c (fun k => { k with xfers := k.xfers.filter (fun y => y.ctx != x) })
      (s3.modCtx c x (fun y => { y with ended := true, aborted := true, cur := none, buf := [], bad := none })).closeStream c x

/-- Abandon a core's stream contexts 1 to 3 (R192). -/
def State.abandonStreams (s : State) (c : Nat) : State :=
  [1, 2, 3].foldl (fun t x => t.abandonCtx c x stAbortedDisable) s

/-- The commands that lose work when a core is abandoned (R305): what context 0 still writes is not lost (R306). -/
def CoreSt.losers (k : CoreSt) : List Nat :=
  (k.held.map (·.q) ++ ([1, 2, 3].filterMap (fun x => let cx := k.context x; if cx.posted then none else cx.q))).eraseDups

/-- Comparisons of the sieve are abandoned: the held output goes to the stream engine (R486). -/
def State.dropSieve (s : State) (gone : SieveJob → Bool) : State :=
  let js := s.sieve.filter gone
  js.foldl (fun t j => (t.modCtx j.core 0 (fun x => { x with staged := x.staged ++ j.held })).fc F.TOP_SIEVE_STATUS.ABANDONED 1)
    { s with sieve := s.sieve.filter (fun j => !gone j) }

/-- Output of a queue's command that cannot be written is given up: its tiles are undefined (R305). -/
def State.dropOutput (s : State) (q : Nat) : State :=
  s.cores.foldl (fun t p =>
    let t1 := ((t.core p.1).xfers.filter (fun x => x.q == q && x.ctx == 0 && x.fetch.isNone)).foldl (fun u x => u.undef q x.idx x.tile) t
    let t2 := (((t1.core p.1).context 0).staged.filter (fun w => w.q == q)).foldl (fun u w => u.undef q w.index w.tile) t1
    t2.modCore p.1 (fun k => { k with
      xfers := k.xfers.filter (fun x => x.q != q || x.ctx != 0 || x.fetch.isSome)
      ctx := k.ctx.map (fun y => { y with staged := y.staged.filter (fun w => w.q != q) }) })) s

/-- The running command of a queue is abandoned at expiry (R305, R128, R192). Tiles that have reached their final verdict are still
written (R306). -/
def State.abandonRun (s : State) (q : Nat) : State :=
  let r := s.run q
  if !r.busy || r.record.isSome then s
  else
    let s1 := (s.fail q stAbortedDisable).modRun q (fun r => { r with notStarted := !r.ready && r.done == 0 && r.undef.isEmpty && r.opc != 4 })
    let s0 := s1.dropSieve (fun j => j.q == q)
    let s2 := s0.cores.foldl (fun t p => ((t.core p.1).held.filter (fun h => h.q == q)).foldl (fun u h => u.abandonIndex p.1 h) t) s0
    let s2 := [1, 2, 3].foldl (fun t x =>
      if ((t.core r.core).context x).q == some q then t.abandonCtx r.core x stAbortedDisable else t) s2
    (s2.collEnd q).modRun q (fun r => { r with
      finished := r.opc != 4 || r.finished
      onward := r.unhanded })

/-- QUIESCE_END (R305): the work allowed to finish has finished. DESIGN CHOICE (log entry 97): the streams of a core whose disable bit was cleared
before then go on (R192, R306). -/
def quiesceEnd (u : QUnit) (s : State) : State :=
  if (s.quiescing u).isNone then s
  else
    match u with
    | .queue q => if (s.run q.toNat).busy then s else s.finishQueue q.toNat
    | .core c =>
      if s.coreIdle c.val then
        (if ((s.quiescing u).map (·.cleared)).getD false then s else s.abandonStreams c.val).finishCore c.val 0
      else s
    | .port p => if s.portOwes p.val then s else s.finishPort p.val

/-- QUIESCE_TIMEOUT (R305): what remains is abandoned. -/
def quiesceTimeout (u : QUnit) (s : State) : State :=
  if (s.quiescing u).isNone then s
  else
    match u with
    | .queue q =>
      let s1 := s.abandonRun q.toNat
      let s2 := commandComplete q.toNat s1
      if (s2.run q.toNat).busy then s2 else s2.finishQueue q.toNat
    | .core c =>
      let lost := (s.core c.val).losers.length
      let s0 := if s.resetting (uid 2 c.val) then { s with pw := { s.pw with block := s.pw.block.map (fun b => { b with forced := true }) } } else s
      let s1 := (s0.core c.val).held.foldl (fun t h => t.abandonIndex c.val h) s0
      ((s1.dropSieve (fun j => j.core == c.val)).abandonStreams c.val).finishCore c.val lost
    | .port p => s.finishPort p.val

/-! ### Ownership -/

/-- Whether an enabled host key carries an identity (R280, R460). -/
def State.keyCarries (s : State) (ident : Nat) : Bool :=
  (List.range 16).any (fun n => s.fb F.MGT_HOSTKEY.EN n && s.fg F.MGT_HOSTKEY.IDENTITY n == ident)

/-- The device takes an owner (R280). -/
def State.own (s : State) (ident : Nat) : State :=
  ((s.fs F.QM_OWNER.OWNER_ID ident).fs F.QM_OWNER.OWNED 1).event evOwnerChanged none 1 ident 0

/-- CLAIM (R280). -/
def claim (who : Req) (ident : BitVec 32) (s : State) : State :=
  if !s.live then s else
  match who with
  | .session n =>
    if !s.sessOpen n.toNat then s.foreign
    else if s.fb F.QM_OWNER.OWNED then (if s.ownerSess n.toNat then s else s.foreign)
    else s.own (s.sessIdent n.toNat)
  | .mgmt | .sideband =>
    if s.fb F.QM_OWNER.OWNED then s
    else if s.keyCarries ident.toNat then s.own ident.toNat else s.foreign
  | .fabric _ => s.foreign

/-- FORCED_RELEASE (R280): every command queue is disabled at once. -/
def State.forceRelease (s : State) : State :=
  let s1 := s.fs F.QM_OWNER.RELEASING 1
  (s1.queues.foldl (fun t q => if t.fg F.QM_QDESC.TYPE q == qCommand then t.disable q else t) s1).releaseStep

/-- FORCED_RELEASE as a command (R280). -/
def forcedRelease (who : Req) (s : State) : State :=
  if !s.live then s else if !isMgmt who then s.foreign else if s.fb F.QM_OWNER.RELEASING then s else s.forceRelease

/-- RELEASE (R280): from the owner it clears OWNED; from management firmware it forces the release. -/
def release (who : Req) (s : State) : State :=
  if !s.live then s else
  match who with
  | .session n => if s.ownerSess n.toNat then s.clearOwner 2 else s.foreign
  | .mgmt | .sideband => forcedRelease who s
  | .fabric _ => s.foreign

/-- A queue whose state is lost is disabled (R462), a completion queue even while a command queue names it (R303). -/
def State.loseQueue (s : State) (q : Nat) : State := if s.qOn q qCompletion then s.stopQueue q 0 else s.disable q

/-- What the queue manager finds in the state of a queue whose doorbell it takes (R282, R462): queue q lies in hub q mod 8. -/
def State.queueMet (s : State) (who : Req) (q : Nat) (found : Ecc) : State :=
  if s.live && s.qmAllows who then s.ctlMet found (uid 7 (q % 8)) 6 q (fun t => t.loseQueue q) else s

/-- What the QM finds in the state of a queue whose head command is to start, and in the registers of the stage group that the queue names (R462). -/
def State.startMet (s : State) (q : Nat) (m : StartMet) : State :=
  if !s.headReady q then s
  else
    let g := s.fg F.QM_QDESC.GROUP q
    let opc := (Hdr.ofWords (s.headWords q)).opc
    let s1 := if 1 ≤ opc ∧ opc ≤ 3 then
        s.ctlMet m.group (uid 7 0) 10 (0x800 + 16 * g)
          (fun t => t.fs F.TOP_GROUP_LO.CORES_LO (if g = 0 then 2 ^ 64 - 1 else 0) g)
      else s
    s1.ctlMet m.desc (uid 7 (q % 8)) 6 q (fun t => t.loseQueue q)

/-! ### Meanings -/

def execDoorbell (who : Req) (q : QueueAt) (width : Nat) (v : Word) (s : State) : Host.Outcome State Fault Refusal :=
  .next (doorbell who q.q.toNat width v (s.queueMet who q.q.toNat q.desc)).idleGo
def execQueueEnable (who : Req) (q : BitVec 16) (w : Word) (s : State) : Host.Outcome State Fault Refusal :=
  .next (queueWrite who q.toNat (w ||| 1) s)
def execQueueDisable (who : Req) (q : BitVec 16) (w : Word) (s : State) : Host.Outcome State Fault Refusal :=
  .next (queueWrite who q.toNat (w &&& ~~~1) s)
def execCoreDisable (who : Req) (c : Fin 96) (s : State) : Host.Outcome State Fault Refusal :=
  .next (s.qmWrite who (fun t => t.disableCore c.val))
def execCoreDisableClear (who : Req) (c : Fin 96) (s : State) : Host.Outcome State Fault Refusal :=
  .next (s.qmWrite who (fun t => t.enableCore c.val))
def execPortDisable (who : Req) (p : Fin 8) (s : State) : Host.Outcome State Fault Refusal :=
  .next (s.qmWrite who (fun t => t.disablePort p.val))
def execPortDisableClear (who : Req) (p : Fin 8) (s : State) : Host.Outcome State Fault Refusal :=
  .next (s.qmWrite who (fun t => t.enablePort p.val))
def execClaim (who : Req) (ident : BitVec 32) (s : State) : Host.Outcome State Fault Refusal := .next (claim who ident s)
def execCommandStart (q : BitVec 16) (met : StartMet) (s : State) : Host.Outcome State Fault Refusal :=
  .next (commandStart q.toNat met (s.startMet q.toNat met))
def execNop (q : BitVec 16) (s : State) : Host.Outcome State Fault Refusal := .next (nop q.toNat s)
def execCqRecordWrite (q : UnitsAt) (s : State) : Host.Outcome State Fault Refusal := .next (cqRecordWrite q.q.toNat (unitList q.met) s)

end Sys2Proof.Machine
end

