-- ==== Sys2Proof/Machine/FabOps.lean ====
section
/-! DEFINITION. Shared operations of the Valix fabric (chapter 11): links and their queues, creating and routing packets, drains, the two
ends of a connection, lantern tokens (R478, R480), and who reaches which register (R531). -/

namespace Sys2Proof.Machine

/-! ### Who reaches a register -/

/-- A register of the FAB sub-block of any hub, or TOP_DEVICE_ID (R353). -/
def fabricReg (a : Nat) : Bool :=
  a == 0x300000000000 ||
  (decide (0x300030000000 ≤ a ∧ a < 0x300038000000) && decide (bitsOf a 20 4 = 1))

/-- Whether a requester reaches the register word at an address for a write (R353, R414, R439, R531). -/
def State.reaches (s : State) (who : Req) (a : Nat) : Bool :=
  match who with
  | .mgmt => true
  | .sideband => !s.fb F.MGT_STATUS.RECOVERY
  | .session n => s.ownerSess n.toNat
  | .fabric src => fabricReg a && (src.toNat == s.fg F.FAB_SPIRE.PRIMARY || src.toNat == s.fg F.FAB_SPIRE.STANDBY)

/-- A write of a register by a requester who may not make it does nothing (R414, R531); nothing answers before READY, in DOME or after a trip. -/
def State.gated (s : State) (who : Req) (a : Nat) (f : State → State) : State := if s.live && s.reaches who a then f s else s

/-- A write of a word of a unit by a requester: it waits while the unit's block reset goes on (R536). -/
def State.gatedUnit (s : State) (who : Req) (k : RegKey) (v : Nat) (f : State → State) : State :=
  s.gated who k.addr (fun t => if t.inReset k then t.holdWrite k v else f t)

/-! ### Links -/

/-- A link. -/
def State.link (s : State) (l : Nat) : LinkSt := smGet (fun _ => {}) s.links l

/-- Replace a link. -/
def State.setLink (s : State) (l : Nat) (x : LinkSt) : State := { s with links := smPut (fun _ => {}) s.links l x }

/-- Change a link by a function. -/
def State.modLink (s : State) (l : Nat) (f : LinkSt → LinkSt) : State := s.setLink l (f (s.link l))

/-- A field of a link's register (R362): link l is local link l mod 5 of hub l div 5. -/
def State.lg (s : State) (f : Fld) (l : Nat) (t : Nat := 0) : Nat := s.fg f (l / 5) (l % 5) t

/-- Set a field of a link's register. -/
def State.ls (s : State) (f : Fld) (v l : Nat) (t : Nat := 0) : State := s.fs f v (l / 5) (l % 5) t

/-- Count in a link's register. -/
def State.lc (s : State) (f : Fld) (n l : Nat) (t : Nat := 0) : State := s.fc f n (l / 5) (l % 5) t

/-- Link states of R315. -/
def lkDisabled : Nat := 0
def lkDown : Nat := 1
def lkTraining : Nat := 2
def lkUp : Nat := 3
def lkRetune : Nat := 4

/-- Whether a link is UP. -/
def State.linkUp (s : State) (l : Nat) : Bool := s.lg F.FAB_LINK_STATUS.STATE l == lkUp

/-- The links that are UP. -/
def State.upLinks (s : State) : List Nat := (List.range 40).filter s.linkUp

/-- Whether a packet type is sequenced (R323). -/
def sequenced (t : Nat) : Bool := decide (1 ≤ t ∧ t ≤ 6)

/-- Whether a packet type is not reserved (R323). -/
def ptypeOk (t : Nat) : Bool := sequenced t || t == 8 || t == 9 || t == 10 || t == 12 || t == 13

/-- Traffic class of a packet. -/
def clsOf (p : Pkt) : Nat := p.tc.toNat

/-- The virtual channel of a packet (R318, R326). -/
def vcOf (p : Pkt) : Nat := 3 * clsOf p + (if p.esc then 1 + b2n p.epoch else 0)

/-- Flits of a packet (R318, R322). -/
def flitsOf (p : Pkt) : Nat := ceilDiv (32 + p.payload.length) 120

/-- Credits of a link on a VC (R321). -/
def LinkSt.credit (k : LinkSt) (vc : Nat) : Nat := smGet (fun _ => 16) k.credits vc

/-- Occupancy in flits of a link's output queue for a class (R331). -/
def LinkSt.occ (k : LinkSt) (cls : Nat) : Nat := ((k.outq.filter (fun o => o.vc / 3 == cls)).map (·.left)).sum

/-! ### Flits and groups (R318 to R321) -/

/-- A flit: its header word and data (R318). -/
structure Flit where
  hdr : Nat
  data : List Byte
  deriving DecidableEq, Repr

/-- The bytes of a packet (R322). -/
def pktBytes (p : Pkt) : List Byte :=
  leBytes 2 p.dst.toNat ++ leBytes 2 p.src.toNat ++
    leBytes 1 (p.ptype.toNat + 16 * b2n p.epoch + 32 * b2n p.esc + 64 * b2n p.ce + 128 * b2n p.ord) ++
    leBytes 1 (p.tc.toNat + 8 * p.hops.toNat) ++ leBytes 2 (p.dconn.toNat + 4096 * p.gen.toNat) ++ leBytes 4 p.psn.toNat ++
    leBytes 2 p.payload.length ++ leBytes 1 p.ncode.toNat ++ leBytes 1 (b2n p.lastf) ++ leBytes 6 p.addr.toNat ++ leBytes 2 p.tag.toNat ++
    leBytes 8 p.poison.toNat ++ p.payload

/-- A flit of a type on a VC with some data (R318). -/
def mkFlit (ftype vc len : Nat) (data : List Byte) : Flit :=
  { hdr := ftype + 16 * vc + 512 * len, data := data ++ List.replicate (120 - data.length) 0 }

/-- Flit i of a packet: HEAD, BODY, TAIL or SINGLE (R318). -/
def pktFlit (p : Pkt) (vc i : Nat) : Flit :=
  let n := flitsOf p
  let d := ((pktBytes p).drop (120 * i)).take 120
  mkFlit (if n = 1 then 4 else if i = 0 then 1 else if i + 1 = n then 3 else 2) vc d.length d

/-- A link-control flit; its layout is free (log entry 75). -/
def ctlFlit (fields : List Nat) : Flit := mkFlit 5 0 (Config.lctlLen fields % 121) ((List.range 120).map (Config.lctlByte fields))

/-- The flits of VC v in the input buffer, and the credits the neighbour holds for it (R321). -/
def LinkSt.held (k : LinkSt) (v : Nat) : Nat := smGet (fun _ => 0) k.inbuf v
def LinkSt.lentTo (k : LinkSt) (v : Nat) : Nat := smGet (fun _ => 16) k.lent v

/-- Flits held or promised beyond those that every VC may always have: the 16 reserved and 19 of the shared part, together one packet of the
largest size. DESIGN CHOICE (log entry 76): the spec shares 1,152 flits and does not say how. -/
def LinkSt.over (k : LinkSt) : Nat := ((List.range 24).map (fun v => k.held v + k.lentTo v - 35)).sum

/-- Lend VC v credits up to 16 while its part or the common rest of 696 flits allows (R321). -/
def LinkSt.top1 (k : LinkSt) (v : Nat) : LinkSt :=
  let n := min (16 - k.lentTo v) (35 - (k.held v + k.lentTo v) + (696 - k.over))
  if n = 0 then k
  else { k with lent := smPut (fun _ => 16) k.lent v (k.lentTo v + n)
                owed := smPut (fun _ => 0) k.owed v (smGet (fun _ => 0) k.owed v + n) }

/-- A flit takes its place in the input buffer (R321). -/
def LinkSt.flitIn (k : LinkSt) (v : Nat) : LinkSt :=
  if 24 ≤ v then k
  else LinkSt.top1 { k with lent := smPut (fun _ => 16) k.lent v (k.lentTo v - 1), inbuf := smPut (fun _ => 0) k.inbuf v (k.held v + 1) } v

/-- n flits of VC v leave the input buffer, and credits go back (R321). -/
def LinkSt.flitsOut (k : LinkSt) (v n : Nat) : LinkSt :=
  if 24 ≤ v then k
  else (List.range 24).foldl LinkSt.top1 { k with inbuf := smPut (fun _ => 0) k.inbuf v (k.held v - n) }

/-- The credits that the next group returns: up to six VCs (R318). -/
def LinkSt.returns (k : LinkSt) : List (Nat × Nat) := (k.owed.map (fun p => (p.1, min 2047 p.2))).take 6

/-- The credit word of flit i (R318). -/
def credWord (cr : List (Nat × Nat)) (i : Nat) : Nat :=
  let one := fun (j : Nat) => match cr[j]? with
    | some c => c.2 + 2048 * c.1
    | none => 0
  one (2 * i) + 65536 * one (2 * i + 1)

/-- GWORD of flit i of the next group (R318). -/
def LinkSt.gwordOut (k : LinkSt) (i : Nat) : Nat :=
  let seq := fun (x : Option Nat) => match x with
    | some a => a % 4096 + 32768
    | none => 0
  match i with
  | 0 => k.txNext % 4096
  | 1 => seq k.ackDue
  | 2 => seq k.nakDue
  | _ => 0

/-- The 512 bytes of a group of up to four flits, its CRC-32C in flit 3 (R318). -/
def LinkSt.groupBytes (k : LinkSt) (fs : List Flit) : List Byte :=
  let cr := k.returns
  let bs := (List.range 4).flatMap (fun i =>
    let f := fs.getD i (mkFlit 0 0 0 [])
    leBytes 8 (f.hdr + 2 ^ 16 * k.gwordOut i + 2 ^ 32 * (if i = 3 then 0 else credWord cr i)) ++ f.data)
  bs.take 388 ++ leBytes 4 (crc32c bs) ++ bs.drop 392

/-- Form a group (R318, R319): it takes the next GSEQ and stays in the replay buffer. -/
def LinkSt.form (k : LinkSt) (fs : List Flit) : LinkSt × List Byte :=
  let b := k.groupBytes fs
  ({ k with txNext := (k.txNext + 1) % 4096, replay := k.replay ++ [b], ackDue := none, nakDue := none,
            owed := k.returns.foldl (fun m c => smPut (fun _ => 0) m c.1 (smGet (fun _ => 0) m c.1 - c.2)) k.owed }, b)

/-- What is left while flits leave a link. -/
structure Pump where
  k : LinkSt
  room : Nat
  blocked : List Nat := []
  kept : List OutPkt := []
  /-- The packets that have left, each with the place of its last flit among those sent. -/
  done : List (OutPkt × Nat) := []
  sent : List Flit := []
  /-- The class of 0 to 5 that sent last. -/
  last : Nat := 5
  deriving DecidableEq, Repr

/-- Let the flits of one packet leave against credits and replay-buffer room; flits of one VC belong to one packet at a time (R318, R321). -/
def Pump.one (u : Pump) (o : OutPkt) : Pump :=
  if u.blocked.contains o.vc then { u with kept := u.kept ++ [o] }
  else
    let n := min o.left (min (u.k.credit o.vc) u.room)
    let k := { u.k with credits := smPut (fun _ => 16) u.k.credits o.vc (u.k.credit o.vc - n),
                        flits := smPut (fun _ => 0) u.k.flits (o.vc / 3) (smGet (fun _ => 0) u.k.flits (o.vc / 3) + n) }
    let v := { u with
      k := k, room := u.room - n, last := if n = 0 ∨ 6 ≤ o.vc / 3 then u.last else o.vc / 3
      sent := u.sent ++ (List.range n).map (fun i => pktFlit o.p o.vc (flitsOf o.p - o.left + i)) }
    if n = o.left then { v with done := u.done ++ [(o, v.sent.length - 1)] }
    else { v with blocked := o.vc :: u.blocked, kept := u.kept ++ [{ o with left := o.left - n }] }

/-- Weighted round robin over classes 0 to 5 from class c on (R326): each in turn up to as many packets as its weight, 0 taken as 1. -/
def wrr (w : Nat → Nat) : Nat → Nat → List OutPkt → List OutPkt
  | 0, _, q => q
  | n + 1, c, q =>
    let mine := q.filter (fun o => o.vc / 3 == c)
    let m := max 1 (w c)
    mine.take m ++ wrr w n ((c + 1) % 6) (q.filter (fun o => o.vc / 3 != c) ++ mine.drop m)

/-- The order in which an output serves its queues (R326): class 7, then 6, then 0 to 5 by FAB_TC_WEIGHT `w`. DESIGN CHOICE (log entry 81): weights
count packets, and the turn begins after the class that sent last. -/
def LinkSt.arbitrate (k : LinkSt) (w : Nat) : List OutPkt :=
  let of := fun (c : Nat) => k.outq.filter (fun o => o.vc / 3 == c)
  let low := k.outq.filter (fun o => decide (o.vc / 3 < 6))
  of 7 ++ of 6 ++ wrr (fun c => bitsOf w (8 * c) 8) (6 * (low.length + 1)) k.turn low

/-- The groups that a link sends now (R318, R319, R321): link-control flits first, then the flits that credits and the replay buffer allow, and
a group of IDLE flits where only acknowledgements or credits are due. Also the packets that have left. DESIGN CHOICE (log entry 75): a group of
four IDLE flits that says nothing is not formed. -/
def LinkSt.send (k : LinkSt) (w : Nat) : LinkSt × List (List Byte) × List OutPkt :=
  let room := 400 - k.replay.length
  let c := min k.ctl.length (4 * room)
  let u := (k.arbitrate w).foldl Pump.one { k := k, room := 4 * room - c, last := (k.turn + 5) % 6 }
  let fs := (k.ctl.take c).map ctlFlit ++ u.sent
  let n := min room (max (ceilDiv fs.length 4) (max (ceilDiv k.owed.length 6) (b2n (k.ackDue.isSome || k.nakDue.isSome))))
  let x := (List.range n).foldl (fun (y : LinkSt × List (List Byte)) i =>
    let z := y.1.form ((fs.drop (4 * i)).take 4)
    (z.1, y.2 ++ [z.2])) ({ u.k with
      outq := u.kept
      ctl := k.ctl.drop c
      turn := (u.last + 1) % 6
      unacked := k.unacked ++ u.done.map (fun o => (o.1, (k.txNext + (c + o.2) / 4) % 4096)) }, [])
  (x.1, x.2, u.done.map (·.1))

/-- Send what a link's credits and replay buffer allow (R319, R321); FAB_CMAP counts the flits (R351). -/
def State.pump (s : State) (l : Nat) : State :=
  if !s.linkUp l then s
  else
    let x := (s.link l).send (s.fg F.FAB_TC_WEIGHT.W)
    let s1 := (List.range 8).foldl (fun t c =>
      let n := smGet (fun _ => (0 : Nat)) x.1.flits c
      if n < 1024 then t else t.lc F.FAB_CMAP.KFLITS (n / 1024) l c) s
    let k2 := { x.1 with flits := (List.range 8).foldl (fun m c =>
      smPut (fun _ => 0) m c (smGet (fun _ => 0) m c % 1024)) x.1.flits }
    let s2 := x.2.1.foldl (fun (t : State) b => t.emit (.group l b)) (s1.setLink l k2)
    x.2.2.foldl (fun (t : State) o => t.emit (.pkt l o.vc o.p)) s2

/-- Put a link-control flit into a link's next group (R317, R321, R337). -/
def State.sendCtl (s : State) (l : Nat) (fields : List Nat) (m : Msg) : State :=
  ((s.modLink l (fun k => { k with ctl := k.ctl ++ [fields] })).emit m).pump l

/-- Put a packet into a link's output queue, with the congestion mark of R348. -/
def State.enqueue (s : State) (l : Nat) (np : NetPkt) : State :=
  let k := s.link l
  let hot := sequenced np.p.ptype.toNat && decide (s.fg F.FAB_CTL.MARK_THRESH < k.occ (clsOf np.p))
  let p := { np.p with ce := np.p.ce || hot }
  let s1 := if hot then s.lc F.FAB_CMAP.MARKS 1 l (clsOf np.p) else s
  (s1.setLink l { k with outq := k.outq ++ [{ p := p, vc := vcOf p, left := flitsOf p, src := np.src, marked := np.marked }] }).pump l

/-! ### Routing -/

/-- State of a routing bank (R334): 0 FREE, 1 LOADED, 2 ACTIVE, 3 DRAINING. -/
def State.bank (s : State) (b : Bool) : Nat := if b then s.fg F.FAB_EPOCH.BANK1 else s.fg F.FAB_EPOCH.BANK0

/-- Set a bank's state; DRAINED follows (R357). -/
def State.setBank (s : State) (b : Bool) (v : Nat) : State :=
  let s1 := if b then s.fs F.FAB_EPOCH.BANK1 v else s.fs F.FAB_EPOCH.BANK0 v
  s1.fs F.FAB_EPOCH.DRAINED (b2n (s1.bank false != 3 && s1.bank true != 3))

/-- The routing entry for a destination in a bank: its candidate mask and fallback port (R329, R330). -/
def State.entry (s : State) (b : Bool) (dst : Nat) : Nat × Nat :=
  if dst / 256 ≠ s.devId / 256 then
    (s.fg F.FAB_ROUTE_GROUP.CAND 0 (b2n b) (dst / 256), s.fg F.FAB_ROUTE_GROUP.FALLBACK 0 (b2n b) (dst / 256))
  else (s.fg F.FAB_ROUTE_MEMBER.CAND 0 (b2n b) (dst % 256), s.fg F.FAB_ROUTE_MEMBER.FALLBACK 0 (b2n b) (dst % 256))

/-- Whether a link carries table-routed packets of an epoch (R315, R316, R317, R337). -/
def State.carries (s : State) (l : Nat) (epoch : Bool) : Bool :=
  s.linkUp l && !(s.link l).retune && s.lg F.FAB_LINK_STATUS.NBR_VALID l == 1 &&
  s.lg F.FAB_LINK_STATUS.NBR_ID l != s.devId && (s.link l).bar != some epoch

/-- Cost of a candidate port (R331). -/
def State.cost (s : State) (l cls : Nat) : Nat :=
  (s.link l).occ cls + bitsOf (s.lg F.FAB_PORT_WEIGHT.W l) (4 * cls) 4 * 64

/-- The port of least cost among those with a credit, ties to the lower number (R329, R331). -/
def State.bestPort (s : State) (ls : List Nat) (p : Pkt) : Option Nat :=
  (ls.filter (fun l => decide (1 ≤ (s.link l).credit (vcOf p)))).foldl (fun a l => match a with
    | none => some l
    | some b => if s.cost l (clsOf p) < s.cost b (clsOf p) then some l else some b) none

/-- Where a packet goes (R329, R332). -/
inductive Fate where
  | deliver
  | drop (f : Fld)
  | wait
  | port (l : Nat)
  deriving DecidableEq, Repr

/-- The ports that may take a packet: its candidates, or the fallback (R327, R329). -/
def State.choices (s : State) (p : Pkt) : List Nat :=
  let e := s.entry p.epoch p.dst.toNat
  if p.esc then [e.2].filter (fun l => s.carries l p.epoch)
  else
    let c := (bitList 40 e.1).filter (fun l => s.carries l p.epoch)
    if c.isEmpty then [e.2].filter (fun l => s.carries l p.epoch) else c

/-- The fate of a packet in the router (R323, R329, R332, R335); one that must cross a failed bridge is not delivered (R18, R317). -/
def State.fate (s : State) (np : NetPkt) : Fate :=
  let p := np.p
  let t := p.ptype.toNat
  if !ptypeOk t then .drop F.FAB_DROP.HDR_ERR
  else if t = 13 then .deliver
  else if !s.fb F.FAB_ID.VALID then .wait
  else if p.dst.toNat = s.devId then .deliver
  else if np.src.isSome ∧ p.hops.toNat = 0 then .drop F.FAB_DROP.HOPLIMIT
  else if np.src.isNone ∧ (s.bank p.epoch = 1 ∨ (sequenced t = true ∧ s.bank p.epoch = 0)) then .wait
  else if s.bank p.epoch = 0 then .drop F.FAB_DROP.EPOCH_ERR
  else if 40 ≤ (s.entry p.epoch p.dst.toNat).2 then .drop F.FAB_DROP.NOROUTE
  else
    match s.bestPort (s.choices p) p, np.src with
    | some l, some k => if s.hubsMeet (k / 5) (l / 5) then .port l else .wait
    | some l, none => .port l
    | none, _ => .wait

/-- Take a packet out of the router's list: the first one equal to it. -/
def dropFirst : List NetPkt → NetPkt → List NetPkt
  | [], _ => []
  | x :: xs, y => if x.p = y.p ∧ x.src = y.src then xs else x :: dropFirst xs y

/-- The flits of a packet leave the buffer of the link it came in on, and its credits go back (R321). -/
def State.creditBack (s : State) (np : NetPkt) : State :=
  match np.src with
  | some l => if np.moved then s else (s.modLink l (fun k => k.flitsOut np.vc (flitsOf np.p))).pump l
  | none => s

/-- Route one packet of the router (R329, R332). -/
def State.routePkt (s : State) (np : NetPkt) : State :=
  match s.fate np with
  | .wait => s
  | .deliver => { s with net := dropFirst s.net np, arrived := s.arrived ++ [np] }.creditBack np
  | .drop f => ({ s with net := dropFirst s.net np }.creditBack np).fc { f with reg := .FAB_DROP } 1
  | .port l =>
    let p := if np.src.isSome then { np.p with hops := np.p.hops - 1 } else np.p
    ({ s with net := dropFirst s.net np }.creditBack np).enqueue l { np with p := p }

/-! ### Drains -/

/-- The epoch of a packet that is arriving (R322). -/
def Part.epoch (p : Part) : Bool := bitOf (leNat ((p.bytes.drop 4).take 1)) 4

/-- Whether the device holds a packet of an epoch that a drain waits for (R337): in the router, in an output queue, or arriving. -/
def State.heldOld (s : State) (e : Bool) (only : Bool) : Bool :=
  s.net.any (fun n => n.p.epoch == e && (n.marked || !only)) ||
  s.links.any (fun k => k.2.outq.any (fun o => o.p.epoch == e && (o.marked || !only)) ||
    k.2.parts.any (fun p => p.2.epoch == e && (p.2.marked || !only)))

/-- Mark every packet of an epoch that the device holds. -/
def State.markOld (s : State) (e : Bool) : State :=
  { s with
    net := s.net.map (fun n => if n.p.epoch == e then { n with marked := true } else n)
    links := s.links.map (fun k => (k.1, { k.2 with
      outq := k.2.outq.map (fun o => if o.p.epoch == e then { o with marked := true } else o)
      parts := k.2.parts.map (fun p => (p.1, if p.2.epoch == e then { p.2 with marked := true } else p.2)) })) }

/-- The highest round of an epoch's DRAIN received on a link. -/
def LinkSt.drainRx (k : LinkSt) (e : Bool) : Nat := if e then k.drain1 else k.drain0

/-- Whether round k's DRAIN has been received on every UP link that carries the epoch (R337). -/
def State.allDrained (s : State) (e : Bool) (k : Nat) : Bool :=
  s.upLinks.all (fun l => (s.link l).bar == some e || decide (k ≤ (s.link l).drainRx e))

/-- Carry a drain on as far as it goes (R337); fuel bounds the rounds. -/
def State.drainStep : Nat → State → State
  | 0, s => s
  | n + 1, s =>
    match s.drain with
    | none => s
    | some d =>
      match d.round with
      | none =>
        if s.net.any (fun p => p.src.isNone && p.p.epoch == d.epoch) then s
        else State.drainStep n ({ s with drain := some { d with round := some 0, sent := false } }.fs F.FAB_EPOCH.ROUND 0 |>.markOld d.epoch)
      | some k =>
        if !d.sent then
          if s.heldOld d.epoch true then s
          else
            let s1 := s.upLinks.foldl (fun t l => t.sendCtl l [1, b2n d.epoch, k + 1] (.drain l d.epoch (k + 1))) s
            State.drainStep n { s1 with drain := some { d with sent := true } }
        else if !s.allDrained d.epoch (k + 1) then s
        else if k + 1 = s.fg F.FAB_CTL.HOP_LIMIT + 1 then
          if s.heldOld d.epoch false then s
          else
            ({ (s.fs F.FAB_EPOCH.ROUND (k + 1)) with
              drain := none
              links := s.links.map (fun (x : Nat × LinkSt) => (x.1, { x.2 with
                drain0 := if d.epoch then x.2.drain0 else 0
                drain1 := if d.epoch then 0 else x.2.drain1 })) }).setBank d.epoch 0
        else
          State.drainStep n
            ({ s with drain := some { d with round := some (k + 1), sent := false } }.fs F.FAB_EPOCH.ROUND (k + 1) |>.markOld d.epoch)

/-- Carry a drain on. -/
def State.drainOn (s : State) : State := State.drainStep 80 s

/-! ### Creating packets -/

/-- The epoch of new packets (R335). -/
def State.cur (s : State) : Bool := s.fb F.FAB_EPOCH.CUR

/-- A packet this device creates waits in the router to be routed (R332, R335). -/
def State.inject (s : State) (p : Pkt) : State :=
  { s with net := s.net ++ [{ p := { p with epoch := s.cur, esc := false, hops := BitVec.ofNat 5 (s.fg F.FAB_CTL.HOP_LIMIT) } }] }

/-- A packet with every field 0. -/
def zeroPkt : Pkt :=
  { dst := 0, src := 0, ptype := 0, epoch := false, esc := false, ce := false, ord := false, tc := 0, hops := 0, dconn := 0, gen := 0,
    psn := 0, ncode := 0, lastf := false, addr := 0, tag := 0, poison := 0, payload := [] }

/-! ### Connections: the sender -/

/-- A connection. -/
def State.conn (s : State) (c : Nat) : ConnSt := smGet (fun _ => {}) s.conns c

/-- Replace a connection. -/
def State.setConn (s : State) (c : Nat) (x : ConnSt) : State := { s with conns := smPut (fun _ => {}) s.conns c x }

/-- Change a connection by a function. -/
def State.modConn (s : State) (c : Nat) (f : ConnSt → ConnSt) : State := s.setConn c (f (s.conn c))

/-- Whether a connection is OPEN (R363). -/
def State.connOpen (s : State) (c : Nat) : Bool := s.fg F.FAB_CONN.STATE 0 c == 1

/-- A packet of a connection's entry (R340). -/
def State.connPkt (s : State) (c : Nat) (t : Nat) (cls : Nat) : Pkt :=
  { zeroPkt with
    dst := BitVec.ofNat 16 (s.fg F.FAB_CONN.PEER_ID 0 c), src := BitVec.ofNat 16 s.devId, ptype := BitVec.ofNat 4 t,
    tc := BitVec.ofNat 3 cls, dconn := BitVec.ofNat 12 (s.fg F.FAB_CONN.PEER_CONN 0 c), gen := BitVec.ofNat 4 (s.fg F.FAB_CONN.GEN 0 c) }

/-- Show how many packets of a connection are unacknowledged (R363). -/
def State.showUnacked (s : State) (c : Nat) : State := s.fs F.FAB_CONN.UNACKED (s.conn c).tx.length 0 c

/-- Send waiting packets while the window has room (R341); fuel bounds their number. -/
def State.connPump : Nat → Nat → State → State
  | 0, _, s => s
  | n + 1, c, s =>
    let k := s.conn c
    match k.wait with
    | [] => s
    | w :: ws =>
      if 256 ≤ k.tx.length ∨ s.connOpen c = false then s
      else
        let psn := s.fg F.FAB_CONN.TX_PSN 0 c
        let p := { w.p with psn := BitVec.ofNat 32 psn }
        let s1 := (s.setConn c { k with wait := ws, tx := k.tx ++ [{ w with p := p, sends := 1 }] }).fs F.FAB_CONN.TX_PSN
          ((psn + 1) % 2 ^ 32) 0 c
        State.connPump n c ((s1.showUnacked c).inject p)

/-- Send what the window of a connection allows. -/
def State.connGo (s : State) (c : Nat) : State := State.connPump ((s.conn c).wait.length) c s

/-- Whether two runs of bytes touch a common 64-byte unit. -/
def unitsMeet (a n b m : Nat) : Bool :=
  decide (n ≠ 0 ∧ m ≠ 0 ∧ a / 64 ≤ (b + m - 1) / 64 ∧ b / 64 ≤ (a + n - 1) / 64)

/-- Whether two packets belong to one stream (R343). -/
def sameStream : TxHome → TxHome → Bool
  | .xfer q c _, .xfer q' c' _ => q == q' && c == c'
  | _, _ => false

/-- The layout epoch of the command that sends a packet (R389). -/
def State.txTag (s : State) (h : TxHome) : Nat :=
  match h with
  | .xfer q _ _ | .coll q _ => (s.run q).epoch
  | .none => s.fg F.COL_LAYOUT.CUR

/-- Send a sequenced packet on a connection, with ORD as R343 sets it; `src`: where its data stand in this device's memory. -/
def State.connSend (s : State) (c : Nat) (p : Pkt) (home : TxHome) (src : Option Nat := none) : State :=
  let k := s.conn c
  let meets := p.ptype == 1 && (k.tx ++ k.wait).any (fun t => t.p.ptype == 1 && sameStream t.home home &&
    unitsMeet t.p.addr.toNat t.p.payload.length p.addr.toNat p.payload.length)
  let ord := p.ptype == 5 || p.ptype == 6 || (p.ptype == 1 && (p.lastf || meets))
  let b := s.connPkt c p.ptype.toNat (s.fg F.FAB_CONN.TC 0 c)
  let q := { b with ord := ord, lastf := p.lastf, addr := p.addr, tag := p.tag, poison := p.poison, payload := p.payload }
  (s.setConn c { k with wait := k.wait ++ [{ p := q, home := home, tag := s.txTag home, src := src }] }).connGo c

/-- Send an unsequenced packet of class 6 to a connection's peer (R323). -/
def State.connNote (s : State) (c : Nat) (t psn ncode : Nat) : State :=
  s.inject { s.connPkt c t 6 with psn := BitVec.ofNat 32 psn, ncode := BitVec.ofNat 4 ncode }

/-- A stream's transfers that still have packets unacknowledged. -/
def ConnSt.owes (k : ConnSt) (h : TxHome) : Bool := k.tx.any (fun t => t.home == h) || k.wait.any (fun t => t.home == h)

/-- Mark transfers as acknowledged whose last packet has been (R166). -/
def State.xferReady (s : State) (h : TxHome) : State :=
  match h with
  | .xfer _ core tag => s.modCore core (fun k => { k with
      xfers := k.xfers.map (fun x => if x.tag == tag && !x.remoteSrc then { x with ready := true } else x) })
  | _ => s

/-- Whether an acknowledgement up to ePSN covers a packet (R344). -/
def ackCovers (epsn psn : Nat) : Bool := decide ((epsn + 2 ^ 32 - psn) % 2 ^ 32 < 2 ^ 31 ∧ psn ≠ epsn)

/-- Everything of a connection below a PSN is acknowledged (R344). -/
def State.retireBelow (s : State) (c epsn : Nat) : State :=
  let k := s.conn c
  let below := fun (t : TxPkt) => ackCovers epsn t.p.psn.toNat
  let gone := k.tx.filter below
  let k1 := { k with tx := k.tx.filter (fun t => !below t) }
  let s1 := (s.setConn c k1).showUnacked c
  let s2 := (gone.map (·.home)).eraseDups.foldl (fun t h => if k1.owes h then t else t.xferReady h) s1
  s2.connGo c

/-- The bytes of this device that a remote read has not landed are undefined (R345). -/
def State.unlanded (s : State) (x : Xfer) : State :=
  if x.remoteSrc && x.comb == 0 && s.okRange x.wr.addr x.rd true then s.freeFill x.wr.addr x.rd else s

/-- The transfers of a connection fail (R345): their commands complete CONNECTION_ERROR. -/
def State.failConnXfers (s : State) (c : Nat) : State :=
  s.cores.foldl (fun t p =>
    let bad := p.2.xfers.filter (fun x => x.conn == some c)
    let t1 := bad.foldl (fun u x => (((u.unlanded x).fail x.q stConnection).modRun x.q (fun r => { r with conn := c })).undef x.q x.idx
      (if x.ctx = 0 then x.tile else 0xFFFF)) t
    if bad.isEmpty then t1 else t1.modCore p.1 (fun k => { k with xfers := k.xfers.filter (fun x => x.conn != some c) })) s

/-- A collective's packets on a failed connection: its command completes CONNECTION_ERROR (R345, R385). -/
def State.failConnColl (s : State) (c : Nat) (hs : List TxHome) : State :=
  hs.foldl (fun t h => match h with
    | .coll q _ => (t.fail q stConnection).modRun q (fun r => { r with conn := c })
    | _ => t) s

/-- A connection enters ERROR (R345): cause 1 retry limit, 2 NAK CONN received, 3 closed by its peer. -/
def State.connError (s : State) (c cause psn : Nat) : State :=
  if !s.connOpen c then s
  else
    let k := s.conn c
    let homes := (k.tx ++ k.wait).map (·.home)
    let s1 := (((s.fs F.FAB_CONN.STATE 2 0 c).fs F.FAB_CONN.ERR_CAUSE cause 0 c).setConn c { k with tx := [], wait := [] }).showUnacked c
    let s2 := (s1.failConnXfers c).failConnColl c homes
    s2.errRec 0x0C (uid 7 0) none [(40, 2, c), (42, 1, cause), (44, 2, s.fg F.FAB_CONN.PEER_ID 0 c), (48, 4, psn)]

/-- The POISON bits for the marked units of a run of bytes written at a target (R322). -/
def poisonMask (a : Nat) (units : List Nat) : BitVec 64 :=
  BitVec.ofNat 64 ((units.filter (fun u => decide (a / 64 ≤ u ∧ u < a / 64 + 64))).map (fun u => 2 ^ (u - a / 64))).sum

/-- The bytes of a packet before its data: the combine word of a COMBINE (R204). -/
def pktHead (p : Pkt) : Nat := if p.ptype = 2 then 8 else 0

/-- A packet with its data read again from where they stand (R185, R345). -/
def State.reread (s : State) (t : TxPkt) : Pkt :=
  match t.src with
  | none => t.p
  | some a =>
    let w := s.rawWr a t.p.addr.toNat (t.p.payload.length - pktHead t.p) false .none
    { t.p with poison := poisonMask t.p.addr.toNat w.pz, payload := t.p.payload.take (pktHead t.p) ++ w.bytes }

/-- The runs of this device's memory that the packets sent again are read from. -/
def rereadSpans (ts : List TxPkt) : List (Nat × Nat) := ts.filterMap (fun t => t.src.map (fun a => (a, t.p.payload.length - pktHead t.p)))

/-- Send again every unacknowledged packet from a PSN on, its source read again (R345): `met` is what the code finds there; while a repair holds a
source, nothing is sent (R270). A PSN sent RETRY_MAX + 1 times already ends the connection. -/
def State.resend (s : State) (c fromPsn : Nat) (met : List (Nat × Ecc)) : State :=
  let k := s.conn c
  let due := fun (t : TxPkt) => decide ((t.p.psn.toNat + 2 ^ 32 - fromPsn) % 2 ^ 32 < 2 ^ 31)
  match k.tx.find? (fun t => due t && decide (s.fg F.FAB_E2E.RETRY_MAX + 1 ≤ t.sends)) with
  | some t => s.connError c 1 t.p.psn.toNat
  | none =>
    if (rereadSpans (k.tx.filter due)).any (fun x => (granulesOf x.1 x.2).any s.memHeld) then s else
    let seen := s.seenList met
    let again := (k.tx.filter due).map (fun t => { t with p := seen.reread t })
    let s1 := s.setConn c { k with tx := k.tx.map (fun t => if due t then { t with sends := t.sends + 1, p := seen.reread t } else t) }
    again.foldl (fun u t => u.inject t.p) ((s1.listMet (rereadSpans again) met none).fc F.FAB_CONN.RETX again.length 0 c)

/-! ### Lantern tokens -/

/-- Every unit that latches (R28, R478): the device's present units by identifier. -/
def State.latchUnits (s : State) : List Nat :=
  let cores := (List.range (s.fg F.TOP_UNIT_COUNT.CORES)).filter s.present
  cores.flatMap (fun c => [uid 2 c, uid 4 c, uid 5 c, uid 6 c]) ++ cores.flatMap (fun c => (List.range 4).map (fun e => uid 3 (4 * c + e))) ++
    (List.range 8).map (uid 7) ++ (List.range 32).map (uid 8) ++ (List.range 16).map (uid 9) ++ (List.range 40).map (uid 0xA) ++
    (List.range 8).map (uid 0xB) ++ (List.range 8).map (uid 0xC) ++ (List.range 64).map (uid 0xD) ++ [uid 0xE 0]

/-- The connections whose register does not hold its reset value. -/
def State.connList (s : State) : List Nat :=
  s.regs.filterMap (fun p => match keyOf p.1 with
    | some k => if k.name = .FAB_CONN_W0 then some k.j else none
    | none => none)

/-- Send the token on every OPEN connection (R480). -/
def State.tokenOut (s : State) (id : Nat) : State :=
  s.connList.foldl (fun t c =>
    if t.connOpen c then
      t.connSend c { zeroPkt with ptype := 5, tag := BitVec.ofNat 16 (0x8000 + id), payload := List.replicate 8 0 } .none else t) s

/-- Inject a lantern token (R478, R480). -/
def State.fireToken (s : State) (id : Nat) (fabric : Bool) : State :=
  let s1 := (s.fs F.TOP_LANTERN.LAST_ID id).fs F.TOP_LANTERN.DONE 0
  let s2 := { s1 with lantern := s1.latchUnits, lanternFabric := fabric }
  if fabric then s2.tokenOut id else s2

/-- A token arrives on a connection (R480, R486). -/
def State.tokenIn (s : State) (id : Nat) : State :=
  if id = s.fg F.TOP_LANTERN.LAST_ID then s
  else if !s.fb F.TOP_LANTERN.DONE then s.fc F.TOP_LANTERN.IGNORED 1
  else s.fireToken id true

/-! ### Connections: the receiver -/

/-- How a packet's application ends: applied, to be applied by an atomic unit, or refused (R341, R346). -/
inductive Applied where
  | done
  | later
  | refused
  deriving DecidableEq, Repr

/-- The 64-byte units of a target run whose POISON bit is set (R325). -/
def poisonUnitsOf (p : Pkt) : List Nat := (bitList 64 p.poison.toNat).map (· + p.addr.toNat / 64)

/-- The address whose granule chooses the atomic unit of a combine: the carry element's for ADD32S (R209). -/
def combKey (c : Comb) (a : Nat) : Nat := if c.op = 2 then ((2 * (a : Int) + c.cdelta) % (2 ^ 48 : Int)).toNat else a

/-- Cut a combined run at the granules of its target, or of its carry plane for ADD32S (R205, R209, R259). -/
def cutGranules (g : Nat) : Nat → Nat → List Byte → List (Nat × List Byte)
  | 0, _, _ => []
  | _, _, [] => []
  | n + 1, a, b :: bs =>
    let k := g - a % g
    (a, (b :: bs).take k) :: cutGranules g n (a + k) ((b :: bs).drop k)

/-- Whether the atomic units of a run's granules have room for its requests (R264). -/
def State.combRoom (s : State) (c : Comb) (a n : Nat) : Bool :=
  (cutGranules (if c.op = 2 then 128 else 256) n a (List.replicate n 0)).all (fun x => decide ((s.unitQ (s.atomUnit (combKey c x.1))).length < 64))

/-- The layout epoch of the command that sends a combine (R389). -/
def State.combTag (s : State) (h : CombHome) : Nat :=
  match h with
  | .xfer q _ _ => (s.run q).epoch
  | _ => s.fg F.COL_LAYOUT.CUR

/-- Queue a combine at the atomic units of its target's granules (R205, R264): a unit holds the first 64 of its list, and the rest are senders that
wait, in the order in which they came. -/
def State.queueCombine (s : State) (comb : Nat) (w : Wr) (home : CombHome) : State :=
  let c := Comb.ofNat comb
  (cutGranules (if c.op = 2 then 128 else 256) w.bytes.length w.addr w.bytes).foldl (fun t x =>
    let u := t.atomUnit (combKey c x.1)
    let mine := w.pz.filter (fun p => decide (x.1 / 64 ≤ p ∧ p * 64 < x.1 + x.2.length))
    t.setUnitQ u (t.unitQ u ++ [{ comb := comb, wr := { addr := x.1, bytes := x.2, pz := mine }, home := home, tag := s.combTag home }])) s

/-- Poisoned addend elements that a comparing combine excludes, or that make an ADDF's result poisoned (R207). -/
def addendPoison (c : Comb) (w : Wr) : Nat :=
  let at' := fun (o : Nat) => w.pz.contains ((w.addr + o) / 64)
  match c.op with
  | 3 | 4 => ((List.range (w.bytes.length / 4)).filter (fun i => at' (4 * i))).length
  | 5 | 6 => ((List.range (w.bytes.length / 4)).filter (fun i =>
      at' (4 * i) || (readFp 23 false (leNat ((w.bytes.drop (4 * i)).take 4))).v.isBad)).length
  | 8 => ((List.range (w.bytes.length / 4)).filter (fun i =>
      at' (4 * i) || (readFp 23 false (leNat ((w.bytes.drop (4 * i)).take 4))).v.isBad)).length
  | 7 => ((List.range (w.bytes.length / 16)).filter (fun i =>
      at' (16 * i) || (match readTop ((w.bytes.drop (16 * i)).take 16) with
        | some r => (r.rd ((Fmt.ofCode c.vfmt).getD .int8)).v.isBad
        | none => false))).length
  | _ => 0

/-- The input flags of R53 that the addend elements of a combine set. -/
def addendFlags (c : Comb) (w : Wr) : Nat :=
  let n := if c.op = 7 then 16 else 4
  ((List.range (w.bytes.length / n)).map (fun i =>
    let b := (w.bytes.drop (n * i)).take n
    if w.pz.contains ((w.addr + n * i) / 64) then 0
    else if c.op = 7 then ((readTop b).map (fun r => (r.rd ((Fmt.ofCode c.vfmt).getD .int8)).fl)).getD 0
    else if c.op = 5 ∨ c.op = 6 ∨ c.op = 8 then (readFp 23 false (leNat b)).fl
    else 0)).foldl Nat.lor 0

/-- The events of the addend elements a comparing combine excludes, or that poison what an ADDF writes (R53, R60, R64, R207). -/
def addendEv (c : Comb) (w : Wr) : Ev :=
  let n := addendPoison c w
  { poisoned := n, fmt := Nat.lor (addendFlags c w) (if n = 0 then 0 else if c.op = 8 then 2 ^ 6 else 2 ^ 7) }

/-- Cut a run of bytes at the 4 KiB blocks of its target (R324). -/
def cutBlocks : Nat → Nat → Nat → List (Nat × Nat)
  | 0, _, _ => []
  | _, _, 0 => []
  | n + 1, a, len =>
    let k := min len (4096 - a % 4096)
    (a, k) :: cutBlocks n (a + k) (len - k)

/-- Issue the read of a READ_REQ (R323, R341): its data goes back as READ_RESP packets of the connection, with 0 in every unit of the target that
a damaged byte lands in (R185, R325). -/
def State.answerRead (s : State) (c h : Nat) (p : Pkt) (err : ReadErr) : State :=
  let ret := leNat (p.payload.take 6)
  let len := leNat ((p.payload.drop 6).take 2) + 1
  let a := p.addr.toNat
  let seen := s.seenBad ((hitUnit a len err).map (·.1))
  let sound := s.bytes a len
  (cutBlocks 17 ret len).foldl (fun t x =>
    let o := x.1 - ret
    let bad := (List.range x.2).filterMap (fun i => if seen.mark ((a + o + i) / 64) then some ((x.1 + i) / 64) else none)
    t.connSend c { zeroPkt with
      ptype := 4, addr := BitVec.ofNat 48 x.1, poison := poisonMask x.1 bad
      payload := ((List.range x.2).zip ((sound.drop o).take x.2)).map (fun y => if bad.contains ((x.1 + y.1) / 64) then 0 else y.2) }
      .none (some (a + o))) (s.hubMet h a len err none)

/-- Whether a stream transfer waits for data at a return address (R323). -/
def Xfer.awaits (x : Xfer) (c a n : Nat) : Bool :=
  x.remoteSrc && x.conn == some c && (cutBlocks 17 x.wr.addr x.rd).contains (a, n) && !x.got.any (fun g => g.2.addr == a)

/-- Data has come back to the transfer that asked for it: it waits there to land in the order of R180. Poison on it is an event of the stream
engine; DEDUCED (log entry 65): its address is that of the source byte that lands first in the first unit marked, with this device's ID (R170). -/
def State.readBack (s : State) (core c : Nat) (x : Xfer) (p : Pkt) : State :=
  let a := p.addr.toNat
  let n := p.payload.length
  let pz := poisonUnitsOf p
  let had := (x.got.map (·.2.bytes.length)).sum
  let s1 := (s.modCore core (fun y => { y with xfers := y.xfers.map (fun z =>
    if z.tag == x.tag then { z with
      got := z.got ++ [(p.psn.toNat, { addr := a, bytes := p.payload, pz := pz })]
      ready := z.ready || decide (z.rd ≤ had + n) } else z) })).fc F.STR_BYTES_RD.BYTES n core
  match pz with
  | [] => s1
  | u :: _ => (s1.poisonEvent core x.q x.ctx 3 ((x.src + (max (u * 64) x.wr.addr - x.wr.addr)) % 2 ^ 48)).modCtx core x.ctx (fun y => { y with pois := true })

/-- The core and transfer that a READ_RESP answers. -/
def State.awaiting (s : State) (c : Nat) (p : Pkt) : Option (Nat × Xfer) :=
  s.cores.findSome? (fun k => (k.2.xfers.find? (fun x => x.awaits c p.addr.toNat p.payload.length)).map (fun x => (k.1, x)))

/-- Whether a packet's target may take it (R204, R256, R323). -/
def State.targetOk (s : State) (p : Pkt) : Bool :=
  let a := p.addr.toNat
  match p.ptype.toNat with
  | 1 | 4 => s.okRange a p.payload.length true
  | 2 =>
    let c := Comb.ofNat (leNat (p.payload.take 8))
    c.ok && c.op != 0 && s.combOk c a (p.payload.length - 8) && (c.op != 7 || p.payload.length - 8 == c.granule)
  | 3 => s.okRange a (leNat ((p.payload.drop 6).take 2) + 1) false
  | 5 => bitOf p.tag.toNat 15 || (a % 8 == 0 && decide (a + 8 ≤ fwBase))
  | 6 => s.rng a == .doorbell
  | _ => true

/-- The bytes of this device that a sequenced packet reads or writes. -/
def pktSpan (p : Pkt) : Nat × Nat :=
  match p.ptype.toNat with
  | 1 | 4 => (p.addr.toNat, p.payload.length)
  | 3 => (p.addr.toNat, leNat ((p.payload.drop 6).take 2) + 1)
  | 5 => if bitOf p.tag.toNat 15 then (0, 0) else (p.addr.toNat, 8)
  | _ => (0, 0)

/-- Whether a packet can be applied now: bridges from the hub it came in on work (R18), and no repair holds its target (R270). -/
def State.pktReach (s : State) (h : Nat) (p : Pkt) : Bool :=
  let sp := pktSpan p
  !s.targetOk p || (granulesOf sp.1 sp.2).all (fun g => s.hubPathOk h g && !s.memHeld g)

/-- Apply a sequenced packet (R325, R341); `e` is what its access to memory meets. -/
def State.applyPkt (s : State) (c h : Nat) (p : Pkt) (e : MemErr) : State × Applied :=
  let a := p.addr.toNat
  if !s.targetOk p then (s.decodeErr, .refused)
  else
    match p.ptype.toNat with
    | 1 =>
      let s1 := s.storeMet { addr := a, bytes := p.payload, pz := poisonUnitsOf p } a e.land 4 none (s.hubWayOf h a)
      (if p.lastf then { s1 with notices := s1.notices ++ [{ src := p.src.toNat, tag := p.tag.toNat, conn := c, fin := a + p.payload.length }] } else s1, .done)
    | 2 =>
      let w : Wr := { addr := a, bytes := p.payload.drop 8, pz := (poisonUnitsOf p) }
      (s.queueCombine (leNat (p.payload.take 8)) w (.conn c p.psn.toNat), .later)
    | 3 => (s.answerRead c h p e.read, .done)
    | 4 =>
      match s.awaiting c p with
      | some x => (s.readBack x.1 c x.2 p, .later)
      | none => (s.store a p.payload (poisonUnitsOf p), .done)
    | 5 =>
      if bitOf p.tag.toNat 15 then (s.tokenIn (p.tag.toNat % 2 ^ 15), .done)
      else
        let s1 := s.hubMet h a 8 e.read none
        let s2 := if (errHit e.read).isSome then s1.poisonUnit (a / 64) else s1
        (s2.storeLe a 8 ((s2.le a 8 + leNat (p.payload.take 8)) % 2 ^ 64), .done)
    | 6 =>
      if s.fb F.FAB_CONN.DB 0 c then
        (s.applyDoorbell ((a - bellBase) / 64) 8 (BitVec.ofNat 64 (leNat (p.payload.take 8))), .done)
      else (s, .refused)
    | _ => (s, .done)

/-- Send an ACK carrying ePSN (R344). -/
def State.sendAck (s : State) (c : Nat) : State :=
  (s.modConn c (fun k => { k with arrived := 0 })).connNote c 8 (s.fg F.FAB_CONN.RX_EPSN 0 c) 0

/-- A packet counts as applied (R341); a refused one is treated so and answered NAK TARGET (R346). -/
def State.applyIt (s : State) (c h : Nat) (p : Pkt) (e : MemErr) : State :=
  let r := s.applyPkt c h p e
  let psn := p.psn.toNat
  let s1 := r.1.modConn c (fun k => { k with rx := smIns (smDel k.rx psn) psn (r.2 != .later), hold := k.hold.filter (fun x => x.p != p) })
  if r.2 = .refused then s1.connNote c 9 psn 2 else s1

/-- After an ORD packet is applied, ePSN passes it and an ACK goes at once (R344). -/
def State.sendAckAfter (s : State) (c e : Nat) : State :=
  ((s.modConn c (fun k => { k with rx := smDel k.rx e })).fs F.FAB_CONN.RX_EPSN ((e + 1) % 2 ^ 32) 0 c).sendAck c

/-- ePSN advances over every PSN received and applied; a held ORD packet it reaches is applied (R341, R344). -/
def State.advance : Nat → Nat → State → State
  | 0, _, s => s
  | n + 1, c, s =>
    let e := s.fg F.FAB_CONN.RX_EPSN 0 c
    let k := s.conn c
    match k.hold.find? (fun x => x.p.psn.toNat == e) with
    | some x => if s.pktReach x.hub x.p then State.advance n c ((s.applyIt c x.hub x.p x.err).sendAckAfter c e) else s
    | none =>
      match smFind k.rx e with
      | some true =>
        State.advance n c ((s.setConn c { k with rx := smDel k.rx e, gap := false }).fs F.FAB_CONN.RX_EPSN ((e + 1) % 2 ^ 32) 0 c)
      | _ => s

/-- A gap below the highest PSN received (R344). -/
def State.noteGap (s : State) (c : Nat) : State :=
  let k := s.conn c
  let ds := (k.rx.map (·.1) ++ k.hold.map (fun x => x.p.psn.toNat)).map (fun x => (x + 2 ^ 32 - s.fg F.FAB_CONN.RX_EPSN 0 c) % 2 ^ 32)
  s.setConn c { k with gap := ds.any (fun d => decide (ds.length ≤ d)) }

/-- Carry ePSN on, and see whether a gap remains. -/
def State.connAdvance (s : State) (c : Nat) : State :=
  (State.advance ((s.conn c).rx.length + (s.conn c).hold.length + 1) c s).noteGap c

/-- Carry every connection on whose held packets waited for memory or for a bridge (R18, R270). -/
def State.connsAdvance (s : State) : State := s.conns.foldl (fun t k => if k.2.hold.isEmpty then t else t.connAdvance k.1) s

/-- ORD packets held on the device, and their bytes (R341). -/
def State.heldOrd (s : State) : Nat × Nat :=
  ((s.conns.map (fun k => k.2.hold.length)).sum, (s.conns.map (fun k => (k.2.hold.map (fun x => x.p.payload.length)).sum)).sum)

/-- Answer a packet that no open connection takes: NAK CONN, at most one a µs to each source (R341). -/
def State.nakConn (s : State) (p : Pkt) : State :=
  let s1 := s.fc F.FAB_RX.CONN_NAK 1
  let src := p.src.toNat
  if smFind s1.nakAt src = some s1.us then s1
  else
    { s1 with nakAt := smIns (smDel s1.nakAt src) src s1.us }.inject { zeroPkt with
      dst := p.src, src := BitVec.ofNat 16 s1.devId, ptype := 9, tc := 6, ncode := 3, psn := p.psn, gen := p.gen,
      dconn := if s1.fg F.FAB_CONN.PEER_ID 0 p.dconn.toNat = src then BitVec.ofNat 12 (s1.fg F.FAB_CONN.PEER_CONN 0 p.dconn.toNat) else 0 }

/-- A CNP for a packet with CE = 1, at most one every CNP_GAP_US (R349). -/
def State.noteCe (s : State) (c : Nat) (p : Pkt) : State :=
  if !p.ce then s
  else
    let s1 := s.fc F.FAB_CONN.CE_RX 1 0 c
    let due := match (s1.conn c).cnpAt with
      | none => true
      | some t => decide (s1.fg F.FAB_E2E.CNP_GAP_US ≤ s1.us - t)
    if due then (s1.modConn c (fun k => { k with cnpAt := some s1.us })).connNote c 10 0 0 else s1

/-- An arrival counts toward the next ACK (R344). -/
def State.countArrival (s : State) (c : Nat) : State :=
  let s1 := s.modConn c (fun k => { k with arrived := k.arrived + 1 })
  if s1.fg F.FAB_E2E.ACK_N ≤ (s1.conn c).arrived then s1.sendAck c else s1

/-- A sequenced packet arrives on its connection (R341) at hub h; `e` is what its access to memory meets. -/
def State.connRecv (s : State) (h : Nat) (p : Pkt) (e : MemErr) : State :=
  let c := p.dconn.toNat
  if s.connOpen c = false ∨ p.src.toNat ≠ s.fg F.FAB_CONN.PEER_ID 0 c ∨ p.gen.toNat ≠ s.fg F.FAB_CONN.GEN 0 c then s.nakConn p
  else
    let d := (p.psn.toNat + 2 ^ 32 - s.fg F.FAB_CONN.RX_EPSN 0 c) % 2 ^ 32
    let k := s.conn c
    let seen := (smFind k.rx p.psn.toNat).isSome || k.hold.any (fun x => x.p.psn == p.psn)
    if 2 ^ 31 ≤ d ∨ (d < 256 ∧ seen = true) then s.sendAck c
    else if 256 ≤ d then s.fc F.FAB_RX.WINDOW_DROP 1
    else if p.ord ∧ d ≠ 0 then
      let held := s.heldOrd
      if 512 ≤ held.1 ∨ 2 ^ 20 < held.2 + p.payload.length then s.fc F.FAB_RX.ORD_DROP 1
      else (((s.setConn c { k with hold := k.hold ++ [{ p := p, hub := h, err := e }] }).noteCe c p).countArrival c).noteGap c
    else if p.ord then
      (((s.applyIt c h p e).noteCe c p).connAdvance c).sendAck c
    else (((s.applyIt c h p e).noteCe c p).connAdvance c).countArrival c

/-- An atomic unit has applied a COMBINE that came on a connection (R205, R341). -/
def State.combineApplied (s : State) (c psn : Nat) : State :=
  match smFind (s.conn c).rx psn with
  | some _ => (s.modConn c (fun k => { k with rx := smIns (smDel k.rx psn) psn true })).connAdvance c
  | none => s

end Sys2Proof.Machine
end

