-- ==== Sys2Proof/Machine/Fetch.lean ====
section
/-! DEFINITION. The words of a matrix command (R287), the tile-store window and its regions (R156, R157), and the operand tiles of a core:
which part of an operand a tile covers, which fetches an index needs (R140), where a tile lies, and what a tile's landing makes of its
blocks (R182, R185). -/

namespace Sys2Proof.Machine

/-! ### The words of a command -/

/-- The LND address of a command (R287). -/
def QRun.lndAddr (r : QRun) : Nat := bitsOf (r.words.getD 3 0).toNat 0 48

/-- The loop-nest descriptor of a command. -/
def QRun.lnd (r : QRun) : Lnd := Lnd.ofWords r.desc

/-- The decant control word of a command (R287). -/
def QRun.dec (r : QRun) : DecCtl := DecCtl.ofWord (r.words.getD 4 0)

/-- The combine word of a command (R287). -/
def QRun.comb (r : QRun) : Comb := Comb.ofNat (r.words.getD 5 0).toNat

/-- RATE of the sieve word (R289); 31: off. A DECANT has none. -/
def QRun.rate (r : QRun) : Nat := if r.opc = 1 then bitsOf (r.words.getD 6 0).toNat 0 5 else 31

/-- WIDE of the sieve word (R289). -/
def QRun.wide (r : QRun) : Bool := r.opc == 1 && bitOf (r.words.getD 6 0).toNat 5

/-- The address of a wide original's tensor descriptor (R288): operand 0 or 1; 0 names the narrow operand. -/
def QRun.wideAt (r : QRun) (i : Nat) : Nat := bitsOf (r.ext.getD (3 + i) 0).toNat 0 48

/-- Operand descriptor i of a matrix command: A, B, OUT, ADD, TOPK. -/
def QRun.td (r : QRun) (i : Nat) : TDesc := r.tds.getD i {}

/-- Read a tensor descriptor from memory (R141). -/
def State.readTd (s : State) (a : Nat) : TDesc := TDesc.ofWords (s.words a 8)

/-! ### Regions -/

/-- The dimensions of an operand's rows and of its elements: M or N by K, for the source of a DECANT M by N (R143, R290). -/
def QRun.opDims (r : QRun) (op : Nat) : Nat × Nat := if r.opc = 2 then (0, 1) else (op, 2)

/-- Bytes of one row of an operand's full tile (R156). -/
def QRun.tileRowBytes (r : QRun) (op : Nat) : Nat :=
  (r.td op).f.rowBytes (r.lnd.levelExtent (r.lnd.ent op).level (r.opDims op).2)

/-- Bytes of an operand's full tile (R156). -/
def QRun.tileBytes (r : QRun) (op : Nat) : Nat :=
  r.lnd.levelExtent (r.lnd.ent op).level (r.opDims op).1 * r.tileRowBytes op

/-- Bytes of one written row of a command's output tile (R120). -/
def QRun.writtenRow (r : QRun) : Nat :=
  (if r.dec.topkOnly then 0 else (r.td 2).f.tileRow r.lnd.tn) + (if r.dec.topk then 16 * r.dec.k else 0)

/-- Rows of an addend's tile (R156). -/
def QRun.addRows (r : QRun) : Nat := if r.dec.add = 1 then 1 else r.lnd.tm

/-- Bytes of one tile of the region of operand i (R156): 0 A, 1 B, 2 OUT, 3 ADD, 4 TOPK. DEDUCED (log entry 91): a row of an addend in a block format
takes whole groups, as the other operands' do. -/
def QRun.bufBytes (r : QRun) (i : Nat) : Nat :=
  match i with
  | 0 | 1 => r.tileBytes i
  | 2 => r.lnd.tm * r.writtenRow
  | 3 => r.addRows * (r.td 3).f.rowBytes r.lnd.tn
  | _ => r.lnd.tm * 16 * r.dec.k

/-- Bytes of the region of operand i (R156). -/
def QRun.regionBytes (r : QRun) (i : Nat) : Nat := ceilDiv ((r.lnd.ent i).bufs * r.bufBytes i) 64 * 64

/-- Allocate regions in order; the operand and bytes that overflow TS_SIZE, if any (R156, R157). -/
def allocRegions (size : Nat) : List (Nat × Nat) → List (Nat × Nat) → List (Nat × Nat) × Option (Nat × Nat)
  | [], live => (live, none)
  | (i, b) :: rest, live =>
    if live.any (fun p => p.1 == i) then allocRegions size rest live
    else if size < (live.map (·.2)).sum + b then (live, some (i, b))
    else allocRegions size rest (live ++ [(i, b)])

/-- The operands that are fetched into regions, in the order of R157. -/
def QRun.fetchOrder (r : QRun) : List Nat :=
  let ops := if r.opc = 2 then [0] else [0, 1]
  let lv := fun (n : Nat) => ops.filter (fun i => !(r.lnd.ent i).res && (r.lnd.ent i).level == n)
  (lv 7 ++ (List.range 7).flatMap lv).eraseDups

/-- Those of them that a core fetches for itself: their regions are taken at its first index (R156), a multicast operand's at the fetch. -/
def QRun.ownOrder (r : QRun) : List Nat := r.fetchOrder.filter (fun i => !(r.lnd.ent i).mc)

/-- The operands whose regions are taken at the first decant, in the order of R157. -/
def QRun.decantOrder (r : QRun) : List Nat := [2] ++ (if r.dec.add = 0 then [] else [3]) ++ (if r.dec.topk then [4] else [])

/-- Allocate the regions of some operands on a core (R156). -/
def State.alloc (s : State) (c : Nat) (r : QRun) (ops : List Nat) : List (Nat × Nat) × Option (Nat × Nat) :=
  allocRegions r.lnd.tsSize (ops.map (fun i => (i, r.regionBytes i))) (s.core c).regions

/-- The offset of an operand's region in the window of a core (R157): the regions before it in the order of R157 lie below it, those not yet allocated
too. DESIGN CHOICE (log entry 89): R154 lets every receiver of a multicast use one offset because all allocate in that order; a region that a
multicast fetch needs before a core has taken an index goes where that order will put it, or, where the window has no room there, above the
regions the core has. -/
def State.regionAt (s : State) (c : Nat) (r : QRun) (op : Nat) : Nat :=
  let here := (((r.fetchOrder ++ r.decantOrder).takeWhile (· != op)).map r.regionBytes).sum
  if here + r.regionBytes op ≤ r.lnd.tsSize then here else (((s.core c).regions.takeWhile (fun p => p.1 != op)).map (·.2)).sum

/-- The tile-store offset of a byte of buffer `buf` of an operand's region on a core (R157). -/
def State.bufOffset (s : State) (c : Nat) (r : QRun) (op buf byte : Nat) : Nat :=
  r.lnd.tsBase + s.regionAt c r op + buf * r.bufBytes op + byte

/-- The address of a byte of a core's tile store (R255). -/
def tileAddr (c off : Nat) : Nat := tileBase + c * 0x1000000 + off

/-! ### Which tiles an index needs -/

/-- The extent of a command in a dimension. -/
def Lnd.extent (l : Lnd) (dim : Nat) : Nat :=
  match dim with
  | 0 => l.m
  | 1 => l.n
  | _ => l.k

/-- The position of a box in a dimension. -/
def Box.pos (b : Box) (dim : Nat) : Nat :=
  match dim with
  | 0 => b.m0
  | 1 => b.n0
  | _ => b.k0

/-- What one iteration of loop `lev` covers of a dimension around position x (R140): its start and its range, clipped at the extent. -/
def Lnd.spanAt (l : Lnd) (lev dim x : Nat) : Nat × Nat :=
  let st := l.levelExtent lev dim
  (x / st * st, min st (l.extent dim - x / st * st))

/-- The tile of an operand that a step of the walk needs (R140). -/
def QRun.tileAt (r : QRun) (op : Nat) (b : Box) : TileAt :=
  let lev := (r.lnd.ent op).level
  let d := r.opDims op
  let x := r.lnd.spanAt lev d.1 (b.pos d.1)
  let y := r.lnd.spanAt lev d.2 (b.pos d.2)
  { r0 := x.1, nr := x.2, k0 := y.1, kr := y.2 }

/-- The tiles of an operand that the steps of an index need, in walk order. -/
def QRun.tilesFor (r : QRun) (op index : Nat) : List TileAt :=
  match r.lnd.indices[index]? with
  | some b => (r.lnd.segments b.2).map (r.tileAt op)
  | none => []

/-- The number of the fetch that each step of a walk needs, the first having number n: a tile with the coordinates of the one before it is
not fetched again (R140). -/
def instNums : Nat → List TileAt → List Nat
  | _, [] => []
  | n, [_] => [n]
  | n, a :: b :: l => n :: instNums (if a = b then n else n + 1) (b :: l)

/-- The tile of an operand fetched last on a core, for a command. -/
def CoreSt.lastTile (k : CoreSt) (q op : Nat) : Option OpTile := (k.tiles.filter (fun t => t.q == q && t.op == op)).getLast?

/-- The number of the fetch an index's first step needs: the last one's where its coordinates are the same (R140). -/
def firstInst (last : Option OpTile) (cs : List TileAt) : Nat :=
  match last with
  | some t => if cs.head? = some t.box then t.inst else t.inst + 1
  | none => 0

/-- The fetches an index adds: their numbers and tiles. -/
def newTiles (last : Option OpTile) (cs : List TileAt) : List (Nat × TileAt) :=
  (((instNums (firstInst last cs) cs).zip cs).eraseDups).filter (fun p => match last with
    | some t => decide (t.inst < p.1)
    | none => true)

/-- Form a fetch on a core (R134): its tile stands in its buffer on every receiver from now on, not yet landed. -/
def State.addFetch (s : State) (c : Nat) (f : Fetch) : State :=
  let t : OpTile := { q := f.q, op := f.op, inst := f.inst, buf := f.buf, box := f.box }
  let s1 := f.receivers.foldl (fun u d => u.modCore d (fun k => { k with tiles := k.tiles ++ [t] })) { s with nextTag := s.nextTag + 1 }
  s1.modCore c (fun k => { k with fetches := k.fetches ++ [{ f with id := s.nextTag }] })

/-- Form the fetches of operand `op` that an index needs on a core (R134, R140). -/
def State.fetchOperand (s : State) (c q index op : Nat) : State :=
  let r := s.run q
  let e := r.lnd.ent op
  if e.res || e.mc then s
  else
    let cs := r.tilesFor op index
    let last := (s.core c).lastTile q op
    let n := firstInst last cs
    let s1 := (newTiles last cs).foldl (fun t p => t.addFetch c
      { id := 0, q := q, index := index, op := op, inst := p.1, buf := p.1 % e.bufs, box := p.2, receivers := [c] }) s
    s1.modCore c (fun k => { k with held := k.held.map (fun h => if h.q == q && h.index == index then
      (if op = 0 then { h with fa := n } else { h with fb := n }) else h) })

/-- Form every fetch of its own that an index needs on a core. -/
def State.fetchIndex (s : State) (c q index : Nat) : State :=
  (if (s.run q).opc = 2 then [0] else [0, 1]).foldl (fun t op => t.fetchOperand c q index op) s

/-- The round of an index (R150). -/
def Lnd.roundOf (l : Lnd) (index : Nat) : Nat := ((l.indices[index]?).map (·.1)).getD 0

/-- The number of the fetch that step i of a held index needs of an operand; a multicast operand's is its round (R155). -/
def QRun.instOf (r : QRun) (h : Held) (op i : Nat) : Nat :=
  let e := r.lnd.ent op
  if e.mc then (if e.level = 7 then 0 else r.lnd.roundOf h.index)
  else (instNums (if op = 0 then h.fa else h.fb) (r.tilesFor op h.index)).getD i 0

/-- The tile of an operand in its buffer that step i of a held index needs, once it has landed. -/
def State.landedTile (s : State) (c : Nat) (h : Held) (op i : Nat) : Option OpTile :=
  let n := (s.run h.q).instOf h op i
  (s.core c).tiles.find? (fun t => t.q == h.q && t.op == op && t.inst == n && t.landed)

/-- Whether step i of a held index has all its operands in the tile store (R109, R155). -/
def State.operandsIn (s : State) (c : Nat) (h : Held) (i : Nat) : Bool :=
  (if (s.run h.q).opc = 2 then [0] else [0, 1]).all (fun op =>
    ((s.run h.q).lnd.ent op).res || (s.landedTile c h op i).isSome)

/-- The steps of a held index that still need their operands: segments not yet issued, tiles of a DECANT not yet written. -/
def QRun.stepsLeft (r : QRun) (h : Held) : List Nat :=
  (List.range (r.tilesFor 0 h.index).length).filter (fun i => if r.opc = 2 then !h.tiles.contains i else decide (h.seg ≤ i))

/-- Whether the buffer of a fetch is free of an earlier tile that some index still needs (R139). -/
def State.bufFree (s : State) (c : Nat) (f : Fetch) : Bool :=
  f.mc ||
  (let r := s.run f.q
   !((s.core c).held.any (fun h => h.q == f.q && (r.stepsLeft h).any (fun i =>
     decide (r.instOf h f.op i + (r.lnd.ent f.op).bufs ≤ f.inst)))))

/-! ### The bytes of a tile -/

/-- The source of row `row` of a fetched tile (R146): its first byte and its bytes, whole groups for a block format. -/
def QRun.fetchSrc (r : QRun) (f : Fetch) (row : Nat) : Nat × Nat :=
  let t := r.td f.op
  let rb := t.rowAddr (f.box.r0 + row)
  (if t.f.isBlock then rb + f.box.k0 / 256 * t.f.groupBytes else rb + f.box.k0 * t.f.bits / 8, t.f.rowBytes f.box.kr)

/-- The tile-store offset of row `row` of a fetched tile. -/
def State.fetchDst (s : State) (c : Nat) (f : Fetch) (row : Nat) : Nat :=
  s.bufOffset c (s.run f.q) f.op f.buf (row * (s.run f.q).tileRowBytes f.op)

/-- Where a unit reads the rows of an operand: the address of row r0, the bytes from one row to the next, and the element at the start of
each row. -/
structure OpSrc where
  base : Nat
  stride : Nat
  r0 : Nat := 0
  k0 : Nat := 0
  deriving DecidableEq, Repr

/-- An operand as it is stored in memory. -/
def TDesc.src (t : TDesc) : OpSrc := { base := t.base, stride := t.stride }

/-- Where a core reads an operand for step i of a held index: a resident one in place (R191), any other in its buffer. -/
def State.opSrc (s : State) (c : Nat) (h : Held) (op i : Nat) : OpSrc :=
  let r := s.run h.q
  if (r.lnd.ent op).res then { base := tileAddr c ((r.td op).base % 2 ^ 24), stride := (r.td op).stride }
  else
    match s.landedTile c h op i with
    | some t => { base := tileAddr c (s.bufOffset c r op t.buf 0), stride := r.tileRowBytes op, r0 := t.box.r0, k0 := t.box.k0 }
    | none => (r.td op).src

/-! ### Landing -/

/-- The cause of damage among the units under some bytes, the smallest (R50). -/
def damageOf (bad : List (Nat × Nat)) (a n : Nat) : Option Nat :=
  (bad.filter (fun p => (unitsOf a n).contains p.1)).foldl (fun x p => match x with
    | some c => some (min c p.2)
    | none => some p.2) none

/-- Block b of row `row` of a tile as it lands on core d (R182, R185): poisoned where any of its source bytes was damaged or its map byte is
poisoned, otherwise raised by its retry cells, its block byte written anew with bit 7 as 0 (R42); and how many elements were clamped. -/
def State.landBlock (s : State) (d : Nat) (f : Fetch) (row b : Nat) : State × Nat :=
  let r := s.run f.q
  let t := r.td f.op
  let g := t.f
  let src := (r.fetchSrc f row).1
  let dst := tileAddr d (s.fetchDst d f row)
  let k := 32 * b
  let n := min 32 (f.box.kr - k)
  let at' := blockByteAddr g dst k
  let els := (elemSpan g dst k).1
  let bb := (s.byte at').toNat
  let cells := (List.range n).map (fun i => t.mapAddr (f.box.r0 + row) (f.box.k0 + k + i))
  let lostMap := t.map != 0 && cells.any (fun a => s.mark (a / 64) || (damageOf f.bad a 1).isSome)
  let lost := ((damageOf f.bad (blockByteAddr g src k) 1).toList ++ (damageOf f.bad (elemSpan g src k).1 (4 * g.bits)).toList ++
    (if lostMap && !bitOf bb 6 then [3] else [])).foldl (fun x c => match x with
    | some y => some (min y c)
    | none => some c) none
  match lost with
  | some cause => ((s.store at' [BitVec.ofNat 8 (0x40 + cause)]).store els (List.replicate (4 * g.bits) 0), 0)
  | none =>
    if t.map = 0 ∨ bitOf bb 6 = true ∨ bitsOf bb 0 6 = 32 ∨ n = 0 then (s, 0)
    else
      let ms := (List.range n).map (fun i => sext g.bits (s.elemBits g dst (k + i)))
      let x := raiseBlock g.bits (sext 6 bb) (cells.map (fun a => bitsOf (s.byte a).toNat 0 4)) ms
      ((s.store at' [BitVec.ofNat 8 (tcBits 6 x.1)]).store els
        (packElems g 0 (fun _ => 0) ((x.2.1 ++ List.replicate (32 - n) 0).map (tcBits g.bits))), x.2.2)

/-- The blocks of a tile as it lands on a core (R182, R185), and the elements clamped. -/
def State.landBlocks (s : State) (d : Nat) (f : Fetch) : State × Nat :=
  let t := (s.run f.q).td f.op
  if !t.f.isBlock || (t.map == 0 && f.bad.isEmpty) then (s, 0)
  else
    (List.range f.box.nr).foldl (fun x row =>
      (List.range (ceilDiv f.box.kr 256 * 8)).foldl (fun y b =>
        let z := y.1.landBlock d f row b
        (z.1, y.2 + z.2)) x) (s, 0)

/-- A whole tile has landed (R155, R181): its blocks take their raises and poison, and the buffers that hold it are ready. The elements clamped
count once, on the core that fetched. -/
def State.landTile (s : State) (c : Nat) (f : Fetch) : State :=
  let x := f.receivers.foldl (fun y d => y.1.landBlocks d f) (s, 0)
  let s2 := if x.2 = 0 then x.1 else x.1.events c f.q { saturated := x.2, fmt := 0x8 }
  let s3 := f.receivers.foldl (fun t d => t.modCore d (fun k => { k with tiles := k.tiles.map (fun x =>
    if x.q == f.q && x.op == f.op && x.buf == f.buf && x.box == f.box && decide (f.inst ≤ x.inst) then { x with landed := true } else x) })) s2
  s3.modCore c (fun k => { k with fetches := k.fetches.filter (fun x => x.id != f.id) })

/-- The fetch a transfer belonged to has landed when nothing of it is left to issue or in flight. -/
def State.fetchLanded (s : State) (c id : Nat) : State :=
  match (s.core c).fetches.find? (fun f => f.id == id) with
  | none => s
  | some f =>
    if f.box.nr ≤ f.row ∧ !(s.core c).xfers.any (fun x => x.fetch == some id) then s.landTile c f else s

/-! ### Reads of the stream engine -/

/-- Slots that a core's transfers hold (R166, R167). -/
def CoreSt.slotsOf (k : CoreSt) (p : Xfer → Bool) : Nat := ((k.xfers.filter p).map (·.slots)).sum

/-- Whether a context may take n slots more (R167, R178): the slots free are those of MAX_OUT and of the engine's 512 that no transfer holds,
and a context of 1 to 3 leaves CP_RESERVE less what context 0 holds. DEDUCED (log entry 57): where MAX_OUT is below CP_RESERVE the slots that
MAX_OUT allows are all kept for context 0. -/
def State.slotFree (s : State) (c x n : Nat) : Bool :=
  let k := s.core c
  let all := k.slotsOf (fun _ => true)
  let zeroth := k.slotsOf (fun y => y.ctx == 0)
  let most := min 512 (s.fg F.STR_CTL.MAX_OUT c)
  decide (all + n ≤ most) && (x == 0 || decide (s.fg F.STR_CTL.CP_RESERVE c - zeroth ≤ most - all - n))

/-- Count and record what a read of a source met (R184, R197, R268, R461); `buf` is the structure its data came into (R462). -/
def State.readMet (s : State) (c q a n : Nat) (err : ReadErr) (buf : Nat := 3) : State :=
  let op := some (s.opRef q)
  match err with
  | .none => s
  | .corrected u => s.unitMet (unitIn a n u) .corrected op
  | .uncorrectable u => (s.fc F.STR_ERR_COUNT.UNCORR 1 c).unitMet (unitIn a n u) .uncorrectable op
  | .parity u b => (s.fc F.STR_ERR_COUNT.PARITY 1 c).parityRec (uid 5 c) 0 (unitIn a n u * 64) op (s.coreBridge c a b)
  | .bufCorrected => s.fc F.MGT_ERR_CTL.CE_OTHER 1
  | .bufUncorrectable u => (s.fc F.STR_ERR_COUNT.UNCORR 1 c).sramRec (uid 5 c) buf 0 (unitIn a n u * 64) op

/-- A core's stream engine reads some runs of bytes, and a list says what the code finds in units of them (R197, R268): a unit that cannot be corrected is
a read returned with cause 0x01. -/
def State.streamMet (s : State) (c : Nat) (spans : List (Nat × Nat)) (met : List (Nat × Ecc)) (op : OpRef) : State :=
  (s.listMet spans met (some op)).fc F.STR_ERR_COUNT.UNCORR
    (met.filter (fun x => x.2 == .uncorrectable && spans.any (fun r => (unitsOf r.1 r.2).contains x.1))).length c

/-- The first damaged unit of a source (R184, R187): its cause and address. -/
def State.firstBad (s : State) (a n : Nat) (err : ReadErr) : Option (Nat × Nat) :=
  (unitsOf a n).findSome? (fun u => match (hitUnit a n err).find? (fun h => h.1 == u) with
    | some h => some (h.2, u * 64)
    | none => if s.mark u then some (3, u * 64) else none)

/-- The bytes of columns c0 … c0+n−1 of a row that a read fetches (R146): whole groups for a block format. -/
def TDesc.rowSpan (t : TDesc) (row c0 n : Nat) : Nat × Nat :=
  let rb := t.rowAddr row
  if n = 0 then (rb, 0)
  else if t.f.isBlock then (rb + c0 / 256 * t.f.groupBytes, (ceilDiv (c0 + n) 256 - c0 / 256) * t.f.groupBytes)
  else (rb + c0 * t.f.bits / 8, ceilDiv ((c0 + n) * t.f.bits) 8 - c0 * t.f.bits / 8)

/-- Cut a run of bytes into transfers (R166): source, destination and length of each; the fuel bounds their number. -/
def cutRun : Nat → Nat → Nat → Nat → List (Nat × Nat × Nat)
  | 0, _, _, _ => []
  | k + 1, a, d, n =>
    if n = 0 then []
    else
      let m := min n (min (1024 - a % 1024) (1024 - d % 1024))
      (a, d, m) :: cutRun k (a + m) (d + m) (n - m)

/-- The transfers that bring a run of bytes to a place in the tile store (R166); the first carries the row it begins. -/
def runPieces (a d n : Nat) (row : Option RowRef) : List RdPiece :=
  let ps := cutRun (2 * (n / 1024) + 4) a d n
  ((List.range ps.length).zip ps).map (fun p =>
    { src := p.2.1, dst := p.2.2.1, len := p.2.2.2, row := if p.1 = 0 then row else none })

/-- The transfers that bring a run of bytes to a row of some width in the tile store (R166). DESIGN CHOICE (log entry 91): what goes beyond the row's
width goes to its start. -/
def rowPieces (a d width n : Nat) (row : Option RowRef) : List RdPiece :=
  runPieces a d (min n width) row ++ runPieces (a + width) d (n - width) none

/-- A read of context 0 that a core has formed. -/
def CoreSt.rdJob (k : CoreSt) (q index tile unit : Nat) : Option RdJob :=
  k.reads.find? (fun j => j.q == q && j.index == index && j.tile == tile && j.unit == unit)

/-- Whether everything of a read has landed. -/
def CoreSt.rdDone (k : CoreSt) (j : RdJob) : Bool := j.todo.isEmpty && !k.xfers.any (fun x => x.fetch == some j.id)

/-- Form a read of context 0 (R134, R217). -/
def State.formReads (s : State) (c : Nat) (j : RdJob) : State :=
  { s with nextTag := s.nextTag + 1 }.modCore c (fun k => { k with reads := k.reads ++ [{ j with id := s.nextTag }] })

/-- Give up the reads of a core that fulfil a condition, and what is in flight of them. -/
def CoreSt.dropReads (k : CoreSt) (p : RdJob → Bool) : CoreSt :=
  { k with reads := k.reads.filter (fun j => !p j)
           xfers := k.xfers.filter (fun x => !k.reads.any (fun j => p j && x.fetch == some j.id)) }

/-- The state as the unit sees it that was brought some bytes: memory as it was read, and the units that came damaged or marked. -/
def State.seenGot (s : State) (ws : List Wr) : State :=
  let clean := (ws.flatMap (fun w => unitsOf w.addr w.bytes.length)).foldl (fun m u => smPut (fun _ => false) m u false) s.marks
  { s with mem := ws.foldl (fun m w => putBytes m w.addr w.bytes) s.mem
           marks := (ws.flatMap (·.pz)).foldl (fun m u => smPut (fun _ => false) m u true) clean }

/-- What a transfer of a read meets as it lands in the tile store (R184, R257) damages what it brought: all of it, or its first or last unit. -/
def State.readLanded (s : State) (c id src n : Nat) (err : LandErr) : State :=
  match err with
  | .none => s
  | _ =>
    let lost := match err with
      | .rmw true => [(src + n - 1) / 64]
      | .rmw false => [src / 64]
      | _ => unitsOf src n
    s.modCore c (fun k => { k with reads := k.reads.map (fun j =>
      if j.id == id then { j with got := j.got.map (fun w => if w.addr == src then { w with pz := w.pz ++ lost } else w) } else j) })

end Sys2Proof.Machine
end

