-- ==== Sys2Proof/Machine/Matrix.lean ====
section
/-! DEFINITION. Matrix commands (R102 to R164): setup and its checks, stage groups, the tile counter, slots, segments, decants. -/

namespace Sys2Proof.Machine

/-! ### Setup -/

/-- Pass count of a matrix mode byte (R110). -/
def Lnd.passes (l : Lnd) : Nat := bitsOf l.mmode 0 2

/-- Whether a matrix mode byte selects INT32 lanes (R110). -/
def Lnd.lanes (l : Lnd) : Bool := bitOf l.mmode 2

/-- The header rules of R136. -/
def Lnd.headOk (l : Lnd) (decant : Bool) : Bool :=
  l.version == 1 && !l.rsvd && decide (1 ≤ l.nloops ∧ l.nloops ≤ 6) && decide (l.douter ≤ 5) && decide (l.dloops ≤ 6) &&
  decide (l.douter + l.dloops ≤ l.nloops) && (l.douter == 0 || l.dloops != 0) && decide (1 ≤ l.m ∧ 1 ≤ l.n) &&
  l.tsBase % 64 == 0 && l.tsSize % 64 == 0 && decide (64 ≤ l.tsSize) && decide (l.tsBase + l.tsSize ≤ 2 ^ 24) &&
  (if decant then l.mmode == 0 && l.kseg == 0 && l.k == 0 && l.tm == 128 && l.tn == 128 && l.ent 1 == OpEnt.ofWord 0
   else decide (1 ≤ l.kseg) && decide (1 ≤ l.k) && l.passes != 0 && bitsOf l.mmode 3 5 == 0)

/-- The rules of R139 and R154 on a used A or B entry. -/
def Lnd.opEntOk (l : Lnd) (e : OpEnt) : Bool :=
  !e.rsvd && e.tdesc != 0 && e.tdesc % 64 == 0 && (e.level == 7 || decide (e.level < l.nloops)) &&
  (!e.mc || (decide (1 ≤ l.dloops) && (e.level == 7 || decide (e.level < l.douter)))) &&
  (!e.res || (e.level == 7 && !e.mc))

/-- The rules of R139 on a used OUT, ADD or TOPK entry. -/
def outEntOk (e : OpEnt) : Bool := !e.rsvd && e.tdesc != 0 && e.tdesc % 64 == 0 && !e.mc && !e.res

/-- The storage rule of a matrix operand: R563, or R191 for a resident one. -/
def State.operandStorageOk (s : State) (l : Lnd) (e : OpEnt) (t : TDesc) : Bool :=
  if e.res then
    let o := t.base % 2 ^ 24
    let n := t.rows * t.stride
    decide (o + n ≤ 2 ^ 24) && (decide (o + n ≤ l.tsBase) || decide (l.tsBase + l.tsSize ≤ o))
  else s.storageOk t false

/-- The rules of R35, R79, R143, R146 and R182 on matrix operand A or B. -/
def State.operandOk (s : State) (l : Lnd) (e : OpEnt) (t : TDesc) (rows : Nat) : Bool :=
  t.fieldsOk && decide (t.fmt ≤ 4) && t.rows == rows && t.cols == l.k && (!t.f.isBlock || t.padMode == 0) &&
  (!t.f.isInt || t.map == 0) && (!l.lanes || (l.passes == 1 && t.f.isInt)) && s.operandStorageOk l e t

/-- Bytes of one row of a top-k tensor (R124, R213): the records of a global row, or with TOPK combine of one run. -/
def topkRowBytes (r : QRun) (out : TDesc) : Nat := (if r.comb.op = 7 then 1 else ceilDiv out.lcols 128) * r.dec.k * 16

/-- Bytes of a top-k tensor's storage (R124, R213, R563): the records lie one row after another, or with TOPK combine ROW_STRIDE apart; the
rule of R563 counts ROW_STRIDE in both cases. -/
def topkBytes (r : QRun) (out tk : TDesc) : Nat :=
  max (tk.rows * topkRowBytes r out) ((tk.rows - 1) * tk.stride + topkRowBytes r out)

/-- The rules on the top-k descriptor (R36, R124, R143, R213, R563). -/
def State.topkOk (s : State) (r : QRun) (out tk : TDesc) : Bool :=
  !tk.rsvd && tk.fmt == out.fmt && tk.padMode == 0 && decide (tk.crnd ≤ 1) && decide (1 ≤ tk.rows) &&
  decide ((tk.row0 + tk.rows - 1) * tk.lcols + tk.lcols < 2 ^ 48) && decide (topkRowBytes r out ≤ tk.stride) &&
  decide (tk.row0 ≤ out.row0) && decide (out.row0 + out.rows ≤ tk.row0 + tk.rows) &&
  (r.comb.op != 7 || tk.stride % 256 == 0) && s.okRange tk.base (topkBytes r out tk) true

/-- Whether a combine word is allowed with the OUT and TOPK descriptors of a matrix or decant command (R203, R204); what it must say beside the decant
control word, its start has checked. -/
def State.matrixCombOk (s : State) (r : QRun) (l : Lnd) (out tk : TDesc) : Bool :=
  let c := r.comb
  let d := r.dec
  (decide (c.op ≤ 1) || c.op == 7 || out.map == 0) &&
  (if c.op = 0 then true
   else if c.op = 7 then s.combOk c tk.base (16 * d.k) && decide (tk.base + topkBytes r out tk ≤ fwBase)
   else
    let g := c.granule
    let eb := out.f.bits / 8
    out.base % g == 0 && out.stride % g == 0 && (decide (l.n ≤ l.tn) || l.tn * eb % g == 0) && l.n * eb % g == 0 &&
      decide (out.base + out.extent ≤ fwBase) && s.combOk c out.base (ceilDiv out.extent g * g))

/-- The tile shape of commands that may retry, repeat or rank (R91, R124, R145). -/
def cellShape (l : Lnd) (out : TDesc) : Bool := l.tm == 128 && l.tn == 128 && out.row0 % 128 == 0 && out.col0 % 128 == 0

/-- The check region the sieve needs (R470). -/
def QRun.checkBytes (r : QRun) : Nat :=
  let l := Lnd.ofWords r.desc
  let kr := min l.k (32 * l.kseg)
  2 * (l.tm * (r.td 0).f.rowBytes kr + l.tn * (r.td 1).f.rowBytes kr) + 2 * (l.tm * r.writtenRow)

/-- Whether a distributed loop walks K (R145). -/
def Lnd.splitsK (l : Lnd) : Bool := ((l.loops.drop l.douter).take l.dloops).any (fun x => x.dim == 2)

/-- Whether the chains of a command stay inside R76 (R77). -/
def chainOk (l : Lnd) (a b : TDesc) : Bool :=
  decide (l.levelExtent (if l.dloops = 0 then 7 else l.douter) 2 ≤ chainLimit a.f b.f)

/-- The rules on the wide original of operand A (0) or B (1) that the extension names (R247, R288, R563): the operand's own rows of K. -/
def State.wideOk (s : State) (r : QRun) (i : Nat) : Bool :=
  let t := s.readTd (r.wideAt i)
  s.tdescOk t false && decide (t.fmt ≤ 7) && t.rows == (if i = 0 then r.lnd.m else r.lnd.n) && t.cols == r.lnd.k

/-- The wide originals a command names: operand and descriptor address (R288, R289). -/
def QRun.wideTds (r : QRun) : List (Nat × Nat) := if r.wide then ([0, 1].map (fun i => (i, r.wideAt i))).filter (fun p => p.2 != 0) else []

/-- The address of the first descriptor that breaks a rule, if any (R135, R299); `bad` are the descriptor addresses that read poisoned,
whose own content no check uses (R301). DESIGN CHOICE (log entry 50): PAD_MODE 0b01 and 0b10 are refused in OUT, ADD and TOPK descriptors too,
because R146 allows them for other operands only. -/
def State.matrixFault (s : State) (r : QRun) (bad : List Nat) : Option Nat :=
  let l := Lnd.ofWords r.desc
  let d := r.dec
  let dc := r.opc == 2
  let at' := r.lndAddr
  let out := r.td 2
  let tk := r.td 4
  let isBad := fun (i : Nat) => bad.contains (l.ent i).tdesc
  let blk := fun (i : Nat) => !isBad i && (r.td i).f.isBlock
  let cell := if isBad 2 then l.tm == 128 && l.tn == 128 else cellShape l out
  (([(at' % 8 == 0 && s.okRange at' 136 false && l.headOk dc, at'),
    (l.loopsOk (if dc then [0, 1] else [0, 1, 2]) (!dc && (blk 0 || blk 1)), at'),
    (l.opEntOk (l.ent 0) && (dc || l.opEntOk (l.ent 1)) && outEntOk (l.ent 2), at'),
    ((d.add == 0 || outEntOk (l.ent 3)) && (!d.topk || outEntOk (l.ent 4)), at'),
    (combDecOk dc r.comb d, at'),
    (isBad 0 || if dc then (r.td 0).fieldsOk && (r.td 0).fmt == 8 && (r.td 0).padMode == 0 && (r.td 0).rows == l.m &&
        (r.td 0).cols == l.n && s.operandStorageOk l (l.ent 0) (r.td 0)
      else s.operandOk l (l.ent 0) (r.td 0) l.m, (l.ent 0).tdesc),
    (dc || isBad 1 || s.operandOk l (l.ent 1) (r.td 1) l.n, (l.ent 1).tdesc),
    (isBad 2 || s.tdescOk out true && out.fmt == d.ofmt && out.padMode == 0 && out.rows == l.m && out.cols == l.n, (l.ent 2).tdesc),
    (d.add == 0 || isBad 3 || (s.tdescOk (r.td 3) false && decide ((r.td 3).fmt ≤ 7) && (r.td 3).padMode == 0 &&
      (r.td 3).cols == l.n && (r.td 3).rows == (if d.add = 1 then 1 else l.m)), (l.ent 3).tdesc),
    (!d.topk || isBad 4 || s.topkOk r out tk, (l.ent 4).tdesc),
    (!(decide (0 < d.retryMax) || (!dc && l.lanes) || d.topk) || cell, at'),
    (dc || !l.splitsK || (d.ofmt == 8 && !l.lanes), at'),
    (isBad 2 || (r.comb.op == 7 && isBad 4) || s.matrixCombOk r l out tk, at'),
    (r.rate == 31 || (cell && !(r.wide && d.ofmt == 8)), at')] ++
    r.wideTds.map (fun p => (bad.contains p.2 || s.wideOk r p.1, p.2)) ++
    [
    (r.rate == 31 || !bad.isEmpty || (
      decide (r.checkBytes ≤ s.fg F.TOP_CHECK_REGION.SIZE)), at')]).find? (fun p => !p.1)).map (·.2)

/-- The descriptor addresses a matrix command reads, in order. -/
def QRun.usedTds (r : QRun) : List Nat :=
  let l := Lnd.ofWords r.desc
  [(l.ent 0).tdesc, (l.ent 1).tdesc, (l.ent 2).tdesc, if r.dec.add = 0 then 0 else (l.ent 3).tdesc,
    if r.dec.topk then (l.ent 4).tdesc else 0]

/-- Count a descriptor error that comes of an address not decoded (R256). -/
def State.stray (s : State) (ok : Bool) : State := if ok then s else s.decodeErr

/-- What the setup of a MATRIX or DECANT command reads: the LND, and the descriptors that it and the extension name (R134). -/
def State.setupSpans (s : State) (r : QRun) : List (Nat × Nat) :=
  let r1 := { r with desc := s.words r.lndAddr 17 }
  (r.lndAddr, 136) :: ((r1.usedTds ++ r1.wideTds.map (·.2)).filter (fun x => x != 0 && s.okRange x 64 false)).map (fun x => (x, 64))

/-- Whether the storage of the descriptor at an address lies where the command may use it (R177, R261): OUT and TOPK are written. -/
def State.tdStored (s : State) (r : QRun) (x : Nat) : Bool :=
  let t := s.readTd x
  if x = (r.lnd.ent 4).tdesc ∧ r.dec.topk = true then s.okRange t.base (topkBytes r (r.td 2) t) true
  else s.storageOk t (x == (r.lnd.ent 2).tdesc)

/-- End a command at its setup. -/
def State.endSetup (s : State) (q addr code : Nat) : State :=
  (s.descError q 0xFFFF addr code).modRun q (fun r => { r with ready := true, finished := true })

/-- MATRIX and DECANT (R134, R135, R290): fetch the descriptors and check them, once every core of the group can read them (R18, R270); `met` is what the
code finds in the units read (R268). DESIGN CHOICE (log entry 51): CHAIN_LIMIT is set in the group's first core; R77 says the command is
rejected and not in which core's ACC_STICKY. -/
def matrixSetup (opc q : Nat) (met : List (Nat × Ecc)) (s : State) : State :=
  if !((s.run q).busy && (s.run q).opc == opc && !(s.run q).ready) then s
  else
    let r := s.run q
    let a := r.lndAddr
    if !(a % 8 == 0 && s.okRange a 136 false) then (s.stray (s.okRange a 136 false)).endSetup q a stDescError
    else if !s.coresReach r.cores (s.setupSpans r) then s
    else
      let s1 := s.listMet (s.setupSpans r) met (some (s.opRef q))
      let seen := s1.seenList met
      let r1 := { r with desc := s1.words a 17 }
      let as := r1.usedTds
      let all := as ++ r1.wideTds.map (·.2)
      let badTds := all.filter (fun x => x != 0 && x % 64 == 0 && s1.okRange x 64 false && seen.marked x 64)
      if seen.marked a 136 then s1.endSetup q a stDescPoisoned
      else
        let outside := all.find? (fun x => x != 0 && !s1.okRange x 64 false)
        let r2 := { r1 with tds := as.map (fun x => if x = 0 then {} else s1.readTd x) }
        let s2 := s1.setRun q r2
        match outside, s2.matrixFault r2 badTds, badTds with
        | some x, _, _ => (s2.stray false).endSetup q x stDescError
        | none, some x, _ => (s2.stray (x == a || s2.tdStored r2 x)).endSetup q x stDescError
        | none, none, x :: _ => s2.endSetup q x stDescPoisoned
        | none, none, [] =>
          if opc = 1 ∧ chainOk (Lnd.ofWords r2.desc) (r2.td 0) (r2.td 1) = false then
            (s2.sticky (r2.cores.headD 0) { acc := 0x40 }).endSetup q a stDescError
          else s2.modRun q (fun r => { r with ready := true })

/-! ### Stage groups -/

/-- GROUP_WRITE (R152, R160): the group's cores, at once or when its command completes; a 1 in GROUP_CONFLICT clears it. -/
def groupWrite (g : Nat) (hi : Bool) (v : Word) (s : State) : State :=
  let s1 := if hi && bitOf v.toNat 33 then s.fs F.TOP_GROUP_HI.GROUP_CONFLICT 0 g else s
  if s1.groupBusy g then
    { (s1.fs F.TOP_GROUP_HI.PENDING 1 g) with groupPend := s1.groupPend ++ [(g, hi, v)] }
  else s1.applyGroup g hi v.toNat

/-! ### Resource faults -/

/-- Tiles of an index whose chain is closed on a core (R158). -/
def closedTiles (k : CoreSt) (q index : Nat) : List Nat :=
  k.eng.flatMap (fun e => e.chains.filterMap (fun p =>
    if p.2.q == q && p.2.index == index && p.2.closed then some p.2.tile else none))

/-- Abandon what a core has open of a faulted command (R158): open chains, tiles not begun, and with `all` the closed chains too. -/
def State.abandonOpen (s : State) (c q : Nat) (all : Bool) : State :=
  let k := s.core c
  let l := Lnd.ofWords (s.run q).desc
  let idx := l.indices
  let mine := k.held.filter (fun h => h.q == q)
  let keep := fun (h : Held) => if all then [] else closedTiles k q h.index
  let tilesOf := fun (h : Held) => match idx[h.index]? with
    | some b => List.range (l.tiles b.2).length
    | none => []
  let gone := fun (h : Held) => (tilesOf h).filter (fun t => !h.tiles.contains t && !(keep h).contains t)
  let s1 := mine.foldl (fun t h => (gone h).foldl (fun u i => u.undef q h.index i) t) s
  s1.modCore c (fun k => { k with
    held := (k.held.map (fun h => if h.q == q then { h with tiles := h.tiles ++ gone h, seg := 2 ^ 40 } else h)).filter (fun h =>
      !(h.q == q && decide ((tilesOf h).length ≤ h.tiles.length)))
    eng := k.eng.map (fun e => ({ e with
      chains := e.chains.filter (fun p => !(p.2.q == q && (all || !p.2.closed)))
      seg := match e.seg with
        | some g => (match smFind e.chains g.unit with
          | some ch => if ch.q == q && (all || !ch.closed) then none else some g
          | none => some g)
        | none => none
      dec := match e.dec with
        | some d => if d.q == q && all then none else some d
        | none => none }).quit)
    reads := k.reads.filter (fun j => j.q != q || !(all || mine.any (fun h => h.index == j.index && (gone h).contains j.tile)))
    fetches := k.fetches.filter (fun f => f.q != q || f.mc) })

/-- Mark a matrix command finished once all is done (R150). -/
def State.checkMatrix (s : State) (q : Nat) : State :=
  if s.allDone q (s.run q).total then s.modRun q (fun r => { r with finished := true }) else s

/-- A resource fault of a core (R158, R163): kind, operand, level, engine and bytes requested. -/
def State.resourceFault (s : State) (c q kind operand level e bytes : Nat) : State :=
  let g := s.fg F.QM_QDESC.GROUP q
  let r := s.run q
  let s1 := (s.fs F.TOP_TCOUNT.CLOSED 1 g).fs F.CORE_CP_STATUS.STATE 3 c
  let s2 := if s1.fb F.CORE_CP_FAULT.VALID c then s1
    else ((((((s1.fs F.CORE_CP_FAULT.VALID 1 c).fs F.CORE_CP_FAULT.KIND kind c).fs F.CORE_CP_FAULT.OPERAND operand c).fs
      F.CORE_CP_FAULT.LEVEL level c).fs F.CORE_CP_FAULT.ENGINE e c).fs F.CORE_CP_FAULT.REQUESTED bytes c).fs
      F.CORE_CP_FAULT_DESC.LND r.lndAddr c
  let first := !(r.st.contains stResource)
  let s3 := (s2.fail q stResource).modRun q (fun r => if first then { r with
      level := level, kind := kind, operand := operand, faddr := r.lndAddr,
      onward := if r.next < r.total then some r.next else r.onward } else r)
  let s4 := r.cores.foldl (fun t d => t.abandonOpen d q (d == c && level == 6)) s3
  (s4.modCore c (fun k => { k with faulted := true })).checkMatrix q

/-! ### The tile counter -/

/-- The queue whose stage-group command a core takes part in (R134). -/
def State.groupCmd (s : State) (c : Nat) : Option Nat :=
  (s.runs.find? (fun p => p.2.busy && p.2.ready && decide (1 ≤ p.2.opc ∧ p.2.opc ≤ 3) && p.2.cores.contains c)).map (·.1)

/-- Segments of an index. -/
def QRun.segCount (r : QRun) (index : Nat) : Nat :=
  let l := Lnd.ofWords r.desc
  match l.indices[index]? with
  | some b => if r.opc = 2 then 0 else (l.segments b.2).length
  | none => 0

/-- Hand the next index to a core (R150, R161, R162, R164). -/
def State.handIndex (s : State) (c q : Nat) : State :=
  let g := s.fg F.QM_QDESC.GROUP q
  let n := (s.run q).next
  let s1 := (s.modRun q (fun r => { r with next := n + 1, taken := smPut (fun _ => 0) r.taken c (n + 1) })).modCore c
    (fun k => { k with held := k.held ++ [{ q := q, index := n }] })
  ((((s1.fs F.TOP_TCOUNT.NEXT (n + 1) g).fs F.CORE_CP_STATUS.STATE 1 c).fs F.CORE_CP_STATUS.GROUP g c).fs
    F.CORE_CP_STATUS.INDEX n c).fc F.CORE_CP_INDICES.TAKEN 1 c

/-- A core finds no index left and stops taking work in the command (R150). -/
def State.stopTaking (s : State) (c q : Nat) : State :=
  s.modRun q (fun r => { r with stopped := if r.stopped.contains c then r.stopped else c :: r.stopped })

/-- The core that runs a command of DLOOPS = 0 (R149): the lowest-numbered of the pool as it started. DESIGN CHOICE (log entry 90): where that core has been
disabled or is absent since, before it took the work, the lowest-numbered of the pool. -/
def State.soloCore (s : State) (r : QRun) : Option Nat :=
  match r.solo with
  | some d => if s.lostCore d then (r.cores.filter s.inPool).head? else some d
  | none => (r.cores.filter s.inPool).head?

/-- INDEX_TAKE for a matrix or decant command (R150, R156). -/
def State.takeMatrix (s : State) (c q : Nat) : State :=
  let r := s.run q
  let l := Lnd.ofWords r.desc
  let k := s.core c
  let mine := k.held.filter (fun h => h.q == q)
  let g := s.fg F.QM_QDESC.GROUP q
  if !s.inPool c || k.faulted || r.stopped.contains c || 2 ≤ mine.length ||
    !(mine.all (fun h => decide (r.segCount h.index ≤ h.seg))) then s
  else if l.dloops = 0 ∧ r.next = 0 ∧ s.soloCore r ≠ some c then s
  else if s.fb F.TOP_TCOUNT.CLOSED g ∨ r.total ≤ r.next then (s.stopTaking c q).checkMatrix q
  else
    let al := s.alloc c r r.ownOrder
    match al.2 with
    | some (i, b) => (s.handIndex c q).resourceFault c q 3 i (l.ent i).level 0 b
    | none => ((s.modCore c (fun k => { k with regions := al.1 })).handIndex c q).fetchIndex c q r.next

/-! ### Multicast -/

/-- The receivers of a command's multicast operands: cores set in MCAST, of the group, in the pool (R154). -/
def State.mcReceivers (s : State) (q : Nat) : List Nat :=
  let r := s.run q
  let m := (Lnd.ofWords r.desc).mcast
  r.cores.filter (fun c => s.inPool c && bitOf m c)

/-- Whether a receiver has released a round's buffer (R155): it has taken an index of a later round, or takes none any more. -/
def State.released (s : State) (q c round : Nat) : Bool :=
  let r := s.run q
  let taken := smGet (fun _ => 0) r.taken c
  r.stopped.contains c || (s.core c).faulted || (decide (0 < taken) && decide (round < r.lnd.roundOf (taken - 1)))

/-- The rounds a receiver must have released before the tile of a round is fetched (R155): round − BUFS, and, DEDUCED (log entry 107), every round
whose tile lies in the buffer that the fetch fills, since R140 lets later rounds share a tile. -/
def State.mustRelease (s : State) (q c op round : Nat) : List Nat :=
  let bufs := ((s.run q).lnd.ent op).bufs
  (if bufs ≤ round then [round - bufs] else []) ++
    ((s.core c).tiles.filter (fun t => t.q == q && t.op == op && t.buf == round % bufs)).map (·.inst)

/-- The multicast fetch of a round goes to its issuer, the lowest-numbered receiver (R154, R155): the operand's region is allocated on every
receiver (R156), and a receiver whose window it overflows raises the resource fault of R158. A round whose tile has the coordinates of the one
fetched last is not fetched again (R140); a receiver that has no such tile, since it was no receiver of that fetch, makes the issuer
fetch it. -/
def State.fetchRound (s : State) (q op round : Nat) (recv : List Nat) : State :=
  let r := s.run q
  let e := r.lnd.ent op
  let c := recv.headD 0
  let box := r.tileAt op (r.lnd.rounds.getD round r.lnd.whole)
  match recv.find? (fun d => (s.alloc d r [op]).2.isSome) with
  | some d =>
    let o := ((s.alloc d r [op]).2).getD (0, 0)
    s.resourceFault d q 3 o.1 (r.lnd.ent o.1).level 0 o.2
  | none =>
    let s1 := recv.foldl (fun t d => t.modCore d (fun k => { k with regions := (s.alloc d r [op]).1 })) s
    if recv.all (fun d => ((s1.core d).lastTile q op).any (fun t => t.box == box)) then
      recv.foldl (fun u d => match (u.core d).lastTile q op with
        | some x => u.modCore d (fun k => { k with tiles := k.tiles ++ [{ x with inst := round }] })
        | none => u) s1
    else s1.addFetch c { id := 0, q := q, index := 0, op := op, inst := round, buf := round % e.bufs, box := box, mc := true, receivers := recv }

/-- MULTICAST_FETCH (R154, R155): the issuer takes up the fetch of the next round once the receivers have released its buffer. DESIGN CHOICE
(log entry 52): a core of the group that is no receiver of a fetch, not set in MCAST or out of the pool as it was formed, takes indices all
the same and waits for a tile that never lands on it; the spec gives such a core no other source of the tile. -/
def multicastFetch (q : Nat) (b : Bool) (s : State) : State :=
  let r := s.run q
  let l := r.lnd
  let i := b2n b
  let e := l.ent i
  let round := if b then r.mcB else r.mcA
  let last := if e.level = 7 then 1 else l.rounds.length
  let recv := s.mcReceivers q
  if !(r.busy && r.ready && (r.opc == 1 || (r.opc == 2 && !b)) && !r.finished && e.mc && decide (round < last) && !recv.isEmpty &&
      !(s.fb F.TOP_TCOUNT.CLOSED (s.fg F.QM_QDESC.GROUP q)) &&
      recv.all (fun c => (s.mustRelease q c i round).all (s.released q c))) then s
  else (s.fetchRound q i round recv).modRun q (fun r => if b then { r with mcB := round + 1 } else { r with mcA := round + 1 })

/-! ### Segments -/

/-- The next segment a core's command processor issues: the oldest held index with segments left, its box, and the segment (R134). -/
structure NextSeg where
  h : Held
  box : Box
  seg : Box
  tile : Nat
  deriving DecidableEq, Repr

/-- The next segment of a core (R134, R144). -/
def State.nextSeg (s : State) (c : Nat) : Option NextSeg :=
  let k := s.core c
  k.held.findSome? (fun h =>
    let r := s.run h.q
    let l := Lnd.ofWords r.desc
    if r.opc ≠ 1 then none
    else
      match l.indices[h.index]? with
      | none => none
      | some b =>
        match (l.segments b.2)[h.seg]? with
        | none => none
        | some g => some { h := h, box := b.2, seg := g, tile := tileOrdinal (l.tiles b.2) g })

/-- The key of the unit (slot or INT32 tile) that holds a tile's chain. -/
def Eng.unitOf (e : Eng) (q index tile : Nat) : Option Nat :=
  (e.chains.find? (fun p => p.2.q == q && p.2.index == index && p.2.tile == tile)).map (·.1)

/-- Put a chain into a unit; a long slot taken for INT32 tiles changes its mode (R115). -/
def Eng.take (e : Eng) (u : Nat) (ch : Chain) : Eng :=
  { e with
    chains := smPut (fun _ => {}) e.chains u ch
    mode32 := if u < 4 ∨ e.mode32.contains ((u - 4) / 6) = true then e.mode32 else (u - 4) / 6 :: e.mode32
    want := none
    first := none }

/-- The iteration numbers of every segment of a nest, outermost loop first. -/
def iterDigits : List Loop → Box → List (List Nat)
  | [], _ => [[]]
  | l :: ls, b => (List.range (ceilDiv (b.range l.dim) l.step)).flatMap (fun i => (iterDigits ls (b.iter l i)).map (fun d => i :: d))

/-- The outermost loop whose position changed at a segment (R158). -/
def Lnd.changedLoop (l : Lnd) (index seg : Nat) : Nat :=
  let before := ((l.indices.take index).map (fun b => (l.segments b.2).length)).sum + seg
  let ds := iterDigits l.loops l.whole
  match before with
  | 0 => 0
  | n + 1 => (((ds.getD n []).zip (ds.getD (n + 1) [])).takeWhile (fun p => p.1 == p.2)).length

/-- A chain before its first segment. -/
def newChain (r : QRun) (n : NextSeg) : Chain :=
  { st := 1, q := n.h.q, index := n.h.index, tile := n.tile,
    grid := (r.td 0).tscale + (r.td 1).tscale - (if (Lnd.ofWords r.desc).lanes then 0 else 64) }

/-- SLOT_ALLOCATION (R117, R156, R158): an allocation that finds nothing FREE waits for the unit freed first. -/
def slotAllocation (c e : Nat) (s : State) : State :=
  match s.nextSeg c with
  | none => s
  | some n =>
    let r := s.run n.h.q
    let lanes := r.lnd.lanes
    let eng := (s.core c).engine e
    if n.tile % 4 ≠ e ∨ (eng.unitOf n.h.q n.h.index n.tile).isSome = true ∨ (s.core c).faulted = true then s
    else
      let opens := (eng.chains.filter (fun p => p.2.q == n.h.q && p.2.st == 1 && !p.2.closed)).length
      if (if lanes then 24 else 4) ≤ opens then
        s.resourceFault c n.h.q (if lanes then 2 else 1) 7 (r.lnd.changedLoop n.h.index n.h.seg) e 0
      else
        match eng.unitFor lanes with
        | some u => s.modEng c e (fun x => x.take u (newChain r n))
        | none => s.modEng c e (fun x => { x with want := some lanes })

/-- Accumulator-memory key of element (i, j) of slot t of engine n. -/
def accKey (n t i j : Nat) : Nat := ((n * 4 + t) * 128 + i) * 128 + j

/-- An element of a long slot as an integer (R74). -/
def State.accLong (s : State) (n t i j : Nat) : Int := (smGet (fun _ => 0) s.acc (accKey n t i j)).toInt

/-- An element of an INT32 tile (R79). -/
def State.acc32 (s : State) (n t i j : Nat) : Int :=
  sext 32 (bitsOf (smGet (fun _ => 0) s.acc (accKey n (t / 6) i j)).toNat (t % 6 * 32) 32)

/-- Write an element of a long slot, cut to 192 bits. -/
def putLong (acc : SMap (BitVec 192)) (n t i j : Nat) (v : Int) : SMap (BitVec 192) :=
  smPut (fun _ => 0) acc (accKey n t i j) (BitVec.ofInt 192 v)

/-- Write an element of an INT32 tile (R79). -/
def put32 (acc : SMap (BitVec 192)) (n t i j : Nat) (v : Int) : SMap (BitVec 192) :=
  let k := accKey n (t / 6) i j
  smPut (fun _ => 0) acc k (BitVec.ofNat 192 (setBits (smGet (fun _ => 0) acc k).toNat (t % 6 * 32) 32 (tcBits 32 v)))

/-- Round an A element for a repeat (R81). -/
def preShift (sh : Nat) (m : Int) : Int := if sh = 0 then m else roundQ .near (mkRat m (2 ^ sh))

/-- K-block kb of row r of a matrix operand as the feeder delivers it (R104, R107, R146, R147): the rows stand as `o` says, `sh` is the
pre-shift. Where the descriptor names a retry map its raises are applied here (R182): that is so for an operand read where it is stored; the
blocks of a fetched tile took theirs as it landed. -/
def State.opBlk (s : State) (t : TDesc) (o : OpSrc) (sh k r kb : Nat) : OpBlk :=
  let f := t.f
  let rb := o.base + (r - o.r0) * o.stride
  let k0 := 32 * kb - o.k0
  let live := min 32 (k - 32 * kb)
  let padM := preShift sh t.padInt
  if t.rows ≤ r then { ms := List.replicate 32 padM }
  else
    let raw := (List.range live).map (fun i => sext f.bits (s.elemBits f rb (k0 + i)))
    if f.isBlock then
      let bb := (s.byte (blockByteAddr f rb k0)).toNat
      let ms := (List.range live).map (fun i => s.raiseAt t r (32 * kb + i))
      let fl := if bitOf bb 7 then 0x100 else 0
      if s.elemMarked f rb k0 || ms.any (·.2) then { bad := true, cause := 3, fl := fl, ms := List.replicate 32 0 }
      else if bitOf bb 6 then { bad := true, cause := bitsOf bb 0 6, fl := fl, ms := List.replicate 32 0 }
      else if bitsOf bb 0 6 = 32 then { zero := true, fl := fl, ms := List.replicate 32 0 }
      else
        let x := raiseBlock f.bits (sext 6 bb) (ms.map (·.1)) raw
        { e := x.1, fl := fl, ms := x.2.1 ++ List.replicate (32 - live) 0, clamped := x.2.2 }
    else
      let bad := (List.range live).any (fun i => s.elemMarked f rb (k0 + i))
      { bad := bad, cause := if bad then 3 else 0, ms := raw.map (preShift sh) ++ List.replicate (32 - live) padM }

/-- The K-blocks of a segment (R105, R147). -/
def segBlocks (b : Box) : List Nat := (List.range (ceilDiv b.kr 32)).map (· + b.k0 / 32)

/-- CCLK cycles of a segment (R111, R112). -/
def Lnd.tseg (l : Lnd) (a b : Fmt) (g : Box) : Nat :=
  let nb := ceilDiv g.kr 32
  if a.bits = 4 ∧ b.bits = 4 then 16 * nb else 32 * nb * (passList l.passes (a == .tb16) (b == .tb16)).length

/-- Operands A and B as the units of a core read them: their descriptors with the map still to apply, and where their rows stand. -/
structure OpSrcs where
  ta : TDesc
  tb : TDesc
  a : OpSrc
  b : OpSrc
  deriving DecidableEq, Repr

/-- An operand's descriptor as the feeder applies it: a fetched tile's map has been applied (R182). -/
def QRun.fedTd (r : QRun) (op : Nat) : TDesc := if (r.lnd.ent op).res then r.td op else { r.td op with map := 0 }

/-- The operands of step i of a held index on a core (R140, R191). -/
def State.opSrcs (s : State) (c : Nat) (h : Held) (i : Nat) : OpSrcs :=
  let r := s.run h.q
  { ta := r.fedTd 0, tb := r.fedTd 1, a := s.opSrc c h 0 i, b := s.opSrc c h 1 i }

/-- Where an operand stands in memory, or in the core's tile store if resident (R191). -/
def QRun.storedAt (r : QRun) (c op : Nat) : OpSrc :=
  if (r.lnd.ent op).res then { base := tileAddr c ((r.td op).base % 2 ^ 24), stride := (r.td op).stride } else (r.td op).src

/-- The operands of an INT32 repeat (R81): read again where they are stored. DEDUCED (log entry 54): their buffers may hold later tiles. -/
def QRun.storedSrcs (r : QRun) (c : Nat) : OpSrcs := { ta := r.td 0, tb := r.td 1, a := r.storedAt c 0, b := r.storedAt c 1 }

/-- The operand rows of a segment's tile: A rows from m0, B rows from n0, as K-blocks. -/
def State.segRows (s : State) (x : OpSrcs) (l : Lnd) (g : Box) (sh kb : Nat) : List OpBlk × List OpBlk :=
  ((List.range l.tm).map (fun i => s.opBlk x.ta x.a sh l.k (g.m0 + i) kb), (List.range l.tn).map (fun j => s.opBlk x.tb x.b 0 l.k (g.n0 + j) kb))

/-- The rows and columns whose marks a K-block sets (R71). -/
def badRows (bs : List OpBlk) : List Nat := ((List.range bs.length).zip bs).filterMap (fun p => if p.2.bad then some p.1 else none)

/-- Union of two lists of numbers, the first in front. -/
def unionList (a b : List Nat) : List Nat := a ++ b.filter (fun x => !a.contains x)

/-- Promote one K-block into a tile of a long slot (R70, R113): `first` writes instead of adding. -/
def promoteTile (l : Lnd) (aw bw : Bool) (n t : Nat) (first : Bool) (acc : SMap (BitVec 192)) (rows : List OpBlk × List OpBlk) :
    SMap (BitVec 192) :=
  let ps := passList l.passes aw bw
  ((List.range rows.1.length).zip rows.1).foldl (fun m p =>
    ((List.range rows.2.length).zip rows.2).foldl (fun m' q =>
      let old := if first then 0 else (smGet (fun _ => 0) m' (accKey n t p.1 q.1)).toInt
      putLong m' n t p.1 q.1 (promoteLong aw bw ps old p.2 q.2)) m) acc

/-- Promote one K-block into an INT32 tile (R80): the memory, and the elements clamped. -/
def promoteTile32 (n t : Nat) (first : Bool) (acc : SMap (BitVec 192) × List Nat) (rows : List OpBlk × List OpBlk) :
    SMap (BitVec 192) × List Nat :=
  ((List.range rows.1.length).zip rows.1).foldl (fun m p =>
    ((List.range rows.2.length).zip rows.2).foldl (fun m' q =>
      let old := if first then 0
        else sext 32 (bitsOf (smGet (fun _ => 0) m'.1 (accKey n (t / 6) p.1 q.1)).toNat (t % 6 * 32) 32)
      let x := promote32 (old, false) p.2 q.2
      (put32 m'.1 n t p.1 q.1 x.1, if x.2 then unionList m'.2 [p.1 * 128 + q.1] else m'.2)) m) acc

/-- No row and no column of a tile is marked yet. -/
def Chain.unmarked (ch : Chain) : Bool := ch.rows.isEmpty && ch.cols.isEmpty

/-- The cause a tile keeps of its first mark (R71): that of the first poisoned A row, else of the first poisoned B row, of the K-block that set
it. DEDUCED (log entry 55): the block's own cause, 3 under a 64-byte mark; the decant writes 0x04 whatever it is. -/
def firstCause (rows : List OpBlk × List OpBlk) : Nat := ((rows.1 ++ rows.2).find? (·.bad)).elim 0 (·.cause)

/-- Run a segment into a unit (R105 to R114): the accumulator memory, the chain after it, and the flags that reading the blocks set (R42). -/
def State.runSegment (s : State) (c e u : Nat) (r : QRun) (x : OpSrcs) (ch : Chain) (g : Box) : State × Chain × Nat :=
  let l := r.lnd
  let n := c * 4 + e
  (segBlocks g).foldl (fun (y : State × Chain × Nat) kb =>
    let rows := s.segRows x l g y.2.1.shift kb
    let first := !y.2.1.started
    let ba := badRows rows.1
    let bb := badRows rows.2
    let ch1 := { y.2.1 with started := true, ksteps := y.2.1.ksteps + 32, rows := unionList y.2.1.rows ba, cols := unionList y.2.1.cols bb,
                            cause := if y.2.1.unmarked then firstCause rows else y.2.1.cause }
    let fl := (rows.1 ++ rows.2).foldl (fun a b => Nat.lor a b.fl) y.2.2
    if u < 4 then ({ y.1 with acc := promoteTile l ((r.td 0).f == .tb16) ((r.td 1).f == .tb16) n u first y.1.acc rows }, ch1, fl)
    else
      let m := promoteTile32 n (u - 4) first (y.1.acc, ch1.clamps) rows
      ({ y.1 with acc := m.1 }, { ch1 with clamps := m.2, sat := !m.2.isEmpty }, fl)) (s, ch, 0)

/-- Elements of resident operands that the retry map clamped (R182), counted where the tile is first met in its index. -/
def State.residentClamps (s : State) (r : QRun) (x : OpSrcs) (b g : Box) : Nat :=
  let sum := fun (op : Nat) (rows : List OpBlk) => if (r.lnd.ent op).res then (rows.map (·.clamped)).sum else 0
  ((segBlocks g).map (fun kb =>
    let rows := s.segRows x r.lnd g 0 kb
    (if g.n0 = b.n0 then sum 0 rows.1 else 0) + (if g.m0 = b.m0 then sum 1 rows.2 else 0))).sum

/-- The marks a feeder error sets in a tile, and their cause: 2 for a parity error (R108), 1 for a word its code cannot correct (R461). -/
def Chain.feederMarks (ch : Chain) (err : FeederErr) : Chain :=
  let rows := fun (l : List Nat) (n : Nat) => { ch with rows := unionList ch.rows l, cause := if ch.unmarked then n else ch.cause }
  let cols := fun (l : List Nat) (n : Nat) => { ch with cols := unionList ch.cols l, cause := if ch.unmarked then n else ch.cause }
  match err with
  | .none | .corrected => ch
  | .rowsOfA l => rows (l.map (·.val)) 2
  | .colsOfB l => cols (l.map (·.val)) 2
  | .lostRowsOfA _ l => rows (l.map (·.val)) 1
  | .lostColsOfB _ l => cols (l.map (·.val)) 1

/-- What a feeder error counts and records (R108, R461). -/
def State.feederMet (s : State) (c e : Nat) (err : FeederErr) (op : OpRef) : State :=
  match err with
  | .none => s
  | .corrected => s.fc F.MGT_ERR_CTL.CE_OTHER 1
  | .rowsOfA _ | .colsOfB _ => s.parityRec (uid 3 (c * 4 + e)) 5 0 (some op)
  | .lostRowsOfA b _ | .lostColsOfB b _ => s.sramRec (if b then uid 3 (c * 4 + e) else uid 2 c) (2 * b2n b) 0 0 (some op)

/-- Whether an INT32 repeat is due on an engine (R81, R118): a tile is READY with its saturation mark set. -/
def Eng.repeatDue (e : Eng) : Bool := e.chains.any (fun p => decide (4 ≤ p.1) && p.2.st == 2 && p.2.sat && decide (p.2.shift < 4))

/-- SEGMENT_ISSUE (R105, R112, R134): the next segment of the core enters engine e once its operands have landed (R109, R155) and no repeat is
due there (R118); `err` is what the feeder finds. -/
def segmentIssue (c e : Nat) (err : FeederErr) (s : State) : State :=
  match s.nextSeg c with
  | none => s
  | some n =>
    let r := s.run n.h.q
    let l := r.lnd
    let eng := (s.core c).engine e
    match eng.unitOf n.h.q n.h.index n.tile with
    | none => s
    | some u =>
      if n.tile % 4 ≠ e ∨ eng.seg.isSome = true ∨ eng.repeatDue = true ∨ s.operandsIn c n.h n.h.seg = false ∨ (s.core c).faulted = true then s
      else
        let ch := (smFind eng.chains u).getD {}
        let last := l.closes n.box n.h.seg
        let src := s.opSrcs c n.h n.h.seg
        let x := s.runSegment c e u r src ch n.seg
        let t := l.tseg (r.td 0).f (r.td 1).f n.seg
        let s1 := x.1.modCore c (fun k => { k.modEng e (fun y => { y with
            seg := some { unit := u, last := last, tseg := t }
            chains := smPut (fun _ => {}) y.chains u (({ x.2.1 with closed := last } : Chain).feederMarks err) }) with
          held := k.held.map (fun h => if h.q == n.h.q && h.index == n.h.index then { h with seg := h.seg + 1 } else h) })
        let s2 := s1.fc F.MTX_ACTIVE.ACTIVE_CYCLES t c e
        let cl := s.residentClamps r src n.box n.seg
        let s3 := s2.events c n.h.q { saturated := cl, fmt := Nat.lor x.2.2 (if cl = 0 then 0 else 0x8) }
        s3.feederMet c e err (s.opRef n.h.q n.h.index n.tile)

/-- An uncorrectable error of accumulator memory shows and is recorded (R127, R133). -/
def State.accUe (s : State) (c e sl : Nat) (op : Option OpRef) : State :=
  ((s.fs F.MTX_ECC.UNCORRECTED 1 c e).fs F.MTX_ECC.UNC_SLOT sl c e).sramRec (uid 3 (c * 4 + e)) 1 sl 0 op

/-- An uncorrectable error under a read of the ladle or the decant fails the slot (R127). -/
def State.accFail (s : State) (c e u : Nat) (op : OpRef) : State :=
  let sl := unitSlot u
  let s1 := s.modEng c e (fun x => { x with
    failed := unionList x.failed [sl]
    chains := match smFind x.chains u with
      | some ch => smPut (fun _ => {}) x.chains u { ch with failed := true }
      | none => x.chains })
  s1.accUe c e sl (some op)

/-- What the code over accumulator memory finds (R127). -/
def State.accRead (s : State) (c e u : Nat) (found : Ecc) (op : OpRef) : State :=
  match found with
  | .ok => s
  | .corrected => s.fc F.MTX_ECC.CORRECTED 1 c e
  | .uncorrectable => s.accFail c e u op

/-- SEGMENT_COMPLETE (R73, R112, R116): the last promotion is written back; a closed chain no sweep has begun passes to READY. -/
def segmentComplete (c e : Nat) (found : Ecc) (s : State) : State :=
  let eng := (s.core c).engine e
  match eng.seg with
  | none => s
  | some g =>
    let ch := (smFind eng.chains g.unit).getD {}
    let s1 := s.accRead c e g.unit found (s.opRef ch.q ch.index ch.tile)
    s1.modEng c e (fun x => { x with
      seg := none
      chains := match smFind x.chains g.unit with
        | some y => smPut (fun _ => {}) x.chains g.unit (if y.st = 1 ∧ y.closed = true ∧ g.last = true then { y with st := 2 } else y)
        | none => x.chains })

/-- Valid rows and columns of a tile (R148). -/
def tileValid (l : Lnd) (o : Nat × Nat) : Nat × Nat := (min l.tm (l.m - o.1), min l.tn (l.n - o.2))

/-- The origin of a tile of an index. -/
def Lnd.tileOrigin (l : Lnd) (index tile : Nat) : Nat × Nat :=
  match l.indices[index]? with
  | some b => (l.tiles b.2).getD tile (0, 0)
  | none => (0, 0)

/-- What an INT32 repeat of a tile reads of an operand where it is stored (R81): the rows of each of its segments, whole groups. -/
def QRun.repeatSpans (r : QRun) (segs : List Box) : List (Nat × Nat) :=
  segs.flatMap (fun g => [0, 1].flatMap (fun op =>
    if (r.lnd.ent op).res then []
    else
      let t := r.td op
      let m := if op = 0 then (g.m0, min r.lnd.tm (t.rows - g.m0)) else (g.n0, min r.lnd.tn (t.rows - g.n0))
      (List.range m.2).map (fun i => t.rowSpan (m.1 + i) g.k0 g.kr)))

/-- INT32_REPEAT (R81, R116, R118): a chain that ended with its saturation mark set returns to CHAIN and is run again with A pre-shifted by one
more bit, once its operands can be read (R18, R270); the last promotion is written back at SEGMENT_COMPLETE. `err` is what the feeder finds
(R108), `found` what the code over accumulator memory finds as the ladle reads (R127), `met` what the code finds in the units read (R268). -/
def int32Repeat (c e t : Nat) (err : FeederErr) (found : Ecc) (met : List (Nat × Ecc)) (s : State) : State :=
  let eng := (s.core c).engine e
  let u := 4 + t
  match smFind eng.chains u with
  | none => s
  | some ch =>
    if ch.st ≠ 2 ∨ ch.sat = false ∨ 4 ≤ ch.shift ∨ eng.seg.isSome = true then s
    else
      let r := s.run ch.q
      let l := r.lnd
      match l.indices[ch.index]? with
      | none => s
      | some b =>
        let segs := (l.segments b.2).filter (fun g => tileOrdinal (l.tiles b.2) g == ch.tile)
        let spans := r.repeatSpans segs
        if !s.coresReach [c] spans then s
        else
          let op := s.opRef ch.q ch.index ch.tile
          let s0 := s.streamMet c spans met op
          let ch0 := { ch with st := 1, shift := ch.shift + 1, sat := false, clamps := [], started := false, ksteps := 0, grid := ch.grid + 1 }
          let x := segs.foldl (fun (y : State × Chain) g => (let z := y.1.runSegment c e u r (r.storedSrcs c) y.2 g; (z.1, z.2.1))) (s0.seenList met, ch0)
          let cyc := (segs.map (l.tseg (r.td 0).f (r.td 1).f)).sum
          let s1 := { s0 with acc := x.1.acc }.modEng c e (fun y => { y with
            seg := some { unit := u, last := true, tseg := cyc }
            chains := smPut (fun _ => {}) y.chains u (x.2.feederMarks err) })
          let s2 := (s1.fc F.MTX_DECANT.INT32_REPEATS 1 c e).sticky c { acc := 0x1 }
          let s3 := (s2.fc F.STR_BYTES_RD.BYTES (spans.map (·.2)).sum c).modRun ch.q (fun r => { r with maxs := max r.maxs x.2.shift })
          ((s3.fc F.MTX_ACTIVE.ACTIVE_CYCLES cyc c e).feederMet c e err op).accRead c e u found op

/-! ### Meanings -/

def execMatrix (q : BitVec 16) (met : List (BitVec 42 × Ecc)) (s : State) : Host.Outcome State Fault Refusal :=
  .next (matrixSetup 1 q.toNat (unitList met) s)
def execDecant (q : BitVec 16) (met : List (BitVec 42 × Ecc)) (s : State) : Host.Outcome State Fault Refusal :=
  .next (matrixSetup 2 q.toNat (unitList met) s)
def execMulticastFetch (q : BitVec 16) (b : Bool) (s : State) : Host.Outcome State Fault Refusal :=
  .next (multicastFetch q.toNat b s)
def execSlotAllocation (c : Fin 96) (e : Fin 4) (s : State) : Host.Outcome State Fault Refusal :=
  .next (slotAllocation c.val e.val s)
def execSegmentIssue (c : Fin 96) (e : Fin 4) (err : FeederErr) (s : State) : Host.Outcome State Fault Refusal :=
  .next (segmentIssue c.val e.val err s)
def execSegmentComplete (c : Fin 96) (e : Fin 4) (acc : Ecc) (s : State) : Host.Outcome State Fault Refusal :=
  .next (segmentComplete c.val e.val acc s)
def execInt32Repeat (c : Fin 96) (e : Fin 4) (t : RepeatAt) (s : State) : Host.Outcome State Fault Refusal :=
  .next (int32Repeat c.val e.val t.tile.val t.err t.acc (unitList t.met) s)

end Sys2Proof.Machine
end

