-- ==== Sys2Proof/Machine/Decant.lean ====
section
/-! DEFINITION. The decant (R83 to R94, R120 to R126): its sweeps and verdicts, what it stages, the scaling records (R241), and the
selection of sampled tiles and their partners (R471, R472). -/

namespace Sys2Proof.Machine

/-! ### Scaling records -/

/-- The smallest FP32 encoding at or above a nonnegative value, saturating at the largest finite one (R241). -/
def fp32Up (v : Rat) : Nat :=
  if v ≤ 0 then 0
  else
    let q := pow2 (max (ilog2 v) (-126) - 23)
    let z := ((v / q).ceil : Rat) * q
    if z < pow2 128 then fpBits 24 z else 0x7F7FFFFF

/-- The scaling record of a tag (R240). -/
def State.scaleRec (s : State) (t : Nat) : ScaleRec := smGet (fun _ => {}) s.scales t

/-- Replace a scaling record. -/
def State.setScale (s : State) (t : Nat) (r : ScaleRec) : State := { s with scales := smPut (fun _ => {}) s.scales t r }

/-- TRACK of a record (R240). -/
def ScaleRec.track (r : ScaleRec) : Bool := bitOf r.cfg 4

/-- Whether FP32 bits hold an infinity or a NaN. -/
def fpSpecial (x : Nat) : Bool := bitsOf x 23 8 == 255

/-- What the code over the scaling records finds in that of a tag as it is read (R462): CUR of a lost record is poisoned, and its history and SCALE are
kept. -/
def State.scaleEcc (s : State) (tag : Nat) (found : Ecc) : State :=
  s.ctlMet found (uid 7 0) 9 tag (fun t => t.setScale tag { t.scaleRec tag with cur := 0x7FC00001 })

/-- Take the writes of a tracked tensor into its record (R241): the largest magnitude and the counts of R64. -/
def State.track (s : State) (tag : Nat) (amax : Rat) (e : Ev) : State :=
  let r := s.scaleRec tag
  if !r.track then s
  else s.setScale tag { r with
    cur := if fpSpecial r.cur then r.cur else max r.cur (fp32Up amax)
    saturated := satAdd 32 r.saturated e.saturated
    flushed := satAdd 32 r.flushed e.flushed
    poisoned := satAdd 32 r.poisoned e.poisoned }

/-! ### The sieve's choice -/

/-- The number of a tile's retry cell in the retry map (R142, R471). -/
def cellIndex (out : TDesc) (o : Nat × Nat) : Nat :=
  (out.row0 + o.1) / 128 * ceilDiv out.lcols 128 + (out.col0 + o.2) / 128

/-- Whether a cell is sampled (R471). -/
def sampled (r : QRun) (o : Nat × Nat) : Bool :=
  r.rate != 31 && hash32 (r.td 2).tag (Nat.xor r.dec.step 0x5A5A5A5A) (cellIndex (r.td 2) o) % 2 ^ r.rate == 0

/-- The compute die of a core (R25): its physical site's. -/
def State.dieOf (s : State) (c : Nat) : Nat := s.fg F.TOP_CORE_MAP.SITE c / 26

/-- The core of a list nearest to a core by logical number, the lower of two (R472). DESIGN CHOICE (log entry 100): R472 does not say what nearest
counts. -/
def nearestCore (c : Nat) (l : List Nat) : Option Nat :=
  l.find? (fun d => l.all (fun x => decide (max c d - min c d < max c x - min c x) || (max c d - min c d == max c x - min c x && decide (d ≤ x))))

/-- The engine that checks engine e of core c, and SAME_DIE (R472): `start` is the core the search begins at, and `g` the cores that may be taken. -/
def State.checker (s : State) (g : List Nat) (c e start : Nat) : Option (Nat × Bool) :=
  let n := s.fg F.TOP_UNIT_COUNT.CORES
  match ((List.range n).map (fun i => (start + i) % n)).find? (fun d => g.contains d && s.dieOf d != s.dieOf c) with
  | some d => some (4 * d + e, false)
  | none => (nearestCore c (g.filter (fun d => d != c))).map (fun d => (4 * d + e, true))

/-- The partner of engine e on core c, and SAME_DIE (R472). -/
def State.partner (s : State) (q c e : Nat) : Nat × Bool :=
  let n := s.fg F.TOP_UNIT_COUNT.CORES
  (s.checker (s.groupCores (s.fg F.QM_QDESC.GROUP q)) c e ((c + n / 2) % max 1 n)).getD (4 * c + (e + 1) % 4, true)

/-! ### Sweeps -/

/-- What a sweep reads: the queue, index and tile, the unit, its grid and its chain. -/
structure SweepSrc where
  q : Nat
  index : Nat
  tile : Nat
  unit : Option Nat
  grid : Int
  ch : Chain
  deriving DecidableEq, Repr

/-- The next ACC256 tile a DECANT command's index gives an engine (R122, R144). -/
def State.accSource (s : State) (c e ordinal : Nat) : Option SweepSrc :=
  (s.core c).held.findSome? (fun h =>
    let r := s.run h.q
    let l := Lnd.ofWords r.desc
    match l.indices[h.index]? with
    | none => none
    | some b =>
      if r.opc = 2 ∧ ordinal % 4 = e ∧ ordinal < (l.tiles b.2).length ∧ h.tiles.contains ordinal = false ∧ s.operandsIn c h ordinal = true then
        some { q := h.q, index := h.index, tile := ordinal, unit := none, grid := r.dec.grid, ch := {} }
      else none)

/-- The source of a sweep when it may begin (R116, R118, R120, R121): a closed chain, for an INT32 tile one whose last promotion has
been written back and which needs no repeat. -/
def State.sweepSrc (s : State) (c e : Nat) (src : DecantSrc) : Option SweepSrc :=
  let eng := (s.core c).engine e
  let chain := fun (u : Nat) => match smFind eng.chains u with
    | some ch =>
      if ch.closed && (ch.st == 2 || ch.st == 3 || (ch.st == 1 && decide (u < 4))) &&
          !(decide (4 ≤ u) && ch.sat && decide (ch.shift < 4)) then
        some ({ q := ch.q, index := ch.index, tile := ch.tile, unit := some u, grid := ch.grid, ch := ch } : SweepSrc)
      else none
    | none => none
  let x := match src with
    | .slot t => chain t.val
    | .tile t => chain (4 + t.val)
    | .acc256 n => s.accSource c e n
  match x, eng.dec with
  | some y, none => some y
  | some y, some d => if d.q == y.q && d.index == y.index && d.tile == y.tile && !d.swept then some y else none
  | none, _ => none

/-- Where the ACC256 tile `ordinal` of a DECANT's index stands on a core (R122, R191, R290), once it has landed. -/
def State.accSrc (s : State) (c q index ordinal : Nat) : Option OpSrc :=
  match (s.core c).held.find? (fun h => h.q == q && h.index == index) with
  | none => none
  | some h =>
    if ((s.run q).lnd.ent 0).res || (s.landedTile c h 0 ordinal).isSome then some (s.opSrc c h 0 ordinal) else none

/-- The accumulator element (i, j) of a sweep's source: its integer and whether it is poisoned. -/
def State.sourceEl (s : State) (c e : Nat) (r : QRun) (x : SweepSrc) (o : Nat × Nat) (i j : Nat) : Int × Bool :=
  match x.unit with
  | some u => (if u < 4 then s.accLong (c * 4 + e) u i j else s.acc32 (c * 4 + e) (u - 4) i j,
      x.ch.rows.contains i || x.ch.cols.contains j)
  | none =>
    let p := (s.accSrc c x.q x.index x.tile).getD (r.td 0).src
    let a := p.base + (o.1 + i - p.r0) * p.stride + (o.2 + j - p.k0) * 32
    (sext 256 (s.le a 32), s.marked a 32)

/-- One element of the decant register (R84). -/
def State.decantReg (s : State) (r : QRun) (g : Int) (row col : Nat) (a : Int × Bool) : DEl :=
  if a.2 then { a := a.1, bad := some 4 }
  else
    match r.dec.add with
    | 1 => addAddend g a.1 (s.readEl (r.td 3) 0 col)
    | 2 => addAddend g a.1 (s.readEl (r.td 3) row col)
    | _ => { a := a.1 }

/-- What a sweep makes of one row of a tile. -/
structure SweepRow where
  ds : List (Nat × DEl)
  outs : List OutEl
  /-- Elements of an INT32 chain that stayed clamped (R81). -/
  clamped : List Bool
  deriving DecidableEq, Repr

/-- Convert one valid row (R84 to R89, R123). -/
def State.sweepRow (s : State) (c e : Nat) (r : QRun) (x : SweepSrc) (o v : Nat × Nat) (raise i : Nat) (lost : Bool) : SweepRow :=
  let out := r.td 2
  let row := o.1 + i
  let ds := (List.range v.2).map (fun j =>
    let a := s.sourceEl c e r x o i j
    let a := if lost && decide (i = 0 ∧ j < 2) then (a.1, true) else a
    (hash32 out.tag r.dec.step (out.linear row (o.2 + j)), s.decantReg r x.grid row (o.2 + j) a))
  { ds := ds
    outs := decantRow out.f (out.tscale + raise) out.subn ((Rnd.ofCode r.dec.rmode).getD .near) x.grid o.2 ds
    clamped := (List.range v.2).map (fun j => x.ch.sat && x.ch.clamps.contains (i * 128 + j)) }

/-- The events of a row (R64, R81, R94). DEDUCED (log entry 86): an element that stayed clamped in its lane sets SATURATED too, as row 5 of R64 says.
A poisoned element that a top-k leaves out sets POISON_CMP (R60), and POISON_OUT only where it is
written (R65). -/
def SweepRow.ev (w : SweepRow) (d : DecCtl) : Ev :=
  let x := Ev.sum ((w.ds.zip (w.outs.zip w.clamped)).map (fun p =>
    let e := outEv p.1.2 p.2.1
    if p.2.2 && e.poisoned == 0 then { e with saturated := if e.flushed + e.saturated = 0 then 1 else e.saturated, fmt := Nat.lor e.fmt 0x8 }
    else e))
  let y := if d.topkOnly then { x with fmt := Nat.land x.fmt 0x1BF } else x
  if d.topk && w.outs.any (fun o => o.mark == .poison) then { y with fmt := Nat.lor y.fmt 0x80 } else y

/-- Elements of a row not counted as poisoned (R94). -/
def SweepRow.live (w : SweepRow) : Nat := (w.outs.filter (fun o => o.mark != .poison)).length

/-- The largest magnitude before rounding (R241). -/
def SweepRow.amax (w : SweepRow) (g : Int) : Rat :=
  ((w.ds.zip w.outs).map (fun p => if p.2.mark = .poison then 0 else ratAbs (p.1.2.val g).rat)).foldl max 0

/-- Where the records of a row of a tile go (R124, R213). -/
def topkAddr (r : QRun) (row n0 : Nat) : Nat :=
  let out := r.td 2
  let tk := r.td 4
  let g := out.row0 + row
  if r.comb.op = 7 then tk.base + (g - tk.row0) * tk.stride
  else tk.base + ((g - tk.row0) * ceilDiv out.lcols 128 + (out.col0 + n0) / 128) * r.dec.k * 16

/-- Writes with the places where they stand one after another, from an address on. -/
def placeAt : Nat → List Wr → List (Wr × Nat)
  | _, [] => []
  | a, w :: ws => (w, a) :: placeAt (a + w.bytes.length) ws

/-- What a sweep writes of row i of a tile (R124, R148): the output's bytes, and its top-k records. -/
def State.rowOut (s : State) (r : QRun) (o v : Nat × Nat) (raise i : Nat) (w : SweepRow) : List Wr × List Wr :=
  let out := r.td 2
  (if r.dec.topkOnly then [] else rowWrites out.f (out.rowAddr (o.1 + i)) o.2 (o.2 + v.2 == r.lnd.n) s.byte w.outs,
   if r.dec.topk then [{ addr := topkAddr r (o.1 + i) o.2, bytes := topkRow out.f r.dec.k raise (out.col0 + o.2) w.outs }] else [])

/-- The output and the records that a sweep stages of a tile (R120, R157), each with its place in the output staging region: row i stands i rows from
the start of the tile's buffer. DESIGN CHOICE (log entry 59): tile n takes buffer n mod BUFS, and a row's bytes stand one after another in
the order in which they are written, its top-k records last. -/
def State.sweepStage (s : State) (c : Nat) (r : QRun) (tile : Nat) (o v : Nat × Nat) (raise : Nat) (rows : List SweepRow) :
    List (Wr × Nat) × List (Wr × Nat) :=
  ((List.range rows.length).zip rows).foldl (fun (x : List (Wr × Nat) × List (Wr × Nat)) p =>
    let w := s.rowOut r o v raise p.1 p.2
    let a := tileAddr c (s.bufOffset c r 2 (tile % (r.lnd.ent 2).bufs) (p.1 * r.writtenRow))
    (x.1 ++ placeAt a w.1, x.2 ++ placeAt (a + (w.1.map (·.bytes.length)).sum) w.2)) ([], [])

/-- The retry-map byte of a tile (R90). DESIGN CHOICE (log entry 58): with RETRY_MAX > 0 and no output map (MAP = 0) the command runs and no map
byte is written; R90 does not say where it would go. -/
def QRun.retryByte (r : QRun) (o : Nat × Nat) (raise : Nat) : List Wr :=
  if 0 < r.dec.retryMax ∧ (r.td 2).map ≠ 0 then [{ addr := (r.td 2).mapAddr o.1 o.2, bytes := [BitVec.ofNat 8 raise] }] else []

/-- What a sweep stages is written into the tile store. -/
def State.placeStaged (s : State) (ws : List (Wr × Nat)) : State := ws.foldl (fun t w => t.store w.2 w.1.bytes) s

/-- The rows of the addend that a tile at o with v valid rows and columns needs (R84, R143). -/
def QRun.addendRows (r : QRun) (o v : Nat × Nat) : List Nat :=
  match r.dec.add with
  | 0 => []
  | 1 => [0]
  | _ => (List.range v.1).map (· + o.1)

/-- The transfers that bring a tile's addend to its buffer in the ADD region of a core (R84, R146, R157). -/
def State.addendPieces (s : State) (c : Nat) (r : QRun) (tile : Nat) (o v : Nat × Nat) : List RdPiece :=
  let t := r.td 3
  let width := t.f.rowBytes r.lnd.tn
  let rows := r.addendRows o v
  ((List.range rows.length).zip rows).flatMap (fun p =>
    let sp := t.rowSpan p.2 o.2 v.2
    rowPieces sp.1 (s.bufOffset c r 3 (tile % (r.lnd.ent 3).bufs) (p.1 * width)) width sp.2 (some { slot := 3, row := p.2, c0 := o.2, n := v.2 }))

/-- A sweep of a tile whose addend, if it has one, stands in the ADD region as `got` says (R84, R120): `found` is what the code over the source's
memory finds. -/
def State.sweepRun (s : State) (c e : Nat) (x : SweepSrc) (o v : Nat × Nat) (found : Ecc) (got : List Wr) : State :=
  let r := s.run x.q
  let op := s.opRef x.q x.index x.tile
  let old := ((s.core c).engine e).dec
  let s1 := match x.unit with
    | some u => s.accRead c e u found op
    | none => match found with
      | .ok => s
      | .corrected => s.fc F.MGT_ERR_CTL.CE_OTHER 1
      | .uncorrectable => s.sramRec (uid 2 c) 0 0 0 (some op)
  let s2 := s1.fc F.MTX_DECANT.SWEEPS 1 c e
  let raise := (old.map (·.raise)).getD 0
  let lost := x.unit.isNone && found == .uncorrectable
  let failed := x.ch.failed || (x.unit.isSome && found == .uncorrectable) || ((old.map (·.failed)).getD false)
  let seen := s2.seenGot got
  let rows := (List.range v.1).map (fun i => seen.sweepRow c e r x o v raise i lost)
  let st := s2.sweepStage c r x.tile o v raise rows
  let d : Dec := {
    unit := x.unit, q := x.q, index := x.index, tile := x.tile, raise := raise, swept := true
    overflow := rows.any (fun w => w.outs.any (·.ovf)), failed := failed, staged := st.1, topk := st.2, retry := r.retryByte o raise
    ev := Ev.sum (rows.map (fun w => w.ev r.dec)), live := (rows.map SweepRow.live).sum
    amax := (rows.map (fun w => w.amax x.grid)).foldl max 0 }
  (s2.placeStaged (st.1 ++ st.2)).modEng c e (fun y => { y with
    dec := some d
    chains := match x.unit with
      | some u => smPut (fun _ => {}) y.chains u { ((smFind y.chains u).getD {}) with st := 3 }
      | none => y.chains })

/-- DECANT_SWEEP (R120, R122): `found` is what the code over the source's memory finds. A tile with an addend has it fetched first (R84): the command
forms the read of it by context 0 of the stream engine, and once that has landed it sweeps. -/
def decantSweep (c e : Nat) (src : DecantSrc) (found : Ecc) (s : State) : State :=
  match s.sweepSrc c e src with
  | none => s
  | some x =>
    let r := s.run x.q
    let al := s.alloc c r r.decantOrder
    match al.2 with
    | some (i, b) => s.resourceFault c x.q 3 i 6 e b
    | none =>
      let o := r.lnd.tileOrigin x.index x.tile
      let v := tileValid r.lnd o
      let s1 := s.modCore c (fun k => { k with regions := al.1 })
      if r.dec.add = 0 then s1.sweepRun c e x o v found []
      else
        match (s1.core c).rdJob x.q x.index x.tile e with
        | none => s1.formReads c { q := x.q, index := x.index, tile := x.tile, unit := e, todo := s1.addendPieces c r x.tile o v }
        | some j => if (s1.core c).rdDone j then s1.sweepRun c e x o v found j.got else s1

/-! ### Verdicts -/

/-- Free the unit of a decant (R116). -/
def Eng.freeUnit (y : Eng) (u : Nat) : Eng := { y with chains := smDel y.chains u }.tidy

/-- A tile of a held index is done (R150). -/
def State.tileDone (s : State) (c q index tile : Nat) : State :=
  let l := Lnd.ofWords (s.run q).desc
  let total := match l.indices[index]? with
    | some b => (l.tiles b.2).length
    | none => 0
  let k := s.core c
  let held := k.held.map (fun h => if h.q == q && h.index == index then { h with tiles := unionList h.tiles [tile] } else h)
  let full := held.any (fun h => h.q == q && h.index == index && decide (total ≤ h.tiles.length))
  let s1 := s.modCore c (fun k => { k with held := held.filter (fun h => !(h.q == q && h.index == index && full)) }.dropReads (fun j =>
    j.q == q && j.index == index && j.tile == tile && j.unit != 4))
  (if full then s1.modRun q (fun r => { r with done := r.done + 1 }) else s1).checkMatrix q

/-- Staged output that context 0 writes (R134). -/
def Dec.stagedWrs (d : Dec) (comb : Nat) : List StagedWr :=
  let mkw := fun (b : Bool) (w : Wr × Nat) => ({ q := d.q, index := d.index, tile := d.tile, wr := w.1, src := w.2, comb := b } : StagedWr)
  d.staged.map (mkw (comb != 0 && comb != 7)) ++ d.topk.map (mkw (comb == 7)) ++ d.retry.map (fun w => mkw false (w, 0))

/-- Elements counted as repeated for the INT32 repeats of a tile (R81, R94): every valid element not poisoned, once a repeat. -/
def Eng.repeats (y : Eng) (d : Dec) : Nat :=
  match d.unit with
  | some u => if u < 4 then 0 else (((smFind y.chains u).map (·.shift)).getD 0) * d.live
  | none => 0

/-- The final verdict of a tile that is written (R121, R128, R473); `found` is what the code over the scaling record of OUT's tag finds (R462). -/
def State.releaseTile (s : State) (c e : Nat) (d : Dec) (found : Ecc) : State :=
  let r := s.run d.q
  let out := r.td 2
  let l := Lnd.ofWords r.desc
  let o := l.tileOrigin d.index d.tile
  let s1 := (s.events c d.q d.ev).modRun d.q (fun r => { r with maxr := max r.maxr d.raise })
  let s2 := if r.dec.topkOnly then s1 else (s1.scaleEcc out.tag found).track out.tag d.amax d.ev
  let ws := d.stagedWrs r.comb.op
  if sampled r o then
    let p := s2.partner d.q c e
    let shift := ((d.unit.bind (smFind ((s.core c).engine e).chains)).map (·.shift)).getD 0
    { s2 with sieve := s2.sieve ++ [{ core := c, e := e, q := d.q, index := d.index, tile := d.tile, held := ws, raise := d.raise, shift := shift,
                                      partner := p.1, sameDie := p.2 }] }
  else s2.modCtx c 0 (fun x => { x with staged := x.staged ++ ws })

/-- DECANT_VERDICT (R89, R121, R127). DESIGN CHOICE (log entry 87): the flags and counts of a tile are those of its final sweep, a sweep that a
scale retry discards sets only DECANT_RETRY (R85, R89); and the repeated count of INT32 repeats is added here, so that a tile whose slot has
failed counts none (R81). -/
def decantVerdict (c e : Nat) (found : Ecc) (s : State) : State :=
  let eng := (s.core c).engine e
  match eng.dec with
  | none => s
  | some d =>
    let busy := match eng.seg, d.unit with
      | some g, some u => g.unit == u
      | _, _ => false
    if !d.swept || busy then s
    else
      let r := s.run d.q
      let failed := d.failed || ((d.unit.bind (smFind eng.chains)).map (·.failed)).getD false
      let free := fun (t : State) => t.modEng c e (fun y =>
        { (match d.unit with
          | some u => y.freeUnit u
          | none => y) with dec := none })
      if failed then
        (free (((s.fail d.q stUncorrectable).undef d.q d.index d.tile))).tileDone c d.q d.index d.tile
      else if d.overflow && decide (d.raise < r.dec.retryMax) then
        (s.events c d.q { repeated := d.live, acc := 0x4 }).modEng c e (fun y =>
          { y with dec := some { d with raise := d.raise + 1, swept := false, staged := [], topk := [], retry := [] } })
      else
        let s1 := if d.overflow then s.sticky c { acc := 0x8 } else s
        let clamp := match d.unit.bind (smFind eng.chains) with
          | some ch => ch.sat
          | none => false
        let s2 := (if clamp then s1.sticky c { acc := 0x2 } else s1).count d.q { repeated := eng.repeats d }
        (free (s2.releaseTile c e d found)).tileDone c d.q d.index d.tile

/-! ### Meanings -/

def execDecantSweep (c : Fin 96) (e : Fin 4) (src : DecantSrc) (acc : Ecc) (s : State) : Host.Outcome State Fault Refusal :=
  .next (decantSweep c.val e.val src acc s)
def execDecantVerdict (c : Fin 96) (e : VerdictAt) (s : State) : Host.Outcome State Fault Refusal :=
  .next (decantVerdict c.val e.e.val e.record s)

end Sys2Proof.Machine
end

