-- ==== Sys2Proof/Machine/Stream.lean ====
section
/-! DEFINITION. The stream engine (R165 to R197): stream commands, descriptor batches, the four kinds of descriptor, transfers and their
landing, and the end of a stream. -/

namespace Sys2Proof.Machine

/-! ### Setup and descriptor batches -/

/-- The context of a core that runs a queue's stream command. -/
def State.ctxOf (s : State) (c q : Nat) : Option Nat := [1, 2, 3].find? (fun x => ((s.core c).context x).q == some q)

/-- A stream stops before it runs its ending descriptor (R190): the status, its descriptor and the count of R197. DESIGN CHOICE (log entry 93):
DESC_ERRORS counts every stream that ends so: also one whose descriptor was read poisoned (R177) or whose source decodes no more as it is read
(R256). -/
def State.stopStream (s : State) (c x q idx addr code : Nat) : State :=
  ((s.descError q idx addr code).fc F.STR_ERR_COUNT.DESC_ERRORS 1 c).modCtx c x (fun y =>
    { y with ended := true, aborted := true, cur := none, buf := [], bad := none })

/-- STREAM (R165, R175, R201): the list and the combine word of a stream command that has its context. -/
def streamSetup (q : Nat) (s : State) : State :=
  let r := s.run q
  if !(r.busy && r.opc == 4 && !r.ready) then s
  else
    match s.ctxOf r.core q with
    | none => s
    | some x =>
      let cx := (s.core r.core).context x
      if cx.list % 128 ≠ 0 ∨ cx.count = 0 ∨ r.comb.ok = false then
        ((s.descError q 0xFFFF cx.list).modCtx r.core x (fun y => { y with ended := true, aborted := true })).closeStream r.core x
      else s.modRun q (fun r => { r with ready := true, next := cx.count })

/-- Whether contexts 1 to 3 of a core may issue (R192, R305). -/
def State.mayStream (s : State) (c : Nat) : Bool :=
  s.diesGo && s.present c && !s.coreOff c

/-- Cut a list of words into descriptors. -/
def cutDescs (w : List Word) : List (List Word) := chunks 16 w

/-- DESCRIPTOR_BATCH_READ (R175, R177): up to 16 descriptors, whenever 16 entries are free and descriptors remain; the read holds one transfer
slot for each 1,024 bytes. `read` is what it meets. DESIGN CHOICE (log entry 92): a batch or a tensor descriptor read damaged or poisoned ends the
stream and is no first poison event (R187). -/
def batchRead (c x : Nat) (read : ReadErr) (s : State) : State :=
  let cx := (s.core c).context x
  let n := min 16 (cx.count - cx.fetched)
  let a := cx.list + 128 * cx.fetched
  match cx.q with
  | none => s
  | some q =>
    if x = 0 || !(s.run q).ready || cx.ended || cx.bad.isSome || decide (cx.count ≤ cx.fetched) || decide (16 < cx.buf.length) ||
      !s.mayStream c || !s.slotFree c x (ceilDiv (128 * n) 1024) then s
    else if !s.okRange a (128 * n) false then (s.decodeErr).modCtx c x (fun y => { y with bad := some (cx.fetched, stDescError) })
    else if !s.pathOk c a (128 * n) then s
    else
      let s1 := (s.readMet c q a (128 * n) read 4).fc F.STR_BYTES_RD.BYTES (128 * n) c
      let seen := s1.seenBad ((hitUnit a (128 * n) read).map (·.1))
      let good := ((List.range n).find? (fun i => seen.marked (a + 128 * i) 128)).getD n
      let ds := (cutDescs (s1.words a (16 * n))).take good
      s1.modCtx c x (fun y => { y with
        buf := y.buf ++ ds
        fetched := y.fetched + good
        bad := if good < n then some (cx.fetched + good, stDescPoisoned) else y.bad })

/-! ### Descriptors -/

/-- The common word of a descriptor (R168). -/
structure SdHead where
  kind : Nat
  ndim : Nat
  fence : Bool
  last : Bool
  handle : Bool
  mc : Bool
  rsvd : Bool
  deriving DecidableEq, Repr

/-- Decode word 0 (R168). -/
def SdHead.ofWord (w : Word) : SdHead :=
  let x := w.toNat
  { kind := bitsOf x 0 4, ndim := bitsOf x 4 3, fence := bitOf x 7, last := bitOf x 8, handle := bitOf x 9, mc := bitOf x 10,
    rsvd := bitsOf x 11 5 != 0 || bitsOf x 38 26 != 0 }

/-- Word i of a descriptor as a number. -/
def sdW (w : List Word) (i : Nat) : Nat := (w.getD i 0).toNat

/-- The steps of a STRIDED descriptor's dimensions 1 to 4 (R169): count, source stride, destination stride. -/
def sdDims (w : List Word) : List (Nat × Int × Int) :=
  [1, 2, 3, 4].map (fun d => (bitsOf (sdW w (2 * d + 2)) 48 16, sext 48 (bitsOf (sdW w (2 * d + 2)) 0 48),
    sext 48 (bitsOf (sdW w (2 * d + 3)) 0 48)))

/-- Whether a global address is this device's (R170). -/
def State.isLocal (s : State) (g : Nat) : Bool := g / 2 ^ 48 == s.devId

/-- The lowest offset and the span a side of a STRIDED descriptor covers beyond its first byte (R177). -/
def dimSpan (ds : List (Nat × Int)) : Int × Int :=
  ds.foldl (fun a d => let e := d.2 * ((d.1 : Int) - 1); (a.1 + min 0 e, a.2 + max 0 e)) (0, 0)

/-- Whether the bytes from lo to hi of a side may be read or written (R177); remote sides are checked by their target. `any`: take every
address as decoded. -/
def State.sideOk (s : State) (any : Bool) (g : Nat) (sp : Int × Int) (n : Nat) (write : Bool) : Bool :=
  if s.isLocal g then
    let b : Int := ((g % 2 ^ 48 : Nat) : Int)
    any || (decide (0 ≤ b + sp.1) && s.target (b + sp.1).toNat ((b + sp.2).toNat + n - 1) write)
  else s.fb F.FAB_ID.VALID

/-- Whether every combined run of a local destination obeys R204: first address, run length, strides, and the whole extent; `any`: but for what
R256 refuses. -/
def State.combSideOk (s : State) (any : Bool) (c : Comb) (g : Nat) (sp : Int × Int) (n : Nat) (strides : List Int) : Bool :=
  c.op == 0 || !s.isLocal g ||
  (let b : Int := ((g % 2 ^ 48 : Nat) : Int)
   let lo := (b + sp.1).toNat
   let len := ((b + sp.2).toNat + n) - lo
   let al := if c.op = 7 then 256 else c.granule
   (c.op != 7 || n == c.granule) && n % c.granule == 0 && strides.all (fun x => x % (al : Int) == 0) &&
   s.combOk c lo (ceilDiv len c.granule * c.granule) any)

/-- The checks of R168, R169, R177 and R203 on a STRIDED descriptor. -/
def State.stridedOk (s : State) (any : Bool) (c : Comb) (w : List Word) : Bool :=
  let h := SdHead.ofWord (w.headD 0)
  let dims := sdDims w
  let n := bitsOf (sdW w 3) 0 32
  let src := sdW w 1
  let dst := sdW w 2
  let ss := dimSpan (dims.map (fun d => (d.1, d.2.1)))
  let dd := dimSpan (dims.map (fun d => (d.1, d.2.2)))
  decide (1 ≤ h.ndim ∧ h.ndim ≤ 5) && decide (1 ≤ n) && bitsOf (sdW w 3) 32 32 == 0 &&
  dims.all (fun d => decide (1 ≤ d.1)) && (dims.drop (h.ndim - 1)).all (fun d => d.1 == 1) &&
  [5, 7, 9, 11].all (fun i => bitsOf (sdW w i) 48 16 == 0) && bitsOf (sdW w 13) 32 32 == 0 && bitsOf (sdW w 14) 12 52 == 0 &&
  (if h.mc then c.op == 0 && s.isLocal src && s.sideOk any src ss n false && dst / 2 ^ 24 == 0 &&
      decide (0 ≤ (dst : Int) + dd.1) && decide ((dst : Int) + dd.2 + n ≤ 2 ^ 24)
    else (s.isLocal src || s.isLocal dst) && s.sideOk any src ss n false && s.sideOk any dst dd n true &&
      s.combSideOk any c dst dd n (dims.map (fun d => if d.1 = 1 then 0 else d.2.2)))

/-- The tensor descriptors of a CONVERT (R171). -/
def State.convTds (s : State) (w : List Word) : TDesc × TDesc := (s.readTd (sdW w 1), s.readTd (sdW w 2))

/-- The checks of R171, R172, R177, R203 and R563 on a CONVERT descriptor. -/
def State.convertOk (s : State) (any : Bool) (c : Comb) (w : List Word) : Bool :=
  let a := sdW w 1
  let b := sdW w 2
  let t := s.convTds w
  let nr := sdW w 6
  let nc := sdW w 7
  let sr := bitsOf (sdW w 3) 0 32
  let dr := bitsOf (sdW w 3) 32 32
  let colOk := fun (t : TDesc) (c0 : Nat) => !t.f.isBlock || (c0 % 256 == 0 && (nc % 256 == 0 || c0 + nc == t.cols))
  c.op == 0 && decide (a < 2 ^ 48 ∧ b < 2 ^ 48) && a % 64 == 0 && b % 64 == 0 && (any || (s.okRange a 64 false && s.okRange b 64 false)) &&
  decide (sdW w 4 < 2 ^ 40 ∧ sdW w 5 < 2 ^ 40) && decide (1 ≤ nr ∧ nr < 2 ^ 32) && decide (1 ≤ nc ∧ nc < 2 ^ 40) &&
  [8, 9, 10, 11, 12, 13, 14].all (fun i => sdW w i == 0) &&
  (s.marked a 64 || (t.1.fieldsOk && (any || s.storageOk t.1 false) && decide (t.1.fmt ≤ 7) && decide (sr + nr ≤ t.1.rows) &&
    decide (sdW w 4 + nc ≤ t.1.cols) && colOk t.1 (sdW w 4))) &&
  (s.marked b 64 || (t.2.fieldsOk && (any || s.storageOk t.2 true) && decide (t.2.fmt ≤ 7) && t.2.map == 0 && decide (dr + nr ≤ t.2.rows) &&
    decide (sdW w 5 + nc ≤ t.2.cols) && colOk t.2 (sdW w 5)))

/-- The checks of R173, R177 and R203 on a GATHER or SCATTER descriptor. -/
def State.indexOk (s : State) (any : Bool) (c : Comb) (gather : Bool) (w : List Word) : Bool :=
  let n := sdW w 4
  let rec' := sdW w 5
  let lim := sdW w 7
  let iw := if bitOf (sdW w 3) 48 then 8 else 4
  let ispan : Int × Int := (0, (((lim - 1) * sdW w 6 : Nat) : Int))
  let pspan : Int × Int := (0, (((n - 1) * sdW w 8 : Nat) : Int))
  bitsOf (sdW w 3) 49 15 == 0 && decide (1 ≤ n ∧ n < 2 ^ 32) && decide (1 ≤ rec' ∧ rec' < 2 ^ 24) &&
  decide (sdW w 6 < 2 ^ 48 ∧ lim < 2 ^ 48 ∧ sdW w 8 < 2 ^ 48) && [9, 10, 11, 12, 13].all (fun i => sdW w i == 0) &&
  bitsOf (sdW w 14) 12 52 == 0 && (s.isLocal (sdW w 1) || s.isLocal (sdW w 2)) &&
  (any || s.okRange (bitsOf (sdW w 3) 0 48) (n * iw) false) &&
  (lim == 0 || s.sideOk any (sdW w 1) ispan rec' (!gather)) && s.sideOk any (sdW w 2) pspan rec' gather &&
  (c.op == 0 || rec' % c.granule == 0) &&
  (if gather then s.combSideOk any c (sdW w 2) pspan rec' [if n = 1 then 0 else ((sdW w 8 : Nat) : Int)]
   else lim == 0 || s.combSideOk any c (sdW w 1) ispan rec' [if lim = 1 then 0 else ((sdW w 6 : Nat) : Int)])

/-- Whether a descriptor passes every check of R177; `any`: but those of its addresses. -/
def State.descOk (s : State) (any : Bool) (c : Comb) (w : List Word) : Bool :=
  let h := SdHead.ofWord (w.headD 0)
  !h.rsvd && (h.kind == 1 || (h.ndim == 0 && !h.mc)) &&
  (match h.kind with
  | 1 => s.stridedOk any c w
  | 2 => s.convertOk any c w
  | 3 => s.indexOk any c true w
  | 4 => s.indexOk any c false w
  | _ => false)

/-- The tensor descriptors that the check of a descriptor reads (R171): those of a CONVERT, where it names them rightly. -/
def State.tdSpans (s : State) (w : List Word) : List (Nat × Nat) :=
  if (SdHead.ofWord (w.headD 0)).kind ≠ 2 then []
  else (([1, 2].map (sdW w)).filter (fun a => decide (a < 2 ^ 48) && a % 64 == 0 && s.okRange a 64 false)).map (fun a => (a, 64))

/-- Whether a descriptor that a CONVERT reads is poisoned (R301). -/
def State.tdPoisoned (s : State) (w : List Word) : Bool := (s.tdSpans w).any (fun x => s.marked x.1 x.2)

/-- BUF of a stream's handle (R189): DST of its first descriptor; for a kind that has no DST field a free value. -/
def State.bufOf (s : State) (w : List Word) : Nat × State :=
  if (SdHead.ofWord (w.headD 0)).kind = 1 then (sdW w 2 % 2 ^ 48, s) else (let r := s.free; (r.1 % 2 ^ 48, r.2))

/-- The next descriptor of a context is checked as it leaves the buffer (R176, R177); `kinds` are those the command at hand runs, `met` what the code
finds in the tensor descriptors that it reads, once they can be reached (R18, R184, R270). -/
def takeDesc (kinds : List Nat) (c x : Nat) (met : List (Nat × Ecc)) (s : State) : State :=
  let cx := (s.core c).context x
  match cx.q, cx.buf with
  | some q, w :: rest =>
    let h := SdHead.ofWord (w.headD 0)
    let spans := s.tdSpans w
    if x = 0 || cx.ended || cx.cur.isSome || !kinds.contains h.kind || !(s.run q).ready || !s.mayStream c ||
        (bitOf (w.headD 0).toNat 10 && s.mg.testing.isSome) || !s.coresReach [c] spans then s
    else
      let i := cx.next
      let addr := cx.list + 128 * i
      let s0 := (s.streamMet c spans met (s.opRef q)).fc F.STR_BYTES_RD.BYTES (64 * spans.length) c
      let seen := s0.seenList met
      if !seen.descOk false (s.run q).comb w then (s0.stray (!seen.descOk true (s.run q).comb w)).stopStream c x q i addr stDescError
      else if seen.tdPoisoned w then s0.stopStream c x q i addr stDescPoisoned
      else
        let b := if i = 0 then s0.bufOf w else (cx.firstDst, s0)
        let s1 := if h.last then b.2.modRun q (fun r => { r with next := i + 1 }) else b.2
        s1.modCtx c x (fun y => { y with
          buf := if h.last then [] else rest
          next := i + 1, firstDst := b.1
          count := if h.last then i + 1 else y.count
          lastDesc := w
          handleDesc := if h.handle then w else y.handleDesc
          cur := some { words := w, idx := i, tds := if h.kind = 2 then [(s.convTds w).1, (s.convTds w).2] else [] } })
  | _, _ => s

/-! ### Pieces -/

/-- Source and destination addresses of run i of a STRIDED descriptor (R169). -/
def runAddrs (w : List Word) (i : Nat) : Nat × Nat :=
  let f := (sdDims w).foldl (fun (a : Nat × Int × Int) d =>
    (a.1 / d.1, a.2.1 + d.2.1 * ((a.1 % d.1 : Nat) : Int), a.2.2 + d.2.2 * ((a.1 % d.1 : Nat) : Int))) (i, 0, 0)
  ((((sdW w 1 : Nat) : Int) + f.2.1).toNat, (((sdW w 2 : Nat) : Int) + f.2.2).toNat)

/-- Runs of a STRIDED descriptor. -/
def runCount (w : List Word) : Nat := ((sdDims w).map (·.1)).foldl (· * ·) 1

/-- Length of the transfer at an offset of a run (R166, R204, R324): up to the next 1,024-byte boundary on either side, whole granules of a
combine, and a whole run for TOPK. A run that R204 does not allow, whose remote target will refuse it, keeps within one block of the target. -/
def pieceLen (c : Comb) (src dst left : Nat) : Nat :=
  if c.op = 7 then min left (min 4088 (4096 - dst % 4096))
  else
    let n := min left (min (1024 - src % 1024) (1024 - dst % 1024))
    if c.op = 0 then n
    else min left (if n / c.granule = 0 then min c.granule (1024 - dst % 1024) else n / c.granule * c.granule)

/-- The cursor of a descriptor: a run and the bytes of it already issued. -/
structure Cursor where
  run : Nat
  off : Nat
  deriving DecidableEq, Repr

/-- The cursor after a transfer of `len` bytes of runs of n bytes. -/
def Cursor.step (k : Cursor) (n len : Nat) : Cursor := if n ≤ k.off + len then ⟨k.run + 1, 0⟩ else ⟨k.run, k.off + len⟩

/-- The runs of a descriptor: their number, their length, and where each reads and writes, if it moves anything. -/
structure Runs where
  n : Nat
  len : Nat
  at' : Nat → Option (Nat × Nat)

/-- The next transfer of some runs: source, destination and length (R166). -/
def Runs.piece (r : Runs) (c : Comb) (k : Cursor) : Option (Nat × Nat × Nat) :=
  if r.n ≤ k.run then none
  else (r.at' k.run).map (fun a => (a.1 + k.off, a.2 + k.off, pieceLen c (a.1 + k.off) (a.2 + k.off) (r.len - k.off)))

/-- Merge consecutive transfers of a descriptor that follow one another on both sides, up to some number of them, into one packet whose payload
stays within one 4 KiB block of the target and within 4,096 bytes (R322, R324): the bytes, the transfers, and the cursor after them. -/
def Runs.merge (r : Runs) (c : Comb) : Nat → Nat → Cursor → Nat × Nat × Cursor
  | 0, _, k => (0, 0, k)
  | m + 1, room, k =>
    match r.piece c k with
    | none => (0, 0, k)
    | some p =>
      let k1 := k.step r.len p.2.2
      let more := c.op != 7 && (p.2.1 + p.2.2) % 4096 != 0 && m != 0 && (match r.piece c k1 with
        | some q => q.1 == p.1 + p.2.2 && q.2.1 == p.2.1 + p.2.2 && decide (p.2.2 + q.2.2 ≤ room)
        | none => false)
      if more then
        (let x := r.merge c m (room - p.2.2) k1
         (p.2.2 + x.1, 1 + x.2.1, x.2.2))
      else (p.2.2, 1, k1)

/-- One transfer as issued: what it reads and where it writes. -/
structure Piece where
  src : Nat
  dst : Nat
  len : Nat
  merged : Nat := 1
  /-- The index entry of the transfer was read poisoned, so its target is (R174). -/
  spoil : Bool := false
  /-- A multicast and its receivers (R170). -/
  mc : Bool := false
  receivers : List Nat := []
  deriving DecidableEq, Repr

/-! ### Conversion -/

/-- The 64-byte units an element's value rests on (R185). -/
def elUnits (t : TDesc) (r col : Nat) : List Nat :=
  let f := t.f
  let rb := t.rowAddr r
  if f.isBlock then
    let sp := elemSpan f rb (col / 32 * 32)
    blockByteAddr f rb col / 64 :: unitsOf sp.1 (4 * f.bits)
  else (let sp := elemSpan f rb col; unitsOf sp.1 sp.2)

/-- An element of a CONVERT as read: its value, and whether its bytes were damaged or marked (R184, R185). -/
def State.convEl (s : State) (t : TDesc) (r col : Nat) (hits : List (Nat × Nat)) : Rd × Bool :=
  let us := elUnits t r col
  match hits.find? (fun h => us.contains h.1) with
  | some h => ({ v := .bad h.2 }, true)
  | none => (s.readEl t r col, us.any s.mark)

/-- The rounding of a descriptor's CRND (R37). -/
def TDesc.rnd (t : TDesc) : Rnd := if t.crnd = 1 then .zero else .near

/-- Encode a run of elements into a row of a destination (R172). -/
def encodeRun (t : TDesc) (es : List (Rd × Bool)) : List OutEl :=
  let f := t.f
  if f.isBlock then
    (chunks 32 es).flatMap (fun b =>
      let e := encodeBlock f.bits t.tscale (fun _ => roundQ t.rnd) (b.map (·.1.v))
      (e.ms.zip e.marks).map (fun x => { bits := tcBits f.bits x.1, blk := e.blk, mark := x.2, v := .num 0 }))
  else es.map (fun x =>
    let w := encodeElem f t.tscale t.subn (roundQ t.rnd) x.1.v
    { bits := w.1, mark := w.2, v := x.1.v })

/-- The events of converted elements (R64). -/
def convEv (es : List (Rd × Bool)) (os : List OutEl) : Ev :=
  Ev.sum ((es.zip os).map (fun p =>
    let e := (if p.2.mark = .poison then Mk.poison else if p.1.1.sub then .subnIn else p.2.mark).ev
    { e with fmt := Nat.lor e.fmt p.1.1.fl }))

/-- Join writes that follow one another. -/
def joinWrs (ws : List Wr) : Wr :=
  match ws with
  | [] => { addr := 0, bytes := [] }
  | w :: rest => rest.foldl (fun a b => { a with bytes := a.bytes ++ b.bytes, pz := a.pz ++ b.pz }) w

/-- The columns of a CONVERT that are converted together at row `run` and column `off`: up to the next 256 of the destination. -/
def convCols (w : List Word) (off : Nat) : Nat := min (sdW w 7 - off) (256 - (sdW w 5 + off) % 256)

/-- What a conversion of some columns of a row writes and finds: its transfers' writes, the events, the largest magnitude written, the first
poison, what it reads of the source and of its retry map, the nibbles kept, and whether it marked a unit or block. -/
structure Conv where
  wrs : List Wr
  ev : Ev
  amax : Rat
  first : Option (Nat × Nat)
  src : Nat
  read : Nat
  map : Nat × Nat
  keep : Nat
  marked : Bool
  deriving DecidableEq, Repr

/-- Cut a write at some addresses, in ascending order (R166); a cut at its start leaves a transfer that writes nothing. -/
def cutWr : List Nat → Wr → List Wr
  | [], w => [w]
  | a :: as, w =>
    if a < w.addr ∨ w.addr + w.bytes.length ≤ a then cutWr as w
    else { w with bytes := w.bytes.take (a - w.addr), pz := w.pz.filter (fun u => decide (u * 64 < a)) } ::
      cutWr as { w with addr := a, bytes := w.bytes.drop (a - w.addr), pz := w.pz.filter (fun u => decide (a / 64 ≤ u)) }

/-- The multiples of 1,024 inside a run of bytes. -/
def kiloCuts (a n : Nat) : List Nat := (List.range (n / 1024 + 1)).filterMap (fun i =>
  let x := (a / 1024 + 1 + i) * 1024
  if x < a + n then some x else none)

/-- Where the transfers of converted columns begin within a write (R166): at every 1,024 bytes of the destination, and at the first element that the
source holds beyond each boundary of 1,024 bytes; `a` is the first byte read. DESIGN CHOICE (log entry 64): a transfer that brings only block
bytes writes nothing, and a destination byte of two INT4 elements goes with the second. -/
def convCuts (ts td : TDesc) (sr dr c0 d0 n a : Nat) (w : Wr) : List Nat :=
  let src := fun (i : Nat) => (elemSpan ts.f (ts.rowAddr sr) (c0 + i)).1
  let far := (List.range n).filterMap (fun i =>
    if (if i = 0 then a else src (i - 1)) / 1024 = src i / 1024 then none else some (elemSpan td.f (td.rowAddr dr) (d0 + i)).1)
  ((kiloCuts w.addr w.bytes.length ++ far).mergeSort (fun x y => decide (x ≤ y))).eraseDups

/-- The destination unit of an element of a format without blocks. -/
def elUnit (t : TDesc) (r col : Nat) : Nat := (elemSpan t.f (t.rowAddr r) col).1 / 64

/-- Elements for a destination without blocks (R185): every element of a unit that some damaged byte lands in is poisoned with it. -/
def spoilUnits (td : TDesc) (dr d0 : Nat) (es : List (Rd × Bool)) : List (Rd × Bool) :=
  let at' := (List.range es.length).zip es
  let lost := at'.filterMap (fun p => match p.2.1.v with
    | .bad c => if p.2.2 || !td.f.isFp then some (elUnit td dr (d0 + p.1), c) else none
    | .num _ => none)
  at'.map (fun p => match p.2.1.v, lost.find? (fun l => l.1 == elUnit td dr (d0 + p.1)) with
    | .num _, some l => ({ p.2.1 with v := .bad l.2 }, true)
    | _, some _ => (p.2.1, true)
    | _, none => p.2)

/-- Convert some columns (R172, R184 to R186); `err` is what the read of the source meets and `aux` that of its retry map. -/
def State.convert (s : State) (cd : CurDesc) (err aux : ReadErr) : Conv :=
  let w := cd.words
  let ts := cd.tds.getD 0 {}
  let td := cd.tds.getD 1 {}
  let n := convCols w cd.off
  let sr := bitsOf (sdW w 3) 0 32 + cd.run
  let dr := bitsOf (sdW w 3) 32 32 + cd.run
  let c0 := sdW w 4 + cd.off
  let d0 := sdW w 5 + cd.off
  let sp := ts.rowSpan sr c0 n
  let cells := ts.mapBytes sr c0 n
  let map := (cells.headD 0, cells.length)
  let mhit := if cells.isEmpty then [] else hitUnit map.1 map.2 aux
  let seen := s.seenBad (mhit.map (·.1))
  let read := (List.range n).map (fun i => seen.convEl ts sr (c0 + i) (hitUnit sp.1 sp.2 err))
  let es := if td.f.isBlock then read else spoilUnits td dr d0 read
  let os := encodeRun td es
  let ws := if td.f.isBlock then rowWrites td.f (td.rowAddr dr) d0 (d0 + n == td.cols) s.byte os
    else plainWrites td.f (td.rowAddr dr) d0 s.byte ((es.zip os).map (fun p => (p.2.bits, p.1.2)))
  let wr := joinWrs ws
  let written := (es.zip os).filter (fun p => p.2.mark != .poison)
  { wrs := cutWr (convCuts ts td sr dr c0 d0 n sp.1 wr) { wr with fill := if td.f.isFp then leBytes (td.f.bits / 8) (poisonBits td.f 2) else [] }
    ev := convEv es os, src := sp.1, read := sp.2, map := map
    amax := (written.map (fun p => ratAbs p.1.1.v.rat)).foldl max 0
    first := ((s.firstBad sp.1 sp.2 err).or (s.rowPoison ts (ts.rowAddr sr) sr c0 n)).or ((mhit.map (fun h => (h.2, h.1 * 64))).head?)
    keep := if td.f = .int4 then (if d0 % 2 = 1 then 1 else 0) + (if (d0 + n) % 2 = 1 then 2 else 0) else 0
    marked := !wr.pz.isEmpty || (td.f.isBlock && os.any (fun o => o.mark == .poison)) }

/-! ### Issuing transfers -/

/-- The transfer a write makes: a plain local write waits to land, a combine goes to its atomic unit, a remote one to its connection; `src`: where its
bytes stand in this device's memory, from which a retransmission reads them again (R345). -/
def State.launch (s : State) (c : Nat) (x : Xfer) (remote : Option (Nat × Nat)) (src : Option Nat := none) : State :=
  let tag := s.nextTag
  let y := { x with tag := tag }
  let s0 := if x.comb % 16 = 8 then s.modRun x.q (fun r => { r with ni := true }) else s
  let s1 := { s0 with nextTag := tag + 1 }.modCore c (fun k => { k with xfers := k.xfers ++ [y] })
  match remote with
  | some (conn, a) =>
    let pay := (if x.comb = 0 then [] else leBytes 8 x.comb) ++ x.wr.bytes
    let s1 := if x.comb = 0 then s1 else s1.events c x.q (addendEv (Comb.ofNat x.comb) x.wr)
    s1.connSend conn { zeroPkt with ptype := if x.comb = 0 then 1 else 2, addr := BitVec.ofNat 48 a,
                                    poison := poisonMask a x.wr.pz, payload := pay } (.xfer x.q c tag) src
  | none => if x.comb = 0 then s1 else s1.queueCombine x.comb x.wr (.xfer x.q c tag)

/-- The cursor of a context's descriptor moves on; the descriptor is issued when it passes its end. `entry` is the index entry as read that the
next transfer goes on with. -/
def State.moveTo (s : State) (c x runs : Nat) (k : Cursor) (entry : Option (Nat × Bool) := none) : State :=
  s.modCtx c x (fun y => { y with cur := match y.cur with
    | none => none
    | some d => if runs ≤ k.run then none else some { d with run := k.run, off := k.off, entry := entry } })

/-- A transfer on a connection that is not OPEN fails at once (R345). -/
def State.connLost (s : State) (q idx conn : Nat) : State :=
  ((s.fail q stConnection).modRun q (fun r => { r with conn := conn })).undef q idx 0xFFFF

/-- The combine word of a command as its transfers carry it, 0 for a plain write. -/
def QRun.combWord (r : QRun) : Nat := if r.comb.op = 0 then 0 else (r.words.getD 5 0).toNat

/-- Issue one raw transfer: read the source, or ask for it, and send the bytes on (R166, R170, R184, R323). A source that decodes no more ends
the stream (R177, R256). -/
def State.sendRaw (s : State) (c x q : Nat) (cd : CurDesc) (p : Piece) (err : ReadErr) : State :=
  let cw := (s.run q).combWord
  let conn := sdW cd.words 14 % 4096
  if !s.isLocal p.src && !p.spoil then
    if !s.connOpen conn then s.connLost q cd.idx conn
    else
      let tag := s.nextTag
      let y : Xfer := { ctx := x, q := q, idx := cd.idx, wr := { addr := p.dst % 2 ^ 48, bytes := [] }, conn := some conn,
                        remoteSrc := true, tag := tag, rd := p.len, slots := p.merged, comb := cw, src := p.src }
      ({ s with nextTag := tag + 1 }.modCore c (fun k => { k with xfers := k.xfers ++ [y] })).connSend conn
        { zeroPkt with ptype := 3, addr := BitVec.ofNat 48 p.src, payload := leBytes 6 p.dst ++ leBytes 2 (p.len - 1) } (.xfer q c tag)
  else
    let src := p.src % 2 ^ 48
    let dst := if p.mc then p.dst else p.dst % 2 ^ 48
    if !p.spoil && !s.okRange src p.len false then
      (s.decodeErr).stopStream c x q cd.idx (((s.core c).context x).list + 128 * cd.idx) stDescError
    else
      let w := s.rawWr src dst p.len p.spoil err
      let s1 := if p.spoil then s else (s.readMet c q src p.len err).fc F.STR_BYTES_RD.BYTES p.len c
      let s2 := match (if p.spoil then none else s.firstBad src p.len err) with
        | some f => s1.poisonEvent c q x f.1 f.2
        | none => s1
      let s3 := if w.pz.isEmpty then s2 else s2.modCtx c x (fun y => { y with pois := true })
      let remote := if p.mc || s.isLocal p.dst then none else some (conn, p.dst % 2 ^ 48)
      if remote.isSome && !s3.connOpen conn then s3.connLost q cd.idx conn
      else
        s3.launch c { ctx := x, q := q, idx := cd.idx, wr := w, comb := cw, receivers := p.receivers, mc := p.mc, conn := remote.map (·.1),
                      rd := p.len, slots := p.merged, src := p.src } remote (if p.spoil then none else some src)

/-- Whether a transfer's ends can reach the core over working bridges and no repair holds them (R18, R270); a source that decodes no more is not
read. -/
def State.endsOk (s : State) (c : Nat) (p : Piece) : Bool :=
  (p.spoil || !s.isLocal p.src || !s.okRange (p.src % 2 ^ 48) p.len false || s.pathOk c (p.src % 2 ^ 48) p.len) &&
  (if p.mc then p.receivers.all (fun d => s.pathOk c (tileAddr d p.dst) p.len)
   else !s.isLocal p.dst || s.pathOk c (p.dst % 2 ^ 48) p.len)

/-- Whether a transfer may issue now (R167, R264): its slots, its ends, and room at the atomic units of a local combine. -/
def State.mayIssue (s : State) (c x q : Nat) (p : Piece) : Bool :=
  s.slotFree c x p.merged && s.endsOk c p &&
  ((s.run q).comb.op == 0 || p.mc || !s.isLocal p.dst || s.combRoom (s.run q).comb (p.dst % 2 ^ 48) p.len)

/-- The slots a context may take for one packet, 1 to 4 (R324); 0: none is free. -/
def State.mergeMost (s : State) (c x : Nat) : Nat := ([4, 3, 2, 1].find? (s.slotFree c x)).getD 0

/-- The address of entry n of a descriptor's index stream, and its width (R173, R174). -/
def indexAt (w : List Word) (n : Nat) : Nat × Nat :=
  let iw := if bitOf (sdW w 3) 48 then 8 else 4
  (bitsOf (sdW w 3) 0 48 + n * iw, iw)

/-- Source and destination of entry n of an index stream whose value is v (R174). -/
def entryEnds (w : List Word) (gather : Bool) (n v : Nat) : Nat × Nat :=
  let packed := sdW w 2 + n * sdW w 8
  let indexed := sdW w 1 + v * sdW w 6
  if gather then (indexed, packed) else (packed, indexed)

/-- Whether an index moves a record (R174). DESIGN CHOICE (log entry 96): one that is all ones in its width is skipped also where it lies below ILIMIT; two
rows of the table fit it. -/
def indexMoves (w : List Word) (v : Nat) : Bool := decide (v < sdW w 7) && v != 256 ^ (indexAt w 0).2 - 1

/-- The runs of a descriptor as its context sees them: a GATHER's or SCATTER's entry at hand is the one read, the others as memory holds them. -/
def State.runsOf (s : State) (cd : CurDesc) : Runs :=
  let w := cd.words
  let kind := (SdHead.ofWord (w.headD 0)).kind
  if kind = 1 then { n := runCount w, len := bitsOf (sdW w 3) 0 32, at' := fun i => some (runAddrs w i) }
  else
    { n := sdW w 4, len := sdW w 5, at' := fun i =>
        let a := indexAt w i
        let e := if i = cd.run then cd.entry.getD (s.le a.1 a.2, s.marked a.1 a.2) else (s.le a.1 a.2, s.marked a.1 a.2)
        if e.2 || !indexMoves w e.1 then none else some (entryEnds w (kind == 3) i e.1) }

/-- What the next transfer of a STRIDED, GATHER or SCATTER descriptor does (R166, R169, R174): the piece, if it moves anything; the cursor after
it; the index entry as read, whether it is faulty, and the index bytes read for it. -/
structure Plan where
  p : Option Piece
  next : Cursor
  entry : Option (Nat × Bool) := none
  fault : Bool := false
  idx : Nat × Nat := (0, 0)
  deriving DecidableEq, Repr

/-- The receivers of a multicast descriptor (R170). -/
def State.receiversOf (s : State) (w : List Word) : List Nat := (bitList 96 (sdW w 12 + sdW w 13 * 2 ^ 64)).filter s.inPool

/-- Plan the next transfer of a descriptor; `aux` is what the read of its index entry meets. DESIGN CHOICE (log entry 63): transfers merge as far as
slots are free, and an entry read with an error merges with none. -/
def State.plan (s : State) (c x q : Nat) (cd : CurDesc) (aux : ReadErr) : Plan :=
  let w := cd.words
  let h := SdHead.ofWord (w.headD 0)
  let comb := (s.run q).comb
  let a := indexAt w cd.run
  let fresh := h.kind != 1 && cd.entry.isNone
  let e := if h.kind = 1 then (0, false)
    else cd.entry.getD (s.le a.1 a.2, s.marked a.1 a.2 || (errHit aux).isSome)
  let r := s.runsOf { cd with entry := if h.kind = 1 then none else some e }
  let k : Cursor := ⟨cd.run, cd.off⟩
  let idx := fun (n : Nat) => if h.kind = 1 then (0, 0) else
    ((indexAt w (if fresh then cd.run else cd.run + 1)).1, a.2 * (n + (if fresh then 1 else 0)))
  match r.piece comb k with
  | some p =>
    let remote := !s.isLocal p.1 || (!h.mc && !s.isLocal p.2.1)
    let most := if remote && (aux == .none) then max 1 (s.mergeMost c x) else 1
    let m := r.merge comb most (if comb.op = 0 then 4096 else 4088) k
    let last := (if 0 < m.2.2.off then m.2.2.run else m.2.2.run - 1) - cd.run
    { p := some { src := p.1, dst := p.2.1, len := m.1, merged := m.2.1, mc := h.mc, receivers := if h.mc then s.receiversOf w else [] }
      next := m.2.2, idx := idx last
      entry := if h.kind = 1 ∨ m.2.2.off = 0 then none
        else if m.2.2.run = cd.run then some e else (let b := indexAt w m.2.2.run; some (s.le b.1 b.2, false)) }
  | none =>
    if e.2 && h.kind == 3 then
      let d := (entryEnds w true cd.run 0).2 + cd.off
      let n := pieceLen comb 0 d (sdW w 5 - cd.off)
      { p := some { src := s.global 0, dst := d, len := n, spoil := true }
        next := k.step (sdW w 5) n, entry := if (k.step (sdW w 5) n).off = 0 then none else some e, idx := idx 0 }
    else
      { p := none, next := ⟨cd.run + 1, 0⟩, entry := some e, idx := idx 0
        fault := e.2 || (decide (sdW w 7 ≤ e.1) && e.1 != 256 ^ a.2 - 1) }

/-- Whether a planned transfer may issue now. -/
def State.canPlan (s : State) (c x q : Nat) (pl : Plan) : Bool :=
  (pl.idx.2 == 0 || s.pathOk c pl.idx.1 pl.idx.2) && (match pl.p with
  | none => true
  | some p => s.mayIssue c x q p)

/-- Read the index entries of a planned transfer (R174, R195). -/
def State.readIndex (s : State) (c q : Nat) (pl : Plan) (aux : ReadErr) : State :=
  if pl.idx.2 = 0 then s else (s.readMet c q pl.idx.1 pl.idx.2 aux).fc F.STR_BYTES_RD.BYTES pl.idx.2 c

/-- Issue the next transfer of a STRIDED, GATHER or SCATTER descriptor (R166, R169, R174): an entry that is skipped or faulty issues none. -/
def State.issueRaw (s : State) (c x q : Nat) (cd : CurDesc) (err aux : ReadErr) : State :=
  let pl := s.plan c x q cd aux
  let bad := s.firstBad pl.idx.1 pl.idx.2 aux
  let runs := (s.runsOf cd).n
  if !s.canPlan c x q pl then s
  else
    let s0 := s.readIndex c q pl aux
    match pl.p with
    | none =>
      let s1 := if pl.fault then (s0.indexFault c q cd.run).modCtx c x (fun y => { y with ifault := true }) else s0
      let s2 := match bad with
        | some f => s1.poisonEvent c q x f.1 f.2
        | none => s1
      s2.moveTo c x runs pl.next
    | some p =>
      let s1 := if p.spoil && cd.off == 0 then
          (s0.count q { poisoned := (unitsOf (p.dst % 2 ^ 48) (sdW cd.words 5)).length }).poisonEvent c q x (bad.getD (3, pl.idx.1)).1 pl.idx.1
        else s0
      (s1.sendRaw c x q cd p err).moveTo c x runs pl.next pl.entry

/-- Whether the next transfer of a conversion may issue now. -/
def State.canConvert (s : State) (c x : Nat) (cd : CurDesc) : Bool :=
  match cd.pend with
  | w :: _ => s.slotFree c x 1 && s.pathOk c w.1.addr w.1.bytes.length
  | [] =>
    let v := s.convert cd .none .none
    s.slotFree c x 1 && (!s.okRange v.src v.read false || s.pathOk c v.src v.read) && (v.map.2 == 0 || s.pathOk c v.map.1 v.map.2) &&
      v.wrs.all (fun w => s.pathOk c w.addr w.bytes.length)

/-- Read and convert the next columns of a CONVERT descriptor (R172): what their transfers will write, with the nibbles each keeps, waits to issue. -/
def State.readConvert (s : State) (c x q : Nat) (cd : CurDesc) (err aux : ReadErr) : State :=
  let v := s.convert cd err aux
  if !s.okRange v.src v.read false then
    (s.decodeErr).stopStream c x q cd.idx (((s.core c).context x).list + 128 * cd.idx) stDescError
  else
    let s1 := (s.readMet c q v.src v.read err).fc F.STR_BYTES_RD.BYTES (v.read + v.map.2) c
    let s2 := if v.map.2 = 0 then s1 else s1.readMet c q v.map.1 v.map.2 aux
    let s3 := match v.first with
      | some f => s2.poisonEvent c q x f.1 f.2
      | none => s2
    let first := ((List.range v.wrs.length).zip v.wrs).find? (fun p => !p.2.bytes.isEmpty)
    let last := v.wrs.length - 1
    ((s3.track ((cd.tds.getD 1 {}).tag) v.amax v.ev).events c q v.ev).modCtx c x (fun y => { y with
      pois := y.pois || v.marked
      cur := y.cur.map (fun d => { d with pend := ((List.range v.wrs.length).zip v.wrs).map (fun p =>
        (p.2, (if (first.map (·.1)) = some p.1 then v.keep % 2 else 0) + (if p.1 = last then v.keep / 2 * 2 else 0))) }) })

/-- Issue the first of the transfers that converted columns wait with. -/
def State.sendConvert (s : State) (c x q : Nat) : State :=
  match ((s.core c).context x).cur with
  | none => s
  | some cd =>
    match cd.pend with
    | [] => s
    | w :: rest =>
      let s1 := s.launch c { ctx := x, q := q, idx := cd.idx, wr := w.1, keep := w.2 } none
      let s2 := s1.modCtx c x (fun y => { y with cur := y.cur.map (fun d => { d with pend := rest }) })
      if rest.isEmpty then s2.moveTo c x (sdW cd.words 6) (Cursor.step ⟨cd.run, cd.off⟩ (sdW cd.words 7) (convCols cd.words cd.off)) else s2

/-- Issue the next transfer of a CONVERT descriptor (R166, R172). DESIGN CHOICE (log entry 64): up to 256 columns are read and converted as the first
of their transfers issues. -/
def State.issueConvert (s : State) (c x q : Nat) (cd : CurDesc) (err aux : ReadErr) : State :=
  (if cd.pend.isEmpty then s.readConvert c x q cd err aux else s).sendConvert c x q

/-- The next staged output of context 0 as it issues (R134, R166): its length, whole TOPK runs, otherwise up to a 1,024-byte boundary of either side. -/
def State.stagedLen (s : State) (w : StagedWr) : Nat :=
  if w.comb && (s.run w.q).comb.op == 7 then w.wr.bytes.length
  else min w.wr.bytes.length (min (1024 - w.wr.addr % 1024) (if w.src = 0 then 1024 else 1024 - w.src % 1024))

/-- Whether the next staged output may issue. -/
def State.canStaged (s : State) (c : Nat) : Bool :=
  match ((s.core c).context 0).staged with
  | [] => false
  | w :: _ => s.slotFree c 0 1 && s.pathOk c w.wr.addr (s.stagedLen w) &&
      (!w.comb || (s.run w.q).comb.op == 0 || s.combRoom (s.run w.q).comb w.wr.addr (s.stagedLen w))

/-- A raw write some of whose source came damaged (R185): every unit that a damaged byte lands in is marked, and its bytes are those of poison. -/
def Wr.spoil (w : Wr) (src : Nat) (bad : List Nat) : Wr :=
  let us := ((List.range w.bytes.length).filterMap (fun i => if bad.contains ((src + i) / 64) then some ((w.addr + i) / 64) else none)).eraseDups
  if us.isEmpty then w
  else { w with pz := unionList w.pz us
                bytes := ((List.range w.bytes.length).zip (w.bytes.zip w.lostBytes)).map (fun p =>
                  if us.contains ((w.addr + p.1) / 64) then p.2.2 else p.2.1) }

/-- Issue the next staged output of context 0: it reads the staging region of the tile store (R121, R183, R184); `err` is what it meets there. -/
def State.issueStaged (s : State) (c : Nat) (err : ReadErr) : State :=
  match ((s.core c).context 0).staged with
  | [] => s
  | w :: rest =>
    let n := s.stagedLen w
    let later := w.wr.bytes.drop n
    let mine := fun (u : Nat) => decide (u < ceilDiv (w.wr.addr + n) 64)
    if !s.canStaged c then s
    else
      let s0 := if w.src = 0 then s else (s.readMet c w.q w.src n err).fc F.STR_BYTES_RD.BYTES n c
      let hits := if w.src = 0 then [] else hitUnit w.src n err
      let s1 := match hits with
        | [] => s0
        | h :: _ => s0.poisonEvent c w.q 0 h.2 (h.1 * 64)
      let s2 := s1.modCtx c 0 (fun y => { y with staged :=
        if later.isEmpty then rest
        else { w with wr := { w.wr with addr := w.wr.addr + n, bytes := later, pz := w.wr.pz.filter (fun u => decide ((w.wr.addr + n) / 64 ≤ u)) }
                      src := if w.src = 0 then 0 else w.src + n } :: rest })
      let out : Wr := { w.wr with bytes := w.wr.bytes.take n, pz := w.wr.pz.filter mine }
      s2.launch c { ctx := 0, q := w.q, idx := w.index, tile := w.tile, src := w.src, rd := if w.src = 0 then 0 else n,
                    wr := out.spoil w.src (hits.map (·.1)),
                    comb := if w.comb then (s.run w.q).combWord else 0 } none

/-- The next transfer of a fetch (R166): its source, its tile-store offset, its length, and whether it begins a row. -/
def State.fetchPiece (s : State) (c : Nat) (f : Fetch) : Piece :=
  let sp := (s.run f.q).fetchSrc f f.row
  let src := sp.1 + f.off
  let dst := s.fetchDst c f f.row + f.off
  { src := s.global src, dst := dst, len := min (sp.2 - f.off) (min (1024 - src % 1024) (1024 - dst % 1024)), mc := true, receivers := f.receivers }

/-- The retry-map bytes that a fetch reads with a row's first transfer (R182): those of its first row and of every row that begins a cell. -/
def QRun.fetchMap (r : QRun) (f : Fetch) : List Nat :=
  let t := r.td f.op
  if f.off = 0 ∧ (f.row = 0 ∨ (t.row0 + f.box.r0 + f.row) % 128 = 0) ∧ t.f.isBlock = true then t.mapBytes (f.box.r0 + f.row) f.box.k0 f.box.kr else []

/-- Whether a fetch may issue its next transfer (R139, R155). -/
def State.canFetch (s : State) (c : Nat) (f : Fetch) : Bool :=
  let m := (s.run f.q).fetchMap f
  decide (f.row < f.box.nr) && s.bufFree c f && s.slotFree c 0 1 && s.endsOk c (s.fetchPiece c f) &&
  (m.isEmpty || s.pathOk c (m.headD 0) m.length)

/-- The fetch of a core that issues next: the first formed that may. -/
def State.nextFetch (s : State) (c : Nat) : Option Fetch := (s.core c).fetches.find? (s.canFetch c)

/-- The units of a source that come damaged, with their causes (R184). -/
def State.damaged (s : State) (a n : Nat) (err : ReadErr) : List (Nat × Nat) :=
  (unitsOf a n).filterMap (fun u => match (hitUnit a n err).find? (fun h => h.1 == u) with
    | some h => some h
    | none => if s.mark u then some (u, 3) else none)

/-- Issue the next transfer of a fetch (R134, R140, R146, R182, R184): bytes as stored, with the damage that the landing of the whole tile will turn
into poisoned blocks, or, for a format without blocks, with marks. A source that decodes no more is a descriptor error of its command and its units
count as damaged (R256). -/
def State.issueFetch (s : State) (c : Nat) (f : Fetch) (err aux : ReadErr) : State :=
  let r := s.run f.q
  let t := r.td f.op
  let p := s.fetchPiece c f
  let src := p.src % 2 ^ 48
  let ok := s.okRange src p.len false
  let m := r.fetchMap f
  let n := (r.fetchSrc f f.row).2
  let bad := (if ok then s.damaged src p.len err else (unitsOf src p.len).map (fun u => (u, 3))) ++
    (if m.isEmpty then [] else hitUnit (m.headD 0) m.length aux)
  let first := if ok then ((s.firstBad src p.len err).or
      (if f.off = 0 then s.rowPoison t (t.rowAddr (f.box.r0 + f.row)) (f.box.r0 + f.row) f.box.k0 f.box.kr else none)).or
      (if m.isEmpty then none else s.firstBad (m.headD 0) m.length aux) else none
  let s1 := if ok then (s.readMet c f.q src p.len err).fc F.STR_BYTES_RD.BYTES (p.len + m.length) c
    else (s.decodeErr).descError f.q 0xFFFF src
  let s2 := if m.isEmpty then s1 else s1.readMet c f.q (m.headD 0) m.length aux
  let s3 := match first with
    | some e => s2.poisonEvent c f.q 0 e.1 e.2
    | none => s2
  let w : Wr := if t.f.isBlock then { addr := p.dst, bytes := s.bytes src p.len } else s.rawWr src p.dst p.len (!ok) err
  let k := Cursor.step ⟨f.row, f.off⟩ n p.len
  let s4 := s3.modCore c (fun y => { y with fetches := y.fetches.map (fun g =>
    if g.id == f.id then { g with row := k.run, off := k.off, bad := if t.f.isBlock then g.bad ++ bad else g.bad } else g) })
  s4.launch c { ctx := 0, q := f.q, idx := f.index, tile := 0xFFFF, wr := w, mc := true, receivers := f.receivers, rd := p.len, src := p.src,
                fetch := some f.id } none

/-- Whether a read of context 0 may issue its next transfer. -/
def State.canRead (s : State) (c : Nat) (j : RdJob) : Bool :=
  match j.todo with
  | [] => false
  | p :: _ => s.slotFree c 0 1 && (!s.okRange p.src p.len false || s.pathOk c p.src p.len) && (p.map.2 == 0 || s.pathOk c p.map.1 p.map.2)

/-- The first poison that a transfer of a read meets (R187): damage or a mark of its source, a poisoned block of the row that it begins, or its
retry-map bytes. -/
def State.readPoison (s : State) (j : RdJob) (p : RdPiece) (err aux : ReadErr) : Option (Nat × Nat) :=
  ((s.firstBad p.src p.len err).or (p.row.bind (fun r =>
    let t := (s.run j.q).td r.slot
    s.rowPoison t (t.rowAddr r.row) r.row r.c0 r.n))).or (if p.map.2 = 0 then none else s.firstBad p.map.1 p.map.2 aux)

/-- Bytes as a read brings them: their units that came damaged or marked. -/
def State.brought (s : State) (a n : Nat) (err : ReadErr) : Wr := { addr := a, bytes := s.bytes a n, pz := (s.damaged a n err).map (·.1) }

/-- Issue the next transfer of a read of context 0 (R84, R166, R184, R217): the bytes go to the tile store, and what was read stands in the read. A source
that decodes no more is a descriptor error of its command and comes damaged (R256). -/
def State.issueRead (s : State) (c : Nat) (j : RdJob) (err aux : ReadErr) : State :=
  match j.todo with
  | [] => s
  | p :: rest =>
    let ok := s.okRange p.src p.len false
    let s1 := if ok then (s.readMet c j.q p.src p.len err).fc F.STR_BYTES_RD.BYTES (p.len + p.map.2) c else (s.decodeErr).descError j.q 0xFFFF p.src
    let s2 := if p.map.2 = 0 then s1 else s1.readMet c j.q p.map.1 p.map.2 aux
    let s3 := match (if ok then s.readPoison j p err aux else none) with
      | some e => s2.poisonEvent c j.q 0 e.1 e.2
      | none => s2
    let w : Wr := if ok then s.brought p.src p.len err else { addr := p.src, bytes := List.replicate p.len 0, pz := unitsOf p.src p.len }
    let got := w :: (if p.map.2 = 0 then [] else [s.brought p.map.1 p.map.2 aux])
    let s4 := s3.modCore c (fun k => { k with reads := k.reads.map (fun y => if y.id == j.id then { y with todo := rest, got := y.got ++ got } else y) })
    s4.launch c { ctx := 0, q := j.q, idx := j.index, tile := 0xFFFF, wr := s.rawWr p.src p.dst p.len (!ok) err, mc := true, receivers := [c]
                  rd := p.len, src := p.src, fetch := some j.id } none

/-- What context 0 issues next. -/
inductive Zeroth where
  | fetch (f : Fetch)
  | read (j : RdJob)
  | staged
  deriving DecidableEq, Repr

/-- The next transfer of context 0. DESIGN CHOICE (log entry 94): operand fetches go before reads for the decants and the vector engine, and those before
staged output; of fetches and of reads the first formed that can goes first. R165 orders the contexts and nothing within context 0. -/
def State.nextZero (s : State) (c : Nat) : Option Zeroth :=
  match s.nextFetch c with
  | some f => some (.fetch f)
  | none =>
    match (s.core c).reads.find? (s.canRead c) with
    | some j => some (.read j)
    | none => if s.canStaged c then some .staged else none

/-- Whether a context has a transfer that may issue now (R165, R168, R192). -/
def State.canIssue (s : State) (c x : Nat) : Bool :=
  if x = 0 then s.diesGo && (s.nextZero c).isSome
  else
    let cx := (s.core c).context x
    match cx.q, cx.cur with
    | some q, some cd =>
      let h := SdHead.ofWord (cd.words.headD 0)
      let waits := h.fence && (s.core c).xfers.any (fun y => y.ctx == x && decide (y.idx < cd.idx))
      !cx.ended && !waits && s.mayStream c &&
      (if h.kind = 2 then s.canConvert c x cd else s.canPlan c x q (s.plan c x q cd .none))
    | _, _ => false

/-- Issue the next transfer of a context. -/
def State.issueCtx (s : State) (c x : Nat) (err aux : ReadErr) : State :=
  if x = 0 then
    match s.nextZero c with
    | some (.fetch f) => s.issueFetch c f err aux
    | some (.read j) => s.issueRead c j err aux
    | some .staged => s.issueStaged c err
    | none => s
  else
    let cx := (s.core c).context x
    match cx.q, cx.cur with
    | some q, some cd =>
      if (SdHead.ofWord (cd.words.headD 0)).kind = 2 then s.issueConvert c x q cd err aux else s.issueRaw c x q cd err aux
    | _, _ => s

/-- The context whose turn it is (R165): the next, after the one that issued last, that has a transfer ready. -/
def State.ctxTurn (s : State) (c : Nat) : Option Nat :=
  ((List.range 4).map (fun i => ((s.core c).turn + 1 + i) % 4)).find? (s.canIssue c)

/-- TRANSFER_ISSUE (R165, R167, R168): `err` is what the read of the source meets and `aux` that of the index entry or of the retry map read with
it. DESIGN CHOICE (log entry 62): the round robin goes by context number from the context that issued last, and a command for a context whose turn
it is not does nothing. -/
def transferIssue (c x : Nat) (err aux : ReadErr) (s : State) : State :=
  if s.ctxTurn c = some x then (s.issueCtx c x err aux).modCore c (fun k => { k with turn := x }) else s

/-! ### Landing -/

/-- Whether a write to n bytes at a is refused as it lands (R256). -/
def State.refused (s : State) (a n : Nat) : Bool := !s.okRange a n true

/-- The write of 4-bit elements keeps the nibbles outside its rectangle (R39, R172). -/
def State.keepNibbles (s : State) (x : Xfer) (w : Wr) (a : Nat) : List Byte :=
  if x.keep = 0 then w.bytes
  else
    let n := w.bytes.length
    ((List.range n).zip w.bytes).map (fun p =>
      let old := (s.byte (a + p.1)).toNat
      let b1 := if bitOf x.keep 0 && p.1 == 0 then setBits p.2.toNat 0 4 (bitsOf old 0 4) else p.2.toNat
      let b2 := if bitOf x.keep 1 && p.1 == n - 1 then setBits b1 4 4 (bitsOf old 4 4) else b1
      BitVec.ofNat 8 b2)

/-- The memory use of a stage group (R374): a landed write of n bytes of a command bound to it or to one of its cores. -/
def State.stageNote (s : State) (c q ctx a n : Nat) : State :=
  match (if ctx = 0 then some (s.fg F.QM_QDESC.GROUP q) else s.groupOf c) with
  | none => s
  | some g =>
    let base := s.fg F.COL_STAGE_ARENA.BASE 0 g
    let size := s.fg F.COL_STAGE_ARENA.SIZE 0 g
    if size = 0 ∨ n = 0 then s
    else
      let lo := base * 4096
      let hi := (base + size) * 4096
      let s1 := if a < hi ∧ lo < a + n then
          s.fs F.COL_STAGE_HWM.HWM (max (s.fg F.COL_STAGE_HWM.HWM 0 g) ((min (a + n) hi - 1) / 4096 - base + 1)) 0 g else s
      if a < lo ∨ hi < a + n then s1.fc F.COL_STAGE_HWM.OUTSIDE 1 0 g else s1

/-- The addresses a transfer writes at: for a multicast the same tile-store offset of every receiver (R170). -/
def Xfer.targets (x : Xfer) : List Nat := if x.mc then x.receivers.map (fun d => tileAddr d x.wr.addr) else [x.wr.addr]

/-- The bytes a transfer writes at each. -/
def Xfer.size (x : Xfer) : Nat := if x.remoteSrc then x.rd else x.wr.bytes.length

/-- Whether a transfer writes plainly on this device. -/
def Xfer.plain (x : Xfer) : Bool := x.comb == 0 && (x.conn.isNone || x.remoteSrc)

/-- Whether an earlier write of the same stream to a common unit has not landed (R180). -/
def blockedBy (xs : List Xfer) (i : Nat) (x : Xfer) : Bool :=
  (xs.take i).any (fun y => y.ctx == x.ctx && y.q == x.q && y.plain && x.plain &&
    y.targets.any (fun a => x.targets.any (fun b => unitsMeet a y.size b x.size)))

/-- What one destination of a transfer meets: for a multicast, a parity error is met by the receivers named. -/
def Xfer.metAt (x : Xfer) (err : LandErr) (d : Option Nat) : LandErr :=
  match err, d with
  | .parity ds _, some e => if x.mc && !ds.any (fun y => y.val == e) then .none else err
  | _, _ => err

/-- Store one run of a landed transfer at one of its destinations (R179, R184, R257). -/
def State.landAt (s : State) (c : Nat) (x : Xfer) (w : Wr) (a : Nat) (err : LandErr) : State :=
  let met := x.metAt err (s.tileOf a)
  let s1 := (s.storeMet { w with bytes := s.keepNibbles x w a } a met (if x.mc then 1 else 4)
    (some (s.opRef x.q x.idx (if x.ctx = 0 then x.tile else 0xFFFF))) (s.wayOf c a)).stageNote c x.q x.ctx a w.bytes.length
  if landHurts a w.bytes.length met then s1.modCtx c x.ctx (fun y => { y with pois := true }) else s1

/-- The runs of bytes a transfer lands: what it carries, or what has come back to it. -/
def Xfer.runs (x : Xfer) : List Wr := if x.remoteSrc then x.got.map (·.2) else [x.wr]

/-- The data that came back to a transfer joined in the order of their addresses. -/
def Xfer.joined (x : Xfer) : Wr :=
  let ws := (x.got.map (·.2)).mergeSort (fun a b => decide (a.addr ≤ b.addr))
  { addr := x.wr.addr, bytes := ws.flatMap (·.bytes), pz := (ws.flatMap (·.pz)).eraseDups }

/-- The packets whose data a transfer held count as applied (R341). -/
def State.gotApplied (s : State) (x : Xfer) : State :=
  match x.conn with
  | some c => x.got.foldl (fun t g => t.combineApplied c g.1) s
  | none => s

/-- Data that came back for a combine go to the atomic units (R203, R205): the transfer is then one that they will apply, and no longer one of its
connection. -/
def State.landToUnits (s : State) (c : Nat) (x : Xfer) : State :=
  let w := x.joined
  let tag := s.nextTag
  let s0 : State := { s with nextTag := tag + 1 }
  let s1 := s0.modCore c (fun k => { k with xfers := k.xfers.map (fun y =>
    if y.tag == x.tag then { y with wr := w, got := [], remoteSrc := false, ready := false, conn := none, tag := tag } else y) })
  let s2 := if x.comb % 16 = 8 then s1.modRun x.q (fun r => { r with ni := true }) else s1
  (s2.gotApplied x).queueCombine x.comb w (.xfer x.q c tag)

/-- TRANSFER_LANDED (R179, R180, R256): transfer i of a core. DESIGN CHOICE (log entry 95): the BYTES of a multicast stream's handle count once for
each receiver, as STR_BYTES_WR does (R189, R195). -/
def transferLanded (c i : Nat) (err : LandErr) (s : State) : State :=
  let k := s.core c
  match k.xfers[i]? with
  | none => s
  | some x =>
    let waits := x.conn.isSome || x.comb != 0
    if (waits && !x.ready) || blockedBy k.xfers i x then s
    else if x.remoteSrc && x.comb != 0 then
      if !s.combRoom (Comb.ofNat x.comb) x.wr.addr x.rd then s
      else s.landToUnits c x
    else
      let n := x.size
      let tile := if x.ctx = 0 then x.tile else 0xFFFF
      let s1 := s.modCore c (fun k => { k with xfers := k.xfers.eraseIdx i })
      if !x.plain then
        let s2 := if x.conn.isNone then s1.stageNote c x.q x.ctx x.wr.addr n else s1
        (s2.fc F.STR_BYTES_WR.BYTES n c).modCtx c x.ctx (fun y => { y with bytes := y.bytes + n })
      else if !x.mc && s1.refused x.wr.addr n then
        ((((s1.decodeErr).descError x.q (if x.ctx = 0 then 0xFFFF else x.idx) x.wr.addr).undef x.q x.idx tile)).gotApplied x
      else if !x.targets.all (fun a => s.pathOk c a n) then s
      else
        let s2 := x.targets.foldl (fun t a => x.runs.foldl (fun u w => u.landAt c x w (a + (w.addr - x.wr.addr)) err) t) s1
        let s3 := ((s2.gotApplied x).fc F.STR_BYTES_WR.BYTES (n * x.targets.length) c).modCtx c x.ctx (fun y =>
          { y with bytes := y.bytes + n * x.targets.length })
        match x.fetch with
        | some id => (s3.readLanded c id x.src n err).fetchLanded c id
        | none => s3

/-! ### The end of a stream -/

/-- Whether every transfer of a context has landed and it will issue no more (R176, R181). -/
def State.streamDone (s : State) (c x : Nat) : Bool :=
  let k := s.core c
  let cx := k.context x
  x != 0 && cx.q.isSome && !cx.posted && cx.cur.isNone && !(k.xfers.any (fun y => y.ctx == x)) &&
  (cx.ended || (cx.buf.isEmpty && (cx.bad.isSome || decide (cx.count ≤ cx.next))))

/-- STREAM_END (R176, R177, R181): for context 0 there is nothing to post; `met` is what the code finds in the unit that the handle is written
into (R257). -/
def streamEnd (c x : Nat) (met : List (Nat × Ecc)) (s : State) : State :=
  if !s.streamDone c x || !s.mayPost c x then s
  else
    let cx := (s.core c).context x
    match cx.q with
    | none => s
    | some q =>
      if !(s.run q).ready then s
      else
        let s1 := match cx.bad, decide (cx.count ≤ cx.next) || cx.ended with
          | some (i, code), false => s.stopStream c x q i (cx.list + 128 * i) code
          | _, _ => s
        (s1.postMet c x met).closeStream c x

/-- HANDLE_POST (R190): a handle that waited for room; `met` as at STREAM_END. -/
def handlePost (c x : Nat) (met : List (Nat × Ecc)) (s : State) : State :=
  match ((s.core c).context x).handle with
  | some h => if s.mayPost c x then (s.postMet c x met).postHandle c x h.1 h.2 else s
  | none => s

/-! ### Meanings -/

def execStream (q : BitVec 16) (s : State) : Host.Outcome State Fault Refusal := .next (streamSetup q.toNat s)
def execDescriptorBatchRead (c : Fin 96) (x : Fin 3) (read : ReadErr) (s : State) : Host.Outcome State Fault Refusal :=
  .next (batchRead c.val (x.val + 1) read s)
def execStrided (c : Fin 96) (x : Fin 3) (s : State) : Host.Outcome State Fault Refusal :=
  .next (takeDesc [0, 1, 5, 6, 7, 8, 9, 10, 11, 12, 13, 14, 15] c.val (x.val + 1) [] s)
def execConvert (c : Fin 96) (x : CtxAt) (s : State) : Host.Outcome State Fault Refusal :=
  .next (takeDesc [2] c.val (x.ctx.val + 1) (unitList x.met) s)
def execGather (c : Fin 96) (x : Fin 3) (s : State) : Host.Outcome State Fault Refusal := .next (takeDesc [3] c.val (x.val + 1) [] s)
def execScatter (c : Fin 96) (x : Fin 3) (s : State) : Host.Outcome State Fault Refusal := .next (takeDesc [4] c.val (x.val + 1) [] s)
def execTransferIssue (c : Fin 96) (x : Fin 4) (met : IssueMet) (s : State) : Host.Outcome State Fault Refusal :=
  .next (transferIssue c.val x.val met.err met.aux s)
def execTransferLanded (c : Fin 96) (x : Nat) (err : LandErr) (s : State) : Host.Outcome State Fault Refusal :=
  .next (transferLanded c.val x err s)
def execStreamEnd (c : Fin 96) (x : EndAt) (s : State) : Host.Outcome State Fault Refusal :=
  .next (streamEnd c.val x.ctx.val (unitList x.met) s)
def execHandlePost (c : Fin 96) (x : CtxAt) (s : State) : Host.Outcome State Fault Refusal :=
  .next (handlePost c.val (x.ctx.val + 1) (unitList x.met) s)

end Sys2Proof.Machine
end

