-- ==== Sys2Proof/Machine/Combine.lean ====
section
/-! DEFINITION. The memory-side atomic units (R201 to R214, R264 to R266): each command takes the next 64-byte unit of the request at the
head of an atomic unit's queue, a whole record run for TOPK. -/

namespace Sys2Proof.Machine

/-- What a combine of one piece writes: its bytes and marks at one or two places, and its events (R64, R65). -/
structure CombRes where
  wrs : List (Wr × Bool) := []
  ev : Ev := {}
  deriving DecidableEq, Repr

/-- A 64-byte unit marked, with data 0 (R207). -/
def markedUnit (u : Nat) : Wr × Bool := ({ addr := u * 64, bytes := List.replicate 64 0 }, true)

/-- Element i of a run of n-byte elements, as a number. -/
def elemAt (n : Nat) (bs : List Byte) (i : Nat) : Nat := leNat ((bs.drop (n * i)).take n)

/-- ADD256 on one 64-byte unit (R208): each 32-byte addend modulo 2^256. -/
def State.add256 (s : State) (w : Wr) : CombRes :=
  let u := w.addr / 64
  if s.mark u || !w.pz.isEmpty then { wrs := [markedUnit u] }
  else
    { wrs := [({ addr := w.addr, bytes := (List.range (w.bytes.length / 32)).flatMap (fun i =>
        leBytes 32 ((s.le (w.addr + 32 * i) 32 + elemAt 32 w.bytes i) % 2 ^ 256)) }, false)] }

/-- ADD32S on one 64-byte value unit and its two carry units (R209, R210). -/
def State.add32s (s : State) (c : Comb) (w : Wr) : CombRes :=
  let u := w.addr / 64
  let cu := combKey c (u * 64) / 64
  if s.mark u || s.mark cu || s.mark (cu + 1) || !w.pz.isEmpty then { wrs := [markedUnit u, markedUnit cu, markedUnit (cu + 1)] }
  else
    let ca := combKey c w.addr
    let xs := (List.range (w.bytes.length / 4)).map (fun i =>
      (s.le (ca + 8 * i) 8 + tcBits 64 (sext 32 (elemAt 4 w.bytes i))) % 2 ^ 64)
    let vs := xs.map (fun x => clampInt (-(2 ^ 31 : Int)) (2 ^ 31 - 1) (sext 64 x))
    { wrs := [({ addr := ca, bytes := xs.flatMap (leBytes 8) }, false),
              ({ addr := w.addr, bytes := vs.flatMap (fun v => leBytes 4 (tcBits 32 v)) }, false)]
      ev := { saturated := ((xs.zip vs).filter (fun p => decide (sext 64 p.1 ≠ p.2))).length } }

/-- MAX32 and MIN32 on one 64-byte unit (R207, R211). DEDUCED (log entry 99): a poisoned target element is excluded and counted as R60 says. -/
def State.cmp32 (s : State) (mx : Bool) (w : Wr) : CombRes :=
  let u := w.addr / 64
  let ev : Ev := if s.mark u then { poisoned := w.bytes.length / 4, fmt := 0x80 } else {}
  if !w.pz.isEmpty then { ev := ev }
  else if s.mark u then { wrs := [(w, false)], ev := ev }
  else
    { wrs := [({ addr := w.addr, bytes := (List.range (w.bytes.length / 4)).flatMap (fun i =>
        let t := sext 32 (s.le (w.addr + 4 * i) 4)
        let d := sext 32 (elemAt 4 w.bytes i)
        leBytes 4 (tcBits 32 (if mx then max t d else min t d))) }, false)] }

/-- The FP32 bits a zero result or a winner is written as (R55). -/
def fpWrite (bits : Nat) : Nat := if bitsOf bits 0 31 = 0 then 0 else bits

/-- An FP element as a combine reads it: poisoned where its unit is marked (R53, R207). -/
def fpSide (f : Fmt) (marked : Bool) (bits : Nat) : Rd := if marked then { v := .bad 3 } else readFp f.fracBits false bits

/-- One element of MAXF or MINF (R207, R211), of target t and addend d: its bits and events. -/
def cmpf1 (f : Fmt) (mx : Bool) (tm dm : Bool) (t d : Nat) : Nat × Ev :=
  let x := fpSide f tm t
  let y := fpSide f dm d
  let fl := Nat.lor x.fl y.fl
  match x.v, y.v with
  | .num a, .num b => (if (if mx then a < b else b < a) then fpWrite d else fpWrite t, { fmt := fl })
  | .num _, .bad _ => (fpWrite t, { fmt := fl })
  | .bad _, .num _ => (fpWrite d, { poisoned := 1, fmt := Nat.lor fl 0x80 })
  | .bad _, .bad _ => (poisonBits f 4, { poisoned := 1, fmt := Nat.lor fl 0xC0 })

/-- MAXF and MINF on one 64-byte unit (R207, R211): after the combine the unit carries no mark. -/
def State.cmpf (s : State) (mx : Bool) (w : Wr) : CombRes :=
  let es := (List.range (w.bytes.length / 4)).map (fun i =>
    cmpf1 .fp32 mx (s.mark (w.addr / 64)) (!w.pz.isEmpty) (s.le (w.addr + 4 * i) 4) (elemAt 4 w.bytes i))
  { wrs := [({ addr := w.addr, bytes := es.flatMap (fun e => leBytes 4 e.1) }, false)], ev := Ev.sum (es.map (·.2)) }

/-- One element of ADDF (R207, R214): a poisoned side makes the element poisoned, written as R57's NaN. -/
def addf1 (f : Fmt) (dm : Bool) (t d : Nat) : Nat × Ev :=
  let x := fpSide f false t
  let y := fpSide f dm d
  let fl : Ev := { fmt := Nat.lor x.fl y.fl }
  match x.v, y.v with
  | .num a, .num b => (let e := encodeFp (f.fracBits + 1) false (roundQ .near) (a + b); (e.1, fl.add e.2.ev))
  | _, _ => (poisonBits f 4, fl.add Mk.poison.ev)

/-- ADDF on one 64-byte unit or a part of it (R207, R214), of FP32 elements or, in a collective, BF16 ones (R382). -/
def State.addf (s : State) (f : Fmt) (w : Wr) : CombRes :=
  let n := f.bits / 8
  let m := w.bytes.length / n
  if s.mark (w.addr / 64) then { wrs := [markedUnit (w.addr / 64)], ev := { poisoned := m, fmt := 0x40 } }
  else
    let es := (List.range m).map (fun i => addf1 f (!w.pz.isEmpty) (s.le (w.addr + n * i) n) (elemAt n w.bytes i))
    { wrs := [({ addr := w.addr, bytes := es.flatMap (fun e => leBytes n e.1) }, false)], ev := Ev.sum (es.map (·.2)) }

/-- The records of a run as a merge reads them, vacant places left out (R125, R212): each with its value and flags. -/
def recordsOf (f : Fmt) (bs : List Byte) (ok : Nat → Bool) : List (TopRec × Rd) :=
  (List.range (bs.length / 16)).filterMap (fun i =>
    if !ok i then none else (readTop ((bs.drop (16 * i)).take 16)).map (fun r => (r, r.rd f)))

/-- The records that may be candidates, each with its value. -/
def candidates (rs : List (TopRec × Rd)) : List (TopRec × Rat) :=
  rs.filterMap (fun p => match p.2.v with
    | .num v => some (p.1, v)
    | .bad _ => none)

/-- Insert a record in rank order (R58, R59), one of each equal POS and value (R212). -/
def rankIns (c : TopRec × Rat) : List (TopRec × Rat) → List (TopRec × Rat)
  | [] => [c]
  | d :: ds =>
    if c.1.pos = d.1.pos ∧ c.2 = d.2 then d :: ds
    else if maxWins (c.2, c.1.pos) (d.2, d.1.pos) then c :: d :: ds
    else d :: rankIns c ds

/-- TOPK on one run (R212): the first k of the union in rank order, the rest vacant. DESIGN CHOICE (log entry 98): a record is written with its VALUE's
bits as they were, also where they are those of -0, which R55 never writes as a result. -/
def State.topkMerge (s : State) (c : Comb) (w : Wr) : CombRes :=
  let f := (Fmt.ofCode c.vfmt).getD .int8
  let n := w.bytes.length
  let target := recordsOf f (s.bytes w.addr n) (fun i => !s.mark ((w.addr + 16 * i) / 64))
  let addend := recordsOf f w.bytes (fun i => !w.pz.contains ((w.addr + 16 * i) / 64))
  let lost := (target.filter (fun p => p.2.v.isBad)).length
  let best := ((candidates target ++ candidates addend).foldl (fun l r => rankIns r l) []).take c.k
  { wrs := [({ addr := w.addr, bytes := best.flatMap (fun r => r.1.bytes) ++
      (List.replicate (c.k - best.length) (vacantBytes f 0)).flatten }, false)]
    ev := { poisoned := lost, fmt := Nat.lor ((target ++ addend).foldl (fun a p => Nat.lor a p.2.fl) 0) (if lost = 0 then 0 else 0x80) } }

/-- What one piece of a combine does to its target, and the events that rest on the target (R202). -/
def State.combineAt (s : State) (c : Comb) (w : Wr) : CombRes :=
  match c.op with
    | 1 => s.add256 w
    | 2 => s.add32s c w
    | 3 => s.cmp32 true w
    | 4 => s.cmp32 false w
    | 5 => s.cmpf true w
    | 6 => s.cmpf false w
    | 7 => s.topkMerge c w
    | _ => s.addf .fp32 w

/-- What one piece of a combine does, with the events of its addends (R207). -/
def State.combine (s : State) (c : Comb) (w : Wr) : CombRes :=
  let r := s.combineAt c w
  if c.op = 8 then r else { r with ev := r.ev.add (addendEv c w) }

/-- What a combine of a piece that came on a connection tells its sender (R207, R210, R214): the events beyond those of the addends, which the sender has
counted. -/
def State.combineFar (s : State) (c : Comb) (w : Wr) : Ev :=
  let e := (s.combineAt c w).ev
  if c.op = 8 then { e with poisoned := e.poisoned - addendPoison c w } else e

/-- Store what a combine wrote: a TOPK, MAX, MIN, MAXF or MINF result clears the marks of the units it wrote; an ADD leaves them clear
(R207). -/
def State.combStore (s : State) (w : Wr × Bool) : State :=
  let us := unitsOf w.1.addr w.1.bytes.length
  let s1 := s.store w.1.addr w.1.bytes
  { s1 with marks := us.foldl (fun m u => smPut (fun _ => false) m u w.2) s1.marks }

/-- The units an uncorrectable read leaves marked (R207): the target unit, for ADD32S its carry units too, for TOPK one of the run's
units, a free value. -/
def State.combUnits (s : State) (c : Comb) (w : Wr) : List Nat × State :=
  let u := w.addr / 64
  if c.op = 2 then (let cu := combKey c (u * 64) / 64; ([u, cu, cu + 1], s))
  else if c.op = 7 then (let f := s.free; ([u + f.1 % (unitsOf w.addr w.bytes.length).length], f.2))
  else ([u], s)

/-- A combine's sender and the operation its error record names. -/
def State.homeOp (s : State) (h : CombHome) : Option OpRef :=
  match h with
  | .xfer q _ _ => some (s.opRef q)
  | _ => none

/-- The read of a target was uncorrectable (R207): its addend is discarded and the sender's command says so; a sender on another device is told (log
entry 68). -/
def State.combUe (s : State) (c : Comb) (r : CombReq) (w : Wr) : State :=
  let us := s.combUnits c w
  let s1 := (us.2.dramRead (us.1.headD 0 * 64) .uncorrectable (s.homeOp r.home) true).1
  let s2 := us.1.foldl (fun t u => t.combStore (markedUnit u)) s1
  match r.home with
  | .xfer q core tag =>
    let s3 := s2.fail q stUncorrectable
    match (s3.core core).xfers.find? (fun x => x.tag == tag) with
    | some x => s3.undef q x.idx (if x.ctx = 0 then x.tile else 0xFFFF)
    | none => s3
  | .conn k psn => s2.emit (.combined k psn 0 0 0 true)
  | .none => s2

/-- Every piece of a combine has been applied: its transfer may land, or its packet counts as applied (R205). -/
def State.combDone (s : State) (h : CombHome) : State :=
  if s.units.any (fun p => p.2.any (fun r => r.home == h)) then s
  else
    match h with
    | .xfer q core tag => s.xferReady (.xfer q core tag)
    | .conn c psn => s.combineApplied c psn
    | .none => s

/-- One step of atomic unit u on a request of operation `op` (R205): the next 64-byte unit, or the whole run of a TOPK. A held
pseudo-channel or a block reset of the stack makes it wait (R266). Its events go to the command and the core that sent it; a sender on another device is told of those that rest on the
target (log entry 68). -/
def atomStep (op u : Nat) (found : Ecc) (s : State) : State :=
  match s.unitQ u with
  | [] => s
  | r :: rest =>
    let c := Comb.ofNat r.comb
    if c.op ≠ op ∨ s.memHeld r.wr.addr = true ∨ s.memHeld (combKey c r.wr.addr) = true then s
    else
      let n := if op = 7 then r.wr.bytes.length else min r.wr.bytes.length (64 - r.wr.addr % 64)
      let w : Wr := { addr := r.wr.addr, bytes := r.wr.bytes.take n,
                      pz := if op = 7 then r.wr.pz else r.wr.pz.filter (fun p => p == r.wr.addr / 64) }
      let s1 := match found with
        | .uncorrectable => s.combUe c r w
        | e =>
          let t := (s.dramRead w.addr e (s.homeOp r.home) true).1
          let x := t.combine c w
          let t1 := x.wrs.foldl State.combStore t
          match r.home with
          | .xfer q core _ => t1.events core q x.ev
          | .conn k psn =>
            let e := t.combineFar c w
            if e = ({} : Ev) then t1 else t1.emit (.combined k psn e.poisoned e.saturated e.fmt false)
          | .none => t1
      let left := r.wr.bytes.drop n
      if left.isEmpty then ((s1.setUnitQ u rest).fc F.MEM_ATOM.REQUESTS 1 (u / 8) (u % 8)).combDone r.home
      else s1.setUnitQ u ({ r with wr := { addr := r.wr.addr + n, bytes := left, pz := r.wr.pz } } :: rest)

/-! ### Meanings -/

def execAdd256 (u : Fin 64) (e : Ecc) (s : State) : Host.Outcome State Fault Refusal := .next (atomStep 1 u.val e s)
def execAdd32s (u : Fin 64) (e : Ecc) (s : State) : Host.Outcome State Fault Refusal := .next (atomStep 2 u.val e s)
def execMax32 (u : Fin 64) (e : Ecc) (s : State) : Host.Outcome State Fault Refusal := .next (atomStep 3 u.val e s)
def execMin32 (u : Fin 64) (e : Ecc) (s : State) : Host.Outcome State Fault Refusal := .next (atomStep 4 u.val e s)
def execMaxf (u : Fin 64) (e : Ecc) (s : State) : Host.Outcome State Fault Refusal := .next (atomStep 5 u.val e s)
def execMinf (u : Fin 64) (e : Ecc) (s : State) : Host.Outcome State Fault Refusal := .next (atomStep 6 u.val e s)
def execTopk (u : Fin 64) (e : Ecc) (s : State) : Host.Outcome State Fault Refusal := .next (atomStep 7 u.val e s)
def execAddf (u : Fin 64) (e : Ecc) (s : State) : Host.Outcome State Fault Refusal := .next (atomStep 8 u.val e s)

end Sys2Proof.Machine
end

