-- ==== Sys2Proof/Machine/Host.lean ====
section
/-! DEFINITION. Host ports (chapter 13): session control, discovery frames, pauses, and the links of the ports. -/

namespace Sys2Proof.Machine

/-! ### Handshakes (R404 to R407) -/

/-- Handshakes, rejections and certificates of a port so far in the present second (R407). -/
def State.hsCount (s : State) (p : Nat) : Nat :=
  let w := smGet (fun _ => (0, 0)) s.hsWin p
  if w.1 = s.usSecond then w.2 else 0

/-- Whether the port's handshake rate is used up. -/
def State.hsFull (s : State) (p : Nat) : Bool := decide (s.fg F.ETH_HS.HS_RATE p ≤ s.hsCount p)

/-- Count one against the rate. -/
def State.hsTake (s : State) (p : Nat) : State := { s with hsWin := smPut (fun _ => (0, 0)) s.hsWin p (s.usSecond, s.hsCount p + 1) }

/-- Send a REJECT to its sender if the rate allows (R405, R407). `sess` is the slot it concerns, 0xFFFF for none. -/
def State.reject (s : State) (p sess status mac ip : Nat) : State :=
  if s.hsFull p then s
  else (s.hsTake p).emit (.host p sess kReject [status] [] (s.ethTx p mac ip (scHeader kReject 1 sess 8 status)))

/-- The slots of a port that are in handshake. -/
def State.inHandshake (s : State) (p : Nat) : Nat :=
  ((s.sess.map (·.1)).filter (fun n => n / 512 == p && s.sg F.ETH_SESS.STATE n == 1)).length

/-- The lowest free slot of a port (R405): fuel counts the slots left to look at. -/
def State.freeSess (s : State) (p : Nat) : Option Nat :=
  ((List.range 512).map (fun i => p * 512 + i)).find? (fun n => s.sg F.ETH_SESS.STATE n == 0)

/-- Why an INIT is rejected (R405): 1 unknown key, 4 malformed. -/
def State.initFault (s : State) (m : InitMsg) : Option Nat :=
  if m.version ≠ 1 ∨ m.length.toNat ≠ 147 then some 4
  else if ¬ (m.keyidx.toNat < 16 ∧ s.fb F.MGT_HOSTKEY.EN m.keyidx.toNat = true) then some 1
  else if m.qhValid = false ∨ m.mtu.toNat < 3 ∨ 5 < m.mtu.toNat ∨ m.ackt.toNat < 8 ∨ 20 < m.ackt.toNat then some 4
  else none

/-- The bytes of INIT and, up to HSIG, of FINISH (R404). DEDUCED: a host sends STATUS 0 (log entry 78). -/
def initBytes (m : InitMsg) : List Byte :=
  scHeader 1 m.version.toNat 0xFFFF m.length.toNat ++ beBytes 32 m.hrand.toNat ++ beBytes 97 m.qh.toNat ++ beBytes 2 m.keyidx.toNat ++
    beBytes 3 m.hqpn.toNat ++ beBytes 3 m.hpsn.toNat ++ [m.mtu, m.ackt]
def finishBytes (n : Nat) (m : FinishMsg) : List Byte := scHeader 3 m.version.toNat n m.length.toNat ++ beBytes 96 m.hsig.toNat

/-- HKDF-Expand with SHA-384 under an ASCII label, of at most 48 bytes (R406, R410). -/
def hkdfExpand (prk : List Byte) (label : String) (n : Nat) : List Byte :=
  (beBytes 48 (Config.hmac384 prk (label.toList.map (fun c => BitVec.ofNat 8 c.toNat) ++ [1])).toNat).take n

/-- The session values of a PRK (R406). -/
def SessKeys.ofPrk (prk : List Byte) : SessKeys :=
  { prk := prk
    h2dKey := hkdfExpand prk "tdr h2d key" 32
    d2hKey := hkdfExpand prk "tdr d2h key" 32
    h2dIv := hkdfExpand prk "tdr h2d iv" 4
    d2hIv := hkdfExpand prk "tdr d2h iv" 4 }

/-- The next phase's values (R410). -/
def SessKeys.next (k : SessKeys) : SessKeys := SessKeys.ofPrk (hkdfExpand k.prk "tdr rekey" 48)

/-- The values a FINISH opens a session with (R406): Z from both ephemeral keys, H over the messages up to HSIG. -/
def Handshake.keys (h : Handshake) (n : Nat) (m : FinishMsg) : SessKeys :=
  let salt := beBytes 48 (Config.sha384 (h.msgs ++ finishBytes n m)).toNat
  SessKeys.ofPrk (beBytes 48 (Config.hmac384 salt (beBytes 48 (Config.ecdhX h.eph h.qh).toNat)).toNat)

/-- Whether CONF holds under the keys derived from it (R406). -/
def Handshake.confOk (h : Handshake) (n : Nat) (m : FinishMsg) : Bool :=
  Config.confTag (h.keys n m).h2dKey (h.keys n m).h2dIv == m.conf

/-- A signature of the device identity key over the SHA-384 of a message (R440); the number ECDSA draws is a free value. -/
def State.signed (s : State) (msg : List Byte) : State × List Byte :=
  let a := s.free
  (a.2, beBytes 96 (Config.ecdsaSign (s.mg.idKey.getD 0) a.1 (Config.sha384 msg)).toNat)

/-- REPLY up to CERTDIG (R404, R405). -/
def replyBytes (chain : List Byte) (n drand eph dpsn rkey : Nat) : List Byte :=
  scHeader 2 1 n 291 ++ beBytes 32 drand ++ beBytes 97 (Config.ecPoint eph).toNat ++ beBytes 3 (0x100 + n) ++ beBytes 3 dpsn ++
    beBytes 4 rkey ++ beBytes 48 (Config.sha384 chain).toNat

/-- A valid INIT takes a slot and is answered with REPLY (R405), signed with the identity key: DPSN, RKEY, DRAND and the device's ephemeral key
are free values. -/
def State.takeInit (s : State) (p n : Nat) (m : InitMsg) : State :=
  let a := s.free
  let b := a.2.free
  let c := b.2.free
  let d := c.2.free
  let dpsn := a.1 % 2 ^ 24
  let rkey := b.1 % 2 ^ 32
  let body := replyBytes s.mg.flash.chain n c.1 d.1 dpsn rkey
  let sig := d.2.signed (initBytes m ++ body)
  let x : SessSt :=
    { used := true
      srcMac := m.srcMac.toNat
      srcIp := m.srcIp.toNat
      keyidx := m.keyidx.toNat
      rkey := rkey
      ackt := m.ackt.toNat
      ePsn := m.hpsn.toNat
      dPsn := dpsn
      hs := some { eph := d.1, qh := beBytes 97 m.qh.toNat, msgs := initBytes m ++ body ++ sig.2 } }
  let s1 := sig.1.setSes n x
  let s2 := ((s1.ss F.ETH_SESS.STATE 1 n).ss F.ETH_SESS.REMOTE_QPN m.hqpn.toNat n).ss F.ETH_SESS.PMTU
    (min m.mtu.toNat (s.fg F.ETH_CTL.MTU p)) n
  s2.emit (.host p n kReply [0x100 + n, dpsn, rkey] (body ++ sig.2) (s2.ethTx p m.srcMac.toNat m.srcIp.toNat (body ++ sig.2)))

/-- INIT (R405, R407). -/
def initMsg (p : Nat) (m : InitMsg) (s : State) : State :=
  if !s.portTakes p then s
  else if s.hsFull p || decide (8 ≤ s.inHandshake p) then s.fc F.ETH_SEAL.HS_LIMITED 1 p
  else
    match s.initFault m with
    | some why => s.reject p 0xFFFF why m.srcMac.toNat m.srcIp.toNat
    | none =>
      match s.freeSess p with
      | none => s.reject p 0xFFFF 3 m.srcMac.toNat m.srcIp.toNat
      | some n => (s.hsTake p).takeInit p n m

/-- Whether a FINISH holds against a session's handshake (R405): its signature, and CONF under the keys derived. -/
def State.finishOk (s : State) (n : Nat) (m : FinishMsg) (sigOk : Bool) : Bool :=
  sigOk && (match (s.ses n).hs with
  | some h => h.confOk n m
  | none => false)

/-- A session opens under the identity of its key, with its keys derived and both ephemeral keys erased (R405, R406). -/
def State.openSess (s : State) (n : Nat) (m : FinishMsg) : State :=
  let s0 := s.modSes n (fun x => { x with keys := (x.hs.map (fun h => h.keys n m)).getD {}, hs := none })
  let s1 := ((s0.ss F.ETH_SESS.STATE 2 n).ss F.ETH_SESS.IDENTITY (s.fg F.MGT_HOSTKEY.IDENTITY (s.ses n).keyidx) n).ss F.ETH_SESS.RATE
    (ethCeiling (s.fg F.ETH_STATUS.RATE (n / 512))) n
  s1.showSess (n / 512)

/-- FINISH (R405): 8 + 96 + 16 bytes. -/
def finish (n : Nat) (m : FinishMsg) (sigOk : Bool) (s : State) : State :=
  if s.sg F.ETH_SESS.STATE n ≠ 1 ∨ s.portTakes (n / 512) = false then s
  else if m.version ≠ 1 ∨ m.length.toNat ≠ 120 then (s.freeSlot n).reject (n / 512) n 4 (s.ses n).srcMac (s.ses n).srcIp
  else if s.finishOk n m sigOk then s.openSess n m
  else (s.freeSlot n).reject (n / 512) n 2 (s.ses n).srcMac (s.ses n).srcIp

/-- HANDSHAKE_TIMEOUT (R405). -/
def handshakeTimeout (n : Nat) (s : State) : State := if s.sg F.ETH_SESS.STATE n = 1 then s.freeSlot n else s

/-- The answer to a CERT_REQ (R404, R441): the bytes of the chain from OFFSET on, as many as there are up to LEN. -/
def State.certWire (s : State) (offset len : Nat) : List Byte :=
  let bs := (s.mg.flash.chain.drop offset).take len
  scHeader kCert 1 0xFFFF (14 + bs.length) ++ beBytes 4 offset ++ beBytes 2 bs.length ++ bs

/-- CERT_REQ (R404, R407): 14 bytes. -/
def certReq (p : Nat) (c : CertAsk) (len mac : Nat) (s : State) : State :=
  if !s.portTakes p then s
  else if c.version ≠ 1 ∨ c.length.toNat ≠ 14 ∨ 1024 < len then s.reject p 0xFFFF 4 mac c.srcIp.toNat
  else if s.hsFull p then s
  else
    let bs := (s.mg.flash.chain.drop c.offset.toNat).take len
    (s.hsTake p).emit (.host p 0xFFFF kCert [c.offset.toNat, bs.length] bs (s.ethTx p mac c.srcIp.toNat (s.certWire c.offset.toNat len)))

/-! ### Open sessions (R410, R411) -/

/-- A sealed session-control message of the host, of `len` bytes, passes the checks of R409 under the current phase. One with another header is
dropped (log entry 78). -/
def State.opensCtl (s : State) (n : Nat) (m : CtlMsg) (len : Nat) (tagOk : Bool) : State × Bool :=
  if !s.portTakes (n / 512) || m.version != 1 || m.length.toNat != len then (s, false)
  else s.opens (n / 512) (some n) (s.sg F.ETH_SESS.KPHASE n == 1) m.ctr.toNat tagOk (s.ses n).srcMac (s.ses n).srcIp

/-- REKEY (R410), of 30 bytes: the answer is sealed under the old phase; counters restart in each direction. -/
def rekey (n : Nat) (m : CtlMsg) (tagOk : Bool) (s : State) : State :=
  let r := s.opensCtl n m 30 tagOk
  if !r.2 then r.1
  else
    let s1 := r.1.seal n kRekeyAck [1] []
    if !s1.sessOpen n then s1
    else
      let s2 := s1.modSes n (fun x => { x with
        old := some x.rx
        oldKeys := some x.keys
        keys := x.keys.next
        rx := {}
        newSeen := false
        rekeys := x.rekeys + 1 })
      ((s2.ss F.ETH_SESS.KPHASE (1 - s.sg F.ETH_SESS.KPHASE n) n).ss F.ETH_SESS.REKEY_DUE 0 n).ss F.ETH_SESS.TX_CTR 0 n

/-- OLD_PHASE_EXPIRY (R411): only once the new phase's first packet has come. -/
def oldPhaseExpiry (n : Nat) (s : State) : State :=
  if (s.ses n).newSeen then s.modSes n (fun x => { x with old := none, oldKeys := none, newSeen := false }) else s

/-- CLOSE (R411), of 31 bytes. -/
def close (n : Nat) (m : CtlMsg) (tagOk : Bool) (s : State) : State :=
  let r := s.opensCtl n m 31 tagOk
  if r.2 then r.1.freeSlot n else r.1

/-- A write of word 0 of a session's register (R427). -/
def State.writeSess0 (s : State) (n v : Nat) : State :=
  if bitOf v 36 && s.sessOpen n then s.closeSess n true else s

/-- Word 0 of a session's register, and its address. -/
def sessKey (n : Nat) : RegKey := ⟨.ETH_SESS_W0, n / 512, n % 512, 0⟩
def sessAddr (n : Nat) : Nat := (sessKey n).addr

/-- Send again everything the host has not acknowledged (R413). -/
def State.mirrorAgain (s : State) (n : Nat) (rnr : Bool) : State :=
  let x := s.ses n
  let k := x.tx.length
  let s1 := s.setSes n { x with tx := x.tx.map (fun t => if rnr then { t with rnr := t.rnr + 1 } else { t with tries := t.tries + 1 }) }
  let s2 := (s1.fc F.ETH_ROCE.RETX k (n / 512)).fc F.ETH_SESS.RETX k (n / 512) (n % 512)
  x.tx.foldl (fun t m => if t.sessOpen n then t.seal n 0x10A [m.psn, m.va, m.bytes.length] m.bytes else t) s2

/-- Retry what is unacknowledged, or close the session once the retries, or those after an RNR NAK, are used up (R413, R421). -/
def State.mirrorRetry (s : State) (n : Nat) (rnr : Bool := false) : State :=
  if (s.ses n).tx.any (fun t => decide (7 ≤ if rnr then t.rnr else t.tries)) then s.freeSlot n else s.mirrorAgain n rnr

/-- ACK_TIMEOUT (R413): retries wait while the link is down (R421). -/
def ackTimeout (n : Nat) (s : State) : State :=
  if s.sessOpen n = true ∧ s.portUp (n / 512) = true ∧ (s.ses n).tx ≠ [] then s.mirrorRetry n else s

/-- Everything up to a PSN is acknowledged. -/
def State.mirrorAcked (s : State) (n psn : Nat) : State :=
  s.modSes n (fun x => { x with tx := x.tx.filter (fun t => decide (2 ^ 23 ≤ (psn + 2 ^ 24 - t.psn) % 2 ^ 24)) })

/-- ACKNOWLEDGE (R412, R413): an acknowledgement, an RNR NAK, a sequence error, or a NAK that ends the session. -/
def acknowledge (port : Nat) (p : Roce) (s : State) : State :=
  if p.opcode ≠ 0x11 then s
  else
    let r := s.openRoce port p
    match r.2 with
    | none => r.1
    | some n =>
      let syn := p.syndrome.toNat
      let psn := p.psn.toNat
      if p.pkey ≠ 0xFFFF then r.1.nakClose n psn synInvalid
      else
        match syn / 32 with
        | 0 => r.1.mirrorAcked n psn
        | 1 => (r.1.mirrorAcked n ((psn + 2 ^ 24 - 1) % 2 ^ 24)).mirrorRetry n true
        | 3 => if syn = synSeq then (r.1.mirrorAcked n ((psn + 2 ^ 24 - 1) % 2 ^ 24)).mirrorRetry n else r.1.freeSlot n
        | _ => r.1

/-- ROCE_CNP (R419). -/
def roceCnp (port : Nat) (p : Roce) (s : State) : State :=
  if p.opcode ≠ 0x81 then s
  else
    let r := s.openRoce port p
    match r.2 with
    | some n => r.1.cutRate n
    | none => r.1

/-! ### Frames (R403) -/

/-- The first checks on a frame (R403): the state after, and whether it goes on. -/
def State.frame (s : State) (p : Nat) (h : FrameHdr) : State × Bool :=
  if !s.portTakes p then (s, false)
  else if !h.fcsOk then (s.fc F.ETH_DROP.FCS 1 p, false)
  else if 4352 < h.length then (s.fc F.ETH_DROP.OVERSIZE 1 p, false)
  else
    let bad := match h.vid with
      | some v => if s.fb F.ETH_CTL.VLAN_EN p then v.toNat != s.fg F.ETH_CTL.VID p else v != 0
      | none => s.fb F.ETH_CTL.VLAN_EN p
    if bad then (s.fc F.ETH_DROP.NOT_MINE 1 p, false) else (s, true)

/-- Whether a frame's MAC address is the port's. -/
def State.macMine (s : State) (p : Nat) (h : FrameHdr) : Bool := h.dstMac.toNat == s.fg F.ETH_MAC.MAC p

/-- Whether an address is the port's, and that protocol is on (R424). -/
def State.ipMine (s : State) (p : Nat) (v6 : Bool) (a : Nat) : Bool :=
  a != 0 && (if v6 then a == s.ip6 p else a == s.fg F.ETH_IP4.ADDR p)

/-- A frame that no row of R403 takes. -/
def State.dropFrame (s : State) (p : Nat) (mine : Bool) : State :=
  if mine then s.fc F.ETH_DROP.UNSUPPORTED 1 p else s.fc F.ETH_DROP.NOT_MINE 1 p

/-- FRAME_DROPPED (R403). -/
def frameDropped (p : Nat) (h : FrameHdr) (k : FrameKind) (s : State) : State :=
  let r := s.frame p h
  if !r.2 then r.1
  else
    match k with
    | .addressedUnsupported | .badUdpChecksum => r.1.dropFrame p true
    | .notAddressed => r.1.dropFrame p false

/-- Answer on the local network with the port's own addresses (R403). -/
def State.netAnswer (s : State) (p kind : Nat) (ip : List Byte) : State :=
  s.emit (.net p kind (leBytes 6 (s.fg F.ETH_MAC.MAC p) ++ ip))

/-- ARP_REQUEST (R403). -/
def arpRequest (p : Nat) (h : FrameHdr) (target : Nat) (s : State) : State :=
  let r := s.frame p h
  if !r.2 then r.1
  else if r.1.ipMine p false target then r.1.netAnswer p 1 (leBytes 4 target)
  else r.1.dropFrame p false

/-- NEIGHBOUR_SOLICITATION (R403). -/
def neighbour (p : Nat) (h : FrameHdr) (target : Nat) (s : State) : State :=
  let r := s.frame p h
  if !r.2 then r.1
  else if r.1.ipMine p true target then r.1.netAnswer p 2 (leBytes 16 target)
  else r.1.dropFrame p false

/-- ECHO_REQUEST (R403): at most 100 answers a second. -/
def echo (p : Nat) (h : FrameHdr) (v6 : Bool) (target : Nat) (s : State) : State :=
  let r := s.frame p h
  if !r.2 then r.1
  else if !(r.1.macMine p h && r.1.ipMine p v6 target) then r.1.dropFrame p false
  else
    let w := smGet (fun _ => (0, 0)) r.1.echoWin p
    let n := if w.1 = r.1.usSecond then w.2 else 0
    if 100 ≤ n then r.1
    else
      { r.1 with echoWin := smPut (fun _ => (0, 0)) r.1.echoWin p (r.1.usSecond, n + 1) }.netAnswer p (if v6 then 4 else 3)
        (leBytes (if v6 then 16 else 4) target)

/-- PFC_PAUSE (R403, R420): `prios` are the priorities the frame pauses. -/
def pfcPause (p : Nat) (h : FrameHdr) (prios : Nat) (s : State) : State :=
  let r := s.frame p h
  if !r.2 then r.1
  else if !r.1.fb F.ETH_CTL.PFC_EN p then r.1.dropFrame p (r.1.macMine p h)
  else
    let s1 := r.1.fc F.ETH_ROCE.PAUSE_RX 1 p
    if bitOf prios (s1.fg F.ETH_CTL.PFC_PRIO p) then s1.fs F.ETH_STATUS.PAUSED 1 p else s1

/-- PAUSE_EXPIRY (R420). -/
def pauseExpiry (p : Nat) (s : State) : State := if s.fb F.ETH_STATUS.PAUSED p then s.unpause p else s

/-! ### Links of ports (R401, R421, R422) -/

/-- PORT_LINK_DOWN (R421): sessions stay open, and frames a pause held back are lost with the link. -/
def portLinkDown (p : Nat) (s : State) : State :=
  if s.portUp p then (s.fs F.ETH_STATUS.LINK ethDown p).dropHeld p else s

/-- The rates a port tries, highest first (R401), as bit numbers of ADV. -/
def State.rates (s : State) (p peerAdv : Nat) : List Nat :=
  let adv := s.fg F.ETH_CTL.ADV p
  let mine := bitList 4 adv
  if s.fb F.ETH_CTL.AUTONEG p then
    match mine.find? (bitOf peerAdv) with
    | some r => mine.filter (fun x => decide (r ≤ x))
    | none => []
  else mine.take 1

/-- Bring the rates of a port's open sessions within its payload ceiling, and to it with CC_EN = 0 (R350, R401, R419). -/
def State.capRates (s : State) (p : Nat) : State :=
  let top := ethCeiling (s.fg F.ETH_STATUS.RATE p)
  ((s.sess.map (·.1)).filter (fun n => n / 512 == p && s.sessOpen n)).foldl
    (fun t n => t.ss F.ETH_SESS.RATE (if s.ccField p F.FAB_CC.CC_EN = 0 then top else min top (t.sg F.ETH_SESS.RATE n)) n) s

/-- PORT_TRAINING (R401): `trains` says at which rates the link would come up. -/
def portTraining (p peerAdv trains : Nat) (s : State) : State :=
  if !s.live || !s.fb F.ETH_CTL.EN p || decide (ethUp ≤ s.fg F.ETH_STATUS.LINK p) then s
  else
    match (s.rates p peerAdv).find? (bitOf trains) with
    | some r => ((s.fs F.ETH_STATUS.LINK ethUp p).fs F.ETH_STATUS.RATE r p).capRates p
    | none => s.fs F.ETH_STATUS.LINK ethDown p

/-- Set the fields of ETH_CTL [34:1] from a write; a reserved MTU leaves that field (R422, R534). -/
def State.setEthCfg (s : State) (p v : Nat) : State :=
  let mtu := if 3 ≤ bitsOf v 32 3 ∧ bitsOf v 32 3 ≤ 5 then bitsOf v 32 3 else s.fg F.ETH_CTL.MTU p
  (s.fs { F.ETH_CTL.AUTONEG with w := 31 } (bitsOf v 1 31) p).fs F.ETH_CTL.MTU mtu p

/-- A write of ETH_CTL (R422). -/
def State.writeEthCtl (s : State) (p v : Nat) : State :=
  let s0 := if bitOf v 35 then s.fs F.ETH_CTL.REFUSED 0 p else s
  if s0.fb F.ETH_CTL.EN p then
    let same := bitsOf v 1 34 == bitsOf (s0.rd ⟨.ETH_CTL, p, 0, 0⟩).toNat 1 34
    let s1 := if same then s0 else s0.fs F.ETH_CTL.REFUSED 1 p
    if bitOf v 0 then s1
    else if s1.fb { F.QM_PORT_DIS.PORTS with lo := p, w := 1 } && !s1.quiesce.any (fun x => x.u == .port (Fin.ofNat 8 p)) then
      (s1.fs F.ETH_CTL.EN 0 p).fs F.ETH_STATUS.LINK ethDisabled p
    else s1.fs F.ETH_CTL.REFUSED 1 p
  else
    let s1 := s0.setEthCfg p v
    if bitOf v 0 then (s1.fs F.ETH_CTL.EN 1 p).fs F.ETH_STATUS.LINK ethTraining p else s1

/-- A write of a port's address register while EN = 1 is refused (R422, R424). -/
def State.writeEthAddr (s : State) (r : RegName) (p : Nat) (f : Fld) (v : Nat) : State :=
  if s.fb F.ETH_CTL.EN p then (if (s.rd ⟨r, p, 0, 0⟩).toNat = v then s else s.fs F.ETH_CTL.REFUSED 1 p) else s.fs f v p

/-- A port's control register, and its address. -/
def ethCtlKey (p : Nat) : RegKey := ⟨.ETH_CTL, p, 0, 0⟩
def ethCtlAddr (p : Nat) : Nat := (ethCtlKey p).addr

/-! ### Meanings -/

def execInit (p : Fin 8) (m : InitMsg) (s : State) : Host.Outcome State Fault Refusal := .next (initMsg p.val m s)
def execFinish (n : BitVec 12) (m : FinishMsg) (sigOk : Bool) (s : State) : Host.Outcome State Fault Refusal :=
  .next (finish n.toNat m sigOk s)
def execHandshakeTimeout (n : BitVec 12) (s : State) : Host.Outcome State Fault Refusal := .next (handshakeTimeout n.toNat s)
def execCertReq (p : Fin 8) (c : CertAsk) (len : BitVec 16) (srcMac : BitVec 48) (s : State) :
    Host.Outcome State Fault Refusal := .next (certReq p.val c len.toNat srcMac.toNat s)
def execRekey (n : BitVec 12) (m : CtlMsg) (tagOk : Bool) (s : State) : Host.Outcome State Fault Refusal :=
  .next (rekey n.toNat m tagOk s)
def execOldPhaseExpiry (n : BitVec 12) (s : State) : Host.Outcome State Fault Refusal := .next (oldPhaseExpiry n.toNat s)
def execClose (n : BitVec 12) (m : CtlMsg) (tagOk : Bool) (s : State) : Host.Outcome State Fault Refusal :=
  .next (close n.toNat m tagOk s)
def execSessionClose (who : Req) (n : BitVec 12) (v : Word) (s : State) : Host.Outcome State Fault Refusal :=
  .next (s.gatedUnit who (sessKey n.toNat) v.toNat (fun t => t.writeSess0 n.toNat v.toNat))
def execAcknowledge (p : Fin 8) (r : Roce) (s : State) : Host.Outcome State Fault Refusal := .next (acknowledge p.val r s)
def execAckTimeout (n : BitVec 12) (s : State) : Host.Outcome State Fault Refusal := .next (ackTimeout n.toNat s)
def execRoceCnp (p : Fin 8) (r : Roce) (s : State) : Host.Outcome State Fault Refusal := .next (roceCnp p.val r s)
def execArpRequest (p : Fin 8) (h : FrameHdr) (target : BitVec 32) (s : State) : Host.Outcome State Fault Refusal :=
  .next (arpRequest p.val h target.toNat s)
def execNeighbourSolicitation (p : Fin 8) (h : FrameHdr) (target : BitVec 128) (s : State) : Host.Outcome State Fault Refusal :=
  .next (neighbour p.val h target.toNat s)
def execEchoRequest (p : Fin 8) (h : FrameHdr) (v6 : Bool) (target : BitVec 128) (s : State) : Host.Outcome State Fault Refusal :=
  .next (echo p.val h v6 target.toNat s)
def execPfcPause (p : Fin 8) (h : FrameHdr) (prios : BitVec 8) (s : State) : Host.Outcome State Fault Refusal :=
  .next (pfcPause p.val h prios.toNat s)
def execPauseExpiry (p : Fin 8) (s : State) : Host.Outcome State Fault Refusal := .next (pauseExpiry p.val s)
def execPortLinkDown (p : Fin 8) (s : State) : Host.Outcome State Fault Refusal := .next (portLinkDown p.val s)
def execPortTraining (p : Fin 8) (peerAdv trains : BitVec 4) (s : State) : Host.Outcome State Fault Refusal :=
  .next (portTraining p.val peerAdv.toNat trains.toNat s)
def execPortLinkDisable (who : Req) (p : Fin 8) (v : Word) (s : State) : Host.Outcome State Fault Refusal :=
  .next (s.gatedUnit who (ethCtlKey p.val) (setBits v.toNat 0 1 0) (fun t => t.writeEthCtl p.val (setBits v.toNat 0 1 0)))
def execFrameDropped (p : Fin 8) (h : FrameHdr) (k : FrameKind) (s : State) : Host.Outcome State Fault Refusal :=
  .next (frameDropped p.val h k s)

end Sys2Proof.Machine
end

