-- ==== Sys2Proof/Machine/Memory.lean ====
section
/-! DEFINITION. The memory controllers (R258 to R271, R278): patrol scrub, row and lane repairs, the placement of HBM4, and the die
bridges (R18). -/

namespace Sys2Proof.Machine

/-! ### Patrol scrub -/

/-- The number of a memory controller: stacks 0 to 31, channels 32 to 47. -/
def ctlNo : MemCtl → Nat
  | .stack s => s.val
  | .channel c => 32 + c.val

/-- Whether scrub walks a controller (R269, R275). -/
def State.scrubs (s : State) (c : MemCtl) : Bool :=
  s.fg F.MEM_SCRUB_CTL.PERIOD_H != 0 && (match c with
  | .stack _ => true
  | .channel _ => s.fb F.MEM_SCRUB_CTL.DDR_EN)

/-- Whether an address lies in HBM4 or in the DDR5 tier. -/
def State.dramAddr (s : State) (a : Nat) : Bool :=
  match s.rng a with
  | .hbm | .firmware | .ddr => true
  | _ => false

/-- PATROL_SCRUB (R269): a controller reads one of its units and treats it by R268, with no requester. -/
def patrolScrub (c : MemCtl) (unit : Nat) (found : Ecc) (loc : DramLoc) (s : State) : State :=
  let a := unit * 64
  let k := s.dramOf a
  if !s.scrubs c || !s.dramAddr a || k.1 != ctlNo c || s.memHeld a then s
  else
    let d : DramAt := { pc := if k.1 < 32 then k.2.pc else loc.pc.toNat, bank := loc.bank.toNat, row := loc.row.toNat,
                        column := loc.column.toNat }
    match found with
    | .ok => s
    | .corrected => s.ceNote k.1 d loc.symbol.toNat a
    | .uncorrectable =>
      let s1 := s.ueNote k.1 d loc.symbol.toNat a 1 none
      if k.1 < 32 then s1.fc F.MEM_STACK_ECC.SCRUB_UNC 1 (k.1 / 4) (k.1 % 4)
      else s1.fc F.MEM_DDR_ECC.SCRUB_UNC 1 ((k.1 - 32) / 2) ((k.1 - 32) % 2)

/-! ### Repairs -/

/-- Whether a repair command names nothing reserved, and no lane of a channel (R278). -/
def repairOk (v : Nat) : Bool := decide (bitsOf v 0 3 ≤ 5) && (bitsOf v 8 2 == 0 || (bitsOf v 8 2 == 1 && decide (bitsOf v 0 3 ≤ 3)))

/-- A write of MEM_REPAIR_CMD (R270, R278): the hold begins. -/
def State.startRepair (s : State) (h v : Nat) : State :=
  if s.fb F.MEM_REPAIR_STATUS.BUSY h then s.fs F.MEM_REPAIR_STATUS.REFUSED 1 h
  else if !repairOk v then (s.wr ⟨.MEM_REPAIR_CMD, h, 0, 0⟩ (BitVec.ofNat 64 v)).fs F.MEM_REPAIR_STATUS.RESULT 3 h
  else
    let t := bitsOf v 0 3
    let s1 := (s.wr ⟨.MEM_REPAIR_CMD, h, 0, 0⟩ (BitVec.ofNat 64 v)).fs F.MEM_REPAIR_STATUS.BUSY 1 h
    if t ≤ 3 then (s1.fs F.MEM_STACK.HELD 1 h t).fs F.MEM_STACK.HELD_PC (bitsOf v 3 5) h t
    else s1.fs F.MEM_DDR_CH.HELD 1 h (t - 4)

/-- Whether a unit lies in the row that a hub's repair names (R270, R278). -/
def State.inRepairRow (s : State) (h u : Nat) : Bool :=
  let v := (s.rd ⟨.MEM_REPAIR_CMD, h, 0, 0⟩).toNat
  let t := bitsOf v 0 3
  let k := s.dramOf (u * 64)
  s.dramAddr (u * 64) && k.1 == (if t ≤ 3 then 4 * h + t else 32 + 2 * h + (t - 4)) &&
    k.2.pc == (if t ≤ 3 then bitsOf v 3 5 else bitsOf v 39 1) && k.2.bank == bitsOf v 10 4 && k.2.row == bitsOf v 14 18

/-- A row repair reads every unit of its row into the repair buffer (R270): `row` lists the units in which the code finds something. What is
uncorrectable is marked and stays so. -/
def State.repairRead (s : State) (h : Nat) (row : List (Nat × Ecc)) : State :=
  if !s.fb F.MEM_REPAIR_STATUS.BUSY h || bitsOf (s.rd ⟨.MEM_REPAIR_CMD, h, 0, 0⟩).toNat 8 2 != 0 then s
  else row.foldl (fun t x => if t.inRepairRow h x.1 then (t.dramRead (x.1 * 64) x.2 none).1 else t) s

/-- A MEM_REPAIR record (R465): "as MEM_UE" of the row a repair names. The command names no symbol, column or address: free values. -/
def State.repairRec (s : State) (unit v kind result : Nat) : State :=
  let a := s.free
  let b := a.2.free
  let c := b.2.free
  let d : DramAt := { pc := if bitsOf v 0 3 ≤ 3 then bitsOf v 3 5 else bitsOf v 39 1, bank := bitsOf v 10 4, row := bitsOf v 14 18, column := b.1 % 2 ^ 16 }
  c.2.errRec 0x05 unit none (memSynd 0 d (a.1 % 256) (c.1 % 2 ^ 48) ++ [(50, 1, kind), (51, 1, result), (52, 1, bitsOf v 32 7)])

/-- A repair ends (R270, R271): the hold is over, and the result is counted and recorded. -/
def State.endRepair (s : State) (h : Nat) (spare : Bool) : State :=
  if !s.fb F.MEM_REPAIR_STATUS.BUSY h then s
  else
    let v := (s.rd ⟨.MEM_REPAIR_CMD, h, 0, 0⟩).toNat
    let t := bitsOf v 0 3
    let kind := bitsOf v 8 2
    let result := if spare then 1 else 2
    let s1 := if t ≤ 3 then (s.fs F.MEM_STACK.HELD 0 h t).fs F.MEM_STACK.HELD_PC 0 h t else s.fs F.MEM_DDR_CH.HELD 0 h (t - 4)
    let s2 := (s1.fs F.MEM_REPAIR_STATUS.BUSY 0 h).fs F.MEM_REPAIR_STATUS.RESULT result h
    let s3 := if !spare then s2
      else
        let s2 := { s2.fc F.MEM_REPAIR_STATUS.DONE 1 h with repairs := s2.repairs ++ [(h, v)] }
        if 4 ≤ t then s2.fc F.MEM_DDR_CH.ROWS_REPAIRED 1 h (t - 4)
        else if kind = 0 then s2.fc F.MEM_STACK.ROWS_REPAIRED 1 h t
        else s2.fc F.MEM_STACK.LANES_REPAIRED 1 h t
    let unit := if t ≤ 3 then uid 8 (4 * h + t) else uid 9 (2 * h + (t - 4))
    s3.connsAdvance.repairRec unit v kind result

/-- ROW_REPAIR and LANE_REPAIR (R278): the write with its KIND. -/
def repairWrite (who : Req) (h : Nat) (v : Word) (kind : Nat) (s : State) : State :=
  s.gated who (⟨.MEM_REPAIR_CMD, h, 0, 0⟩ : RegKey).addr (fun t => t.startRepair h (setBits v.toNat 8 2 kind))

/-! ### Placement -/

/-- The address that a place in HBM4 has under a value of LOCAL_GIB: the inverse of `hbmMap` (R259). -/
def hbmInv (localGib : Nat) (l : HbmLoc) : Nat :=
  let lr := localGib * 16384
  let ir := 6291456 - lr
  if l.row < ir then
    let pc := l.spc * 32 + l.stack
    (l.row * 1024 + Nat.xor pc (foldXor 10 3 l.row)) * 256 + l.byte
  else
    let hi := l.row - ir
    let p8 := l.spc * 8 + l.stack % 8
    (ir * 1024 + l.stack / 8 * (lr * 256) + hi * 256 + Nat.xor p8 (foldXor 8 3 hi)) * 256 + l.byte

/-- Move the entries of a map in HBM4 to the addresses their places have under another value of LOCAL_GIB; `scale` is the bytes of one
key. -/
def remap {α : Type} [DecidableEq α] (d : Nat → α) (old new scale : Nat) (m : SMap α) : SMap α :=
  m.foldl (fun r p => smPut d r (if p.1 * scale < hbmEnd then hbmInv new (hbmMap old (p.1 * scale)) / scale else p.1) p.2) []

/-- A pending LOCAL_GIB takes effect (R260, R501): the bytes stay where they are and their addresses change. -/
def State.applyGib (s : State) : State :=
  if !s.fb F.MEM_PLACE.PENDING then s
  else
    let old := s.fg F.MEM_PLACE.LOCAL_GIB
    let new := s.fg F.MEM_PLACE.NEXT_GIB
    let s1 := ((s.fs F.MEM_PLACE.LOCAL_GIB new).fs F.MEM_PLACE.NEXT_GIB 0).fs F.MEM_PLACE.PENDING 0
    if old = new then s1
    else { s1 with mem := remap (fun _ => 0) old new 1 s1.mem, marks := remap (fun _ => false) old new 64 s1.marks }

/-- A write of MEM_PLACE (R260, R274). -/
def State.writePlace (s : State) (v : Nat) : State :=
  (s.fs F.MEM_PLACE.NEXT_GIB (min 384 (bitsOf v 0 9))).fs F.MEM_PLACE.PENDING 1

/-! ### Bridges -/

/-- BRIDGE_FAILURE (R18, R465): traffic that needs the bridge is not delivered. -/
def bridgeFailure (b : Nat) (s : State) : State :=
  if s.bridges.contains b then s
  else { s with bridges := b :: s.bridges }.errRec 0x0A (bridgeUnit b) none [(40, 1, 1)]

/-- BRIDGE_RESTORED (R465). -/
def bridgeRestored (b : Nat) (s : State) : State :=
  if s.bridges.contains b then
    ({ s with bridges := s.bridges.filter (fun x => x != b) }.connsAdvance).errRec 0x0A (bridgeUnit b) none [(40, 1, 2)]
  else s

/-! ### Meanings -/

def execPatrolScrub (c : MemCtl) (unit : BitVec 42) (found : Ecc) (loc : DramLoc) (s : State) : Host.Outcome State Fault Refusal :=
  .next (patrolScrub c unit.toNat found loc s)
def execRowRepair (who : Req) (h : Fin 8) (v : Word) (s : State) : Host.Outcome State Fault Refusal :=
  .next (repairWrite who h.val v 0 s)
def execLaneRepair (who : Req) (h : Fin 8) (v : Word) (s : State) : Host.Outcome State Fault Refusal :=
  .next (repairWrite who h.val v 1 s)
def execLocalGib (who : Req) (v : Word) (s : State) : Host.Outcome State Fault Refusal :=
  .next (s.gated who (⟨.MEM_PLACE, 0, 0, 0⟩ : RegKey).addr (fun t => t.writePlace v.toNat))
def execBridgeFailure (b : Fin 12) (s : State) : Host.Outcome State Fault Refusal := .next (bridgeFailure b.val s)
def execBridgeRestored (b : Fin 12) (s : State) : Host.Outcome State Fault Refusal := .next (bridgeRestored b.val s)

end Sys2Proof.Machine
end

