-- ==== Sys2Proof/Machine/MgmtOps.lean ====
section
/-! DEFINITION. Shared operations of the management complex (chapter 14): the configuration block and its records, the acceptance of
images, the hold-up check, and the queue of stores. -/

namespace Sys2Proof.Machine

/-! ### Points on brainpoolP384r1 (PRESUMED RFC 5639, log entry 31) -/

def bpP : Nat := 0x8CB91E82A3386D280F5D6F7E50E641DF152F7109ED5456B412B1DA197FB71123ACD3A729901D1A71874700133107EC53
def bpA : Nat := 0x7BC382C63D8C150C3C72080ACE05AFA0C2BEA28E4FB22787139165EFBA91F90F8AA5814A503AD4EB04A8C7DD22CE2826
def bpB : Nat := 0x04A8C7DD22CE28268B39B55416F0447C2FB77DE107DCD2A62E880EA53EEB62D57CB4390295DBC9943AB78696FA504C11

/-- The value of a big-endian byte list. -/
def beNat (bs : List Byte) : Nat := leNat bs.reverse

/-- Whether 97 bytes are an uncompressed point on the curve (R404, R460). -/
def pointOk (key : List Byte) : Bool :=
  let x := beNat ((key.drop 1).take 48)
  let y := beNat ((key.drop 49).take 48)
  key.length == 97 && key.headD 0 == 4 && decide (x < bpP) && decide (y < bpP) &&
    y * y % bpP == (x * x % bpP * x + bpA * x + bpB) % bpP

/-! ### The configuration block (R430) -/

/-- A record of a configuration block. -/
structure CfgRec where
  type : Nat
  body : List Byte
  deriving DecidableEq, Repr

/-- A valid block: its sequence number and its records. -/
structure CfgBlock where
  seq : Nat
  recs : List CfgRec
  deriving DecidableEq, Repr

/-- The records of a block; none where the last does not end with the bytes. The fuel bounds the records. -/
def cfgRecs : Nat → List Byte → Option (List CfgRec)
  | _, [] => some []
  | 0, _ => none
  | n + 1, bs =>
    let len := leNat ((bs.drop 2).take 2)
    let tot := 4 + (len + 3) / 4 * 4
    if bs.length < 4 ∨ bs.length < tot then none
    else (cfgRecs n (bs.drop tot)).map (fun rs => { type := leNat (bs.take 2), body := (bs.drop 4).take len } :: rs)

/-- LENGTH of a block. -/
def cfgLength (bs : List Byte) : Nat := leNat ((bs.drop 8).take 4)

/-- Whether the header of a block is as stated. -/
def cfgHeadOk (bs : List Byte) : Bool :=
  leNat (bs.take 4) == 0x7200C0F1 && leNat ((bs.drop 4).take 2) == 1 && cfgLength bs % 4 == 0 && decide (20 ≤ cfgLength bs) &&
    decide (cfgLength bs ≤ 65536) && decide (cfgLength bs ≤ bs.length)

/-- The block a slot holds, if the slot is valid (R430). -/
def cfgParse (slot : List Byte) : Option CfgBlock :=
  if !cfgHeadOk slot then none
  else
    let n := cfgLength slot
    let bs := slot.take n
    if leNat (bs.drop (n - 4)) ≠ crc32c (bs.take (n - 4)) then none
    else (cfgRecs n ((bs.take (n - 4)).drop 16)).map (fun rs => { seq := leNat ((bs.drop 12).take 4), recs := rs })

/-- The bytes of a record, padded with zeros. -/
def CfgRec.bytes (r : CfgRec) : List Byte :=
  leBytes 2 r.type ++ leBytes 2 r.body.length ++ r.body ++ List.replicate ((r.body.length + 3) / 4 * 4 - r.body.length) 0

/-- The bytes of a block, with its check word. -/
def CfgBlock.bytes (b : CfgBlock) : List Byte :=
  let body := b.recs.flatMap CfgRec.bytes
  let head := leBytes 4 0x7200C0F1 ++ leBytes 2 1 ++ leBytes 2 0 ++ leBytes 4 (20 + body.length) ++ leBytes 4 b.seq ++ body
  head ++ leBytes 4 (crc32c head)

/-- The slot selected (R431). -/
def cfgSelect (a b : Option CfgBlock) : Option Nat :=
  match a, b with
  | some x, some y =>
    let d := (y.seq + 2 ^ 32 - x.seq) % 2 ^ 32
    some (if 1 ≤ d ∧ d < 2 ^ 31 then 1 else 0)
  | some _, none => some 0
  | none, some _ => some 1
  | none, none => none

/-! ### Policy limits -/

/-- MGT_POLICY at its reset values. -/
def State.policyReset (s : State) : State := s.wr ⟨.MGT_POLICY, 0, 0, 0⟩ (regDefault (⟨.MGT_POLICY, 0, 0, 0⟩ : RegKey).addr)

/-- Set MGT_POLICY from a value (R456): a mode of 0b11 leaves its field. -/
def State.setPolicy (s : State) (v : Nat) : State :=
  ([F.MGT_POLICY.POWER, F.MGT_POLICY.THERMAL, F.MGT_POLICY.VOLTAGE, F.MGT_POLICY.LINKS, F.MGT_POLICY.RETIRE, F.MGT_POLICY.REPAIR].foldl
    (fun t f => if bitsOf v f.lo 2 = 3 then t else t.fs f (bitsOf v f.lo 2)) s).fs F.MGT_POLICY.PERSIST (bitsOf v 12 1)

/-- CAP_W and THROTTLE_C take the nearest value in range (R457). -/
def State.setCap (s : State) (w : Nat) : State := s.fs F.MGT_PWR.CAP_W (clampNat 2000 4800 w)
def State.setThrottle (s : State) (c : Nat) : State := s.fs F.MGT_THERM.THROTTLE_C (clampNat 70 105 c)

/-! ### Applying records (R432) -/

/-- A port's addresses (R402): flags and the two IP addresses, little-endian. -/
def State.applyPort (s : State) (b : List Byte) : State :=
  let p := leNat (b.take 1)
  let given := bitOf (leNat ((b.drop 1).take 1)) 0
  let mac := if given then leNat ((b.drop 2).take 6) else (s.mg.fuse.baseMac + p) % 2 ^ 48
  let v6 := leNat ((b.drop 12).take 16)
  (((((s.fs F.ETH_MAC.MAC mac p).fs F.ETH_MAC.FROM_CFG (b2n given) p).fs F.ETH_IP4.ADDR (leNat ((b.drop 8).take 4)) p).fs
    F.ETH_IP6_HI.ADDR_HI (v6 / 2 ^ 64) p).fs F.ETH_IP6_LO.ADDR_LO (v6 % 2 ^ 64) p)

/-- Put a host key into its register (R460). -/
def State.setKey (s : State) (n : Nat) (key : List Byte) : State :=
  (List.range 13).foldl (fun t w => t.wr ⟨.MGT_HOSTKEY_KEY, n, w, 0⟩ (BitVec.ofNat 64 (leNat ((key.drop (8 * w)).take 8)))) s

/-- The key a host key register holds. -/
def State.hostKey (s : State) (n : Nat) : List Byte :=
  ((List.range 13).flatMap (fun w => leBytes 8 (s.rd ⟨.MGT_HOSTKEY_KEY, n, w, 0⟩).toNat)).take 97

/-- Count a repair in force (R271, R276). -/
def State.noteRepair (s : State) (h v : Nat) : State :=
  let t := bitsOf v 0 3
  let s1 := { s with repairs := s.repairs ++ [(h, v)] }
  if 4 ≤ t then s1.fc F.MEM_DDR_CH.ROWS_REPAIRED 1 h (t - 4)
  else if bitsOf v 8 2 = 0 then s1.fc F.MEM_STACK.ROWS_REPAIRED 1 h t
  else s1.fc F.MEM_STACK.LANES_REPAIRED 1 h t

/-- The words of a REPAIRS record. -/
def repairWords (b : List Byte) : List Nat := (chunks 8 b).map leNat

/-- Whether a record keeps its own rules (R432). -/
def CfgRec.ok (r : CfgRec) : Bool :=
  let b := r.body
  match r.type with
  | 1 => b.length == 13
  | 2 => b.length == 2 && decide (leNat b ≤ 384)
  | 3 => b.length == 7 && decide (leNat ((b.drop 2).take 1) ≤ 2)
  | 4 => b.length == 28 && decide (leNat (b.take 1) ≤ 7) && (!bitOf (leNat ((b.drop 1).take 1)) 0 || bitOf (leNat ((b.drop 2).take 6)) 41)
  | 5 => b.length == 102 && decide (leNat (b.take 1) ≤ 15) && pointOk (b.drop 5)
  | 6 => b.length % 8 == 0 && (repairWords b).all (fun w => repairOk w && decide (bitsOf w 40 8 ≤ 7))
  | 7 => b.length == 11
  | 8 => b.length == 10
  | 9 => b.length == 2 && decide (leNat (b.take 1) ≤ 127)
  | _ => false

/-- One record of the selected block takes effect (R431, R432); a repeated record of a type that comes once replaces the earlier one. -/
def State.applyRec (s : State) (r : CfgRec) : State :=
  let b := r.body
  if r.type = 0 ∨ 9 < r.type then s.fs F.CFG_STATUS.UNKNOWN_REC 1
  else if !r.ok then s.fs F.CFG_STATUS.BAD_REC 1
  else
    match r.type with
    | 1 => { s with mg := { s.mg with retired := bitList 104 (leNat b) } }
    | 2 => s.fs F.MEM_PLACE.LOCAL_GIB (leNat b)
    | 3 => ((((s.fs F.FAB_ID.DEVICE_ID (leNat (b.take 2))).fs F.FAB_ID.VALID 1).fs F.FAB_ID.ROLE (leNat ((b.drop 2).take 1))).fs
        F.FAB_SPIRE.PRIMARY (leNat ((b.drop 3).take 2))).fs F.FAB_SPIRE.STANDBY (leNat ((b.drop 5).take 2))
    | 4 => s.applyPort b
    | 5 =>
      let n := leNat (b.take 1)
      ((s.setKey n (b.drop 5)).fs F.MGT_HOSTKEY.IDENTITY (leNat ((b.drop 1).take 4)) n).fs F.MGT_HOSTKEY.EN 1 n
    | 6 => (repairWords b).foldl (fun t w => t.noteRepair (bitsOf w 40 8) (bitsOf w 0 40)) s
    | 7 => ((s.policyReset.setPolicy (leNat (b.take 8))).setCap (leNat ((b.drop 8).take 2))).setThrottle (leNat ((b.drop 10).take 1))
    | 8 =>
      let h : Holdup := {
        capMf := leNat (b.take 2)
        divi := leNat ((b.drop 2).take 2)
        vminMv := leNat ((b.drop 4).take 2)
        pholdMw := leNat ((b.drop 6).take 2)
        tstepMs := leNat ((b.drop 8).take 2) }
      { s with mg := { s.mg with holdup := some h } }
    | _ => { s with mg := { s.mg with i3cStatic := leNat (b.take 1), eid := leNat ((b.drop 1).take 1) } }

/-! ### Images (R435, R436) -/

/-- The fused SVN counter of a class. -/
def Fuses.svn (f : Fuses) (cls : Nat) : Nat := match cls with
  | 1 => f.svn1
  | 2 => f.svn2
  | _ => f.svn3

/-- Raise the SVN counter of a class; it never falls (R437). -/
def Fuses.setSvn (f : Fuses) (cls v : Nat) : Fuses := match cls with
  | 1 => { f with svn1 := max f.svn1 v }
  | 2 => { f with svn2 := max f.svn2 v }
  | _ => { f with svn3 := max f.svn3 v }

/-- A field of an image's header (R435): n bytes, little-endian. -/
def imgField (i : ImgInfo) (at' n : Nat) : Nat := leNat ((i.bytes.drop at').take n)

/-- SVN, VERSION and LENGTH of an image (R435). -/
def imgSvn (i : ImgInfo) : Nat := imgField i 6 2
def imgVersion (i : ImgInfo) : Nat := imgField i 8 4
def imgLength (i : ImgInfo) : Nat := imgField i 12 4

/-- The 97-byte point of an image's signer (R435, R436), and its body. -/
def imgPoint (i : ImgInfo) : List Byte := 4 :: (i.bytes.drop 64).take 96
def imgBody (i : ImgInfo) : List Byte := (i.bytes.drop 256).take (imgLength i)

/-- The root-key slots whose hash is that of an image's signer (R436). -/
def Fuses.keySlots (f : Fuses) (i : ImgInfo) : List Nat :=
  (List.range 4).filter (fun k => f.rootHash[k]? == some (Config.sha384 (imgPoint i)))

/-- Whether SIG verifies against KEY over bytes 0 to 159 (R435, R436): a signature verifies where the private key of KEY made it. -/
def imgSigned (i : ImgInfo) : Bool :=
  match i.signer with
  | none => false
  | some g => (beBytes 97 (Config.ecPoint g.key).toNat).drop 1 == (imgPoint i).drop 1 &&
      beBytes 96 (Config.ecdsaSign g.key g.nonce (Config.sha384 (i.bytes.take 160))).toNat == (i.bytes.drop 160).take 96

/-- Whether DIGEST matches the body (R435, R436). -/
def imgDigested (i : ImgInfo) : Bool := beBytes 48 (Config.sha384 (imgBody i)).toNat == (i.bytes.drop 16).take 48

/-- The first check of R436 that an image fails. -/
def Fuses.fails (f : Fuses) (cls : Nat) (i : ImgInfo) : Option Nat :=
  if (f.keySlots i).all f.revoked.contains then some 1
  else if !imgSigned i then some 2
  else if !imgDigested i then some 3
  else if imgSvn i < f.svn cls then some 4
  else none

/-- The number of a class's slot among the images. -/
def imgKey (cls slot : Nat) : Nat := 2 * (cls - 1) + slot

/-- The image in a slot, if any. -/
def State.image (s : State) (cls slot : Nat) : Option ImgInfo := smFind s.mg.flash.imgs (imgKey cls slot)

/-- The slot that is active for a class (R455). -/
def State.activeSlot (s : State) (cls : Nat) : Nat := if bitOf (s.fg F.MGT_STATUS.SLOTS) (cls - 1) then 1 else 0

/-- Show which slot is active for a class. -/
def State.setActive (s : State) (cls slot : Nat) : State :=
  s.fs F.MGT_STATUS.SLOTS (setBits (s.fg F.MGT_STATUS.SLOTS) (cls - 1) 1 slot)

/-- An update ends with a result (R459). -/
def State.updResult (s : State) (r : Nat) : State := s.fs F.MGT_UPD_STATUS.RESULT r

/-- Whether an update runs (R450): a store of one, an update over PLDM, a handover that ACTIVATE asked for, a rolling update, or retunes. -/
def State.updRuns (s : State) : Bool :=
  s.mg.stores.any (·.upd) || s.mg.pldm.stage != 0 || (s.mg.handover.any (·.2)) || s.fb F.MGT_STATUS.MIXED_UCODE || !s.mg.retunes.isEmpty

/-- MGT_UPD_STATUS.BUSY as an update runs (R459). -/
def State.showUpd (s : State) : State := s.fs F.MGT_UPD_STATUS.BUSY (b2n s.updRuns)

/-- A FIRMWARE record (R465). -/
def State.fwRec (s : State) (cls check slot : Nat) : State :=
  s.errRec 0x10 (uid 0xE (s.fg F.MGT_STATUS.ACTIVE_CORE)) none [(40, 1, cls), (41, 1, check), (42, 1, slot)]

/-- Bytes of a class's slot (R429). -/
def slotBytes (cls : Nat) : Nat := match cls with
  | 1 => 16 * 2 ^ 20
  | 2 => 8 * 2 ^ 20
  | _ => 4 * 2 ^ 20

/-! ### The hold-up check (R444) -/

/-- e_avail in joules for a code of HOLDUP_SENSE. -/
def Holdup.avail (h : Holdup) (code : Nat) : Rat :=
  let v : Rat := mkRat (code * 1200 * h.divi) (4096 * 1000 * 256)
  let vmin : Rat := mkRat h.vminMv 1000
  if v < vmin then 0 else mkRat h.capMf 1000 * (v * v - vmin * vmin) / 2

/-- e_need in joules. -/
def Holdup.need (h : Holdup) : Rat := mkRat 3 2 * mkRat h.pholdMw 1000 * mkRat h.tstepMs 1000

/-- Whether the energy suffices for a store step. -/
def Holdup.suffices (h : Holdup) (code : Nat) : Bool := decide (h.need ≤ h.avail code)

/-- Whether a job's next step may run (R444). -/
def State.stepAllowed (s : State) (j : StoreJob) : Bool :=
  match s.mg.holdup with
  | some h => h.suffices s.mg.sense
  | none => j.unguarded && (match j.what with
    | .cfg _ _ | .img _ _ _ => true
    | _ => false)

/-! ### Stores (R433, R434) -/

/-- Change the management complex. -/
def State.modMg (s : State) (f : Mgmt → Mgmt) : State := { s with mg := f s.mg }

/-- RESULT codes of R458. -/
def resDone : Nat := 1
def resPowerLost : Nat := 2
def resFlash : Nat := 3
def resInvalid : Nat := 4
def resBadImage : Nat := 5
def resFuse : Nat := 6

/-- Show the state of the store queue: BUSY, and DEFERRED where its head waits for energy. -/
def State.showStores (s : State) : State :=
  match s.mg.stores with
  | [] => (s.fs F.MGT_STORE_STATUS.BUSY 0).fs F.MGT_STORE_STATUS.DEFERRED 0
  | j :: _ => (s.fs F.MGT_STORE_STATUS.BUSY 1).fs F.MGT_STORE_STATUS.DEFERRED (b2n (!s.stepAllowed j))

/-- The staged slot of a class becomes active, and a store of the BOOT_SLOT fuse bank records it for the next start-up (R444, R450): the update is over
when that store is. -/
def State.makeActive (s : State) (cls slot : Nat) : State :=
  let job : StoreJob := { what := .boot cls slot, steps := 1, upd := true }
  let s1 := (s.setActive cls slot).modMg (fun m => { m with
    flash := { m.flash with staged := m.flash.staged.filter (fun k => k != imgKey cls slot) },
    stores := m.stores ++ [job] })
  (if s.mg.stores.isEmpty then s1.showStores else s1).showUpd

/-- Add a store, or refuse a fifth that would wait (R434); `refused` is the flag that says so. -/
def State.addStore (s : State) (j : StoreJob) (refused : Fld) : State :=
  if 5 ≤ s.mg.stores.length then s.fs refused 1
  else
    let s1 := s.modMg (fun m => { m with stores := m.stores ++ [j] })
    if s.mg.stores.isEmpty then s1.showStores else s1

/-- The head store ends with a result. -/
def State.endStore (s : State) (result : Nat) : State :=
  match s.mg.stores with
  | [] => s
  | j :: js =>
    let s1 := s.modMg (fun m => { m with stores := js })
    let s2 := if j.upd then (s1.updResult result).showUpd else s1.fs F.MGT_STORE_STATUS.RESULT result
    s2.showStores

/-- What the device's present lists are in a block (R433). -/
def State.listRecs (s : State) : List CfgRec :=
  let ret : CfgRec := { type := 1, body := leBytes 13 ((s.mg.retired.map (fun n => 2 ^ n)).foldl Nat.lor 0) }
  let rep : CfgRec := { type := 6, body := s.repairs.flatMap (fun r => leBytes 8 (bitsOf r.2 0 40 + r.1 * 2 ^ 40)) }
  ret :: (if s.repairs.isEmpty then [] else [rep])

/-- The block that a store writes (R433). -/
def State.newBlock (s : State) (recs : List CfgRec) (replace : Bool) : List Byte :=
  let keep := if replace then recs else recs.filter (fun r => r.type != 1 && r.type != 6) ++ s.listRecs
  ({ seq := (s.fg F.CFG_STATUS.SEQ + 1) % 2 ^ 32, recs := keep } : CfgBlock).bytes

/-- Queue a store of a block (R433): to the slot that was not selected. -/
def State.storeBlock (s : State) (recs : List CfgRec) (replace unguarded : Bool) : State :=
  let bs := s.newBlock recs replace
  if 65536 < bs.length then s.fs F.MGT_STORE_STATUS.RESULT resInvalid
  else
    s.addStore { what := .cfg (1 - s.fg F.CFG_STATUS.SLOT) bs, steps := ceilDiv bs.length 4096, unguarded := unguarded }
      F.MGT_STORE_STATUS.REFUSED

/-- A write of MGT_STORE_CMD (R433, R458). -/
def State.writeStoreCmd (s : State) (who : Req) (v : Nat) : State :=
  if bitOf v 48 = false then s
  else
    let src := bitsOf v 0 48
    if 5 ≤ s.mg.stores.length then s.fs F.MGT_STORE_STATUS.REFUSED 1
    else
      let n := s.le (src + 8) 4
      let inHbm := decide (src + 65536 ≤ hbmEnd) || decide (src + n ≤ hbmEnd)
      if src + 16 > hbmEnd ∨ 65536 < n ∨ inHbm = false ∨ s.marked src n = true then s.fs F.MGT_STORE_STATUS.RESULT resInvalid
      else
        match cfgParse (s.bytes src n) with
        | none => s.fs F.MGT_STORE_STATUS.RESULT resInvalid
        | some b => s.storeBlock b.recs (bitOf v 49) (bitOf v 50 && isMgmt who)

/-- Keep a retirement or a repair for the next start-up (R454). -/
def State.persist (s : State) : State :=
  if s.fb F.MGT_POLICY.PERSIST then
    s.storeBlock (((cfgParse s.mg.block).map (·.recs)).getD []) false false
  else s

/-- The first sector of a store invalidates its slot (R433, R444). -/
def Flash.begin (f : Flash) (w : StoreWhat) : Flash :=
  match w with
  | .cfg slot _ => if slot = 0 then { f with cfg0 := [] } else { f with cfg1 := [] }
  | .img cls slot _ => { f with imgs := smDel f.imgs (imgKey cls slot), staged := f.staged.filter (fun k => k != imgKey cls slot) }
  | _ => f

/-- The last step of a store: what it wrote is in force in the flash or the fuses. -/
def Mgmt.landStore (m : Mgmt) (w : StoreWhat) : Mgmt :=
  match w with
  | .cfg slot block => { m with flash := if slot = 0 then { m.flash with cfg0 := block } else { m.flash with cfg1 := block } }
  | .img cls slot info => { m with flash := { m.flash with
      imgs := smIns (smDel m.flash.imgs (imgKey cls slot)) (imgKey cls slot) info
      staged := imgKey cls slot :: m.flash.staged.filter (fun k => k != imgKey cls slot) } }
  | .svn cls v => { m with fuse := m.fuse.setSvn cls v }
  | .revoke k => { m with fuse := { m.fuse with revoked := k :: m.fuse.revoked.filter (fun x => x != k) } }
  | .boot cls slot => { m with fuse := { m.fuse with boot := setBits m.fuse.boot (cls - 1) 1 slot } }

/-- Pin numbers of the model's outputs: ALERT_N, THERMTRIP_N and STORE_BUSY (R545). -/
def pinAlert : Nat := 0
def pinTherm : Nat := 1
def pinStoreBusy : Nat := 2

/-- One step of the head store runs (R444): `ok` says whether it reads back. The state after, and whether the store was the last of a
RECOVERY update and is done. -/
def State.storeStep (s : State) (ok : Bool) : State × Bool :=
  match s.mg.stores with
  | [] => (s, false)
  | j :: js =>
    if s.fb F.MGT_STORE_STATUS.DEFERRED then (s, false)
    else if !s.stepAllowed j then (s.showStores, false)
    else
      let s0 := (s.emit (.pin pinStoreBusy true)).emit (.pin pinStoreBusy false)
      let s1 := if j.done = 0 then s0.modMg (fun m => { m with flash := m.flash.begin j.what }) else s0
      if !ok then
        if 2 ≤ j.tries then (s1.endStore resFlash, false)
        else (s1.modMg (fun m => { m with stores := { j with tries := j.tries + 1 } :: js }), false)
      else if j.done + 1 < j.steps then
        ((s1.modMg (fun m => { m with stores := { j with done := j.done + 1, tries := 0 } :: js })).showStores, false)
      else ((s1.modMg (fun m => m.landStore j.what)).endStore resDone, j.recovery)

/-- Every store is abandoned (R434, R514, R560). -/
def State.loseStores (s : State) : State :=
  let upd := s.mg.stores.any (·.upd)
  if s.mg.stores.isEmpty then s
  else
    let s1 := s.modMg (fun m => { m with stores := [] })
    let s2 := if upd then (s1.updResult resPowerLost).showUpd else s1
    (if s.mg.stores.any (fun j => !j.upd) then s2.fs F.MGT_STORE_STATUS.RESULT resPowerLost else s2).showStores

/-! ### The firmware region (R261) -/

/-- The slot of the core microcode that the cores load: during a rolling update the one that replaces the active one (R448). -/
def State.ucodeSlot (s : State) : Nat := if s.fb F.MGT_STATUS.MIXED_UCODE then 1 - s.activeSlot 2 else s.activeSlot 2

/-- The bytes of the core microcode image that the cores load. -/
def State.ucode (s : State) : List Byte := ((s.image 2 s.ucodeSlot).map (·.bytes)).getD []

/-- Management firmware writes the copy of the active core microcode image at the start of the firmware region and the image's known-answer suite
after it (R261, R474): where the suite lies, its size and its bytes are free values. -/
def State.placeSuite (s : State) : State :=
  let img := s.ucode
  let a := s.free
  let b := a.2.free
  let at' := min hbmEnd (fwBase + img.length + a.1 % (2 ^ 28 - img.length))
  let size := b.1 % ((hbmEnd - at') / 2 ^ 20 + 1)
  let s1 := (b.2.fs F.TOP_KAT_SUITE.ADDR at').fs F.TOP_KAT_SUITE.SIZE_MIB size
  (s1.store fwBase img).store at' ((List.range (size * 2 ^ 20)).map (Config.suiteByte img))

/-- RECOVERY (R439): the dies stay in SHELF, the ports are disabled. -/
def State.recover (s : State) (stage : Nat) : State :=
  let s1 := (List.range 8).foldl (fun (t : State) p => t.fs F.ETH_STATUS.LINK ethDisabled p) s
  ((s1.fs F.MGT_STATUS.STAGE stage).fs F.MGT_STATUS.RECOVERY 1).fs F.PWR_STATUS.STATE 2

/-- Whether the copy of the core microcode in the firmware region matches its digest, and no unit of it is marked (R435, R501, R513). -/
def State.copyOk (s : State) : Bool :=
  let n := s.le (fwBase + 12) 4
  decide (n + 256 ≤ slotBytes 2) && !s.marked fwBase (256 + n) &&
    beBytes 48 (Config.sha384 (s.bytes (fwBase + 256) n)).toNat == s.bytes (fwBase + 16) 48

/-- The dies load their microcode again (R501, step 7; R507, R513): from the copy, once its digest is checked, or, where a change of LOCAL_GIB has left the
copy undefined, from a new one of the image in flash, once that is verified. DEDUCED (log entry 105): what fails here ends as at start-up, in RECOVERY
with a FIRMWARE record. -/
def State.loadUcode (s : State) : State :=
  let slot := s.ucodeSlot
  let bad := if s.pw.copyStale then
      match s.image 2 slot with
      | none => some 1
      | some i => s.mg.fuse.fails 2 i
    else if s.copyOk then none else some 3
  match bad with
  | some k => (s.fwRec 2 k slot).recover 5
  | none =>
    let s1 : State := if s.pw.copyStale then s.placeSuite else s
    { s1 with pw := { s1.pw with copyStale := false } }.fs F.CLK_STATUS.CCLK_LOCK 0xF

/-! ### Meanings -/

/-- REPAIR_HOLD_END (R270, R271), kept under R454 where it found a spare. -/
def repairHoldEnd (h : Nat) (spare : Bool) (row : List (Nat × Ecc)) (s : State) : State :=
  let s1 := s.repairRead h row
  if s.fb F.MEM_REPAIR_STATUS.BUSY h && spare then (s1.endRepair h spare).persist else s1.endRepair h spare


end Sys2Proof.Machine
end

