-- ==== Sys2Proof/Machine/Fabric.lean ====
section
/-! DEFINITION. The Valix fabric (R313 to R351, R363): flit groups and link states, routing, epochs, connections and their timers. -/

namespace Sys2Proof.Machine

/-! ### Packets as bytes -/

/-- The packet that bytes carry (R322). -/
def pktOf (bs : List Byte) : Pkt :=
  let f := fun (o n : Nat) => leNat ((bs.drop o).take n)
  { dst := BitVec.ofNat 16 (f 0 2), src := BitVec.ofNat 16 (f 2 2), ptype := BitVec.ofNat 4 (f 4 1), epoch := bitOf (f 4 1) 4,
    esc := bitOf (f 4 1) 5, ce := bitOf (f 4 1) 6, ord := bitOf (f 4 1) 7, tc := BitVec.ofNat 3 (f 5 1),
    hops := BitVec.ofNat 5 (f 5 1 / 8), dconn := BitVec.ofNat 12 (f 6 2), gen := BitVec.ofNat 4 (f 6 2 / 4096),
    psn := BitVec.ofNat 32 (f 8 4), ncode := BitVec.ofNat 4 (f 14 1), lastf := bitOf (f 15 1) 0, addr := BitVec.ofNat 48 (f 16 6),
    tag := BitVec.ofNat 16 (f 22 2), poison := BitVec.ofNat 64 (f 24 8), payload := (bs.drop 32).take (bitsOf (f 12 2) 0 13) }

/-! ### Link states -/

/-- A link record (R465): its event, with the link's width, lanes and replays in the last second. -/
def State.linkRec (s : State) (l event : Nat) : State :=
  let r := (s.link l).repSec
  s.errRec 0x0B (uid 0xA l) none [(40, 1, event), (41, 1, s.lg F.FAB_LINK_STATUS.WIDTH l), (42, 1, s.lg F.FAB_LINK_STATUS.LANES l),
    (44, 4, if r.1 = s.second then r.2 else 0)]

/-- A packet as it was before it was put into an output queue: its HOPS, and the position in a source-routed one's list (R332, R353). -/
def OutPkt.back (o : OutPkt) : Pkt :=
  let p := if o.src.isSome then { o.p with hops := o.p.hops + 1 } else o.p
  if p.ptype = 13 then { p with payload := leBytes 1 (leNat (p.payload.take 1) - 1) ++ p.payload.drop 1 } else p

/-- What a link that stops carrying does with what it holds, in its replay buffer and in its output queue (R333): adaptive packets go back to route
selection, escape packets are dropped. -/
def State.linkLost (s : State) (l : Nat) : State :=
  let k := s.link l
  let all := k.unacked.map (·.1) ++ k.outq
  let back := (all.filter (fun o => !o.p.esc)).map (fun (o : OutPkt) =>
    ({ p := o.back, src := o.src, vc := o.vc, marked := o.marked, moved := true } : NetPkt))
  let gone := (all.filter (fun o => o.p.esc)).length
  let inbuf := (s.net.filter (fun n => n.src == some l && !n.moved)).foldl
    (fun m n => smPut (fun _ => 0) m n.vc (smGet (fun _ => 0) m n.vc + flitsOf n.p)) []
  let s1 := (s.setLink l { repSec := k.repSec, flits := k.flits, inbuf := inbuf }).fc F.FAB_DROP.NOROUTE gone
  { s1 with net := s1.net ++ back }

/-- A link goes DOWN (R315, R333); its drain markers count as delivered (R337). -/
def State.goDown (s : State) (l : Nat) : State :=
  ((s.linkLost l).ls F.FAB_LINK_STATUS.STATE lkDown l).drainOn

/-- Count n groups that a link sends again (R319, R362), and those of the present second (R465). -/
def State.countReplays (s : State) (l n : Nat) : State :=
  (s.modLink l (fun k => { k with repSec := (s.second, (if k.repSec.1 = s.second then k.repSec.2 else 0) + n) })).lc F.FAB_LINK_ERR.REPLAYS n l

/-- A link enters UP, sends again what its replay buffer kept (R315, R316), and sends HELLO (R317); it carries nothing of an epoch that drains
(R337). -/
def State.goUp (s : State) (l width lanes : Nat) : State :=
  let s1 := ((s.ls F.FAB_LINK_STATUS.STATE lkUp l).ls F.FAB_LINK_STATUS.WIDTH width l).ls F.FAB_LINK_STATUS.LANES lanes l
  let s2 := s1.modLink l (fun k => { k with retune := false, narrowing := false, repCount := 0, upWidth := some width, bar := match s.drain with
    | some d => some d.epoch
    | none => k.bar })
  let again := (s2.link l).replay
  let s3 := again.foldl (fun (t : State) b => t.emit (.group l b)) (if again.isEmpty then s2 else s2.countReplays l again.length)
  s3.sendCtl l [0, s.devId, b2n (s.fb F.FAB_ID.VALID), l] (.hello l s.devId (s.fb F.FAB_ID.VALID))

/-- Whether lanes make a width (R314). -/
def lanesFit (width lanes : Nat) : Bool :=
  match width with
  | 0 => lanes == 0xF
  | 1 => lanes == 0x3 || lanes == 0xC
  | _ => lanes == 1 || lanes == 2 || lanes == 4 || lanes == 8

/-- A link starts to train at a width. -/
def State.startTraining (s : State) (l width : Nat) : State :=
  (s.modLink l (fun k => { k with tryWidth := width })).ls F.FAB_LINK_STATUS.STATE lkTraining l

/-- Whether a link that was UP comes up narrower than it was and than the degradation under way has counted (R316, R362). -/
def LinkSt.shrinks (k : LinkSt) (w : Nat) : Bool := k.upWidth.any (fun u => decide (u + b2n k.narrowing < w))

/-- LINK_TRAINED (R315, R316): UP at the width being tried, on lanes that work, or the next narrower width, or DOWN. -/
def linkTrained (l : Nat) (ok : Bool) (lanes : Nat) (s : State) : State :=
  if s.lg F.FAB_LINK_STATUS.STATE l ≠ lkTraining then s
  else
    let w := (s.link l).tryWidth
    if ok then
      if !lanesFit w lanes || Nat.land lanes (s.link l).lanesOk != lanes then s
      else
        let less := (s.link l).shrinks w
        let s1 := (if less then s.lc F.FAB_LINK_ERR.DEGRADES 1 l else s).goUp l w lanes
        if (s.link l).narrowing || less then s1.linkRec l 2 else s1
    else if w < 2 then s.modLink l (fun k => { k with tryWidth := w + 1 })
    else (s.goDown l).linkRec l 1

/-- LINK_TRAIN_RETRY (R315). -/
def linkTrainRetry (l : Nat) (s : State) : State :=
  if s.lg F.FAB_LINK_STATUS.STATE l = lkDown ∧ s.lg F.FAB_LINK_CTL.EN l = 1 then s.startTraining l (min 2 (s.lg F.FAB_LINK_CTL.MAX_WIDTH l))
  else s

/-- LINK_DOWN (R333). -/
def linkDown (l : Nat) (s : State) : State :=
  if 2 ≤ s.lg F.FAB_LINK_STATUS.STATE l then (s.goDown l).linkRec l 1 else s

/-- LANE_DEGRADE (R316): the next narrower width, on the lanes that work, `good`; below width 1 the link goes DOWN. -/
def laneDegrade (l good : Nat) (s : State) : State :=
  if !s.linkUp l then s
  else
    let w := s.lg F.FAB_LINK_STATUS.WIDTH l
    if 2 ≤ w then (s.goDown l).linkRec l 1
    else ((s.lc F.FAB_LINK_ERR.DEGRADES 1 l).modLink l (fun k => { k with narrowing := true, lanesOk := good })).startTraining l (w + 1)

/-- A link whose output queues have emptied before a retune enters RETUNE (R316, R321). -/
def State.retuneGo (s : State) (l : Nat) : State :=
  if (s.link l).retune && (s.link l).outq.isEmpty && s.linkUp l && !s.resetting (uid 0xA l) then
    (s.sendCtl l [2] (.retune l)).ls F.FAB_LINK_STATUS.STATE lkRetune l
  else s

/-- A retune is asked for (R316): the link leaves every candidate set. -/
def State.askRetune (s : State) (l : Nat) : State :=
  if s.linkUp l then (s.modLink l (fun k => { k with retune := true })).retuneGo l else s

/-- A write of FAB_LINK_CTL (R315, R316, R362). -/
def State.writeLinkCtl (s : State) (l v : Nat) : State :=
  let was := s.lg F.FAB_LINK_CTL.EN l
  let s0 := if bitsOf v 1 2 = 3 then s else s.ls F.FAB_LINK_CTL.MAX_WIDTH (bitsOf v 1 2) l
  let s1 := s0.ls F.FAB_LINK_CTL.EN (bitsOf v 0 1) l
  let s2 := if bitOf v 0 = false then
      (if s1.lg F.FAB_LINK_STATUS.STATE l = lkDisabled then s1
       else (((s1.linkLost l).ls F.FAB_LINK_STATUS.STATE lkDisabled l)).drainOn)
    else if was = 0 ∧ s1.lg F.FAB_LINK_STATUS.STATE l = lkDisabled then
      s1.startTraining l (min 2 (s1.lg F.FAB_LINK_CTL.MAX_WIDTH l))
    else s1
  if bitOf v 3 then s2.askRetune l else s2

/-- A link's control register, and its address. -/
def linkCtlKey (l : Nat) : RegKey := ⟨.FAB_LINK_CTL, l / 5, l % 5, 0⟩
def linkCtlAddr (l : Nat) : Nat := (linkCtlKey l).addr

/-- Lanes of a retuned link at a width: those that hold the lanes in use. -/
def retuneLanes (width lanes : Nat) : Nat :=
  match width with
  | 0 => 0xF
  | 1 => if bitsOf lanes 0 2 = 0 ∧ lanes ≠ 0 then 0xC else 0x3
  | _ => if bitOf lanes 0 then 1 else if bitOf lanes 1 then 2 else if bitOf lanes 2 then 4 else if bitOf lanes 3 then 8 else 1

/-- RETUNE_DONE (R315): UP at MAX_WIDTH, or DOWN. -/
def retuneDone (l : Nat) (ok : Bool) (s : State) : State :=
  if s.lg F.FAB_LINK_STATUS.STATE l ≠ lkRetune then s
  else if ok then
    let w := min 2 (s.lg F.FAB_LINK_CTL.MAX_WIDTH l)
    let lanes := retuneLanes w (s.lg F.FAB_LINK_STATUS.LANES l)
    ((s.modLink l (fun k => { k with lanesOk := Nat.lor k.lanesOk lanes })).goUp l w lanes).linkRec l 3
  else (s.goDown l).linkRec l 4

/-! ### Flit groups -/

/-- The four flits of a group. -/
def flitsIn (bs : List Byte) : List Flit :=
  (chunks 128 bs).map (fun f => { hdr := leNat (f.take 8), data := f.drop 8 })

/-- Whether a group's CRC matches (R318): over its 512 bytes with the field taken as 0. -/
def crcMatches (bs : List Byte) : Bool :=
  bs.length == 512 && crc32c (bs.take 388 ++ List.replicate 4 0 ++ bs.drop 392) == leNat ((bs.drop 388).take 4)

/-- GWORD of flit i. -/
def gword (fs : List Flit) (i : Nat) : Nat := bitsOf ((fs.getD i ⟨0, []⟩).hdr) 16 16

/-- Take the data of one flit into the input buffer (R318, R321): the packet it completes waits to be routed. -/
def State.takeFlit (s : State) (l : Nat) (f : Flit) : State :=
  let ft := bitsOf f.hdr 0 4
  let vc := bitsOf f.hdr 4 5
  let data := f.data.take (bitsOf f.hdr 9 7)
  let k := s.link l
  let part := smFind k.parts vc
  let lost := match part with
    | some p => ceilDiv p.bytes.length 120
    | none => 0
  let done := fun (k1 : LinkSt) (bs : List Byte) (marked : Bool) =>
    { s.setLink l { k1 with parts := smDel k.parts vc } with
      net := s.net ++ [{ p := pktOf bs, src := some l, vc := vc, marked := marked }] }
  match ft, part with
  | 1, _ => s.setLink l { (k.flitsOut vc lost).flitIn vc with parts := smPut (fun _ => {}) k.parts vc { bytes := data } }
  | 2, some p => s.setLink l { k.flitIn vc with parts := smPut (fun _ => {}) k.parts vc { p with bytes := p.bytes ++ data } }
  | 3, some p => done (k.flitIn vc) (p.bytes ++ data) p.marked
  | 4, _ => done ((k.flitsOut vc lost).flitIn vc) data false
  | 2, none | 3, none => s.setLink l ((k.flitIn vc).flitsOut vc 1)
  | _, _ => s

/-- Credits that a flit returns (R318). -/
def creditsIn (f : Flit) : List (Nat × Nat) :=
  [(bitsOf f.hdr 43 5, bitsOf f.hdr 32 11), (bitsOf f.hdr 59 5, bitsOf f.hdr 48 11)]

/-- The GSEQ of the oldest group in the replay buffer. -/
def LinkSt.oldest (k : LinkSt) : Nat := (k.txNext + 4096 - k.replay.length) % 4096

/-- The packets of groups that have left the replay buffer are the link's no more. -/
def LinkSt.settle (k : LinkSt) : LinkSt :=
  { k with unacked := k.unacked.filter (fun u => decide ((u.2 + 4096 - k.oldest) % 4096 < k.replay.length)) }

/-- Take the ACKSEQ of a group (R319): the groups up to it leave the replay buffer. -/
def LinkSt.acked (k : LinkSt) (w : Nat) : LinkSt :=
  let i := (bitsOf w 0 12 + 4096 - k.oldest) % 4096
  if bitOf w 15 && decide (i < k.replay.length) then LinkSt.settle { k with replay := k.replay.drop (i + 1), repCount := 0 } else k

/-- Take the credits of a group (R318, R321). -/
def LinkSt.credited (k : LinkSt) (fs : List Flit) : LinkSt :=
  ((fs.take 3).flatMap creditsIn).foldl (fun (x : LinkSt) c =>
    if c.2 = 0 ∨ 24 ≤ c.1 then x else { x with credits := smPut (fun _ => 16) x.credits c.1 (x.credit c.1 + c.2) }) k

/-- Take a group's acknowledgement and credit words (R318, R319, R321): after a NAKSEQ the groups from the one after it on are sent again, and a
group replayed for the eighth time in succession makes the link retrain. -/
def State.takeWords (s : State) (l : Nat) (fs : List Flit) : State :=
  let k := ((s.link l).acked (gword fs 1)).credited fs
  let from' := (bitsOf (gword fs 2) 0 12 + 1) % 4096
  let i := (from' + 4096 - k.oldest) % 4096
  if bitOf (gword fs 2) 15 && decide (i < k.replay.length) then
    let again := k.replay.drop i
    let n := if k.repGroup = from' then k.repCount + 1 else 1
    let s1 := (s.setLink l (LinkSt.settle { k with replay := again, repGroup := from', repCount := if 8 ≤ n then 0 else n })).countReplays l
      again.length
    if 8 ≤ n then (s1.lc F.FAB_LINK_ERR.RETRAINS 1 l).startTraining l (s1.lg F.FAB_LINK_STATUS.WIDTH l)
    else again.foldl (fun (t : State) b => t.emit (.group l b)) s1
  else s.setLink l k

/-- FLIT_GROUP (R319): accepted, its GSEQ to be returned in ACKSEQ, or rejected, the last accepted GSEQ to be returned in NAKSEQ. While groups are
discarded, the awaited group itself, rejected again, is answered again. -/
def flitGroup (l : Nat) (g : FlitGroup) (s : State) : State :=
  if !s.linkUp l then s
  else
    let k := s.link l
    let s0 := if g.fecOk then s else s.lc F.FAB_LINK_ERR.FEC_UNCORR g.fecBad l
    let fs := flitsIn g.bytes
    let seq := bitsOf (gword fs 0) 0 12
    if g.fecOk && crcMatches g.bytes && seq == k.rxNext then
      let s1 := s0.modLink l (fun k => { k with rxNext := (seq + 1) % 4096, rxBad := false, ackDue := some seq })
      let s2 := fs.foldl (fun t f => t.takeFlit l f) s1
      (((s2.takeWords l fs).pump l).retuneGo l).drainOn
    else if k.rxBad && seq != k.rxNext then s0
    else (s0.modLink l (fun k => { k with rxBad := true, nakDue := some ((k.rxNext + 4095) % 4096) })).pump l

/-- HELLO (R317). -/
def hello (l id : Nat) (valid : Bool) (n : Nat) (s : State) : State :=
  if !s.linkUp l then s
  else (((s.ls F.FAB_LINK_STATUS.NBR_ID id l).ls F.FAB_LINK_STATUS.NBR_LINK n l).ls F.FAB_LINK_STATUS.NBR_VALID (b2n valid) l)

/-- A round-k DRAIN of an epoch has come in on a link (R337). DESIGN CHOICE (log entry 103): where none came before and k is past 1, the neighbour was
draining as the link entered UP, and the link carries nothing of the epoch. -/
def LinkSt.drainIn (k : LinkSt) (e : Bool) (round : Nat) : LinkSt :=
  let k1 := if k.bar.isNone && k.drainRx e == 0 && decide (2 ≤ round) then { k with bar := some e } else k
  if e then { k1 with drain1 := max k.drain1 round } else { k1 with drain0 := max k.drain0 round }

/-- DRAIN (R337). -/
def drainFlit (l : Nat) (e : Bool) (round : Nat) (s : State) : State :=
  if !s.linkUp l then s else (s.modLink l (fun k => k.drainIn e round)).drainOn

/-! ### Routing -/

/-- What a router buffer's code found in a packet (R325, R461). -/
def State.bufferMet (s : State) (np : NetPkt) : State :=
  s.sramRec (uid 7 (np.src.getD 0 / 5)) 5 0 0 none

/-- Whether the router reads a routing-table entry for a packet (R329, R332, R335). -/
def State.readsEntry (s : State) (np : NetPkt) : Bool :=
  let p := np.p
  ptypeOk p.ptype.toNat && p.ptype.toNat != 13 && s.fb F.FAB_ID.VALID && p.dst.toNat != s.devId &&
  !(np.src.isSome && p.hops.toNat == 0) && decide ((if np.src.isNone then 2 else 1) ≤ s.bank p.epoch)

/-- What the code over the routing table finds in the entry a packet reads (R462): a lost entry acts as FALLBACK 63 until its bank is
rewritten. -/
def State.entryMet (s : State) (np : NetPkt) (found : Ecc) : State :=
  let b := b2n np.p.epoch
  let dst := np.p.dst.toNat
  if !s.readsEntry np then s
  else if dst / 256 ≠ s.devId / 256 then
    s.ctlMet found (uid 7 0) 7 (512 * b + dst / 256)
      (fun t => (t.fs F.FAB_ROUTE_GROUP.CAND 0 0 b (dst / 256)).fs F.FAB_ROUTE_GROUP.FALLBACK 63 0 b (dst / 256))
  else
    s.ctlMet found (uid 7 0) 7 (512 * b + 256 + dst % 256)
      (fun t => (t.fs F.FAB_ROUTE_MEMBER.CAND 0 0 b (dst % 256)).fs F.FAB_ROUTE_MEMBER.FALLBACK 63 0 b (dst % 256))

/-- ROUTE (R325, R329): a packet in the router, or one that arrives on a link. -/
def route (p : Pkt) (fromLink : Option Nat) (err : PktErr) (s : State) : State :=
  let s0 := match s.net.find? (fun n => n.p = p ∧ n.src = fromLink), fromLink with
    | none, some l => if s.linkUp l then
        { s.modLink l (fun k => (List.range (flitsOf p)).foldl (fun x _ => x.flitIn (vcOf p)) k) with
          net := s.net ++ [{ p := p, src := some l, vc := vcOf p }] } else s
    | _, _ => s
  match s0.net.find? (fun n => n.p = p ∧ n.src = fromLink) with
  | none => s0
  | some np =>
    match err with
    | .none => (s0.routePkt np).drainOn
    | .header => ((({ s0 with net := dropFirst s0.net np }.creditBack np).fc F.FAB_DROP.HDR_ERR 1).bufferMet np).drainOn
    | .payloadUnits m =>
      let q := { np with p := { np.p with poison := np.p.poison ||| m } }
      (({ s0 with net := dropFirst s0.net np ++ [q] }.bufferMet np).routePkt q).drainOn
    | .entryCorrected => ((s0.entryMet np .corrected).routePkt np).drainOn
    | .entryUncorrectable => ((s0.entryMet np .uncorrectable).routePkt np).drainOn

/-- Whether a packet has a route but no credit on any candidate (R327). -/
def State.stuck (s : State) (np : NetPkt) : Bool :=
  let p := np.p
  !p.esc && s.fate np == .wait && s.fb F.FAB_ID.VALID && p.dst.toNat != s.devId && (s.bestPort (s.choices p) p).isNone &&
  decide (if np.src.isNone then 2 ≤ s.bank p.epoch else 1 ≤ s.bank p.epoch)

/-- ESCAPE (R327): packet n of the router moves to the escape channel of its epoch. -/
def escape (n : Nat) (s : State) : State :=
  match s.net[n]? with
  | none => s
  | some np =>
    if !s.stuck np then s
    else
      let q := { np with p := { np.p with esc := true } }
      { s with net := s.net.set n q }.routePkt q

/-- CMAP_UPDATE (R351). -/
def cmapUpdate (s : State) : State :=
  (List.range 40).foldl (fun t l => (List.range 8).foldl (fun u c =>
    let avg : Int := ((u.lg F.FAB_CMAP.OCC_AVG l c : Nat) : Int)
    let q : Int := (((u.link l).occ c : Nat) : Int)
    u.ls F.FAB_CMAP.OCC_AVG (avg + Int.fdiv (q - avg) 16).toNat l c) t) s

/-! ### Epochs -/

/-- CRC-32C of a bank's 512 entries in index order (R338). -/
def State.bankCrc (s : State) (b : Nat) : Nat :=
  crc32c ((List.range 256).flatMap (fun n => leBytes 8 (s.rd ⟨.FAB_ROUTE_GROUP, 0, b, n⟩).toNat) ++
    (List.range 256).flatMap (fun n => leBytes 8 (s.rd ⟨.FAB_ROUTE_MEMBER, 0, b, n⟩).toNat))

/-- Links carry an epoch again (R337). DESIGN CHOICE (log entry 103): from the moment its bank is sealed anew, which step 1 of a change does once every
device reports DRAINED. -/
def State.unbar (s : State) (e : Bool) : State :=
  { s with links := s.links.map (fun (x : Nat × LinkSt) => (x.1, { x.2 with bar := if x.2.bar = some e then none else x.2.bar })) }

/-- SEAL of one bank, or its return to FREE (R334, R354). -/
def State.sealBank (s : State) (b : Nat) (clear : Bool) : State :=
  let bb := b == 1
  if clear then (if s.bank bb = 1 then s.setBank bb 0 else s.fs F.FAB_EPOCH.REFUSED 1)
  else if s.bank bb = 0 then
    let c := s.bankCrc b
    ((if bb then s.fs F.FAB_BANK_CRC.CRC1 c else s.fs F.FAB_BANK_CRC.CRC0 c).unbar bb).setBank bb 1
  else s.fs F.FAB_EPOCH.REFUSED 1

/-- SWITCH (R336). -/
def State.doSwitch (s : State) : State :=
  let cur := s.cur
  let n := !cur
  if s.bank cur = 1 ∧ s.bank n < 2 then s.setBank cur 2
  else if s.bank cur = 2 ∧ s.bank n = 1 ∧ s.drain = none then
    let s1 := ((s.fs F.FAB_EPOCH.CUR (b2n n)).setBank n 2).setBank cur 3
    { s1 with drain := some { epoch := cur } }.drainOn
  else s.fs F.FAB_EPOCH.REFUSED 1

/-- A write of FAB_EPOCH (R357). -/
def State.writeEpoch (s : State) (v : Nat) : State :=
  let s0 := if bitOf v 16 then s.fs F.FAB_EPOCH.REFUSED 0 else s
  let s1 := [0, 1].foldl (fun t b => if bitOf v (11 + b) then t.sealBank b (bitOf v 14) else t) s0
  if bitOf v 13 then s1.doSwitch else s1

/-- The address of FAB_EPOCH. -/
def epochAddr : Nat := (⟨.FAB_EPOCH, 0, 0, 0⟩ : RegKey).addr

/-- A write of a routing-table entry (R334, R361). -/
def State.writeRoute (s : State) (member : Bool) (b n v : Nat) : State :=
  if s.bank (b == 1) ≠ 0 then s.fs F.FAB_EPOCH.REFUSED 1
  else if member then (s.fs F.FAB_ROUTE_MEMBER.CAND (bitsOf v 0 40) 0 b n).fs F.FAB_ROUTE_MEMBER.FALLBACK (bitsOf v 40 6) 0 b n
  else (s.fs F.FAB_ROUTE_GROUP.CAND (bitsOf v 0 40) 0 b n).fs F.FAB_ROUTE_GROUP.FALLBACK (bitsOf v 40 6) 0 b n

/-- ROUTE_TABLE_WRITE (R334). -/
def routeTableWrite (who : Req) (member : Bool) (b n : Nat) (v : Word) (s : State) : State :=
  s.gated who (if member then (⟨.FAB_ROUTE_MEMBER, 0, b, n⟩ : RegKey).addr else (⟨.FAB_ROUTE_GROUP, 0, b, n⟩ : RegKey).addr)
    (fun t => t.writeRoute member b n v.toNat)

/-! ### Connections -/

/-- A connection closes (R340): what it still had in flight fails as R345 says. -/
def State.closeConn (s : State) (c : Nat) : State :=
  let k := s.conn c
  let homes := (k.tx ++ k.wait).map (·.home)
  let s1 := (((s.fs F.FAB_CONN.EN 0 0 c).fs F.FAB_CONN.STATE 0 0 c).setConn c {}).showUnacked c
  if s.connOpen c then (s1.failConnXfers c).failConnColl c homes else s1

/-- A write of word 0 of a connection entry (R340, R363). -/
def State.writeConn0 (s : State) (c v : Nat) : State :=
  let was := s.fb F.FAB_CONN.EN 0 c
  let s1 := if was then s
    else
      let s1 := if bitsOf v 3 3 ≤ 5 then s.fs F.FAB_CONN.TC (bitsOf v 3 3) 0 c else s
      (((s1.fs F.FAB_CONN.DB (bitsOf v 6 1) 0 c).fs F.FAB_CONN.GEN (bitsOf v 7 4) 0 c).fs F.FAB_CONN.PEER_ID (bitsOf v 11 16) 0 c).fs
        F.FAB_CONN.PEER_CONN (bitsOf v 27 12) 0 c
  if bitOf v 0 && !was then
    ((((((s1.fs F.FAB_CONN.EN 1 0 c).fs F.FAB_CONN.STATE 1 0 c).fs F.FAB_CONN.TX_PSN 0 0 c).fs F.FAB_CONN.RX_EPSN 0 0 c).fs
      F.FAB_CONN.RATE 1000 0 c).fs F.FAB_CONN.ERR_CAUSE 0 0 c).setConn c {}
  else if !bitOf v 0 && was then s1.closeConn c
  else s1

/-- The address of word 0 of a connection entry. -/
def connAddr (c : Nat) : Nat := (⟨F.FAB_CONN.EN.reg, 0, c, 0⟩ : RegKey).addr

/-! ### Packets that have arrived -/

/-- A packet addressed to this device is taken from those delivered; one not among them arrives now. -/
def State.takeArrived (s : State) (p : Pkt) : State :=
  match s.arrived.find? (fun n => n.p == p) with
  | some n => { s with arrived := s.arrived.erase n }
  | none => s

/-- The hub a packet came in on; hub 0 for one not among those delivered. -/
def State.hubOf (s : State) (p : Pkt) : Nat := ((s.arrived.find? (fun n => n.p == p)).bind (·.src)).getD 0 / 5

/-- A sequenced packet of a type arrives (R341); it waits while a repair holds its target or a failed bridge lies between (R18, R270). -/
def recvType (t : Nat) (p : Pkt) (e : MemErr) (s : State) : State :=
  if p.ptype.toNat = t ∧ p.dst.toNat = s.devId ∧ s.pktReach (s.hubOf p) p = true then (s.takeArrived p).connRecv (s.hubOf p) p e else s

/-- What the code over the connection table finds in the entry a packet of a type names (R462): a connection whose entry is lost enters ERROR. Its
cause the spec does not say: a free value. -/
def State.connMet (s : State) (t : Nat) (p : Pkt) (found : Ecc) : State :=
  let c := p.dconn.toNat
  if p.ptype.toNat = t ∧ p.dst.toNat = s.devId then
    s.ctlMet found (uid 7 0) 8 c (fun t => t.free.2.connError c (t.free.1 % 4) p.psn.toNat)
  else s

/-- Whether an unsequenced packet is of its connection (R341). -/
def State.ofConn (s : State) (p : Pkt) : Bool :=
  let c := p.dconn.toNat
  s.connOpen c && p.src.toNat == s.fg F.FAB_CONN.PEER_ID 0 c && p.gen.toNat == s.fg F.FAB_CONN.GEN 0 c && p.dst.toNat == s.devId

/-- What the target of a COMBINE packet found counts to the command that sent it (R207, R210, R214). -/
def State.foundFar (s : State) (t : TxPkt) (f : CombFound) : State :=
  match t.home with
  | .xfer q core tag =>
    let s1 := s.events core q { poisoned := f.poisoned, saturated := f.saturated, fmt := f.fmt.toNat }
    if f.lost then
      match (s.core core).xfers.find? (fun x => x.tag == tag) with
      | some x => (s1.fail q stUncorrectable).undef q x.idx (if x.ctx = 0 then x.tile else 0xFFFF)
      | none => s1.fail q stUncorrectable
    else s1
  | _ => s

/-- What an ACK tells of the COMBINE packets it acknowledges. -/
def State.takeFound (s : State) (c epsn : Nat) (found : List CombFound) : State :=
  ((s.conn c).tx.filter (fun t => t.p.ptype == 2 && ackCovers epsn t.p.psn.toNat)).foldl (fun u t =>
    (found.filter (fun f => f.psn == t.p.psn)).foldl (fun v f => v.foundFar t f) u) s

/-- ACK (R344). DEDUCED (log entry 68): what the target found as it combined comes back with it. -/
def recvAck (p : Pkt) (found : List CombFound) (s : State) : State :=
  if p.ptype ≠ 8 then s
  else
    let s1 := s.takeArrived p
    if s1.ofConn p then (s1.takeFound p.dconn.toNat p.psn.toNat found).retireBelow p.dconn.toNat p.psn.toNat else s1

/-- A refused packet's transfer is over: nothing of it was applied (R346). -/
def State.dropXfer (s : State) (core tag : Nat) : State := s.modCore core (fun k => { k with xfers := k.xfers.filter (fun x => x.tag != tag) })

/-- NAK TARGET (R346): the command that sent the packet ends with a descriptor error at the far side. -/
def State.nakTarget (s : State) (c psn : Nat) : State :=
  match (s.conn c).tx.find? (fun t => t.p.psn.toNat == psn) with
  | none => s
  | some t =>
    match t.home with
    | .xfer q core tag =>
      match (s.core core).xfers.find? (fun x => x.tag == tag) with
      | some x =>
        (((s.descError q (if x.ctx = 0 then 0xFFFF else x.idx) x.wr.addr).modRun q (fun r => { r with remote := true })).undef q x.idx
          (if x.ctx = 0 then x.tile else 0xFFFF)).dropXfer core tag
      | none => (s.descError q 0xFFFF t.p.addr.toNat).modRun q (fun r => { r with remote := true })
    | .coll q _ => (s.descError q 0xFFFF t.p.addr.toNat).modRun q (fun r => { r with remote := true })
    | .none => s

/-- NAK (R345, R346). -/
def recvNak (p : Pkt) (met : List (Nat × Ecc)) (s : State) : State :=
  if p.ptype ≠ 9 then s
  else
    let s1 := s.takeArrived p
    let c := p.dconn.toNat
    if !s1.ofConn p then s1
    else
      match p.ncode.toNat with
      | 1 => (s1.retireBelow c p.psn.toNat).resend c p.psn.toNat met
      | 2 => s1.nakTarget c p.psn.toNat
      | 3 => s1.connError c 2 p.psn.toNat
      | _ => s1

/-- CNP (R350). -/
def recvCnp (p : Pkt) (s : State) : State :=
  if p.ptype ≠ 10 then s
  else
    let s1 := s.takeArrived p
    let c := p.dconn.toNat
    if !s1.ofConn p then s1
    else
      let s2 := s1.fc F.FAB_CONN.CNP_RX 1 0 c
      let k := s2.conn c
      let free := match k.cutAt with
        | none => true
        | some t => decide (s2.fg F.FAB_CC.CUT_HOLD_US ≤ s2.us - t)
      if s2.fb F.FAB_CC.CC_EN = false ∨ free = false then s2
      else
        let r := s2.fg F.FAB_CONN.RATE 0 c
        let r1 := max (s2.fg F.FAB_CC.RATE_MIN) (r - r * s2.fg F.FAB_CC.BETA / 256)
        (s2.setConn c { k with rt := r, steps := 0, cutAt := some s2.us }).fs F.FAB_CONN.RATE r1 0 c

/-- INC_US (R350). -/
def incUs (c : Nat) (s : State) : State :=
  if s.connOpen c = false ∨ s.fb F.FAB_CC.CC_EN = false then s
  else
    let k := s.conn c
    let r := s.fg F.FAB_CONN.RATE 0 c
    if k.steps < s.fg F.FAB_CC.FAST_STEPS then (s.setConn c { k with steps := k.steps + 1 }).fs F.FAB_CONN.RATE ((r + k.rt) / 2) 0 c
    else
      let r1 := min 1000 (r + s.fg F.FAB_CC.AI)
      (s.setConn c { k with steps := k.steps + 1, rt := r1 }).fs F.FAB_CONN.RATE r1 0 c

/-- ACK_DELAY_US (R344). -/
def ackDelay (c : Nat) (s : State) : State :=
  if s.connOpen c = true ∧ 0 < (s.conn c).arrived then s.sendAck c else s

/-- GAP_US (R344). -/
def gapUs (c : Nat) (s : State) : State :=
  if s.connOpen c = true ∧ (s.conn c).gap = true then s.connNote c 9 (s.fg F.FAB_CONN.RX_EPSN 0 c) 1 else s

/-- RTO_US (R345). -/
def rtoUs (c : Nat) (met : List (Nat × Ecc)) (s : State) : State :=
  match (s.conn c).tx with
  | [] => s
  | t :: _ => if s.connOpen c then s.resend c t.p.psn.toNat met else s

/-! ### Meanings -/

def execHello (l : Fin 40) (id : BitVec 16) (valid : Bool) (n : BitVec 6) (s : State) : Host.Outcome State Fault Refusal :=
  .next (hello l.val id.toNat valid n.toNat s)
def execDrain (l : Fin 40) (e : Bool) (round : BitVec 6) (s : State) : Host.Outcome State Fault Refusal :=
  .next (drainFlit l.val e round.toNat s)
def execLaneDegrade (l : Fin 40) (_cause : LaneCause) (good : BitVec 4) (s : State) : Host.Outcome State Fault Refusal :=
  .next (laneDegrade l.val good.toNat s)
def execLinkTrainRetry (l : Fin 40) (s : State) : Host.Outcome State Fault Refusal := .next (linkTrainRetry l.val s)
def execLinkDown (l : Fin 40) (s : State) : Host.Outcome State Fault Refusal := .next (linkDown l.val s)
def execLinkTrained (l : Fin 40) (ok : Bool) (lanes : BitVec 4) (s : State) : Host.Outcome State Fault Refusal :=
  .next (linkTrained l.val ok lanes.toNat s)
def execRetune (who : Req) (l : Fin 40) (v : Word) (s : State) : Host.Outcome State Fault Refusal :=
  .next (s.gatedUnit who (linkCtlKey l.val) (setBits v.toNat 3 1 1) (fun t => t.writeLinkCtl l.val (setBits v.toNat 3 1 1)))
def execRetuneDone (l : Fin 40) (ok : Bool) (s : State) : Host.Outcome State Fault Refusal := .next (retuneDone l.val ok s)
def execRetuneHandshake (l : Fin 40) (s : State) : Host.Outcome State Fault Refusal := .next (s.askRetune l.val)
def execLinkEnable (who : Req) (l : Fin 40) (v : Word) (s : State) : Host.Outcome State Fault Refusal :=
  .next (s.gatedUnit who (linkCtlKey l.val) (setBits v.toNat 3 1 0) (fun t => t.writeLinkCtl l.val (setBits v.toNat 3 1 0)))
def execRoute (p : Pkt) (l : Option (Fin 40)) (err : PktErr) (s : State) : Host.Outcome State Fault Refusal :=
  .next (route p (l.map (·.val)) err s)
def execEscape (n : Nat) (s : State) : Host.Outcome State Fault Refusal := .next (escape n s)
def execWrite (p : PktAt) (s : State) : Host.Outcome State Fault Refusal := .next (recvType 1 p.p { land := p.land } (s.connMet 1 p.p p.entry))
def execCombine (p : EntryAt) (s : State) : Host.Outcome State Fault Refusal := .next (recvType 2 p.p {} (s.connMet 2 p.p p.entry))
def execReadReq (p : ReadAt) (s : State) : Host.Outcome State Fault Refusal :=
  .next (recvType 3 p.p { read := p.read } (s.connMet 3 p.p p.entry))
def execReadResp (p : EntryAt) (s : State) : Host.Outcome State Fault Refusal := .next (recvType 4 p.p {} (s.connMet 4 p.p p.entry))
def execSignal (p : ReadAt) (s : State) : Host.Outcome State Fault Refusal :=
  .next (recvType 5 p.p { read := p.read } (s.connMet 5 p.p p.entry))
def execDoorbellPacket (p : EntryAt) (s : State) : Host.Outcome State Fault Refusal := .next (recvType 6 p.p {} (s.connMet 6 p.p p.entry))
def execAck (p : AckAt) (s : State) : Host.Outcome State Fault Refusal := .next (recvAck p.p p.found (s.connMet 8 p.p p.entry))
def execNak (p : NakAt) (s : State) : Host.Outcome State Fault Refusal := .next (recvNak p.p (unitList p.met) (s.connMet 9 p.p p.entry))
def execCnp (p : EntryAt) (s : State) : Host.Outcome State Fault Refusal := .next (recvCnp p.p (s.connMet 10 p.p p.entry))
def execAckDelayUs (c : BitVec 12) (s : State) : Host.Outcome State Fault Refusal := .next (ackDelay c.toNat s)
def execGapUs (c : BitVec 12) (s : State) : Host.Outcome State Fault Refusal := .next (gapUs c.toNat s)
def execRtoUs (c : RtoAt) (s : State) : Host.Outcome State Fault Refusal := .next (rtoUs c.conn.toNat (unitList c.met) s)
def execIncUs (c : BitVec 12) (s : State) : Host.Outcome State Fault Refusal := .next (incUs c.toNat s)
def execSeal (who : Req) (v : Word) (s : State) : Host.Outcome State Fault Refusal :=
  .next (s.gated who epochAddr (fun t => t.writeEpoch (setBits (setBits v.toNat 13 1 0) 14 1 0)))
def execSwitch (who : Req) (v : Word) (s : State) : Host.Outcome State Fault Refusal :=
  .next (s.gated who epochAddr (fun t => t.writeEpoch (setBits v.toNat 13 1 1)))
def execClear (who : Req) (v : Word) (s : State) : Host.Outcome State Fault Refusal :=
  .next (s.gated who epochAddr (fun t => t.writeEpoch (setBits (setBits v.toNat 13 1 0) 14 1 1)))
def execRouteTableWrite (who : Req) (member bank : Bool) (n : BitVec 8) (v : Word) (s : State) : Host.Outcome State Fault Refusal :=
  .next (routeTableWrite who member (b2n bank) n.toNat v s)
def execConnectionOpen (who : Req) (c : BitVec 12) (v : Word) (s : State) : Host.Outcome State Fault Refusal :=
  .next (s.gated who (connAddr c.toNat) (fun t => t.writeConn0 c.toNat (setBits v.toNat 0 1 1)))
def execConnectionClose (who : Req) (c : BitVec 12) (v : Word) (s : State) : Host.Outcome State Fault Refusal :=
  .next (s.gated who (connAddr c.toNat) (fun t => t.writeConn0 c.toNat (setBits v.toNat 0 1 0)))
def execCmapUpdate (s : State) : Host.Outcome State Fault Refusal := .next (cmapUpdate s)

end Sys2Proof.Machine
end

