-- ==== Sys2Proof/Machine/VecFun.lean ====
section
/-! DEFINITION. The elementwise functions of R227, R228, R229 and R564 as enclosures: each function gives, for a number of bits, an
interval that holds its exact value; a result is rounded once both ends round alike. -/

namespace Sys2Proof.Machine

/-! ### Intervals -/

/-- An interval that holds an exact real number. -/
structure Iv where
  lo : Rat
  hi : Rat
  deriving DecidableEq, Repr

/-- An exact rational. -/
def Iv.pt (x : Rat) : Iv := ⟨x, x⟩
def Iv.add (a b : Iv) : Iv := ⟨a.lo + b.lo, a.hi + b.hi⟩
def Iv.neg (a : Iv) : Iv := ⟨-a.hi, -a.lo⟩
def Iv.mul (a b : Iv) : Iv :=
  let p := [a.lo * b.hi, a.hi * b.lo, a.hi * b.hi]
  let z := a.lo * b.lo
  ⟨p.foldl min z, p.foldl max z⟩
/-- The inverse of a positive interval. -/
def Iv.inv (a : Iv) : Iv := ⟨1 / a.hi, 1 / a.lo⟩
/-- An increasing function of the points of an interval. -/
def Iv.mono (f : Rat → Iv) (a : Iv) : Iv := ⟨(f a.lo).lo, (f a.hi).hi⟩

/-- Newton's iteration for the integer square root; the fuel bounds the steps. -/
def isqrtAux (n : Nat) : Nat → Nat → Nat
  | 0, x => x
  | k + 1, x => let y := (x + n / x) / 2; if x ≤ y then x else isqrtAux n k y

/-- The integer square root. -/
def isqrt (n : Nat) : Nat := if n = 0 then 0 else isqrtAux n (Nat.log2 n + 8) (2 ^ (Nat.log2 n / 2 + 1))

/-- √x for a positive rational: exact where x is a square. -/
def sqrtIv (p : Nat) (x : Rat) : Iv :=
  if x ≤ 0 then .pt 0
  else
    let a := isqrt x.num.natAbs
    let b := isqrt x.den
    if a * a = x.num.natAbs ∧ b * b = x.den then .pt (mkRat a b)
    else
      let sh : Int := (p : Int) - ilog2 x / 2
      let s := isqrt (x * pow2 (2 * sh)).floor.toNat
      ⟨(s : Rat) * pow2 (-sh), ((s + 1 : Nat) : Rat) * pow2 (-sh)⟩

/-! ### Exponential and logarithm -/

/-- Σ r^i / i! in fixed point, rounded down term by term. -/
def expLoop (p r : Nat) : Nat → Nat → Nat → Nat → Nat
  | 0, _, _, sum => sum
  | k + 1, i, t, sum => let u := t * r / 2 ^ p / (i + 1); expLoop p r k (i + 1) u (sum + u)

/-- Σ z^(2i+1) / (2i+1) in fixed point, rounded down term by term. -/
def atanhLoop (p z2 : Nat) : Nat → Nat → Nat → Nat → Nat
  | 0, _, _, sum => sum
  | k + 1, i, t, sum => atanhLoop p z2 k (i + 1) (t * z2 / 2 ^ p) (sum + t / (2 * i + 1))

/-- atanh z for 0 ≤ z ≤ 1/3. -/
def atanhIv (p : Nat) (z : Rat) : Iv :=
  let n := p / 3 + 8
  let f := (z * pow2 p).floor.toNat
  let lo := atanhLoop p (f * f / 2 ^ p) n 0 f 0
  ⟨(lo : Rat) * pow2 (-(p : Int)), ((lo + 4 * n + 8 : Nat) : Rat) * pow2 (-(p : Int))⟩

/-- ln 2. -/
def ln2Iv (p : Nat) : Iv := Iv.mul (.pt 2) (atanhIv p (mkRat 1 3))

/-- e^x. -/
def expIv (p : Nat) (x : Rat) : Iv :=
  if x = 0 then .pt 1
  else
    let pp := p + 32
    let l := ln2Iv (pp + 16)
    let red := fun (k : Int) => Iv.add (.pt x) (Iv.neg (Iv.mul (.pt k) l))
    let k0 := (x * mkRat 14426950408889634 10000000000000000).floor
    let k := if (red k0).lo < 0 then k0 - 1 else k0
    let r := red k
    let n := pp / 4 + 16
    let lo := expLoop pp (r.lo * pow2 pp).floor.toNat n 0 (2 ^ pp) (2 ^ pp)
    let hi := expLoop pp (r.hi * pow2 pp).ceil.toNat n 0 (2 ^ pp) (2 ^ pp) + 4 * n + 16
    ⟨(lo : Rat) * pow2 (k - pp), (hi : Rat) * pow2 (k - pp)⟩

/-- ln x for a positive rational. -/
def lnIv (p : Nat) (x : Rat) : Iv :=
  if x = 1 then .pt 0
  else
    let pp := p + 16
    let k0 := ilog2 x
    let m0 := x / pow2 k0
    let k := if mkRat 3 2 < m0 then k0 + 1 else k0
    let m := x / pow2 k
    let z := (m - 1) / (m + 1)
    let a := Iv.mul (.pt 2) (atanhIv pp (ratAbs z))
    Iv.add (Iv.mul (.pt k) (ln2Iv pp)) (if z < 0 then a.neg else a)

/-- ln (1 + u) for a positive interval. -/
def ln1pIv (p : Nat) (u : Iv) : Iv :=
  if u.hi < pow2 (-80) then ⟨u.lo - u.lo * u.lo / 2, u.hi - u.hi * u.hi / 2 + u.hi * u.hi * u.hi / 3⟩
  else ⟨(lnIv p (1 + u.lo)).lo, (lnIv p (1 + u.hi)).hi⟩

/-- Arguments beyond this give results that every format rounds like the result at it. -/
def clampRat (b x : Rat) : Rat := if x < -b then -b else if b < x then b else x

/-- e^x for an interval. -/
def expOf (p : Nat) (a : Iv) : Iv := Iv.mono (expIv p) ⟨clampRat 640 a.lo, clampRat 640 a.hi⟩

/-- 1 / (1 + e^−t). -/
def sigIv (p : Nat) (t : Iv) : Iv := Iv.inv (Iv.add (.pt 1) (expOf p t.neg))

/-! ### π and the normal distribution -/

/-- Σ (−1)^i / ((2i+1) k^(2i+1)) in fixed point. -/
def atanLoop (p k2 : Nat) : Nat → Nat → Nat → Int → Int
  | 0, _, _, sum => sum
  | f + 1, i, t, sum =>
    let u : Int := ((t / (2 * i + 1) : Nat) : Int)
    atanLoop p k2 f (i + 1) (t / k2) (if i % 2 = 0 then sum + u else sum - u)

/-- atan (1/k). -/
def atanInv (p k : Nat) : Iv :=
  let n := p / 4 + 8
  let s := atanLoop p (k * k) n 0 (2 ^ p / k) 0
  ⟨((s - 4 * n : Int) : Rat) * pow2 (-(p : Int)), ((s + 4 * n : Int) : Rat) * pow2 (-(p : Int))⟩

/-- π, by Machin's formula. -/
def piIv (p : Nat) : Iv :=
  Iv.add (Iv.mul (.pt 16) (atanInv (p + 8) 5)) (Iv.mul (.pt (-4)) (atanInv (p + 8) 239))

/-- φ(x), the standard normal density. -/
def phiIv (p : Nat) (x : Rat) : Iv :=
  Iv.mul (expOf p (.pt (-(x * x) / 2))) (Iv.inv (Iv.mono (sqrtIv p) (Iv.mul (.pt 2) (piIv p))))

/-- Σ x^(2i+1) / (1·3·…·(2i+1)) in fixed point: rounded down, or up. -/
def normLoop (p x2 : Nat) (up : Bool) : Nat → Nat → Nat → Nat → Nat
  | 0, _, t, sum => if up then sum + 2 * t + 2 else sum
  | f + 1, i, t, sum =>
    let u := t * x2 / 2 ^ p / (2 * i + 3) + (if up then 2 else 0)
    normLoop p x2 up f (i + 1) u (sum + u)

/-- Φ(x), the standard normal distribution: ½ + φ(x) Σ x^(2i+1) / (2i+1)!!. -/
def normIv (p : Nat) (x : Rat) : Iv :=
  let a := ratAbs x
  let q := p + (a * a).ceil.toNat + 16
  let n := 4 * (a * a).ceil.toNat + q / 2 + 20
  let f := (a * pow2 q).floor.toNat
  let g := (a * a * pow2 q).floor.toNat
  let lo := normLoop q g false n 0 f f
  let hi := normLoop q (g + 1) true n 0 (f + 1) (f + 1)
  let t := Iv.mul (phiIv q a) ⟨(lo : Rat) * pow2 (-(q : Int)), (hi : Rat) * pow2 (-(q : Int))⟩
  Iv.add (.pt (mkRat 1 2)) (if x < 0 then t.neg else t)

/-! ### The functions -/

/-- The argument 2u of GELU_T and its derivative: u = √(2/π) (x + 0.044715 x³). -/
def gelutU (p : Nat) (x : Rat) : Iv × Iv :=
  let c := Iv.mono (sqrtIv p) (Iv.mul (.pt 2) (Iv.inv (piIv p)))
  let a := mkRat 44715 1000000
  (Iv.mul c (.pt (2 * (x + a * x * x * x))), Iv.mul c (.pt (2 * (1 + 3 * a * x * x))))

/-- A result: an exact real number given by its enclosures, or poison. -/
inductive XV where
  | num (f : Nat → Iv)
  | bad (cause : Nat)

/-- An exact rational result. -/
def XV.pt (x : Rat) : XV := .num (fun _ => .pt x)

/-- Whether a result is poisoned. -/
def XV.isBad : XV → Bool
  | .num _ => false
  | .bad _ => true

/-- f(x) of R227 and R229 for function number `n`. -/
def mapFun (n : Nat) (x : Rat) : XV :=
  match n with
  | 0x00 => .pt x
  | 0x01 => .num (fun p => expOf p (.pt x))
  | 0x02 =>
    let y := clampRat 960 x
    let k := y.floor
    .num (fun p => Iv.mul (.pt (pow2 k)) (if y = k then .pt 1 else expOf p (Iv.mul (.pt (y - k)) (ln2Iv (p + 8)))))
  | 0x03 => if x = 0 then .bad 0x0A else if x < 0 then .bad 8 else .num (fun p => lnIv p x)
  | 0x04 =>
    if x = 0 then .bad 0x0A
    else if x < 0 then .bad 8
    else if pow2 (ilog2 x) = x then .pt (ilog2 x)
    else .num (fun p => Iv.mul (lnIv p x) (Iv.inv (ln2Iv (p + 16))))
  | 0x05 => if x < 0 then .bad 8 else .num (fun p => sqrtIv p x)
  | 0x06 => if x = 0 then .bad 9 else if x < 0 then .bad 8 else .num (fun p => Iv.inv (sqrtIv p x))
  | 0x07 => if x = 0 then .bad 9 else .pt (1 / x)
  | 0x08 => if x = 0 then .pt 0 else .num (fun p => Iv.add (.pt 1) (Iv.mul (.pt (-2)) (sigIv p (.pt (-(2 * clampRat 300 x))))))
  | 0x09 => .num (fun p => sigIv p (.pt x))
  | 0x0A => .pt (max x 0)
  | 0x0B => if x = 0 then .pt 0 else .num (fun p => Iv.mul (.pt x) (normIv p (clampRat 32 x)))
  | 0x0C => if x = 0 then .pt 0 else .num (fun p => Iv.mul (.pt x) (sigIv p (gelutU p (clampRat 32 x)).1))
  | 0x0D => if x = 0 then .pt 0 else .num (fun p => Iv.mul (.pt x) (sigIv p (.pt x)))
  | _ => .num (fun p =>
      if x ≤ 0 then ln1pIv p (expOf p (.pt x)) else Iv.add (.pt x) (ln1pIv p (expOf p (.pt (-x)))))

/-- f′(x) of R228 where it is finite. -/
def derivFun (n : Nat) (x : Rat) : Nat → Iv :=
  match n with
  | 0x00 => fun _ => .pt 1
  | 0x01 => fun p => expOf p (.pt x)
  | 0x02 => fun p =>
    let y := clampRat 960 x
    let k := y.floor
    Iv.mul (Iv.mul (.pt (pow2 k)) (expOf p (Iv.mul (.pt (y - k)) (ln2Iv (p + 8))))) (ln2Iv (p + 8))
  | 0x03 => fun _ => .pt (1 / x)
  | 0x04 => fun p => Iv.mul (.pt (1 / x)) (Iv.inv (ln2Iv (p + 8)))
  | 0x05 => fun p => Iv.mul (.pt (mkRat 1 2)) (Iv.inv (sqrtIv p x))
  | 0x06 => fun p => Iv.mul (.pt (-1 / (2 * x))) (Iv.inv (sqrtIv p x))
  | 0x07 => fun _ => .pt (-1 / (x * x))
  | 0x08 => fun p =>
    let y := clampRat 300 x
    let c := Iv.add (expOf p (.pt y)) (expOf p (.pt (-y)))
    Iv.mul (.pt 4) (Iv.inv (Iv.mul c c))
  | 0x09 => fun p => Iv.mul (sigIv p (.pt x)) (sigIv p (.pt (-x)))
  | 0x0A => fun _ => .pt (if 0 < x then 1 else 0)
  | 0x0B => fun p =>
    let y := clampRat 32 x
    Iv.add (normIv p y) (Iv.mul (.pt y) (phiIv (p + (y * y).ceil.toNat) y))
  | 0x0C => fun p =>
    let y := clampRat 32 x
    let u := gelutU p y
    Iv.add (sigIv p u.1) (Iv.mul (Iv.mul (.pt y) (Iv.mul (sigIv p u.1) (sigIv p u.1.neg))) u.2)
  | 0x0D => fun p => Iv.mul (sigIv p (.pt x)) (Iv.add (.pt 1) (Iv.mul (.pt (clampRat 640 x)) (sigIv p (.pt (-x)))))
  | _ => fun p => sigIv p (.pt x)

/-- y × f′(x) of R228 and R564. -/
def mapDeriv (n : Nat) (x y : Rat) : XV :=
  if x < 0 ∧ (n = 3 ∨ n = 4 ∨ n = 5 ∨ n = 6) then .bad 8
  else if x = 0 ∧ (n = 3 ∨ n = 4 ∨ n = 5 ∨ n = 6 ∨ n = 7) then
    if y = 0 then .bad 8
    else if decide (0 < y) = decide (n = 3 ∨ n = 4 ∨ n = 5) then .bad 9 else .bad 0x0A
  else if y = 0 then .pt 0
  else .num (fun p => Iv.mul (.pt y) (derivFun n x p))

/-! ### Rounding an enclosed number -/

/-- The bits of precision tried, in order. -/
def precs : List Nat := [200, 720, 2880]

/-- The encoding that both ends of an enclosure give at the first precision at which they agree; beyond the last a free choice. -/
def settle {α : Type} [BEq α] (enc : (Nat → Rat) → (Nat → Rat) → α × α) (f : Nat → Nat → Iv) : List Nat → α
  | [] => (enc (fun i => (f 2880 i).lo) (fun i => (f 2880 i).hi)).1
  | p :: ps =>
    let e := enc (fun i => (f p i).lo) (fun i => (f p i).hi)
    if e.1 == e.2 then e.1
    else if ps.isEmpty then (if Config.tieBreak p (f p 0).lo.num (f p 0).lo.den then e.2 else e.1)
    else settle enc f ps

/-- round32 (R225): FP32, nearest-even, subnormals kept. -/
def round32Bits (f : Nat → Iv) : Nat :=
  settle (fun lo hi => ((encodeFp 24 false (roundQ .near) (lo 0)).1, (encodeFp 24 false (roundQ .near) (hi 0)).1)) (fun p _ => f p) precs

/-- The value of a finite FP32 encoding. -/
def fpVal (x : Nat) : Rat := (readFp 23 false x).v.rat

/-- round32 of a result, as a value. -/
def XV.round32 : XV → Val
  | .num f => .num (fpVal (round32Bits f))
  | .bad c => .bad c

/-- The FP32 bits of a value on the FP32 grid; poison as the NaN of R57. -/
def f32Bits : Val → Nat
  | .num r => (encodeFp 24 false (roundQ .near) r).1
  | .bad c => poisonBits .fp32 c

end Sys2Proof.Machine
end

