-- ==== Sys2Proof/Machine/Vector.lean ====
section
/-! DEFINITION. The vector engine (R216 to R238): the vector operation descriptor and its checks, the distribution of rows, and the row
operations. -/

namespace Sys2Proof.Machine

/-! ### The descriptor -/

/-- A vector operation descriptor (R222). -/
structure Vod where
  version : Nat
  opc : Nat
  func : Nat
  rmode : Nat
  rpi : Nat
  step : Nat
  count : Nat
  slots : List Nat
  params : List Nat
  arg0 : Nat
  arg1 : Nat
  tsBase : Nat
  tsSize : Nat
  rsvd : Bool
  deriving DecidableEq, Repr

/-- Decode the 16 words of a VOD (R222). -/
def Vod.ofWords (w : List Word) : Vod :=
  let x := fun i => (w.getD i 0).toNat
  { version := bitsOf (x 0) 0 8, opc := bitsOf (x 0) 8 8, func := bitsOf (x 0) 16 6, rmode := bitsOf (x 0) 22 2,
    rpi := bitsOf (x 0) 24 16, step := bitsOf (x 1) 0 32, count := bitsOf (x 1) 32 32,
    slots := [2, 3, 4, 5, 6, 7].map (fun i => bitsOf (x i) 0 48),
    params := [8, 9, 10, 11, 12, 13].flatMap (fun i => [bitsOf (x i) 0 32, bitsOf (x i) 32 32]),
    arg0 := bitsOf (x 14) 0 32, arg1 := bitsOf (x 14) 32 32, tsBase := bitsOf (x 15) 0 24, tsSize := bitsOf (x 15) 24 25,
    rsvd := bitsOf (x 0) 40 24 != 0 || [2, 3, 4, 5, 6, 7].any (fun i => bitsOf (x i) 48 16 != 0) || bitsOf (x 15) 49 15 != 0 }

/-- Address in a slot. -/
def Vod.slot (v : Vod) (i : Nat) : Nat := v.slots.getD i 0

/-- A parameter as an exact value. -/
def Vod.par (v : Vod) (i : Nat) : Rat := fpVal (v.params.getD i 0)

/-- What an operation needs (R223): slots it must have, slots it may have, raw slots, output tensors, whether it is distributed, and its
largest FUNC. -/
structure VecOp where
  req : List Nat
  opt : List Nat := []
  raw : List Nat := []
  outs : List Nat := []
  dist : Bool := true
  fmax : Nat := 0
  deriving DecidableEq, Repr

/-- The table of R223: MAP needs slot 1 in derivative mode (R228), AMAX_PUSH slot 0 where it takes its entries from an array (R243). -/
def vecOp (opc func : Nat) : Option VecOp :=
  match opc with
  | 0x01 => some { req := if bitOf func 5 then [0, 1, 4] else [0, 4], outs := [4], fmax := 63 }
  | 0x02 => some { req := [0, 4], opt := [1, 2], outs := [4] }
  | 0x03 => some { req := [0, 4], opt := [5], raw := [5], outs := [4], fmax := 1 }
  | 0x04 => some { req := [0, 4], opt := [1, 5], raw := [5], outs := [4], fmax := 1 }
  | 0x05 => some { req := [0, 4], opt := [1, 2, 5], raw := [5], outs := [4] }
  | 0x06 => some { req := [0, 4], opt := [1, 5], raw := [5], outs := [4] }
  | 0x07 => some { req := [0, 4], opt := [1, 5], raw := [5], outs := [4] }
  | 0x08 => some { req := [0, 1, 3, 4, 5], raw := [3], outs := [4, 5] }
  | 0x09 => some { req := [0, 5], raw := [5] }
  | 0x0A => some { req := [0, 4], raw := [0, 4], dist := false, fmax := 4 }
  | 0x0B => some { req := [0, 1, 2, 3], opt := [4, 5], raw := [5], outs := [1, 2, 3, 4] }
  | 0x0C => some { req := [0, 4], raw := [0, 4], fmax := 63 }
  | 0x0D => some { req := [4], raw := [4], dist := false }
  | 0x0E => some { req := if bitOf func 0 then [0] else [], opt := [0, 1], raw := [0, 1], dist := false, fmax := 1 }
  | 0x0F => some { req := [4], raw := [4], dist := false }
  | 0x10 => some { req := [0], raw := [0], dist := false }
  | 0x11 => some { req := [4], raw := [4], dist := false, fmax := 1 }
  | _ => none

/-- The operation of a descriptor. -/
def Vod.op (v : Vod) : Option VecOp := vecOp v.opc v.func

/-- Whether an FP32 parameter is zero or a finite normal number (R222). -/
def paramOk (x : Nat) : Bool := bitsOf x 23 8 != 255 && (bitsOf x 23 8 != 0 || bitsOf x 0 23 == 0)

/-- The rules of R222 and R223 on the descriptor alone. -/
def Vod.ok (v : Vod) : Bool :=
  match v.op with
  | none => false
  | some o =>
    v.version == 1 && !v.rsvd && decide (v.rmode ≤ 2) && decide (1 ≤ v.rpi) && decide (v.func ≤ o.fmax) &&
    (v.opc != 1 || decide (v.func % 32 ≤ 0x0E)) && v.params.all paramOk &&
    v.tsBase % 64 == 0 && v.tsSize % 64 == 0 && decide (262144 ≤ v.tsSize) && decide (v.tsBase + v.tsSize ≤ 2 ^ 24) &&
    (List.range 6).all (fun i => if o.req.contains i then v.slot i != 0 else o.opt.contains i || v.slot i == 0) &&
    (!(0x0D ≤ v.opc && v.opc ≤ 0x11) || (decide (1 ≤ v.count) && decide (v.arg0 + v.count ≤ 4096)))

/-- Slots that hold tensor descriptors. -/
def Vod.tdSlots (v : Vod) : List Nat :=
  match v.op with
  | none => []
  | some o => (List.range 6).filter (fun i => v.slot i != 0 && !o.raw.contains i)

/-- The indices of an operation (R224, R233). -/
def Vod.indices (v : Vod) (x : TDesc) : Nat :=
  match v.op with
  | some o => if !o.dist then 1 else if v.opc = 0x0C then ceilDiv v.arg0 v.rpi else ceilDiv x.rows v.rpi
  | none => 0

/-- Bytes of the raw buffer in a slot and whether the operation writes it (R221, R230 to R234, R240 to R244). -/
def Vod.rawBytes (v : Vod) (x : TDesc) (i : Nat) : Nat × Bool :=
  match v.opc, i with
  | 0x03, _ => (48 * x.rows, true)
  | 0x04, _ => (96 * x.rows, true)
  | 0x05, _ => (8 * x.rows, true)
  | 0x06, _ => (8 * x.rows, true)
  | 0x07, _ => (4 * x.rows, true)
  | 0x08, _ => (48 * v.indices x, true)
  | 0x09, _ => (96 * v.indices x, true)
  | 0x0A, 0 => (v.count * (if 2 ≤ v.func then 96 else 48), false)
  | 0x0A, _ => (if v.func = 3 then 8 else 4, true)
  | 0x0B, _ => (4, false)
  | 0x0C, 0 => (v.arg0 * v.count * (v.func + 1) * 16, false)
  | 0x0C, _ => (v.arg0 * (v.func + 1) * 16, true)
  | 0x0D, _ => (4 * v.count, true)
  | 0x0E, 0 => (if v.func = 1 then 4 * v.count else 0, false)
  | 0x0E, _ => (8 * v.arg1, false)
  | 0x0F, _ => (128 * v.count, true)
  | 0x10, _ => (128 * v.count, false)
  | _, _ => (128 * v.count, true)

/-- Raw slots that hold ACC320 or ACC640 values, which are 16-byte aligned (R221). -/
def Vod.accSlot (v : Vod) (i : Nat) : Bool :=
  v.opc == 3 || v.opc == 4 || v.opc == 9 || (v.opc == 8 && i == 3) || (v.opc == 0x0A && i == 0)

/-- The rule of R222 on every raw buffer. -/
def State.rawOk (s : State) (v : Vod) (x : TDesc) : Bool :=
  match v.op with
  | none => false
  | some o => o.raw.all (fun i =>
      let b := v.rawBytes x i
      v.slot i == 0 || b.1 == 0 || (s.okRange (v.slot i) b.1 b.2 && (!v.accSlot i || v.slot i % 16 == 0)))

/-- The columns a tensor of a slot must have (R226, R232). -/
def Vod.colsFor (v : Vod) (x : TDesc) (i : Nat) : Nat :=
  if (v.opc = 3 ∨ v.opc = 4) ∧ i = 4 then 1 else if v.opc = 8 ∧ (i = 1 ∨ i = 4) then 1 else x.cols

/-- The rules of R83, R143, R225, R226, R232, R236 and R563 on the tensor of a slot by itself: those that no other descriptor enters. -/
def State.vecTdOwn (s : State) (v : Vod) (o : VecOp) (i : Nat) (t : TDesc) : Bool :=
  let out := o.outs.contains i
  let sum := v.opc == 3 || v.opc == 4
  (if t.cols == 0 && sum && !out then s.emptyOk t false else s.tdescOk t out) && t.fmt != 8 && (!out || t.map == 0) &&
  (v.opc != 0x0B || !(i == 1 || i == 2 || i == 3) || t.fmt == 5 || t.fmt == 6) && (v.opc != 0x0B || i != 4 || t.fmt != 0) &&
  (v.opc != 8 || i != 1 || t.fmt == 7) && (v.opc != 7 || i != 1 || t.fmt == 1) && (v.opc != 7 || v.par 0 != 0)

/-- The rules of R226 and R232 on the tensor of a slot beside that of slot 0; a tensor of one row is broadcast where its COLS is the row length of
slot 0. -/
def Vod.fits (v : Vod) (o : VecOp) (x : TDesc) (i : Nat) (t : TDesc) : Bool :=
  t.cols == v.colsFor x i && (t.rows == x.rows || (!o.outs.contains i && t.rows == 1 && t.cols == x.cols))

/-! ### Scaling records as bytes -/

/-- A scaling record as 128 bytes (R240). -/
def ScaleRec.bytes (r : ScaleRec) : List Byte :=
  r.hist.flatMap (leBytes 4) ++ leBytes 4 r.cur ++ leBytes 1 r.cfg ++ leBytes 1 r.headroom ++ leBytes 1 r.tfmt ++ leBytes 1 r.scale ++
    leBytes 1 r.hcount ++ leBytes 3 0 ++ leBytes 4 r.step ++ leBytes 4 r.saturated ++ leBytes 4 r.flushed ++ leBytes 4 r.poisoned ++
    leBytes 36 0

/-- A scaling record from bytes (R240). -/
def ScaleRec.ofBytes (b : List Byte) : ScaleRec :=
  let f := fun (o n : Nat) => leNat ((b.drop o).take n)
  { hist := (List.range 16).map (fun i => f (4 * i) 4), cur := f 64 4, cfg := f 68 1, headroom := f 69 1, tfmt := f 70 1, scale := f 71 1,
    hcount := f 72 1, step := f 76 4, saturated := f 80 4, flushed := f 84 4, poisoned := f 88 4 }

/-- Whether the bytes of a record hold no reserved value (R240). -/
def scaleBytesOk (b : List Byte) : Bool :=
  let r := ScaleRec.ofBytes b
  bitsOf r.cfg 5 3 == 0 && decide (r.headroom ≤ 15) && (decide (r.tfmt ≤ 4) || r.tfmt == 7) && decide (r.hcount ≤ 16) &&
  leNat ((b.drop 73).take 3) == 0 && leNat ((b.drop 92).take 36) == 0

/-- A deviation record as 128 bytes (R249). -/
def DevRec.bytes (r : DevRec) : List Byte :=
  r.bins.flatMap (leBytes 4) ++ leBytes 4 r.pos ++ leBytes 4 r.neg ++ leBytes 4 r.samples ++ leBytes 4 r.poisoned ++ leBytes 48 0

/-- Entry n of a patch list (R244): descriptor address, tag, reserved bits. -/
def State.patchEntry (s : State) (v : Vod) (n : Nat) : Nat × Nat × Nat :=
  let x := s.le (v.slot 1 + 8 * n) 8
  (bitsOf x 0 48, bitsOf x 48 12, bitsOf x 60 4)

/-- Entries of a patch list; slot 1 = 0 names none. -/
def Vod.patches (v : Vod) : Nat := if v.slot 1 = 0 then 0 else v.arg1

/-- What SCALE_LOAD and AMAX_PUSH check in what they read before they change anything (R240, R244): the status they end with. -/
def State.dataFault (s : State) (v : Vod) : Option Nat :=
  match v.opc with
  | 0x10 =>
    let recs := (List.range v.count).map (fun i => v.slot 0 + 128 * i)
    if recs.any (fun a => !s.marked a 128 && !scaleBytesOk (s.bytes a 128)) then some stDescError
    else if s.marked (v.slot 0) (128 * v.count) then some stDescPoisoned else none
  | 0x0E =>
    let bad := fun (n : Nat) =>
      let e := s.patchEntry v n
      !s.marked (v.slot 1 + 8 * n) 8 && !(e.2.2 == 0 && e.1 % 64 == 0 && s.okRange e.1 64 true)
    if (List.range v.patches).any bad then some stDescError
    else if v.patches ≠ 0 ∧ s.marked (v.slot 1) (8 * v.patches) = true then some stDescPoisoned else none
  | _ => none

/-! ### Setup -/

/-- End a VECTOR command at its checks (R135). -/
def State.vecStop (s : State) (q addr code : Nat) : State :=
  (s.descError q 0xFFFF addr code).modRun q (fun r => { r with ready := true, finished := true })

/-- What the setup of a VECTOR command reads (R135): its VOD and the tensor descriptors that it names. -/
def State.vecSpans (s : State) (a : Nat) : List (Nat × Nat) :=
  let v := Vod.ofWords (s.words a 16)
  (a, 128) :: ((v.tdSlots.map v.slot).filter (fun x => x % 64 == 0 && s.okRange x 64 false)).map (fun x => (x, 64))

/-- Whether everything a command's range rules look at decodes (R177, R256): a breach counts as an address not decoded. -/
def State.vecDecodes (s : State) (v : Vod) (o : VecOp) (tds : List TDesc) (bad : List Nat) : Bool :=
  v.tdSlots.all (fun i => s.okRange (v.slot i) 64 false &&
    (bad.contains i || (let t := tds.getD i {}; t.extent == 0 || s.storageOk t (o.outs.contains i)))) &&
  o.raw.all (fun i => let b := v.rawBytes (tds.getD 0 {}) i; v.slot i == 0 || b.1 == 0 || s.okRange (v.slot i) b.1 b.2)

/-- The setup of a VECTOR command (R135, R222 to R226): its descriptors are fetched and checked once, as soon as every core of the group can read them
(R18, R270); `met` is what the code finds in the units read (R268). -/
def vecSetup (q : Nat) (met : List (Nat × Ecc)) (s0 : State) : State :=
  let r := s0.run q
  if !(r.busy && r.opc == 3 && !r.ready) then s0
  else
    let a := r.lndAddr
    if a % 128 ≠ 0 ∨ s0.okRange a 128 false = false then (s0.stray (s0.okRange a 128 false)).vecStop q a stDescError
    else if !s0.coresReach r.cores (s0.vecSpans a) then s0
    else
      let s := s0.listMet (s0.vecSpans a) met (some (s0.opRef q))
      let seen := s.seenList met
      if seen.marked a 128 then s.vecStop q a stDescPoisoned
      else
        let w := s.words a 16
        let v := Vod.ofWords w
        match v.op with
        | none => s.vecStop q a stDescError
        | some o =>
          if !v.ok then s.vecStop q a stDescError
          else
            let sl := v.tdSlots
            let bad := sl.filter (fun i => seen.marked (v.slot i) 64)
            let tds := (List.range 6).map (fun i => if sl.contains i then s.readTd (v.slot i) else {})
            let x := tds.getD 0 {}
            let tdErr := fun (i : Nat) => !bad.contains i &&
              !(s.vecTdOwn v o i (tds.getD i {}) && (bad.contains 0 || v.fits o x i (tds.getD i {})))
            let t := s.stray (s.vecDecodes v o tds bad)
            match sl.find? (fun i => v.slot i % 64 != 0 || !s.okRange (v.slot i) 64 false), sl.find? tdErr, bad.head? with
            | some i, _, _ => t.vecStop q (v.slot i) stDescError
            | none, some i, _ => t.vecStop q (v.slot i) stDescError
            | none, none, b =>
              if !bad.contains 0 && !s.rawOk v x then t.vecStop q a stDescError
              else
                match b with
                | some i => s.vecStop q (v.slot i) stDescPoisoned
                | none => s.modRun q (fun r => { r with desc := w, tds := tds, ready := true, units := v.indices x })

/-! ### Reading -/

/-- One run of bytes that an index or an undistributed operation reads through context 0 (R217): where it lies, its retry-map bytes, and the row of a
tensor that it is. -/
structure VRead where
  at' : Nat
  len : Nat
  map : Nat × Nat := (0, 0)
  row : Option RowRef := none
  deriving DecidableEq, Repr

/-- The read of a row of a tensor (R146, R182): with the first row and with each that begins a cell, the retry-map bytes too. -/
def rowRead (slot : Nat) (t : TDesc) (first row : Nat) : VRead :=
  let sp := t.rowSpan row 0 t.cols
  let m := if row = first ∨ (t.row0 + row) % 128 = 0 then t.mapBytes row 0 t.cols else []
  { at' := sp.1, len := sp.2, map := (m.headD 0, m.length), row := some { slot := slot, row := row, c0 := 0, n := t.cols } }

/-- The tensor slots an operation reads. -/
def Vod.inSlots (v : Vod) : List Nat :=
  v.tdSlots.filter (fun i => !((v.op.map (·.outs)).getD []).contains i || (v.opc == 0x0B && decide (i ≤ 3)))

/-- The raw buffers an operation reads for some rows (R233, R234, R236, R240, R243, R244): address and bytes. -/
def Vod.rawReads (v : Vod) (rows : List Nat) : List (Nat × Nat) :=
  let l : List (Nat × Nat) := match v.opc with
    | 0x0A => [(v.slot 0, v.count * (if 2 ≤ v.func then 96 else 48))]
    | 0x0B => if v.slot 5 = 0 then [] else [(v.slot 5, 4)]
    | 0x0C => (let n := v.count * (v.func + 1) * 16; rows.map (fun g => (v.slot 0 + g * n, n)))
    | 0x0E => (if bitOf v.func 0 then [(v.slot 0, 4 * v.count)] else []) ++ [(v.slot 1, 8 * v.patches)]
    | 0x10 => [(v.slot 0, 128 * v.count)]
    | _ => []
  l.filter (fun x => x.2 != 0)

/-- Every read of an operation for some rows of slot 0. -/
def QRun.vecReads (r : QRun) (v : Vod) (rows : List Nat) : List VRead :=
  v.inSlots.flatMap (fun i =>
    let t := r.td i
    let rs := if t.rows = 1 then rows.take 1 |>.map (fun _ => 0) else rows
    rs.map (rowRead i t (rs.headD 0))) ++
  (v.rawReads rows).map (fun x => { at' := x.1, len := x.2 })

/-- Where the k-th piece stands that an operation streams through its tile-store window (R217). DESIGN CHOICE (log entry 104): in the k-th aligned block
of 1,024 bytes of the window, round and round. -/
def Vod.blockAt (v : Vod) (k : Nat) : Nat :=
  let first := ceilDiv v.tsBase 1024
  (first + k % ((v.tsBase + v.tsSize) / 1024 - first)) * 1024

/-- The transfers that bring some reads into the window (R166, R217). -/
def Vod.pieces (v : Vod) (l : List VRead) : List RdPiece :=
  let ps := l.flatMap (fun x =>
    let rs := cutRun (x.len / 1024 + 2) x.at' x.at' x.len
    ((List.range rs.length).zip rs).map (fun p =>
      ({ src := p.2.1, len := p.2.2.2, dst := 0, map := if p.1 = 0 then x.map else (0, 0), row := if p.1 = 0 then x.row else none } : RdPiece)))
  ((List.range ps.length).zip ps).map (fun p => { p.2 with dst := v.blockAt p.1 })

/-! ### Rows -/

/-- What one index or one undistributed operation writes and finds. -/
structure VOut where
  wrs : List (Nat × Wr) := []
  ev : Ev := {}
  tr : List (Nat × Rat × Ev) := []
  ifaults : List Nat := []
  skip : Bool := false
  deriving DecidableEq, Repr

/-- Both results, in order. -/
def VOut.join (a b : VOut) : VOut :=
  { wrs := a.wrs ++ b.wrs, ev := a.ev.add b.ev, tr := a.tr ++ b.tr, ifaults := a.ifaults ++ b.ifaults, skip := a.skip || b.skip }

/-- All results of a list. -/
def VOut.all (l : List VOut) : VOut := l.foldl VOut.join {}

/-- Only events. -/
def VOut.ofEv (e : Ev) : VOut := { ev := e }

/-- A raw output at an address. -/
def rawOut (slot a : Nat) (bs : List Byte) : VOut := { wrs := [(slot, { addr := a, bytes := bs })] }

/-- A row of an input: its values, which of them were nonzero and became 0 (R53, R218), and the flags that reading it set. -/
structure VIn where
  vs : List Val
  sub : List Bool
  fl : Nat := 0
  deriving DecidableEq, Repr

/-- A row of an input tensor, broadcast where it has one row (R226). -/
def State.vecRow (s : State) (t : TDesc) (r : Nat) : VIn :=
  let es := (List.range t.cols).map (s.readEl t (if t.rows = 1 then 0 else r))
  { vs := es.map (·.v), sub := es.map (·.sub), fl := es.foldl (fun a e => Nat.lor a e.fl) 0 }

/-- A missing input: the same value at every position of a row. -/
def VIn.const (x : Rat) (like : VIn) : VIn := { vs := like.vs.map (fun _ => .num x), sub := like.vs.map (fun _ => false) }

/-- An optional input of a row (R223, R230, R231). -/
def State.vecOpt (s : State) (v : Vod) (td : Nat → TDesc) (i r : Nat) (x : Rat) (like : VIn) : VIn :=
  if v.slot i = 0 then VIn.const x like else s.vecRow (td i) r

/-- The flags of some inputs. -/
def inFlags (l : List VIn) : Ev := { fmt := l.foldl (fun a x => Nat.lor a x.fl) 0 }

/-- At which positions some input was nonzero and became 0. -/
def subAt (l : List VIn) (i : Nat) : Bool := l.any (fun x => x.sub.getD i false)

/-- The count and flags of one position of a row (R64): what was poisoned on output or left out of a comparison as poisoned comes first, then what
was flushed, then what saturated. DESIGN CHOICE (log entry 69): an operation counts each position of a row once over all its inputs and outputs. -/
def posEv (sub left : Bool) (ms : List Mk) : Ev :=
  let e := Ev.sum (ms.map Mk.ev)
  let fl := Nat.lor e.fmt (if left then 0x80 else 0)
  if left || e.poisoned != 0 then { poisoned := 1, fmt := fl }
  else if sub || e.flushed != 0 then { flushed := 1, fmt := fl }
  else if e.saturated != 0 then { saturated := 1, fmt := fl }
  else { fmt := fl }

/-- The counts of the positions of a row. -/
def rowEv (n : Nat) (sub left : Nat → Bool) (ms : Nat → List Mk) : Ev := Ev.sum ((List.range n).map (fun i => posEv (sub i) (left i) (ms i)))

/-- The flag of R53 that the infinity or NaN of a cause sets (R229). -/
def causeFlag (c : Nat) : Nat := if c = 8 then 0x10 else if c = 9 ∨ c = 0x0A then 0x20 else 0

/-- What an infinite or undefined result sets (R229): DOMAIN, and the flag of the NaN or infinity it would be. -/
def domainEv : XV → Ev
  | .num _ => {}
  | .bad c => { vec := 1, fmt := causeFlag c }

/-- The rounding of one element of an output (R87, R225). -/
def vecRnd (v : Vod) (t : TDesc) (r c : Nat) (x : Rat) : Int :=
  roundSt ((Rnd.ofCode v.rmode).getD .near) (hash32 t.tag v.step (t.linear r c)) false x

/-- The value at one end of an enclosure. -/
def XV.at (x : XV) (g : Nat → Rat) (i : Nat) : Val := match x with
  | .num _ => .num (g i)
  | .bad c => .bad c

/-- The enclosure of element i of a list of results. -/
def encl (xs : List XV) (p i : Nat) : Iv := match xs[i]? with
  | some (.num f) => f p
  | _ => .pt 0

/-- out_round of a run of elements of a row from column c0 (R46, R225): a whole block where the format has blocks. -/
def outRun (v : Vod) (t : TDesc) (r c0 : Nat) (xs : List XV) : List OutEl :=
  let f := t.f
  if f.isBlock then
    let enc := fun (g : Nat → Rat) => encodeBlock f.bits t.tscale (fun i => vecRnd v t r (c0 + i))
      (((List.range xs.length).zip xs).map (fun p => p.2.at g p.1))
    let e := settle (fun lo hi => (enc lo, enc hi)) (encl xs) precs
    (e.ms.zip e.marks).map (fun x => { bits := tcBits f.bits x.1, blk := e.blk, mark := x.2,
                                       v := (readBlk f t.tscale e.blk (tcBits f.bits x.1)).v })
  else
    ((List.range xs.length).zip xs).map (fun p =>
      let enc := fun (g : Nat → Rat) => encodeElem f t.tscale t.subn (vecRnd v t r (c0 + p.1)) (p.2.at g 0)
      let w := settle (fun lo hi => (enc lo, enc hi)) (fun q _ => encl xs q p.1) precs
      { bits := w.1, mark := w.2, v := match p.2 with
        | .bad c => .bad c
        | .num _ => (readElem f t.tscale false w.1).v })

/-- The elements of a whole row. -/
def outEls (v : Vod) (t : TDesc) (r : Nat) (xs : List XV) : List OutEl :=
  if t.f.isBlock then
    let bs := chunks 32 xs
    ((List.range bs.length).zip bs).flatMap (fun p => outRun v t r (32 * p.1) p.2)
  else outRun v t r 0 xs

/-- The largest magnitude among the results that are not written poisoned, before rounding, as the FP32 value of R241. -/
def amaxOf (xs : List (XV × OutEl)) : Rat :=
  fpVal (xs.foldl (fun a x => match x.1, x.2.mark with
    | _, .poison => a
    | .num f, _ => max a (settle (fun lo hi => (fp32Up (ratAbs (lo 0)), fp32Up (ratAbs (hi 0)))) (fun p _ => f p) precs)
    | .bad _, _ => a) 0)

/-- A row of an output: what it writes, its elements' marks and its values as written. -/
structure VRow where
  out : VOut
  marks : List Mk
  vs : List Val

/-- The marks at position i of an output's row. -/
def VRow.at (x : VRow) (i : Nat) : List Mk := [x.marks.getD i .none]

/-- Write a row of an output tensor (R225, R241); `sub` and `left` are what its positions' inputs add to the counts of its tag. -/
def State.outRow (s : State) (v : Vod) (slot : Nat) (t : TDesc) (r : Nat) (xs : List XV) (sub : Nat → Bool := fun _ => false)
    (left : Nat → Bool := fun _ => false) : VRow :=
  let os := outEls v t r xs
  let ms := os.map (·.mark)
  { out := { wrs := (rowWrites t.f (t.rowAddr r) 0 true s.byte os).map (fun w => (slot, w)),
             tr := [(t.tag, amaxOf (xs.zip os), rowEv xs.length sub left (fun i => [ms.getD i .none]))] },
    marks := ms, vs := os.map (·.v) }

/-- Some elements of a row of BF16 or FP32, the others keeping what memory holds (R236). -/
structure VSome where
  out : VOut
  marks : List Mk
  vs : List (Option Val)

/-- Write some elements of a row of BF16 or FP32 (R236). -/
def outSome (v : Vod) (slot : Nat) (t : TDesc) (r : Nat) (xs : List (Option XV)) (sub : Nat → Bool) : VSome :=
  let os := ((List.range xs.length).zip xs).map (fun p => p.2.map (fun x =>
    (outRun v t r p.1 [x]).headD ⟨0, 0, .none, .num 0, false, false⟩))
  let n := t.f.bits / 8
  let ms := os.map (fun o => (o.map (·.mark)).getD .none)
  { out := { wrs := ((List.range os.length).zip os).filterMap (fun p => p.2.map (fun o =>
               (slot, ({ addr := t.rowAddr r + n * p.1, bytes := leBytes n o.bits } : Wr)))),
             tr := [(t.tag, amaxOf ((xs.zip os).filterMap (fun p => match p with
               | (some x, some o) => some (x, o)
               | _ => none)), rowEv xs.length (fun i => sub i && ((os.getD i none).isSome)) (fun _ => false) (fun i => [ms.getD i .none]))] },
    marks := ms, vs := os.map (fun o => o.map (·.v)) }

/-- FP32 values written to a raw buffer and what R64 counts of them. -/
def raw32 (slot a : Nat) (xs : List (Val × Mk)) : VOut :=
  { rawOut slot a (xs.flatMap (fun x => leBytes 4 (f32Bits x.1))) with ev := Ev.sum (xs.map (fun x => x.2.ev)) }

/-! ### Accumulators -/

/-- R218: an input of an accumulator on the 2^−149 grid, and whether a nonzero one became 0. -/
def toGrid (x : Val) : Val × Nat :=
  match x with
  | .bad c => (.bad c, 0)
  | .num r =>
    let y := roundQ .near (r * pow2 149)
    (.num ((y : Rat) * pow2 (-149)), if y = 0 ∧ r ≠ 0 then 1 else 0)

/-- A row's inputs on the grid (R218). -/
def VIn.grid (x : VIn) : VIn :=
  let ys := x.vs.map toGrid
  { vs := ys.map (·.1), sub := (x.sub.zip ys).map (fun p => p.1 || p.2.2 != 0), fl := x.fl }

/-- An exact sum, poisoned by any poisoned addend (R220). -/
def exactSum (xs : List Val) : Val := if xs.any Val.isBad then .bad 4 else .num ((xs.map Val.rat).foldl (· + ·) 0)

/-- A product, poisoned by a poisoned factor (R220). -/
def valMul (a b : Val) : Val := if a.isBad || b.isBad then .bad 4 else .num (a.rat * b.rat)

/-- The bytes of an ACC320 (`wide` = false) or ACC640 value (R221). -/
def accBytes (wide : Bool) (x : Val) (count : Nat) : List Byte :=
  let n := if wide then 80 else 40
  let a := match x with
    | .num r => tcBits (8 * n) (r * pow2 (if wide then 298 else 149)).floor
    | .bad _ => 0
  let st := (match x with
    | .bad c => 1 + 2 * (c % 64)
    | .num _ => 0) + min count (2 ^ 48 - 1) * 256
  leBytes n a ++ leBytes 8 st ++ (if wide then leBytes 8 0 else [])

/-- Read an ACC320 or ACC640 value: the value and its COUNT. -/
def readAcc (wide : Bool) (b : List Byte) : Val × Nat :=
  let n := if wide then 80 else 40
  let st := leNat ((b.drop n).take 8)
  (if bitOf st 0 then .bad 4
   else .num ((sext (8 * n) (leNat (b.take n)) : Rat) * pow2 (if wide then -298 else -149)), bitsOf st 8 48)

/-- The flag a raw accumulator sets that is written poisoned (R65). -/
def accEv (x : Val) : Ev := { fmt := if x.isBad then 0x40 else 0 }

/-- A value as a result. -/
def Val.xv : Val → XV
  | .num r => .pt r
  | .bad c => .bad c

/-- round32 of a result, as a value and with what R64 counts where it is written (R225). -/
def XV.round32m : XV → Val × Mk
  | .num f =>
    let e := settle (fun lo hi => (encodeFp 24 false (roundQ .near) (lo 0), encodeFp 24 false (roundQ .near) (hi 0))) (fun p _ => f p) precs
    (.num (fpVal e.1), e.2)
  | .bad c => (.bad c, .poison)

/-! ### Row operations -/

/-- MAP on one row (R227 to R229, R564). -/
def State.rowMap (s : State) (v : Vod) (td : Nat → TDesc) (r : Nat) : VOut :=
  let d := bitOf v.func 5
  let x := s.vecRow (td 0) r
  let y := if d then s.vecRow (td 1) r else VIn.const 0 x
  let n := v.func % 32
  let zs := (x.vs.zip y.vs).map (fun p =>
    match p.1, p.2 with
    | .num a, .num b => (let z := if d then mapDeriv n a b else mapFun n a; (z, domainEv z))
    | _, _ => (.bad 4, {}))
  let o := s.outRow v 4 (td 4) r (zs.map (·.1)) (subAt [x, y])
  VOut.all [.ofEv (inFlags [x, y]), .ofEv (Ev.sum (zs.map (·.2))), o.out, .ofEv (rowEv zs.length (subAt [x, y]) (fun _ => false) o.at)]

/-- FMA on one row (R223). -/
def State.rowFma (s : State) (v : Vod) (td : Nat → TDesc) (r : Nat) : VOut :=
  let x := s.vecRow (td 0) r
  let y := s.vecOpt v td 1 r 1 x
  let z := s.vecOpt v td 2 r 0 x
  let xs := (x.vs.zip (y.vs.zip z.vs)).map (fun p =>
    if p.1.isBad || p.2.1.isBad || p.2.2.isBad then XV.bad 4 else .pt (p.1.rat * p.2.1.rat + p.2.2.rat))
  let o := s.outRow v 4 (td 4) r xs (subAt [x, y, z])
  VOut.all [.ofEv (inFlags [x, y, z]), o.out, .ofEv (rowEv xs.length (subAt [x, y, z]) (fun _ => false) o.at)]

/-- RSUM and RDOT on one row (R218 to R220, R226). -/
def State.rowSum (s : State) (v : Vod) (td : Nat → TDesc) (r : Nat) : VOut :=
  let dot := v.opc == 4
  let x := (s.vecRow (td 0) r).grid
  let y := if dot && v.slot 1 != 0 then (s.vecRow (td 1) r).grid else x
  let sum := exactSum (if dot then (x.vs.zip y.vs).map (fun p => valMul p.1 p.2) else x.vs)
  let n := (td 0).cols
  let res : XV := match sum with
    | .bad c => .bad c
    | .num t => .pt (if v.func = 0 then t else if n = 0 then 0 else t / n)
  let o := s.outRow v 4 (td 4) r [res]
  let raw := if v.slot 5 = 0 then {} else
    (rawOut 5 (v.slot 5 + r * (if dot then 96 else 48)) (accBytes dot sum n)).join (.ofEv (accEv sum))
  VOut.all [.ofEv (inFlags [x, y]), .ofEv (rowEv n (subAt [x, y]) (fun _ => false) (fun _ => [])), o.out,
    .ofEv (rowEv 1 (fun _ => false) (fun _ => false) o.at), raw]

/-- LNORM and RMSNORM on one row (R230). -/
def State.rowNorm (s : State) (v : Vod) (td : Nat → TDesc) (r : Nat) : VOut :=
  let ln := v.opc == 5
  let x := s.vecRow (td 0) r
  let g := s.vecOpt v td 1 r 1 x
  let b := if ln then s.vecOpt v td 2 r 0 x else VIn.const 0 x
  let gx := x.grid
  let n : Rat := ((td 0).cols : Rat)
  let s1 := exactSum gx.vs
  let s2 := exactSum (gx.vs.map (fun a => valMul a a))
  let mu : Val := if !ln then .num 0 else match s1 with
    | .num t => .num (t / n)
    | .bad c => .bad c
  let root : XV × Ev := match s2 with
    | .bad _ => (.bad 4, {})
    | .num t => (let z := mapFun 6 (t / n - mu.rat * mu.rat + v.par 0); (z, domainEv z))
  let rr := root.1.round32m
  let ys := (x.vs.zip (g.vs.zip b.vs)).map (fun p =>
    if p.1.isBad || p.2.1.isBad || p.2.2.isBad || rr.1.isBad then XV.bad 4
    else .pt ((p.1.rat - mu.rat) * rr.1.rat * p.2.1.rat + p.2.2.rat))
  let ins := [gx, g, b]
  let o := s.outRow v 4 (td 4) r ys (subAt ins)
  let raw := if v.slot 5 = 0 then {} else raw32 5 (v.slot 5 + r * 8) [mu.xv.round32m, rr]
  VOut.all [.ofEv (inFlags ins), .ofEv root.2, o.out, .ofEv (rowEv ys.length (subAt ins) (fun _ => false) o.at), raw]

/-- round32(exp(d)) as a value. -/
def expRound (d : Rat) : Rat := fpVal (round32Bits (fun p => expOf p (.pt d)))

/-- The largest of the numbers among values. -/
def maxVal (xs : List Val) : Option Rat :=
  xs.foldl (fun a x => match a, x with
    | none, .num r => some r
    | some b, .num r => some (max b r)
    | a, .bad _ => a) none

/-- A position of a SOFTMAX row (R231): whether it is kept, and its z. A poisoned mask element keeps it, poisoned. -/
def softPos (m : Rat) (x keep : Val) : Bool × Val :=
  match keep with
  | .bad _ => (true, .bad 4)
  | .num k => (decide (k ≠ 0), match x with
    | .bad _ => .bad 4
    | .num a => .num (m * a))

/-- SOFTMAX on one row (R231). -/
def State.rowSoft (s : State) (v : Vod) (td : Nat → TDesc) (r : Nat) : VOut :=
  let x := s.vecRow (td 0) r
  let k := s.vecOpt v td 1 r 1 x
  let zs := (x.vs.zip k.vs).map (fun p => softPos (v.par 0) p.1 p.2)
  let kept := (zs.filter (·.1)).map (·.2)
  let res : List XV × (Val × Mk) := match maxVal kept with
    | none => (zs.map (fun _ => XV.pt 0), (.bad 4, .poison))
    | some m =>
      if kept.any Val.isBad then (zs.map (fun _ => XV.bad 4), (.bad 4, .poison))
      else
        let ts := zs.map (fun z => if z.1 then expRound (z.2.rat - m) else 0)
        let sm := ts.foldl (· + ·) 0
        (ts.map (fun t => XV.pt (t / sm)), (XV.num (fun p => Iv.add (.pt m) (lnIv p sm))).round32m)
  let sub := fun i => subAt [x, k] i && ((zs.getD i (false, .num 0)).1)
  let left := fun i => match zs.getD i (false, .num 0) with
    | (true, .bad _) => true
    | _ => false
  let o := s.outRow v 4 (td 4) r res.1 sub left
  let raw := if v.slot 5 = 0 then {} else raw32 5 (v.slot 5 + r * 4) [res.2]
  VOut.all [.ofEv (inFlags [x, k]), o.out, .ofEv (rowEv zs.length sub left o.at), raw]

/-- What a label names (R232): none for an ignored row, some none for a label out of range, else its logit. DESIGN CHOICE (log entry 70): a label
whose decoded value is no integer, which the spec does not speak of, names some logit where it lies in range. -/
def labelOf (n : Nat) (l : Rat) : Option (Option Nat) :=
  if l = -1 then none
  else if l < 0 ∨ (n : Rat) ≤ l then some none
  else some (some (if l.den = 1 then l.num.toNat else Config.fractionLabel l.num l.den % n))

/-- XENT on one row (R232): what it writes, and its loss as it enters the partial; none where the row is skipped. -/
def State.rowXent (s : State) (v : Vod) (td : Nat → TDesc) (r : Nat) : VOut × Option Val :=
  let x := s.vecRow (td 0) r
  let l := s.vecRow (td 1) r
  let n := (td 0).cols
  let run := fun (loss : XV) (g : List XV) (left : Nat → Bool) =>
    let o := s.outRow v 4 (td 4) r [loss] (subAt [l])
    let p := s.outRow v 5 (td 5) r g (subAt [x]) left
    VOut.all [.ofEv (inFlags [x, l]), o.out, p.out, .ofEv (rowEv 1 (subAt [l]) (fun _ => false) o.at),
      .ofEv (rowEv n (subAt [x]) left p.at)]
  let none' := fun _ => false
  match l.vs.headD (.bad 4) with
  | .bad _ => (run (.bad 4) (x.vs.map (fun _ => .bad 4)) none', some (.bad 4))
  | .num code =>
    match labelOf n code with
    | none => (.ofEv (inFlags [l]), none)
    | some none => ({ ev := (inFlags [l]).add { vec := 2 }, ifaults := [(td 0).row0 + r] }, none)
    | some (some t) =>
      if x.vs.any Val.isBad then
        (run (.bad 4) (x.vs.map (fun _ => .bad 4)) (fun i => (x.vs.getD i (.num 0)).isBad), some (.bad 4))
      else
        let m := (maxVal x.vs).getD 0
        let ts := x.vs.map (fun a => expRound (a.rat - m))
        let sm := ts.foldl (· + ·) 0
        let lossF : Nat → Iv := fun p => Iv.add (.pt (m - (x.vs.getD t (.num 0)).rat)) (lnIv p sm)
        let gs := ((List.range n).zip ts).map (fun p => XV.pt (v.par 0 * (p.2 / sm - (if p.1 = t then 1 else 0))))
        (run (.num lossF) gs none', some (XV.num lossF).round32)

/-- XENT on the rows of an index (R232). -/
def State.idxXent (s : State) (v : Vod) (td : Nat → TDesc) (i : Nat) (rows : List Nat) : VOut :=
  let rs := rows.map (s.rowXent v td)
  let losses := rs.filterMap (·.2)
  let sum := exactSum losses
  VOut.all [VOut.all (rs.map (·.1)), rawOut 3 (v.slot 3 + i * 48) (accBytes false sum losses.length), .ofEv (accEv sum)]

/-- SUMSQ on the rows of an index (R234). -/
def State.idxSumsq (s : State) (v : Vod) (td : Nat → TDesc) (i : Nat) (rows : List Nat) : VOut :=
  let xs := rows.map (fun r => (s.vecRow (td 0) r).grid)
  let all := xs.flatMap (·.vs)
  let sum := exactSum (all.map (fun a => valMul a a))
  VOut.all [.ofEv (inFlags xs), .ofEv (Ev.sum (xs.map (fun x => rowEv x.vs.length (subAt [x]) (fun _ => false) (fun _ => [])))),
    rawOut 5 (v.slot 5 + i * 96) (accBytes true sum all.length), .ofEv (accEv sum)]

/-- The clip factor of ADAMW (R236): 1 where slot 5 is 0. -/
def State.clip (s : State) (v : Vod) : Rd :=
  if v.slot 5 = 0 then { v := .num 1 }
  else if s.marked (v.slot 5) 4 then { v := .bad 3 }
  else readFp 23 false (s.le (v.slot 5) 4)

/-- w1 of one element (R236): poison where a root or a quotient is infinite or undefined, with what that sets (R229). -/
def adamW1 (v : Vod) (w m1 v1 : Val) : XV × Ev :=
  if w.isBad || m1.isBad || v1.isBad then (.bad 4, {})
  else
    match (mapFun 5 (v1.rat * v.par 6)).round32 with
    | .bad c => (.bad c, domainEv (.bad c))
    | .num q32 =>
      let den := fpVal (round32Bits (fun _ => .pt (q32 + v.par 3)))
      let num := m1.rat * v.par 5
      if den = 0 then
        let z := XV.bad (if num = 0 ∨ v.par 0 = 0 then 8 else if 0 < v.par 0 * num then 0x0A else 9)
        (z, domainEv z)
      else (.pt (w.rat - v.par 0 * (num / den + v.par 4 * w.rat)), {})

/-- ADAMW on one row (R236, R237). -/
def State.rowAdamw (s : State) (v : Vod) (td : Nat → TDesc) (c : Rat) (r : Nat) : VOut :=
  let g := s.vecRow (td 0) r
  let w := s.vecRow (td 1) r
  let m := s.vecRow (td 2) r
  let vv := s.vecRow (td 3) r
  let sub := subAt [g, w, m, vv]
  let kept := fun i => (g.vs.getD i (.num 0)).isBad
  let upd := fun (b : Rat) (old : Val) (gc : Rat) => if old.isBad then XV.bad 4 else .pt (b * old.rat + (1 - b) * gc)
  let m1 := outSome v 2 (td 2) r ((g.vs.zip m.vs).map (fun p =>
    if p.1.isBad then none else some (upd (v.par 1) p.2 (p.1.rat * c)))) sub
  let v1 := outSome v 3 (td 3) r ((g.vs.zip vv.vs).map (fun p =>
    if p.1.isBad then none else some (upd (v.par 2) p.2 (p.1.rat * c * (p.1.rat * c))))) sub
  let ws := (w.vs.zip (m1.vs.zip v1.vs)).map (fun p => match p.2.1, p.2.2 with
    | some a, some b => some (adamW1 v p.1 a b)
    | _, _ => none)
  let w1 := outSome v 1 (td 1) r (ws.map (fun x => x.map (·.1))) sub
  let cp : VRow := if v.slot 4 = 0 then ⟨{}, [], []⟩ else
    s.outRow v 4 (td 4) r ((w.vs.zip w1.vs).map (fun p => match p.2.getD p.1 with
      | .bad _ => XV.bad 4
      | .num x => .pt x)) sub
  let n := g.vs.length
  let marks := fun i => [m1, v1, w1].map (fun (x : VSome) => x.marks.getD i .none) ++ cp.at i ++ (if kept i then [Mk.poison] else [])
  VOut.all [.ofEv (inFlags [g, w, m, vv]), m1.out, v1.out, w1.out, cp.out,
    .ofEv (Ev.sum (ws.map (fun x => (x.map (·.2)).getD {}))), .ofEv { rowEv n sub (fun _ => false) marks with
      fmt := (Ev.sum ((List.range n).flatMap (fun i => ([m1, v1, w1].map (fun (x : VSome) => (x.marks.getD i .none).ev)) ++ (cp.at i).map Mk.ev))).fmt },
    .ofEv { vec := if (List.range n).any kept then 8 else 0 }]

/-- ADAMW on the rows of an index: a poisoned clip factor skips the step (R237). -/
def State.idxAdamw (s : State) (v : Vod) (td : Nat → TDesc) (rows : List Nat) : VOut :=
  let c := s.clip v
  match c.v with
  | .bad _ => { ev := { poisoned := rows.length * (td 0).cols, vec := 4, fmt := c.fl }, skip := true }
  | .num f => (VOut.ofEv { fmt := c.fl }).join (VOut.all (rows.map (s.rowAdamw v td f)))

/-- TOPKM on one row (R233). -/
def State.rowTopkm (s : State) (v : Vod) (w : List Word) (g : Nat) : VOut :=
  let k := v.func + 1
  let f := (Fmt.ofCode (Config.topkmFormat w)).getD .int8
  let a := v.slot 0 + g * v.count * k * 16
  let n := v.count * k * 16
  let bs := s.bytes a n
  let ok := fun (i : Nat) => !s.marked (a + 16 * i) 16
  let rs := recordsOf f bs ok
  let cs := candidates rs
  let lost := ((List.range (n / 16)).filter (fun i => !ok i)).length + (rs.length - cs.length)
  let best := (cs.foldl (fun l r => rankIns r l) []).take k
  (rawOut 4 (v.slot 4 + g * k * 16) (best.flatMap (fun r => r.1.bytes) ++
    (List.replicate (k - best.length) (vacantBytes f 0)).flatten)).join
    (.ofEv { poisoned := lost, fmt := Nat.lor (rs.foldl (fun a p => Nat.lor a p.2.fl) 0) (if lost = 0 then 0 else 0x80) })

/-! ### Running an index -/

/-- The rows of an index (R224). -/
def Vod.rows (v : Vod) (total i : Nat) : List Nat := (List.range (min v.rpi (total - i * v.rpi))).map (· + i * v.rpi)

/-- What one index of a distributed operation writes and finds (R223). -/
def State.vecIndex (s : State) (r : QRun) (v : Vod) (i : Nat) : VOut :=
  let td := fun k => r.td k
  let rows := v.rows (if v.opc = 0x0C then v.arg0 else (td 0).rows) i
  match v.opc with
  | 0x01 => VOut.all (rows.map (s.rowMap v td))
  | 0x02 => VOut.all (rows.map (s.rowFma v td))
  | 0x03 | 0x04 => VOut.all (rows.map (s.rowSum v td))
  | 0x05 | 0x06 => VOut.all (rows.map (s.rowNorm v td))
  | 0x07 => VOut.all (rows.map (s.rowSoft v td))
  | 0x08 => s.idxXent v td i rows
  | 0x09 => s.idxSumsq v td i rows
  | 0x0B => s.idxAdamw v td rows
  | _ => VOut.all (rows.map (s.rowTopkm v r.desc))

/-- Whether two runs of bytes overlap. -/
def overlaps (a n b m : Nat) : Bool := decide (n ≠ 0 ∧ m ≠ 0 ∧ a < b + m ∧ b < a + n)

/-- The slots whose outputs overlap an input in a way R226 leaves undefined; a broadcast row is no storage of the same shape. -/
def clashes (r : QRun) (v : Vod) : List Nat :=
  match v.op with
  | none => []
  | some o =>
    let el := v.opc == 1 || v.opc == 2 || v.opc == 0x0B
    let rows := List.range (if v.opc = 0x0C then v.arg0 else 0)
    let raws := v.rawReads rows
    let same := fun (i j : Nat) =>
      let a := r.td i
      let b := r.td j
      el && a.base == b.base && a.stride == b.stride && a.fmt == b.fmt && a.rows == b.rows
    let hits := fun (i a n : Nat) =>
      v.inSlots.any (fun j => i != j && overlaps a n (r.td j).base (r.td j).extent && !(v.tdSlots.contains i && same i j)) ||
      raws.any (fun x => overlaps a n x.1 x.2)
    (o.outs.filter (fun i => v.tdSlots.contains i && hits i (r.td i).base (r.td i).extent)) ++
    (o.raw.filter (fun i => let b := v.rawBytes (r.td 0) i; v.slot i != 0 && b.2 && hits i (v.slot i) b.1))

/-- Replace the bytes written to clashing outputs by free values (R226). -/
def State.freeClash (s : State) (cl : List Nat) (wrs : List (Nat × Wr)) : State × List Wr :=
  wrs.foldl (fun a w =>
    if cl.contains w.1 then
      let n := w.2.bytes.length
      ({ a.1 with freeCtr := a.1.freeCtr + n },
       a.2 ++ [{ w.2 with bytes := (List.range n).map (fun i => BitVec.ofNat 8 (Config.freeValue (a.1.freeCtr + i))) }])
    else (a.1, a.2 ++ [w.2])) (s, [])

/-- The outputs of an operation as they stand in its window, each in its aligned block of 1,024 bytes (R166, R217; log entry 104). -/
def Vod.placeOut (v : Vod) (c : Nat) (ws : List Wr) : List (Wr × Nat) :=
  let ps := ws.flatMap (fun w => cutWr (kiloCuts w.addr w.bytes.length) w)
  ((List.range ps.length).zip ps).map (fun p => (p.2, tileAddr c (v.blockAt p.1 + p.2.addr % 1024)))

/-- Take the results of an index or operation into the state: events, records, and its outputs staged in the window for context 0 to write (R134, R217,
R241). -/
def State.vecTake (s : State) (c q i : Nat) (v : Vod) (o : VOut) : State :=
  let s3 := o.tr.foldl (fun t x => t.track x.1 x.2.1 x.2.2) (s.events c q o.ev)
  let s4 := o.ifaults.foldl (fun t n => t.indexFault c q n false) s3
  let s5 := if o.skip then s4.modRun q (fun r => { r with stepSkipped := true }) else s4
  let w := s5.freeClash (clashes (s.run q) v) o.wrs
  let ps := v.placeOut c w.2
  let mine : List StagedWr := ps.map (fun x => { q := q, index := i, tile := 0xFFFF, wr := x.1, src := x.2 })
  (w.1.placeStaged ps).modCtx c 0 (fun y => { y with staged := y.staged ++ mine })

/-- Lanes of an operation per cycle (R216). -/
def Vod.rate (v : Vod) : Nat :=
  match v.opc with
  | 1 => if v.func = 0 ∨ v.func = 10 then 256 else if v.func ≤ 7 then 64 else 32
  | 2 => 256
  | 4 | 5 | 6 | 9 => 16
  | _ => 64

/-- The queue whose stage-group command a core takes part in, checked or not. -/
def State.groupRun (s : State) (c : Nat) : Option Nat :=
  (s.runs.find? (fun p => p.2.busy && decide (1 ≤ p.2.opc ∧ p.2.opc ≤ 3) && p.2.cores.contains c)).map (·.1)

/-- The transfers of the index of a VECTOR command. -/
def QRun.indexPieces (r : QRun) (v : Vod) (i : Nat) : List RdPiece :=
  v.pieces (r.vecReads v (v.rows (if v.opc = 0x0C then v.arg0 else (r.td 0).rows) i))

/-- INDEX_TAKE for a VECTOR command (R150, R224): the reads of the index are formed. -/
def takeVector (c q : Nat) (s : State) : State :=
  let r := s.run q
  let v := Vod.ofWords r.desc
  let g := s.fg F.QM_QDESC.GROUP q
  if !r.ready || r.finished || !((v.op.map (·.dist)).getD false) || !s.inPool c || r.stopped.contains c ||
    (s.core c).held.any (fun h => h.q == q) then s
  else if s.fb F.TOP_TCOUNT.CLOSED g ∨ r.units ≤ r.next then (s.stopTaking c q).checkMatrix q
  else
    ((((s.handIndex c q).fs F.VEC_STATUS.STATE 1 c).fs F.VEC_STATUS.OPC v.opc c).fs F.VEC_STATUS.INDEX r.next c).formReads c
      { q := q, index := r.next, tile := 0xFFFF, unit := 4, todo := r.indexPieces v r.next }

/-- INDEX_TAKE (R150, R151); `met` is what the code finds in the units that the setup of a VECTOR command reads (R268). -/
def indexTake (c : Nat) (met : List (Nat × Ecc)) (s : State) : State :=
  if !s.diesGo then s
  else
    match s.groupRun c with
    | none => s
    | some q =>
      if (s.run q).opc = 3 then takeVector c q (vecSetup q met s) else if (s.run q).ready then s.takeMatrix c q else s

/-- An index of a VECTOR command whose data are in the window (R224). -/
def State.vecDone (s : State) (c q : Nat) (v : Vod) (j : RdJob) : State :=
  let r := s.run q
  let o := (s.seenGot j.got).vecIndex r v j.index
  let s1 := (s.modCore c (fun k => k.dropReads (fun y => y.id == j.id))).vecTake c q j.index v o
  let n := (v.rows (r.td 0).rows j.index).length * (r.td 0).cols
  let s2 := (s1.modCore c (fun k => { k with held := k.held.filter (fun x => x.q != q) })).modRun q (fun r => { r with done := r.done + 1 })
  ((s2.fs F.VEC_STATUS.STATE 0 c).fc F.VEC_CYCLES.ACTIVE (max 1 (ceilDiv n v.rate)) c).checkMatrix q

/-- A distributed operation on the index its core holds (R224), once what it reads has landed. -/
def vecRun (opc c : Nat) (s : State) : State :=
  match s.groupRun c with
  | none => s
  | some q =>
    let r := s.run q
    let v := Vod.ofWords r.desc
    if !s.diesGo || r.opc != 3 || !r.ready || v.opc != opc then s
    else
      match ((s.core c).held.find? (fun h => h.q == q)).bind (fun h => (s.core c).rdJob q h.index 0xFFFF 4) with
      | none => s
      | some j => if (s.core c).rdDone j then s.vecDone c q v j else s

/-- Whether the vector engine of a core waits for data (R251): what its index reads has not all landed. -/
def State.vecWaits (s : State) (c : Nat) : Bool :=
  let k := s.core c
  k.reads.any (fun j => j.unit == 4 && k.held.any (fun h => h.q == j.q && h.index == j.index) && !k.rdDone j)

/-! ### Meanings -/

def execIndexTake (c : CoreAt) (s : State) : Host.Outcome State Fault Refusal := .next (indexTake c.core.val (unitList c.met) s)
def execMap (c : Fin 96) (s : State) : Host.Outcome State Fault Refusal := .next (vecRun 0x01 c.val s)
def execFma (c : Fin 96) (s : State) : Host.Outcome State Fault Refusal := .next (vecRun 0x02 c.val s)
def execRsum (c : Fin 96) (s : State) : Host.Outcome State Fault Refusal := .next (vecRun 0x03 c.val s)
def execRdot (c : Fin 96) (s : State) : Host.Outcome State Fault Refusal := .next (vecRun 0x04 c.val s)
def execLnorm (c : Fin 96) (s : State) : Host.Outcome State Fault Refusal := .next (vecRun 0x05 c.val s)
def execRmsnorm (c : Fin 96) (s : State) : Host.Outcome State Fault Refusal := .next (vecRun 0x06 c.val s)
def execSoftmax (c : Fin 96) (s : State) : Host.Outcome State Fault Refusal := .next (vecRun 0x07 c.val s)
def execXent (c : Fin 96) (s : State) : Host.Outcome State Fault Refusal := .next (vecRun 0x08 c.val s)
def execSumsq (c : Fin 96) (s : State) : Host.Outcome State Fault Refusal := .next (vecRun 0x09 c.val s)
def execAdamw (c : Fin 96) (s : State) : Host.Outcome State Fault Refusal := .next (vecRun 0x0B c.val s)
def execTopkm (c : Fin 96) (s : State) : Host.Outcome State Fault Refusal := .next (vecRun 0x0C c.val s)

end Sys2Proof.Machine
end

