-- ==== Sys2Proof/Machine/Training.lean ====
section
/-! DEFINITION. The undistributed vector operations: the exact combine of partials (R234), the scaling table (R240 to R246) and the
deviation records (R249). -/

namespace Sys2Proof.Machine

/-- The deviation record of a tag (R249). -/
def State.devRec (s : State) (t : Nat) : DevRec := smGet (fun _ => {}) s.devs t

/-- The tags of an operation (R240). -/
def Vod.tags (v : Vod) : List Nat := (List.range v.count).map (· + v.arg0)

/-! ### ACCRED -/

/-- The partials of ACCRED (R221, R234): their sum and their total COUNT. -/
def State.partials (s : State) (v : Vod) : Val × Nat :=
  let wide := decide (2 ≤ v.func)
  let n := if wide then 96 else 48
  let ps := (List.range v.count).map (fun i =>
    let a := v.slot 0 + n * i
    if s.marked a n then (Val.bad 4, 0) else readAcc wide (s.bytes a n))
  (exactSum (ps.map (·.1)), (ps.map (·.2)).sum)

/-- The clip factor and norm of FUNC 3 (R234): the root of a negative sum is poison (R229). -/
def clipRecord (v : Vod) (sum : Rat) : List XV :=
  if sum < 0 then [.bad 8, .bad 8]
  else if sum = 0 then [.pt 1, mapFun 5 sum]
  else
    [.num (fun p =>
      let i := Iv.mul (.pt (v.par 0)) (Iv.inv (sqrtIv p sum))
      ⟨min 1 i.lo, min 1 i.hi⟩), mapFun 5 sum]

/-- What ACCRED writes to slot 4, before round32 (R234). -/
def accredOut (v : Vod) (sum : Val) (total : Nat) : List XV :=
  match sum with
  | .bad _ => List.replicate (if v.func = 3 then 2 else 1) (.bad 4)
  | .num x =>
    match v.func with
    | 0 | 2 => [.pt (x * v.par 0)]
    | 3 => clipRecord v x
    | _ => [.pt (if total = 0 then 0 else x / total)]

/-- ACCRED (R234). -/
def State.accred (s : State) (v : Vod) : VOut :=
  let p := s.partials v
  let o := accredOut v p.1 p.2
  (raw32 4 (v.slot 4) (o.map XV.round32m)).join (.ofEv (if p.1.isBad then {} else domainEv (o.headD (.pt 0))))

/-! ### The scaling table -/

/-- The offset of a target format (R243). -/
def scaleOffset (tfmt : Nat) : Int :=
  match tfmt with
  | 0 => -2
  | 1 => -6
  | 2 => -33
  | 3 => -37
  | 4 => -45
  | _ => -30

/-- The window of a record (R240). -/
def ScaleRec.window (r : ScaleRec) : Nat := r.cfg % 16 + 1

/-- The entries of a history that a push compares. -/
def ScaleRec.entries (r : ScaleRec) : List Nat := r.hist.take (min r.window r.hcount)

/-- The largest of those entries; a loaded one that reads as poison takes no part (R60). -/
def ScaleRec.amax (r : ScaleRec) : Rat := (r.entries.filter (fun x => !fpSpecial x)).foldl (fun a x => max a (fpVal x)) 0

/-- What a push counts and flags of the entries it leaves out as poisoned (R60). -/
def ScaleRec.left (r : ScaleRec) : Ev :=
  let n := (r.entries.filter fpSpecial).length
  { poisoned := n, fmt := if n = 0 then 0 else 0x80 }

/-- A push into one record (R243): the record, and whether its new scale was clamped. -/
def ScaleRec.push (r : ScaleRec) (a step : Nat) : ScaleRec × Bool :=
  let r1 := { r with cur := 0, hist := (a :: r.hist).take 16, hcount := min 16 (r.hcount + 1), step := step }
  let m := r1.amax
  if m ≤ 0 then (r1, false)
  else
    let k := ilog2 m + scaleOffset r.tfmt + r.headroom
    let c := clampInt (-128) 127 k
    ({ r1 with scale := tcBits 8 c }, decide (c ≠ k))

/-- Push one tag (R243): the new entry is CUR or an element of the array at slot 0, whose reading sets the flags of R53. -/
def State.pushTag (s : State) (v : Vod) (t : Nat) : State × Ev :=
  let r := s.scaleRec t
  if !r.track then (s, {})
  else
    let at0 := v.slot 0 + 4 * (t - v.arg0)
    let vec := bitOf v.func 0
    let a := if vec then s.le at0 4 else r.cur
    let fl : Ev := { fmt := if vec && !s.marked at0 4 then (readFp 23 false a).fl else 0 }
    if fpSpecial a || (vec && s.marked at0 4) then ((s.setScale t { r with cur := 0 }).fc F.TOP_SCALE_STATUS.POISON_SKIPS 1, fl)
    else
      let p := r.push a v.step
      (((s.setScale t p.1).fc F.TOP_SCALE_STATUS.PUSHES 1).fc F.TOP_SCALE_STATUS.CLAMPED (b2n p.2), fl.add p.1.left)

/-- The descriptor patches of AMAX_PUSH (R244), in list order, from the table after the push. -/
def State.patchOuts (s : State) (v : Vod) : List (Nat × Wr) :=
  (List.range v.patches).filterMap (fun n =>
    let e := s.patchEntry v n
    let r := s.scaleRec e.2.1
    if v.arg0 ≤ e.2.1 ∧ e.2.1 < v.arg0 + v.count ∧ r.track = true then
      some (1, ({ addr := e.1 + 7, bytes := leBytes 1 r.scale } : Wr))
    else none)

/-- AMAX_PUSH (R243, R244). -/
def State.amaxPush (s : State) (v : Vod) : State × VOut :=
  let x := v.tags.foldl (fun (y : State × Ev) t => let z := y.1.pushTag v t; (z.1, y.2.add z.2)) (s, {})
  (x.1, { wrs := x.1.patchOuts v, ev := x.2 })

/-- SCALE_LOAD (R240): its records were checked before. -/
def State.scaleLoad (s : State) (v : Vod) : State :=
  v.tags.foldl (fun t x => t.setScale x (ScaleRec.ofBytes (s.bytes (v.slot 0 + 128 * (x - v.arg0)) 128))) s

/-- DEV_SAVE (R223, R249): FUNC bit 0 clears the records after the copy. -/
def State.devSave (s : State) (v : Vod) : State × VOut :=
  (if bitOf v.func 0 then { s with devs := v.tags.foldl (fun m t => smPut (fun _ => {}) m t {}) s.devs } else s,
   rawOut 4 (v.slot 4) (v.tags.flatMap (fun t => (s.devRec t).bytes)))

/-- What the code over the scaling records finds in that of a tag as AMAX_PUSH reads it (R462). -/
def State.scaleMet (found : Ecc) (tag : Nat) (v : Vod) (s : State) : State := if v.tags.contains tag then s.scaleEcc tag found else s

/-- What the code over the deviation records finds in that of a tag as DEV_SAVE reads it (R462): a lost record reads 0. -/
def State.devMet (found : Ecc) (tag : Nat) (v : Vod) (s : State) : State :=
  if v.tags.contains tag then
    s.ctlMet found (uid 7 0) 9 tag (fun t => { t with devs := smPut (fun _ => {}) t.devs tag {} })
  else s

/-- What an undistributed operation does to the tables, and what it writes. -/
def State.soleOp (s : State) (v : Vod) : State × VOut :=
  match v.opc with
  | 0x0A => (s, s.accred v)
  | 0x0D => (s, rawOut 4 (v.slot 4) (v.tags.flatMap (fun t => leBytes 4 (s.scaleRec t).cur)))
  | 0x0E => s.amaxPush v
  | 0x0F => (s, rawOut 4 (v.slot 4) (v.tags.flatMap (fun t => (s.scaleRec t).bytes)))
  | 0x10 => (s.scaleLoad v, {})
  | _ => s.devSave v

/-! ### Running the operation -/

/-- An undistributed operation runs on what it read (R224): the data are checked before anything changes (R240, R244); `rec`: what the code over the
records it reads finds. -/
def soleOn (opc c q : Nat) (v : Vod) (rec : Vod → State → State) (got : List Wr) (s : State) : State :=
  match (s.seenGot got).dataFault v with
  | some code => s.vecStop q (s.run q).lndAddr code
  | none =>
    let t := rec v s
    let o := (t.seenGot got).soleOp v
    let s1 := ({ o.1 with marks := t.marks, mem := t.mem }).vecTake c q 0 v o.2
    let s2 := s1.modRun q (fun r => { r with
      next := 1, done := 1, finished := true, ni := r.ni || (v.opc == 0x0E && !bitOf v.func 0) })
    ((s2.fs F.VEC_STATUS.OPC opc c).fs F.VEC_STATUS.INDEX 0 c).fc F.VEC_CYCLES.ACTIVE
      (max 1 (if opc = 0x0A then ceilDiv v.count 16 else v.count)) c

/-- The command whose undistributed operation a core may run now, set up: R224 gives it to the lowest-numbered in-pool core of the group. -/
def State.soleFor (s : State) (opc c q : Nat) : Bool :=
  let r := s.run q
  r.ready && !r.finished && (Vod.ofWords r.desc).opc == opc && s.soloCore r == some c

/-- An undistributed operation on the core it belongs to (R224): its reads are formed, and once they have landed it runs. `met`: what the code finds in
the units that the setup reads (R268); `rec`: what it finds in the records the operation reads. -/
def soleRun (opc c : Nat) (met : List (Nat × Ecc)) (s0 : State) (rec : Vod → State → State := fun _ s => s) : State :=
  match s0.groupRun c with
  | none => s0
  | some q =>
    if !s0.diesGo || (s0.run q).opc != 3 then s0
    else
      let s := vecSetup q met s0
      let v := Vod.ofWords (s.run q).desc
      if !s.soleFor opc c q then s
      else
        let todo := v.pieces ((s.run q).vecReads v [])
        match (s.core c).rdJob q 0 0xFFFF 4 with
        | none => if todo.isEmpty then soleOn opc c q v rec [] s else s.formReads c { q := q, index := 0, tile := 0xFFFF, unit := 4, todo := todo }
        | some j => if (s.core c).rdDone j then soleOn opc c q v rec j.got (s.modCore c (fun k => k.dropReads (fun y => y.id == j.id))) else s

/-! ### Meanings -/

def execAccred (c : CoreAt) (s : State) : Host.Outcome State Fault Refusal := .next (soleRun 0x0A c.core.val (unitList c.met) s)
def execAmaxSave (c : CoreAt) (s : State) : Host.Outcome State Fault Refusal := .next (soleRun 0x0D c.core.val (unitList c.met) s)
def execAmaxPush (c : RecordsAt) (s : State) : Host.Outcome State Fault Refusal :=
  .next (soleRun 0x0E c.core.val (unitList c.met) s (State.scaleMet c.found c.tag.toNat))
def execScaleSave (c : CoreAt) (s : State) : Host.Outcome State Fault Refusal := .next (soleRun 0x0F c.core.val (unitList c.met) s)
def execScaleLoad (c : CoreAt) (s : State) : Host.Outcome State Fault Refusal := .next (soleRun 0x10 c.core.val (unitList c.met) s)
def execDevSave (c : RecordsAt) (s : State) : Host.Outcome State Fault Refusal :=
  .next (soleRun 0x11 c.core.val (unitList c.met) s (State.devMet c.found c.tag.toNat))

end Sys2Proof.Machine
end

