-- ==== Sys2Proof/Machine/Collective.lean ====
section
/-! DEFINITION. The collective engines (chapter 12): the descriptor and its tables, the rings and their pieces, the owner's action, the
whisk and the all-to-all. One command carries a collective as far as what has arrived allows; PIECE_ADD takes one notice. -/

namespace Sys2Proof.Machine

/-! ### The descriptor -/

/-- A collective descriptor (R370). -/
structure CDesc where
  version : Nat
  op : Nat
  levels : List Nat
  whisk : Bool
  lanes : List Nat
  pieceP : Nat
  srcn : Nat
  lepoch : Nat
  grid : Int
  inA : Nat
  srcList : Nat
  outA : Nat
  map : Nat
  map2 : Nat
  gt : List Nat
  scratch : Nat
  scratchSize : Nat
  count : Nat
  root : Nat
  recB : Nat
  route : Nat
  drop : Nat
  dropMax : Nat
  rsvd : Bool
  deriving DecidableEq, Repr

/-- Decode the 16 words of a collective descriptor (R370). -/
def CDesc.ofWords (w : List Word) : CDesc :=
  let x := fun i => (w.getD i 0).toNat
  { version := bitsOf (x 0) 0 8
    op := bitsOf (x 0) 8 4
    levels := (bitList 3 (bitsOf (x 0) 12 3)).map (· + 1)
    whisk := bitOf (x 0) 15
    lanes := bitList 8 (bitsOf (x 0) 16 8)
    pieceP := bitsOf (x 0) 24 3
    srcn := bitsOf (x 0) 27 3 + 1
    lepoch := bitsOf (x 0) 32 16
    grid := sext 10 (bitsOf (x 0) 48 10)
    inA := bitsOf (x 1) 0 48
    srcList := bitsOf (x 2) 0 48
    outA := bitsOf (x 3) 0 48
    map := bitsOf (x 4) 0 48
    map2 := bitsOf (x 5) 0 48
    gt := [6, 7, 8].map (fun i => bitsOf (x i) 0 48)
    scratch := bitsOf (x 9) 0 48
    scratchSize := bitsOf (x 10) 0 48
    count := bitsOf (x 11) 0 40
    root := bitsOf (x 12) 0 16
    recB := bitsOf (x 12) 16 24
    route := bitsOf (x 13) 0 48
    drop := bitsOf (x 14) 0 48
    dropMax := bitsOf (x 15) 0 32
    rsvd := bitsOf (x 0) 30 2 != 0 || bitsOf (x 0) 58 6 != 0 || [1, 2, 3, 4, 5, 6, 7, 8, 9, 10, 13, 14].any (fun i => bitsOf (x i) 48 16 != 0) ||
      bitsOf (x 11) 40 24 != 0 || bitsOf (x 12) 40 24 != 0 || bitsOf (x 15) 32 32 != 0 }

/-- The operations that move elements (R371). -/
def CDesc.isReduce (d : CDesc) : Bool := d.op == 1 || d.op == 2 || d.op == 3 || d.op == 7

/-- Exact reductions. -/
def CDesc.exact (d : CDesc) : Bool := d.op == 1 || d.op == 3

/-- The operations over one flat group. -/
def CDesc.flat (d : CDesc) : Bool := d.op == 8 || d.op == 9

/-- A collective as it runs: its descriptor with what was fetched. -/
structure Coll where
  d : CDesc
  k : CollSt
  q : Nat
  deriving DecidableEq, Repr

/-- The group table of a level; one member where the level is not selected (R368). -/
def Coll.gt (c : Coll) (l : Nat) : GTab := ((c.k.gts.find? (fun g => g.1 == l)).map (·.2)).getD {}

/-- The level of a flat group. -/
def Coll.flatLevel (c : Coll) : Nat := c.d.levels.headD 1

/-- Global rank (R368). -/
def Coll.rankOf (c : Coll) (r : Nat → Nat) : Nat := (r 1 * (c.gt 2).n + r 2) * (c.gt 3).n + r 3

/-- This device's rank at a level. -/
def Coll.rank (c : Coll) (l : Nat) : Nat := (c.gt l).rank

/-- This device's global rank. -/
def Coll.me (c : Coll) : Nat := c.rankOf c.rank

/-- Bytes of an element of IN, 1 for byte operations. -/
def Coll.eb (c : Coll) : Nat := if c.d.isReduce then ((c.k.srcs.headD {}).f.bits) / 8 else 1

/-- Elements of a piece (R370). -/
def Coll.pe (c : Coll) : Nat := (if c.d.isReduce then 1024 else 16384) * 2 ^ c.d.pieceP

/-- The largest bytes of a landing slot (R377). -/
def CDesc.slotB (d : CDesc) : Nat :=
  let p := 1024 * 2 ^ d.pieceP
  ceilDiv (if d.exact then p * 1032 / 32 else p * 4) 4096 * 4096

/-- A boundary as an element (or byte) number. -/
def Coll.bound (c : Coll) (g : Nat) : Nat := c.k.bounds.getD g 0 * 64 / c.eb

/-- The chunk of a rank at a level, as elements (R375). -/
def Coll.chunk (c : Coll) (l r : Nat) : Nat × Nat :=
  let at' := fun (lv : Nat) => if lv = l then r else if lv < l then c.rank lv else 0
  let g := c.rankOf at'
  let span := ((List.range 4).filter (fun lv => decide (l < lv))).foldl (fun a lv => a * (c.gt lv).n) 1
  (c.bound g, c.bound (g + span))

/-- Pieces of a chunk. -/
def Coll.pieces (c : Coll) (ch : Nat × Nat) : Nat := ceilDiv (ch.2 - ch.1) c.pe

/-- Piece j of a chunk, as elements. -/
def Coll.piece (c : Coll) (ch : Nat × Nat) (j : Nat) : Nat × Nat := (ch.1 + j * c.pe, min ch.2 (ch.1 + (j + 1) * c.pe))

/-! ### Phases -/

/-- What a member does in turn (R376, R387, R391). -/
inductive CPhase where
  | sum
  | rs (l : Nat)
  | own
  | ag (l : Nat)
  | bc (l : Nat)
  | tok (l : Nat)
  | old
  | send
  | move
  | lists
  | slots
  | recs
  deriving DecidableEq, Repr

/-- The phases of an operation. -/
def CDesc.phases (d : CDesc) : List CPhase :=
  let down := d.levels.reverse
  match d.op with
  | 1 | 2 | 7 => [.sum] ++ d.levels.map .rs ++ [.own] ++ down.map .ag
  | 3 => [.sum] ++ d.levels.map .rs ++ [.own]
  | 4 => [.own] ++ down.map .ag
  | 5 => [.own] ++ down.map .bc
  | 6 => d.levels.map .tok
  | 8 => (if d.whisk then [.old, .tok 0] else []) ++ [.send, .tok 0, .move]
  | _ => [.lists, .slots, .recs]

/-- The phase a collective is in; none once it has done all of them. -/
def Coll.now (c : Coll) : Option CPhase := c.d.phases[c.k.phase]?

/-- The group table of a phase's ring: that of its level, or of the flat group. -/
def Coll.ring (c : Coll) (l : Nat) : GTab := c.gt (if l = 0 then c.flatLevel else l)

/-- The connection a lane sends on, and the one it receives on, at a level (R367). -/
def Coll.nextConn (c : Coll) (l i : Nat) : Nat := (c.ring l).next + 8 * c.k.ctx + c.k.lanes.getD i 0
def Coll.prevConn (c : Coll) (l i : Nat) : Nat := (c.ring l).prev + 8 * c.k.ctx + c.k.lanes.getD i 0

/-- The pieces of one chunk that a lane handles: chunk and number. -/
def Coll.mine (c : Coll) (step : Nat) (ch : Nat × Nat) (i : Nat) : List (Nat × (Nat × Nat) × Nat) :=
  ((List.range (c.pieces ch)).filter (fun j => j % c.k.lanes.length == i)).map (fun j => (step, ch, j))

/-- The root's rank at a level. -/
def Coll.rootRank (c : Coll) (l : Nat) : Nat :=
  match l with
  | 1 => c.d.root / ((c.gt 2).n * (c.gt 3).n)
  | 2 => c.d.root / (c.gt 3).n % (c.gt 2).n
  | _ => c.d.root % (c.gt 3).n

/-- How far behind the root this member lies in its ring of a level. -/
def Coll.dist (c : Coll) (l : Nat) : Nat := (c.rank l + (c.gt l).n - c.rootRank l) % (c.gt l).n

/-- Whether this member's ring at a level takes part in a BROADCAST: its ranks at lower levels are the root's (R376). -/
def Coll.inBcast (c : Coll) (l : Nat) : Bool := (List.range l).all (fun lv => lv == 0 || c.rank lv == c.rootRank lv)

/-- What lane i sends in a phase, in order: step, chunk, piece (R375, R376). -/
def Coll.sends (c : Coll) (p : CPhase) (i : Nat) : List (Nat × (Nat × Nat) × Nat) :=
  match p with
  | .rs l =>
    let n := (c.gt l).n
    (List.range (n - 1)).flatMap (fun s => c.mine s (c.chunk l ((c.rank l + 2 * n - s - 1) % n)) i)
  | .ag l =>
    let n := (c.gt l).n
    (List.range (n - 1)).flatMap (fun s => c.mine s (c.chunk l ((c.rank l + n - s) % n)) i)
  | .bc l =>
    if c.inBcast l && decide (c.dist l + 1 < (c.gt l).n) then c.mine (if c.dist l = 0 then 0 else 1) (0, c.d.count) i else []
  | _ => []

/-- What lane i receives in a phase, in order. -/
def Coll.recvs (c : Coll) (p : CPhase) (i : Nat) : List (Nat × (Nat × Nat) × Nat) :=
  match p with
  | .rs l =>
    let n := (c.gt l).n
    (List.range (n - 1)).flatMap (fun s => c.mine s (c.chunk l ((c.rank l + 2 * n - s - 2) % n)) i)
  | .ag l =>
    let n := (c.gt l).n
    (List.range (n - 1)).flatMap (fun s => c.mine s (c.chunk l ((c.rank l + 2 * n - s - 1) % n)) i)
  | .bc l => if c.inBcast l && decide (1 ≤ c.dist l) then c.mine 0 (0, c.d.count) i else []
  | _ => []

/-- Pieces a lane has sent, and received, in the present phase. -/
def Coll.sentN (c : Coll) (i : Nat) : Nat := smGet (fun _ => 0) c.k.sent i
def Coll.recvN (c : Coll) (i : Nat) : Nat := smGet (fun _ => 0) c.k.recv i

/-! ### The running collective of a queue -/

/-- The collective a queue runs, once it is set up. -/
def State.coll (s : State) (q : Nat) : Option Coll :=
  match smFind s.colls q with
  | some k => if k.ready then some { d := CDesc.ofWords k.words, k := k, q := q } else none
  | none => none

/-- Change the collective of a queue. -/
def State.modColl (s : State) (q : Nat) (f : CollSt → CollSt) : State :=
  { s with colls := s.colls.map (fun p => if p.1 = q then (p.1, f p.2) else p) }

/-- Note one more sent by a lane, or received. -/
def State.collSent (s : State) (q i : Nat) : State :=
  s.modColl q (fun k => { k with sent := smPut (fun _ => 0) k.sent i (smGet (fun _ => 0) k.sent i + 1) })
def State.collRecv (s : State) (q i : Nat) : State :=
  s.modColl q (fun k => { k with recv := smPut (fun _ => 0) k.recv i (smGet (fun _ => 0) k.recv i + 1) })

/-- Whether packets of a queue's collective are unacknowledged. -/
def State.collOwes (s : State) (q : Nat) : Bool :=
  s.conns.any (fun p => (p.2.tx ++ p.2.wait).any (fun t => match t.home with
    | .coll q' _ => q' == q
    | _ => false))

/-- Whether a connection of a collective can be used. -/
def State.collConnOk (s : State) (c : Nat) : Bool := decide (c < 4096) && s.connOpen c

/-- Whether a request was sent by this device (R389). -/
def CombReq.own (r : CombReq) : Bool :=
  match r.home with
  | .conn _ _ => false
  | _ => true

/-- Work still pending under an older layout epoch (R389): running commands, and the combine requests of this device that are not yet applied or,
sent to another device, not yet acknowledged; those of a command that has been aborted too. -/
def State.oldPending (s : State) : Nat :=
  let old := fun (e : Nat) => e != s.fg F.COL_LAYOUT.CUR
  (s.runs.filter (fun p => p.2.busy && old p.2.epoch)).length +
    (s.units.map (fun p => (p.2.filter (fun r => r.own && old r.tag)).length)).sum +
    (s.conns.map (fun p => ((p.2.tx ++ p.2.wait).filter (fun t => t.p.ptype == 2 && old t.tag)).length)).sum

/-- Take the first notice with a tag that came on a connection. -/
def State.takeNotice (s : State) (conn tag : Nat) : Option (Notice × State) :=
  match s.notices.find? (fun n => n.conn == conn && n.tag == tag) with
  | some n => some (n, { s with notices := s.notices.erase n })
  | none => none

/-! ### Moving bytes -/

/-- The units of a target run that take poison from marked units of its source (R185). -/
def State.movedMarks (s : State) (src dst n : Nat) : List Nat :=
  ((List.range n).filterMap (fun i => if s.mark ((src + i) / 64) then some ((dst + i) / 64) else none)).eraseDups

/-- Copy n bytes with their marks; all are read before any is written. -/
def State.copyRun (s : State) (src dst n : Nat) : State :=
  if n = 0 then s else s.store dst (s.bytes src n) (s.movedMarks src dst n)

/-- Send bytes to an address of a connection's peer as WRITE packets; the last carries LASTF and a tag where `tag` names one (R377). -/
def State.sendRun (s : State) (q conn dst : Nat) (bs : List Byte) (pz : List Nat) (tag : Option Nat) : State :=
  let cuts := if bs.isEmpty then [(dst, 0)] else cutBlocks (bs.length / 4096 + 2) dst bs.length
  ((List.range cuts.length).zip cuts).foldl (fun t x =>
    let a := x.2.1
    let last := tag.isSome && x.1 + 1 == cuts.length
    let mine := pz.filter (fun u => decide (a / 64 ≤ u ∧ u * 64 < a + x.2.2))
    t.connSend conn { zeroPkt with
      ptype := 1
      lastf := last
      addr := BitVec.ofNat 48 a
      tag := BitVec.ofNat 16 (if last then tag.getD 0 else 0)
      poison := poisonMask a mine
      payload := (bs.drop (a - dst)).take x.2.2 } (.coll q 0)) s

/-- Send a run of memory. -/
def State.sendMem (s : State) (q conn src dst n : Nat) (tag : Option Nat) : State :=
  s.sendRun q conn dst (s.bytes src n) (s.movedMarks src dst n) tag

/-- The notice tag of R379. -/
def collTag (lane ctx slot level : Nat) (gather token : Bool) : Nat :=
  lane + ctx * 8 + slot * 32 + level * 128 + b2n gather * 512 + b2n token * 1024

/-! ### Reducing -/

/-- Combine a run into the working buffer (R380, R382, R383), by 64-byte units. -/
def State.reduceInto (s : State) (c : Coll) (a : Nat) (bs : List Byte) (pz : List Nat) : State :=
  let f := (c.k.srcs.headD {}).f
  let us := chunks 64 bs
  ((List.range us.length).zip us).foldl (fun t x =>
    let w : Wr := { addr := a + 64 * x.1, bytes := x.2, pz := pz.filter (fun u => u == a / 64 + x.1) }
    let comb := fun (o : Nat) => t.combine { Comb.ofNat 0 with op := o } w
    let r := if c.d.exact then comb 1 else if c.d.op = 2 then t.addf f w else comb (if f = .int32 then 3 else 5)
    (r.wrs.foldl State.combStore t).count c.q r.ev) s

/-- Where an element of the working buffer lies. -/
def Coll.inAddr (c : Coll) (x : Nat) : Nat := (c.k.srcs.headD {}).base + x * c.eb

/-- Where an element of the output lies. -/
def Coll.outAddr (c : Coll) (x : Nat) : Nat := c.k.out.base + (if c.d.isReduce then c.k.out.f.rowBytes x else x)

/-- The sum of sources (R380): sources 1 on into source 0, in order. -/
def State.sumSources (s : State) (c : Coll) : State :=
  let n := c.d.count * c.eb
  (c.k.srcs.drop 1).foldl (fun t x => t.reduceInto c (c.inAddr 0) (s.bytes x.base n) (s.movedMarks x.base (c.inAddr 0) n)) s

/-- The XPF bytes of a run of the working buffer (R380). -/
def State.xpfRun (s : State) (a n : Nat) : List Byte :=
  (List.range (n / 1024)).flatMap (fun b => xpfEncode ((List.range 32).map (fun i =>
    let e := a + 1024 * b + 32 * i
    if s.mark (e / 64) then .error 4 else .ok (sext 256 (s.le e 32)))))

/-- 32 elements that an XPF piece adds: their values, or poison; and whether the block was malformed. -/
structure XBlk where
  xs : List Int := List.replicate 32 0
  poison : Bool := false
  malformed : Bool := false
  deriving DecidableEq, Repr

/-- Decode a landed piece of `left` blocks of 32 elements (R98, R100, R384). DESIGN CHOICE (log entry 73): how far a receiver skips a malformed block
is open; here it is as long as its W says, with no elements under ZERO or POISON, and a header that is itself poisoned poisons the rest of the
piece. -/
def xpfPiece (mk : Nat → Nat → Bool) : Nat → Nat → List Byte → XBlk → Nat → List XBlk
  | 0, _, _, _, left => List.replicate left { poison := true, malformed := true }
  | _, _, _, _, 0 => []
  | fuel + 1, off, bs, cur, left + 1 =>
    if mk off 4 then List.replicate (left + 1) { poison := true }
    else
      match xpfDecode bs with
      | .malformed =>
        let h := leNat (bs.take 4)
        let n := if bitOf h 16 || bitOf h 17 then 4 else 4 + 4 * bitsOf h 8 8
        { poison := true, malformed := true } :: xpfPiece mk fuel (off + n) (bs.drop n) {} left
      | .poison _ rest => { poison := true } :: xpfPiece mk fuel (off + 4) rest {} left
      | .add xs cont rest =>
        let n := bs.length - rest.length
        let b : XBlk := { xs := (cur.xs.zip xs).map (fun p => p.1 + p.2), poison := cur.poison || mk off n }
        if cont then xpfPiece mk fuel (off + n) rest b (left + 1) else b :: xpfPiece mk fuel (off + n) rest {} left

/-- A first poison event of the collective (R384). -/
def State.collPoison (s : State) (q a : Nat) : State :=
  s.modRun q (fun r => if r.pev.isEmpty then { r with pev := [⟨0, 2, s.global (a / 64 * 64), 0⟩] } else r)

/-- Add a landed XPF piece into n bytes of the working buffer (R100, R384). -/
def State.addXpf (s : State) (c : Coll) (h slot a n : Nat) : State :=
  let bs := s.bytes slot c.d.slotB
  let blks := xpfPiece (fun o m => s.marked (slot + o) m) (bs.length + 1) 0 bs {} (n / 1024)
  ((List.range blks.length).zip blks).foldl (fun t x =>
    let at' := a + 1024 * x.1
    let b := x.2
    let t1 := t.reduceInto c at' (b.xs.flatMap (fun v => leBytes 32 (tcBits 256 v))) (if b.poison then unitsOf at' 1024 else [])
    if b.malformed then (t1.fc F.COL_ERR.MALFORMED 1 h).collPoison c.q at' else t1) s

/-! ### Pieces -/

/-- The landing slot of R377. -/
def Coll.slotAddr (c : Coll) (i l k : Nat) : Nat := c.d.scratch + 4096 + ((i * 3 + (l - 1)) * 4 + k % 4) * c.d.slotB

/-- The credit word of R377. -/
def Coll.creditAddr (c : Coll) (i l : Nat) : Nat := c.d.scratch + ((i * 3 + (l - 1)) * 8)

/-- The bytes of a piece: in the working buffer, or in the output. -/
def Coll.inRun (c : Coll) (x : Nat × Nat) : Nat × Nat := (c.inAddr x.1, (x.2 - x.1) * c.eb)
def Coll.outRun (c : Coll) (x : Nat × Nat) : Nat × Nat := (c.outAddr x.1, c.outAddr x.2 - c.outAddr x.1)

/-- The hub of a lane. -/
def Coll.hub (c : Coll) (i : Nat) : Nat := c.k.lanes.getD i 0

/-- Whether every lane's hub can now access what `runs` gives for each piece of a chunk that the lane handles (R18, R270, R380). -/
def State.lanesReach (s : State) (c : Coll) (ch : Nat × Nat) (runs : Nat × Nat → List (Nat × Nat)) : Bool :=
  (List.range c.k.lanes.length).all (fun i => (c.mine 0 ch i).all (fun x => s.hubReach (c.hub i) (runs (c.piece ch x.2.2))))

/-- Whether the sum of sources can be done now (R380): each lane adds its own pieces. -/
def State.sumReach (s : State) (c : Coll) : Bool :=
  c.k.srcs.length ≤ 1 || s.lanesReach c (0, c.d.count) (fun r => c.k.srcs.map (fun t => (t.base + r.1 * c.eb, (r.2 - r.1) * c.eb)))

/-- Whether the owner's action can be done now (R376): on the final range, or on all of IN by a BROADCAST's root. -/
def State.ownReach (s : State) (c : Coll) : Bool :=
  if c.d.op = 5 then c.me != c.d.root || s.lanesReach c (0, c.d.count) (fun r => [c.inRun r, c.outRun r])
  else
    let own := (c.bound c.me, c.bound (c.me + 1))
    s.lanesReach c own (fun r => [c.inRun r, if c.d.op = 3 then (c.k.out.base, c.k.out.f.rowBytes (own.2 - own.1)) else c.outRun r])

/-- Whether lane i may send its next piece now (R375, R378). -/
def State.canSend (s : State) (c : Coll) (p : CPhase) (i : Nat) : Bool :=
  let k := c.sentN i
  match (c.sends p i)[k]? with
  | none => false
  | some (st, ch, j) =>
    let dep := st == 0 || ((c.recvs p i).take (c.recvN i)).contains (st - 1, ch, j)
    let r := c.piece ch j
    match p with
    | .rs l =>
      dep && decide (k < 4 + s.le (c.creditAddr i l) 8) && s.hubWay (c.hub i) (c.inRun r).1 (c.inRun r).2
    | _ => dep && s.hubWay (c.hub i) (c.outRun r).1 (c.outRun r).2

/-- Send lane i's next piece (R377, R380). -/
def State.sendPiece (s : State) (c : Coll) (p : CPhase) (i : Nat) : State :=
  let k := c.sentN i
  match (c.sends p i)[k]? with
  | none => s
  | some (_, ch, j) =>
    let r := c.piece ch j
    let s1 := match p with
      | .rs l =>
        let w := c.inRun r
        let tag := some (collTag i c.k.ctx (k % 4) l false false)
        if c.d.exact then s.sendRun c.q (c.nextConn l i) (c.slotAddr i l k) (s.xpfRun w.1 w.2) [] tag
        else s.sendMem c.q (c.nextConn l i) w.1 (c.slotAddr i l k) w.2 tag
      | .ag l | .bc l =>
        let w := c.outRun r
        s.sendMem c.q (c.nextConn l i) w.1 w.1 w.2 (some (collTag i c.k.ctx 0 l true false))
      | _ => s
    (s1.collSent c.q i).fc F.COL_COUNT.PIECES_TX 1 (c.hub i)

/-- Send what lane i may send; the fuel bounds the pieces. -/
def State.laneSend : Nat → Nat → Nat → State → State
  | 0, _, _, s => s
  | n + 1, q, i, s =>
    match s.coll q with
    | none => s
    | some c =>
      match c.now with
      | none => s
      | some p => if s.canSend c p i then State.laneSend n q i (s.sendPiece c p i) else s

/-- A member's range under a map, in bytes. -/
def rangeOf (bounds : List Nat) (m : Nat) : Nat × Nat := (bounds.getD m 0 * 64, bounds.getD (m + 1) 0 * 64)

/-- The memory that the engines of a collective read or update: its sources, tables, landing space and output (R369, R370, R377, R387). -/
def Coll.reads (c : Coll) : List (Nat × Nat) :=
  let d := c.d
  let own := rangeOf c.k.bounds c.me
  let ins := match d.op with
    | 8 => c.k.srcs.map (fun t => (t.base, own.2 - own.1))
    | 9 => [(c.inAddr 0, d.count * d.recB), (d.route, 8 * d.count)]
    | _ => c.k.srcs.map (fun t => (t.base, d.count * c.eb))
  (d.scratch, d.scratchSize) :: ins ++ c.k.regions

/-- What the code finds in units that the engines read (R268), or must read to write a part of them (R257): `met` names the units. -/
def State.collMet (s : State) (q : Nat) (met : List (Nat × Ecc)) : State :=
  match s.coll q with
  | none => s
  | some c => met.foldl (fun t x =>
      if c.reads.any (fun r => (unitsOf r.1 r.2).contains x.1) then t.unitMet x.1 x.2 (some (t.opRef q)) else t) s

/-- PIECE_ADD (R375, R377, R384): the receiving lane takes the notice of its next piece, adds or keeps the piece, and returns a credit. -/
def pieceAdd (h src tag : Nat) (met : List (Nat × Ecc)) (s : State) : State :=
  let x := bitsOf tag 3 2
  let i := bitsOf tag 0 3
  let l := bitsOf tag 7 2
  match s.colls.find? (fun p => p.2.ready && p.2.ctx == x && p.2.lanes[i]? == some h) with
  | none => s
  | some pk =>
    match s.coll pk.1 with
    | none => s
    | some c =>
      let k := c.recvN i
      let p : CPhase := if bitOf tag 9 then (if c.d.op = 5 then .bc l else .ag l) else .rs l
      match (c.recvs p i)[k]?, s.takeNotice (c.prevConn l i) tag with
      | some (_, ch, j), some (n, s1) =>
        let r := c.piece ch j
        let w := c.inRun r
        if c.now ≠ some p ∨ n.src ≠ src ∨ bitOf tag 10 = true ∨ l = 0 ∨ 2 ^ 11 ≤ tag then s
        else if bitOf tag 9 then (s1.collRecv c.q i).fc F.COL_COUNT.PIECES_RX 1 h
        else if bitsOf tag 5 2 ≠ k % 4 ∨ s.hubWay h w.1 w.2 = false then s
        else
          let a := c.slotAddr i l k
          let s1' := s1.collMet pk.1 met
          let s2 := if c.d.exact then s1'.addXpf c h a w.1 w.2
            else s1'.reduceInto c w.1 (s1'.bytes a w.2) (s1'.movedMarks a w.1 w.2)
          let s3 := s2.connSend (c.prevConn l i) { zeroPkt with
            ptype := 5
            addr := BitVec.ofNat 48 (c.creditAddr i l)
            payload := leBytes 8 1 } (.coll c.q 0)
          (s3.collRecv c.q i).fc F.COL_COUNT.PIECES_RX 1 h
      | _, _ => s

/-! ### The owner's action -/

/-- One element of the working buffer in the decant register (R84, R384). -/
def State.accEl (s : State) (a : Nat) : DEl :=
  { a := sext 256 (s.le a 32), bad := if s.mark (a / 64) then some 4 else none }

/-- The owner's decant of its final range (R380). -/
def State.ownDecant (s : State) (c : Coll) : State :=
  let x0 := c.bound c.me
  let x1 := c.bound (c.me + 1)
  let dc := DecCtl.ofWord ((s.run c.q).words.getD 4 0)
  let t := c.k.out
  let b0 := if c.d.op = 3 then x0 else 0
  let ds := (List.range (x1 - x0)).map (fun i => (hash32 t.tag dc.step (t.col0 + (x0 - b0) + i), s.accEl (c.inAddr (x0 + i))))
  let os := decantRow t.f t.tscale t.subn ((Rnd.ofCode dc.rmode).getD .near) c.d.grid (x0 - b0) ds
  let ev := Ev.sum ((ds.zip os).map (fun p => outEv p.1.2 p.2))
  let amax := ((ds.zip os).map (fun p => if p.2.mark = .poison then 0 else ratAbs (p.1.2.val c.d.grid).rat)).foldl max 0
  let s1 := (rowWrites t.f t.base (x0 - b0) true s.byte os).foldl (fun u w => u.store w.addr w.bytes w.pz) s
  (s1.count c.q ev).track t.tag amax ev

/-- The owner's action on its final range (R376, R380, R382, R383). -/
def State.ownAction (s : State) (c : Coll) : State :=
  match c.d.op with
  | 1 | 3 => if (c.k.out.fmt = 8) then s.copyRun (c.inAddr (c.bound c.me)) c.k.out.base ((c.bound (c.me + 1) - c.bound c.me) * 32) else s.ownDecant c
  | 5 => if c.me = c.d.root then s.copyRun (c.inAddr 0) (c.outAddr 0) c.d.count else s
  | _ =>
    let r := c.outRun (c.bound c.me, c.bound (c.me + 1))
    s.copyRun (c.inAddr (c.bound c.me)) r.1 r.2

/-! ### Tokens -/

/-- Carry the token of a ring on (R376, R391): rank 0 starts each of two rounds; fuel bounds the passes. -/
def State.tokens : Nat → Nat → Nat → State → State
  | 0, _, _, s => s
  | n + 1, q, l, s =>
    match s.coll q with
    | none => s
    | some c =>
      let g := c.ring l
      let sent := c.sentN 0
      let tag := collTag 0 c.k.ctx 0 l false true
      if sent < 2 ∧ (if g.rank = 0 then sent ≤ c.recvN 0 else sent < c.recvN 0) then
        State.tokens n q l ((s.sendRun q (c.nextConn l 0) c.d.scratch [] [] (some tag)).collSent q 0)
      else
        match s.takeNotice (c.prevConn l 0) tag with
        | some (_, s1) => if c.recvN 0 < 2 then State.tokens n q l (s1.collRecv q 0) else s
        | none => s

/-! ### The flat group: PERMUTE and ALLTOALL -/

/-- The other members of the flat group, with their devices and connections. -/
def Coll.others (c : Coll) : List (Nat × Nat × Nat) :=
  (((List.range (c.ring 0).n).zip (c.ring 0).ents).filter (fun p => p.1 != (c.ring 0).rank)).map (fun p => (p.1, p.2.1, p.2.2))

/-- What two ranges have in common. -/
def meet (a b : Nat × Nat) : Nat × Nat := (max a.1 b.1, max (max a.1 b.1) (min a.2 b.2))

/-- The bytes member m owns under MAP and member d owns under MAP2. -/
def Coll.passes (c : Coll) (m d : Nat) : Nat × Nat := meet (rangeOf c.k.bounds m) (rangeOf c.k.bounds2 d)

/-- Step 4 of R391: send what others own from now on. -/
def State.permSend (s : State) (c : Coll) : State :=
  let me := (c.ring 0).rank
  let old := rangeOf c.k.bounds me
  c.others.foldl (fun t m =>
    let x := c.passes me m.1
    let new := rangeOf c.k.bounds2 m.1
    if x.1 = x.2 then t
    else
      ((List.range c.k.srcs.length).zip c.k.srcs).foldl (fun u p =>
        u.sendMem c.q m.2.2 (p.2.base + (x.1 - old.1)) (c.d.scratch + 4096 + p.1 * (new.2 - new.1) + (x.1 - new.1)) (x.2 - x.1)
          (if p.1 + 1 = c.k.srcs.length then some (collTag 0 c.k.ctx 0 0 false false) else none)) t) s

/-- Step 6 of R391: move what is kept, then what was received. -/
def State.permMove (s : State) (c : Coll) : State :=
  let me := (c.ring 0).rank
  let old := rangeOf c.k.bounds me
  let new := rangeOf c.k.bounds2 me
  let keep := meet old new
  ((List.range c.k.srcs.length).zip c.k.srcs).foldl (fun t p =>
    let t1 := t.copyRun (p.2.base + (keep.1 - old.1)) (p.2.base + (keep.1 - new.1)) (keep.2 - keep.1)
    c.others.foldl (fun u m =>
      let x := c.passes m.1 me
      u.copyRun (c.d.scratch + 4096 + p.1 * (new.2 - new.1) + (x.1 - new.1)) (p.2.base + (x.1 - new.1)) (x.2 - x.1)) t1) s

/-- Take one data notice from every member of a list that has not given one; which member gave it is kept with where it ended. -/
def State.takeFrom (s : State) (q : Nat) (ms : List (Nat × Nat × Nat)) (keepFin : Bool) : State :=
  ms.foldl (fun t m =>
    match t.coll q with
    | none => t
    | some c =>
      if 1 ≤ c.recvN m.1 then t
      else
        match t.takeNotice m.2.2 (collTag 0 c.k.ctx 0 0 false false) with
        | some (n, t1) =>
          let t2 := t1.collRecv q m.1
          if keepFin then t2.modColl q (fun k => { k with fins := smPut (fun _ => 0) k.fins m.1 n.fin }) else t2
        | none => t) s

/-- Whether every member of a list has given its notice. -/
def State.heardFrom (s : State) (q : Nat) (ms : List (Nat × Nat × Nat)) : Bool :=
  match s.coll q with
  | none => false
  | some c => ms.all (fun m => decide (1 ≤ c.recvN m.1))

/-- This member's route entries (R386): position, destination rank, global index. -/
def State.routes (s : State) (c : Coll) : List (Nat × Nat × Nat) :=
  (List.range c.d.count).map (fun i =>
    let e := s.le (c.d.route + 8 * i) 8
    (i, bitsOf e 0 16, bitsOf e 16 48))

/-- Members that a connection leads to. -/
def Coll.linked (c : Coll) : List (Nat × Nat × Nat) := c.others.filter (fun m => m.2.2 != 0xFFF)

/-- A place for n entries of w bytes in SCRATCH from 4,096 on, `before` entries further or as far as SCRATCH_SIZE lets them end within it. -/
def Coll.scratchAt (c : Coll) (w n before : Nat) : Nat :=
  c.d.scratch + 4096 + w * (before % ((c.d.scratchSize - 4096) / w - n + 1))

/-- Where this member's list of n entries goes in member dst's SCRATCH (R387). DESIGN CHOICE (log entry 13): the lists lie one after another there, in
the order of their sources' ranks, from 4,096; how many entries the sources before this one have is not known here, a free value. -/
def Coll.listTo (c : Coll) (dst n : Nat) : Nat := c.scratchAt 16 n (Config.a2aList (c.ring 0).n (c.ring 0).rank dst)

/-- Where this member returns the slots of n entries in member src's SCRATCH (log entry 13): R387 does not say, and the place is free. -/
def Coll.slotsTo (c : Coll) (src n : Nat) : Nat := c.scratchAt 4 n (Config.a2aSlots (c.ring 0).n src (c.ring 0).rank)

/-- An index fault of an entry whose destination is no member (R387). -/
def State.collFault (s : State) (q i : Nat) : State :=
  s.modRun q (fun r => { r with ifaults := satAdd 32 r.ifaults 1, ifaultN := match r.ifaultN with | some m => some m | none => some i })

/-- Phase 1 of R387. -/
def State.a2aLists (s : State) (c : Coll) : State :=
  let es := s.routes c
  let s1 := (es.filter (fun e => decide ((c.ring 0).n ≤ e.2.1))).foldl (fun t e => t.collFault c.q e.1) s
  c.linked.foldl (fun t m =>
    let bs := (es.filter (fun e => e.2.1 == m.1)).flatMap (fun e => leBytes 8 e.2.2 ++ leBytes 8 e.1)
    t.sendRun c.q m.2.2 (c.listTo m.1 (bs.length / 16)) bs [] (some (collTag 0 c.k.ctx 0 0 false false))) s1

/-- The entries addressed to this member (R386): global index, source rank, position; each source's in its order. The list of each source begins where
the list of the source before it ended; this member's own are known to it, and their room is left (log entry 13). -/
def State.a2aEntries (s : State) (c : Coll) : List (Nat × Nat × Nat) :=
  let me := (c.ring 0).rank
  let own := ((s.routes c).filter (fun e => e.2.1 == me)).map (fun e => (e.2.2, me, e.1))
  ((List.range (c.ring 0).n).foldl (fun (x : List (Nat × Nat × Nat) × Nat) m =>
    if m = me then (x.1 ++ own, x.2 + 16 * own.length)
    else if c.linked.any (fun l => l.1 == m) then
      let fin := max x.2 (smGet (fun _ => 0) c.k.fins m)
      (x.1 ++ (List.range ((fin - x.2) / 16)).map (fun j => (s.le (x.2 + 16 * j) 8, m, s.le (x.2 + 16 * j + 8) 8)), fin)
    else x) ([], c.d.scratch + 4096)).1

/-- The order of R386. -/
def entryLe (a b : Nat × Nat × Nat) : Bool :=
  decide (a.1 < b.1) || (a.1 == b.1 && (decide (a.2.1 < b.2.1) || (a.2.1 == b.2.1 && decide (a.2.2 ≤ b.2.2))))

/-- Phase 2 of R387: rank, write what the destination writes, return the slots. -/
def State.a2aSlots (s : State) (c : Coll) : State :=
  let me := (c.ring 0).rank
  let es := s.a2aEntries c
  if c.d.scratchSize < 4096 + 16 * es.length then s.descError c.q 0xFFFF c.d.scratch
  else
    let cap := s.le (c.d.map2 + 4 * me) 4
    let kept := (es.mergeSort entryLe).take cap
    let slot := fun (e : Nat × Nat × Nat) => if kept.contains e then kept.idxOf e else 0xFFFFFFFF
    let s1 := (List.range cap).foldl (fun t k =>
      let u := t.storeLe (c.d.srcList + 8 * k) 8 (match kept[k]? with
        | some e => e.1
        | none => 2 ^ 64 - 1)
      if k < kept.length then u else u.store (c.k.out.base + k * c.d.recB) (List.replicate c.d.recB 0)) s
    let back := fun (m : Nat) => (es.filter (fun e => e.2.1 == m)).flatMap (fun e => leBytes 4 (slot e))
    let at' := c.slotsTo me ((back me).length / 4)
    let s2 := s1.store at' (back me)
    let s3 := c.linked.foldl (fun t m =>
      if (back m.1).isEmpty then t
      else t.sendRun c.q m.2.2 (c.slotsTo m.1 ((back m.1).length / 4)) (back m.1) [] (some (collTag 0 c.k.ctx 0 0 false false))) s2
    s3.modColl c.q (fun k => { k with
      fins := smPut (fun _ => 0) k.fins me (at' + (back me).length)
      kept := c.linked.foldl (fun f m => smPut (fun _ => 0) f m.1 (kept.filter (fun e => e.2.1 == m.1)).length) [] })

/-- The slots granted to this member's entries for a rank, in its order: the bytes that end where the rank's notice says. -/
def State.granted (s : State) (c : Coll) (d : Nat) : List ((Nat × Nat × Nat) × Nat) :=
  let es := (s.routes c).filter (fun e => e.2.1 == d)
  let a := smGet (fun _ => 0) c.k.fins d - 4 * es.length
  ((List.range es.length).zip es).map (fun p => (p.2, s.le (a + 4 * p.1) 4))

/-- Phase 3 of R387: send each kept record to its slot, copy the local ones, write the drop list (R388). -/
def State.a2aRecs (s : State) (c : Coll) : State :=
  let me := (c.ring 0).rank
  let src := fun (e : Nat × Nat × Nat) => c.inAddr 0 + e.1 * c.d.recB
  let s1 := ((s.granted c me).filter (fun g => g.2 != 0xFFFFFFFF)).foldl
    (fun t g => t.copyRun (src g.1) (c.k.out.base + g.2 * c.d.recB) c.d.recB) s
  let s2 := c.linked.foldl (fun t m =>
    let gs := (s.granted c m.1).filter (fun g => g.2 != 0xFFFFFFFF)
    ((List.range gs.length).zip gs).foldl (fun u p =>
      u.sendMem c.q m.2.2 (src p.2.1) (c.k.out.base + p.2.2 * c.d.recB) c.d.recB
        (if p.1 + 1 = gs.length then some (collTag 0 c.k.ctx 0 0 false false) else none)) t) s1
  if c.d.drop = 0 then s2
  else
    let lost := (s.routes c).filter (fun e => decide (e.2.1 < (c.ring 0).n) &&
      (s.granted c e.2.1).any (fun g => g.1 == e && g.2 == 0xFFFFFFFF))
    let l := (lost.take c.d.dropMax).flatMap (fun e => leBytes 8 e.1 ++ leBytes 8 (s.le (c.d.route + 8 * e.1) 8))
    s2.store c.d.drop (leBytes 8 lost.length ++ l)

/-! ### Progress -/

/-- The members an ALLTOALL awaits in a phase (R387): every list, the slots of those it sent entries to, the records it granted. -/
def State.a2aFrom (s : State) (c : Coll) (p : CPhase) : List (Nat × Nat × Nat) :=
  match p with
  | .slots => c.linked.filter (fun m => (s.routes c).any (fun e => e.2.1 == m.1))
  | .recs => c.linked.filter (fun m => decide (1 ≤ smGet (fun _ => 0) c.k.kept m.1))
  | _ => c.linked

/-- Do once, at the start of a phase, what `f` does. -/
def State.onceColl (s : State) (c : Coll) (f : State → State) : State := if c.sentN 0 = 0 then (f s).collSent c.q 0 else s

/-- Whether the flat group's engine can now access all that its phases read and write (R18, R270). -/
def State.flatReach (s : State) (c : Coll) : Bool := s.hubReach (c.hub 0) c.reads

/-- Do what can be done in a phase; whether the phase is over. A phase that its engines cannot reach the memory of waits. -/
def State.collPhase (s : State) (c : Coll) (p : CPhase) : State × Bool :=
  match p with
  | .sum => if s.sumReach c then (s.sumSources c, true) else (s, false)
  | .own => if s.ownReach c then (s.ownAction c, true) else (s, false)
  | .rs _ | .ag _ | .bc _ =>
    let s1 := (List.range c.k.lanes.length).foldl (fun t i => State.laneSend (c.sends p i).length c.q i t) s
    match s1.coll c.q with
    | none => (s1, false)
    | some d => (s1, (List.range d.k.lanes.length).all (fun i =>
        d.sentN i == (d.sends p i).length && d.recvN i == (d.recvs p i).length))
  | .tok l =>
    if (c.ring l).n ≤ 1 then (s, true)
    else
      let s1 := State.tokens 8 c.q l s
      match s1.coll c.q with
      | none => (s1, false)
      | some d => (s1, d.sentN 0 == 2 && d.recvN 0 == 2)
  | .old => (s, s.oldPending == 0)
  | .send =>
    let me := (c.ring 0).rank
    let from' := c.others.filter (fun m => (let x := c.passes m.1 me; decide (x.1 < x.2)))
    if !s.flatReach c then (s, false)
    else
      let s1 := (s.onceColl c (fun t => t.permSend c)).takeFrom c.q from' false
      (s1, !s1.collOwes c.q && s1.heardFrom c.q from')
  | .move => if s.flatReach c then (s.permMove c, true) else (s, false)
  | .lists =>
    if !s.flatReach c then (s, false)
    else
      let s1 := (s.onceColl c (fun t => t.a2aLists c)).takeFrom c.q c.linked true
      (s1, s1.heardFrom c.q c.linked)
  | .slots =>
    let dsts := s.a2aFrom c p
    if !s.flatReach c then (s, false)
    else
      let s1 := (s.onceColl c (fun t => t.a2aSlots c)).takeFrom c.q dsts true
      (s1, s1.heardFrom c.q dsts)
  | .recs =>
    let from' := s.a2aFrom c p
    if !s.flatReach c then (s, false)
    else
      let s1 := (s.onceColl c (fun t => t.a2aRecs c)).takeFrom c.q from' false
      (s1, !s1.collOwes c.q && s1.heardFrom c.q from')

/-- End a collective: with OK, the rest of ALLREDUCE_X's working buffer is undefined (R380). -/
def State.collFinish (s : State) (q : Nat) : State :=
  let s1 := match s.coll q with
    | some c =>
      if (s.run q).st.isEmpty = true ∧ c.d.op = 1 then
        let a := c.inAddr (c.bound c.me)
        let b := c.inAddr (c.bound (c.me + 1))
        (s.freeFill (c.inAddr 0) (a - c.inAddr 0)).freeFill b (c.inAddr c.d.count - b)
      else s
    | none => s
  (s1.collEnd q).modRun q (fun r => { r with ready := true, finished := true })

/-- Carry a collective on as far as it goes; the fuel bounds the phases. -/
def State.collGo : Nat → Nat → State → State
  | 0, _, s => s
  | n + 1, q, s =>
    match s.coll q with
    | none => s
    | some c =>
      if !(s.run q).st.isEmpty then s.collFinish q
      else
        match c.k.conns.find? (fun x => !s.collConnOk x) with
        | some x => ((s.fail q stConnection).modRun q (fun r => { r with conn := x })).collFinish q
        | none =>
          match c.now with
          | none => if s.collOwes q then s else s.collFinish q
          | some p =>
            let r := s.collPhase c p
            if r.2 && (r.1.run q).st.isEmpty then
              State.collGo n q (r.1.modColl q (fun k => { k with phase := k.phase + 1, sent := [], recv := [] }))
            else if (r.1.run q).st.isEmpty then r.1
            else r.1.collFinish q

/-! ### Setup -/

/-- Read a group table (R367); none where it is not legal. -/
def State.readGt (s : State) (a : Nat) : Option GTab :=
  let w0 := s.le a 8
  let w1 := s.le (a + 8) 8
  let n := bitsOf w0 0 13
  let es := (List.range n).map (fun m => s.le (a + 16 + 8 * m) 8)
  let g : GTab := { n := n, rank := bitsOf w0 16 13, next := bitsOf w1 0 12, prev := bitsOf w1 16 12,
                    ents := es.map (fun e => (bitsOf e 0 16, bitsOf e 16 12)) }
  if a % 8 = 0 ∧ s.okRange a (16 + 8 * n) false = true ∧ 1 ≤ n ∧ n ≤ 4096 ∧ g.rank < n ∧ bitsOf w0 13 3 = 0 ∧ bitsOf w0 29 35 = 0 ∧
    bitsOf w1 12 4 = 0 ∧ bitsOf w1 28 36 = 0 ∧ es.all (fun e => bitsOf e 28 36 == 0) = true ∧
    (g.ents.getD g.rank (0, 0)).1 = s.devId then some g else none

/-- Read a shard map (R373); none where it is not legal by itself. -/
def State.readMap (s : State) (a : Nat) : Option (List Nat) :=
  let w := s.le a 8
  let n := bitsOf w 0 17
  let bs := (List.range (n + 1)).map (fun i => s.le (a + 8 + 8 * i) 8)
  if a % 8 = 0 ∧ s.okRange a (16 + 8 * n) false = true ∧ 1 ≤ n ∧ n ≤ 65536 ∧ bitsOf w 17 47 = 0 ∧ bs.headD 1 = 0 ∧
    (bs.zip (bs.drop 1)).all (fun p => decide (p.1 ≤ p.2)) = true then some bs else none

/-- Whether a map suits a collective (R373). -/
def Coll.mapOk (c : Coll) (bs : List Nat) : Bool :=
  bs.length == (c.gt 1).n * (c.gt 2).n * (c.gt 3).n + 1 && bs.getLastD 0 * 64 == c.d.count * c.eb &&
  (c.d.op == 4 || c.d.op == 5 || bs.all (fun b => b % 64 == 0)) && (!(c.d.exact && c.k.out.f.isBlock) || bs.all (fun b => b % 128 == 0))

/-- The rules on the descriptor and command words alone (R369 to R371). -/
def CDesc.ok (d : CDesc) (word4 : Word) : Bool :=
  let dc := DecCtl.ofWord word4
  d.version == 1 && !d.rsvd && decide (1 ≤ d.op ∧ d.op ≤ 9) && !d.lanes.isEmpty && decide (d.pieceP ≤ 6) &&
  (!d.flat || d.levels.length == 1) && (!d.whisk || d.op == 8) &&
  (if d.exact then dc.ok && dc.retryMax == 0 && dc.add == 0 && !dc.topk && (decide (1 ≤ dc.ofmt ∧ dc.ofmt ≤ 7) || (d.op == 3 && dc.ofmt == 8))
   else word4 == 0) && (d.op != 9 || decide (1 ≤ d.recB)) && (d.op != 6 || true)

/-- The tensor descriptors a collective names: addresses of its sources. -/
def State.collSrcs (s : State) (d : CDesc) : List Nat :=
  if d.op = 6 then []
  else d.inA :: (if d.op = 9 then [] else (List.range (d.srcn - 1)).map (fun i => s.le (d.srcList + 8 * i) 8))

/-- The memory that the operands of a collective take, and whether it writes it (R370 to R373, R377, R386, R388, R391); an empty range takes none. -/
def State.collStorage (s : State) (c : Coll) : List (Nat × Nat × Bool) :=
  let d := c.d
  let srcs : List TDesc := c.k.srcs
  let x := c.k.srcs.headD {}
  let o := c.k.out
  let n := d.count * c.eb
  let len := fun (bs : List Nat) => (rangeOf bs c.me).2 - (rangeOf bs c.me).1
  (match d.op with
  | 6 => []
  | 8 => srcs.map (fun (t : TDesc) => (t.base, max (len c.k.bounds) (len c.k.bounds2), true))
  | 4 | 5 => [(x.base, n, false), (o.base, n, true)]
  | 9 =>
    let cap := s.le (d.map2 + 4 * c.me) 4
    [(x.base, d.count * d.recB, false), (o.base, cap * d.recB, true), (d.srcList, 8 * cap, true), (d.route, 8 * d.count, false),
      (d.map2, 4 * (c.ring 0).n, false)] ++ (if d.drop = 0 then [] else [(d.drop, 8 + 16 * min d.dropMax d.count, true)])
  | _ =>
    let outN := o.f.rowBytes (if d.op = 3 then c.bound (c.me + 1) - c.bound c.me else d.count)
    (x.base, n, true) :: (srcs.drop 1).map (fun (t : TDesc) => (t.base, n, false)) ++ [(o.base, outN, true)]).filter (fun y => y.2.1 != 0)

/-- Whether some memory lies where a command may use it (R177, R256, R261). -/
def State.placed (s : State) (l : List (Nat × Nat × Bool)) : Bool := l.all (fun x => s.okRange x.1 x.2.1 x.2.2)

/-- The rules on formats (R369 to R373, R382, R383, R391). -/
def State.collTensorsOk (s : State) (c : Coll) (word4 : Word) : Bool :=
  let d := c.d
  let x := c.k.srcs.headD {}
  let o := c.k.out
  let own := (c.bound c.me, c.bound (c.me + 1))
  let one := x.rows == 1 && (d.op == 8 || o.rows == 1)
  s.placed (s.collStorage c) &&
  match d.op with
  | 6 => true
  | 8 => one && c.k.srcs.all (fun t => t.rows == 1)
  | 4 | 5 => one && decide (d.op = 4 ∨ d.root < (c.gt 1).n * (c.gt 2).n * (c.gt 3).n)
  | 9 => one
  | _ =>
    one && c.k.srcs.all (fun t => t.fieldsOk && t.rows == 1 && t.fmt == x.fmt) &&
    (if d.op = 3 then o.formOk && o.col0 == own.1 && o.cols == own.2 - own.1 else o.fieldsOk) &&
    (if d.exact then x.fmt == 8 && o.fmt == (DecCtl.ofWord word4).ofmt
     else if d.op = 2 then (x.fmt == 5 || x.fmt == 6) && o.fmt == x.fmt
     else (x.fmt == 6 || x.fmt == 7) && o.fmt == x.fmt)

/-- The rule of R377 and R391 on SCRATCH. -/
def State.scratchOk (s : State) (c : Coll) : Bool :=
  let d := c.d
  let new := rangeOf c.k.bounds2 c.me
  let need := match d.op with
    | 8 => 4096 + d.srcn * (new.2 - new.1)
    | 9 => 4096
    | _ => if d.isReduce then 4096 + 12 * c.k.lanes.length * d.slotB else 0
  decide (need ≤ d.scratchSize) && d.scratch % 4096 == 0 && s.rng d.scratch == .hbm &&
    (d.scratchSize == 0 || s.rng (d.scratch + d.scratchSize - 1) == .hbm)

/-- The connections a collective uses (R367, R387, R391). -/
def State.collConns (s : State) (c : Coll) : List Nat :=
  let ring := fun (l : Nat) (ls : List Nat) => if (c.ring l).n ≤ 1 then [] else ls.flatMap (fun i => [c.nextConn l i, c.prevConn l i])
  let me := (c.ring 0).rank
  match c.d.op with
  | 6 => c.d.levels.flatMap (fun l => ring l [0])
  | 8 => ring 0 [0] ++ (c.others.filter (fun m =>
      (let x := c.passes me m.1; decide (x.1 < x.2)) || (let x := c.passes m.1 me; decide (x.1 < x.2)))).map (·.2.2)
  | 9 => (c.others.filter (fun m => m.2.2 != 0xFFF || (s.routes c).any (fun e => e.2.1 == m.1))).map (·.2.2)
  | _ => c.d.levels.flatMap (fun l => ring l (List.range c.k.lanes.length))

/-- The bytes that are undefined if a collective fails (R385). -/
def State.collRegions (s : State) (c : Coll) : List (Nat × Nat) :=
  let n := c.d.count * c.eb
  match c.d.op with
  | 6 => []
  | 8 =>
    let old := rangeOf c.k.bounds c.me
    let new := rangeOf c.k.bounds2 c.me
    c.k.srcs.map (fun t => (t.base, max (old.2 - old.1) (new.2 - new.1)))
  | 9 => (let cap := s.le (c.d.map2 + 4 * c.me) 4; [(c.k.out.base, cap * c.d.recB), (c.d.srcList, 8 * cap)])
  | 4 | 5 => [(c.k.out.base, n)]
  | 3 => [(c.inAddr 0, n), (c.k.out.base, c.k.out.f.rowBytes (c.bound (c.me + 1) - c.bound c.me))]
  | _ => [(c.inAddr 0, n), (c.k.out.base, c.k.out.f.rowBytes c.d.count)]

/-- End a COLLECTIVE at its checks. -/
def State.collStop (s : State) (q addr code : Nat) : State :=
  ((s.descError q 0xFFFF addr code).collEnd q).modRun q (fun r => { r with ready := true, finished := true })

/-- Whether a LEPOCH is acceptable (R390, R391). -/
def State.lepochOk (s : State) (d : CDesc) : Bool :=
  let cur := s.fg F.COL_LAYOUT.CUR
  let early := s.colls.any (fun p => p.2.ready && (CDesc.ofWords p.2.words).whisk && decide (p.2.phase < 2))
  d.lepoch == cur || (early && d.lepoch == (cur + 65535) % 65536)

/-- The descriptor address of a COLLECTIVE command (R369). -/
def QRun.collAt (r : QRun) : Nat := bitsOf (r.words.getD 3 0).toNat 0 48

/-- The group tables, maps, source list and tensor descriptors that a descriptor names (R367, R370, R373): address and bytes. -/
def State.collTables (s : State) (d : CDesc) : List (Nat × Nat) :=
  let map := fun (m : Nat) => (m, 16 + 8 * bitsOf (s.le m 8) 0 17)
  (d.levels.map (fun l => (let g := d.gt.getD (l - 1) 0; (g, 16 + 8 * bitsOf (s.le g 8) 0 13)))) ++
    (if d.op = 6 ∨ d.op = 9 then [] else [map d.map]) ++ (if d.op = 8 then [map d.map2] else []) ++
    (if d.op = 6 ∨ d.op = 9 ∨ d.srcn ≤ 1 then [] else [(d.srcList, 8 * (d.srcn - 1))]) ++
    (s.collSrcs d ++ (if d.op = 6 ∨ d.op = 8 then [] else [d.outA])).map (fun t => (t, 64))

/-- What the setup of a COLLECTIVE reads, and the credit words it zeroes (R367, R370, R373, R378, R386). -/
def State.collSpans (s : State) (a : Nat) : List (Nat × Nat) :=
  let d := CDesc.ofWords (s.words a 16)
  let n := bitsOf (s.le (d.gt.getD (d.levels.headD 1 - 1) 0) 8) 0 13
  (a, 128) :: (s.collTables d ++ (if d.isReduce then [(d.scratch, 4096)] else []) ++
    (if d.op = 9 then [(d.route, 8 * d.count), (d.map2, 4 * n)] else [])).filter (fun x => x.2 != 0 && s.okRange x.1 x.2 false)

/-- The setup of a COLLECTIVE (R365 to R373, R389 to R391): its descriptor and tables are fetched and checked once its lowest lane's hub can read them
(R18, R270), a whisk takes its first step, and credit words are zeroed (R378); `met` is what the code finds in the units read (R268). -/
def collSetup (q : Nat) (met : List (Nat × Ecc)) (s0 : State) : State :=
  let r := s0.run q
  let a := r.collAt
  if !(r.busy && r.opc == 5 && !r.ready && !r.finished) then s0
  else
  match smFind s0.colls q with
  | none =>
    if a % 128 = 0 ∧ s0.okRange a 128 false = true then s0.collStop q a stDescPoisoned
    else (s0.stray (s0.okRange a 128 false)).collStop q a stDescError
  | some k =>
    let w4 := r.words.getD 4 0
    if k.ready || !s0.hubReach (k.lanes.headD 0) (s0.collSpans a) then s0
    else
      let s := s0.listMet (s0.collSpans a) met (some (s0.opRef q))
      let seen := s.seenList met
      if seen.marked a 128 then s.collStop q a stDescPoisoned
      else
        let w := s.words a 16
        let d := CDesc.ofWords w
        if !d.ok w4 || d.lanes != k.lanes then s.collStop q a stDescError
        else if d.whisk then
          if d.lepoch ≠ (s.fg F.COL_LAYOUT.CUR + 1) % 65536 ∨ s.fb F.COL_LAYOUT.WHISK = true then s.collStop q a stDescError
          else body s seen k w d a w4
        else if !s.lepochOk d then (s.fc F.COL_ERR.STALE_EPOCH 1 (d.lanes.headD 0)).collStop q a stDescError
        else body s seen k w d a w4
where
  body (s seen : State) (k : CollSt) (w : List Word) (d : CDesc) (a : Nat) (w4 : Word) : State :=
    let named := s.placed ((s.collTables d).map (fun x => (x.1, x.2, false)))
    let gtA := d.levels.map (fun l => (l, d.gt.getD (l - 1) 0))
    let gts := gtA.map (fun g => (g.1, s.readGt g.2))
    let hasMap := d.op != 6 && d.op != 9
    let srcA := s.collSrcs d
    let outs := if d.op = 6 ∨ d.op = 8 then [] else [d.outA]
    let tdA := srcA ++ outs
    let m1 := if hasMap then s.readMap d.map else some []
    let m2 := if d.op = 8 then s.readMap d.map2 else some []
    let mapLen := fun (m : Nat) => 16 + 8 * bitsOf (s.le m 8) 0 17
    let gtMark := fun (g : Nat) => seen.marked g (16 + 8 * bitsOf (s.le g 8) 0 13)
    let mapMark := fun (m : Nat) => seen.marked m (mapLen m)
    let gtBad := gtA.any (fun g => gtMark g.2)
    let tdBad := tdA.any (fun t => seen.marked t 64)
    let otherBad := (hasMap && mapMark d.map) || (d.op == 8 && mapMark d.map2) ||
      (d.op != 6 && d.op != 9 && decide (1 < d.srcn) && seen.marked d.srcList (8 * (d.srcn - 1))) ||
      (d.op == 9 && (seen.marked d.route (8 * d.count) || seen.marked d.map2 (4 * ((gts.head?.bind (·.2)).getD {}).n)))
    if (gtA.zip gts).any (fun g => g.2.2.isNone && !gtMark g.1.2) || (m1.isNone && !mapMark d.map) || (m2.isNone && !mapMark d.map2) ||
        tdA.any (fun t => t % 64 != 0) || !named then
      (s.stray named).collStop q a stDescError
    else
      let k1 := { k with
        words := w
        gts := gts.map (fun g => (g.1, g.2.getD {}))
        bounds := m1.getD []
        bounds2 := m2.getD []
        srcs := srcA.map s.readTd
        out := match outs with
          | [] => {}
          | o :: _ => s.readTd o }
      let c : Coll := { d := d, k := k1, q := q }
      let bare := c.others.any (fun m => m.2.2 == 0xFFF && ((d.op == 8 && ((let x := c.passes c.me m.1; decide (x.1 < x.2)))) ||
        (d.op == 9 && (s.routes c).any (fun e => e.2.1 == m.1))))
      if !gtBad && ((hasMap && !mapMark d.map && !c.mapOk k1.bounds) || (d.op == 8 && !mapMark d.map2 && !c.mapOk k1.bounds2)) then
        s.collStop q a stDescError
      else if gtBad || tdBad || otherBad then
        s.collStop q a stDescPoisoned
      else if !(s.collTensorsOk c w4 && s.scratchOk c) || (d.flat && bare) then
        (s.stray (s.placed (s.collStorage c ++ (if d.scratchSize = 0 then [] else [(d.scratch, d.scratchSize, true)])))).collStop q a stDescError
      else
        let k2 := { k1 with ready := true, conns := (s.collConns c).eraseDups, regions := s.collRegions c }
        let s1 := { s with colls := smIns (smDel s.colls q) q k2 }
        let s2 := s1.modRun q (fun r => { r with ni := d.op == 2, ready := true, desc := w, epoch := (if d.whisk then d.lepoch else r.epoch) })
        let s3 := if d.whisk then (s2.fs F.COL_LAYOUT.CUR d.lepoch).fs F.COL_LAYOUT.WHISK 1 else s2
        if d.isReduce then
          (List.range k.lanes.length).foldl (fun t i => [1, 2, 3].foldl (fun u l => u.storeLe (c.creditAddr i l) 8 0) t) s3
        else s3

/-- A collective command: set up, then carried on as far as it goes; `op` and whether it is a whisk must be what the descriptor says. -/
def collective (op : Nat) (whisk : Bool) (q : Nat) (met : List (Nat × Ecc)) (s : State) : State :=
  let r := s.run q
  let w := match s.colls.find? (fun p => p.1 == q && p.2.ready) with
    | some p => (p.2.words.headD 0).toNat
    | none => (s.collWord0 r.words).getD 0
  if !r.busy || r.opc != 5 || r.finished then s
  else if bitsOf w 8 4 = op ∧ (op = 8 → bitOf w 15 = whisk) ∨ (s.collWord0 r.words).isNone = true ∨ 9 < bitsOf w 8 4 ∨ bitsOf w 8 4 = 0 then
    let new := (s.coll q).isNone
    let old := met.filter (fun x => !(new && (s.collSpans r.collAt).any (fun y => (unitsOf y.1 y.2).contains x.1)))
    State.collGo 16 q ((collSetup q met s).collMet q old)
  else s

/-! ### Stalls and status -/

/-- What lane i of a collective awaits in a phase (R385): the connection that the notice of its next piece, a credit without which it cannot send, or
a token would come on. The tokens and the flat group's notices are awaited by the lowest lane. -/
def State.laneAwaits (s : State) (c : Coll) (p : CPhase) (i : Nat) : Option Nat :=
  let come := fun (l : Nat) (gather : Bool) => s.notices.any (fun n => n.conn == c.prevConn l i &&
    n.tag == collTag i c.k.ctx (if gather then 0 else c.recvN i % 4) l gather false)
  let short := decide (c.recvN i < (c.recvs p i).length)
  match p with
  | .rs l =>
    if short && !come l false then some (c.prevConn l i)
    else if decide (c.sentN i < (c.sends p i).length ∧ 4 + s.le (c.creditAddr i l) 8 ≤ c.sentN i) then some (c.nextConn l i)
    else none
  | .ag l | .bc l => if short && !come l true then some (c.prevConn l i) else none
  | .tok l => if i ≠ 0 ∨ (c.ring l).n ≤ 1 ∨ 2 ≤ c.recvN 0 then none else some (c.prevConn l 0)
  | .send =>
    if i ≠ 0 then none
    else (c.others.find? (fun m => (let x := c.passes m.1 (c.ring 0).rank; decide (x.1 < x.2)) && c.recvN m.1 == 0)).map (·.2.2)
  | .lists | .slots | .recs => if i ≠ 0 then none else ((s.a2aFrom c p).find? (fun m => c.recvN m.1 == 0)).map (·.2.2)
  | _ => none

/-- What a collective awaits: the lowest lane that awaits something, and the connection it would come on. -/
def State.awaited (s : State) (c : Coll) : Option (Nat × Nat) :=
  c.now.bind (fun p => (List.range c.k.lanes.length).findSome? (fun i => (s.laneAwaits c p i).map (fun x => (i, x))))

/-- COLLECTIVE_STALL (R385). -/
def collectiveStall (q : Nat) (s : State) : State :=
  match s.coll q with
  | none => s
  | some c =>
    match s.awaited c with
    | none => s
    | some (i, x) =>
      (((s.fc F.COL_ERR.STALLS 1 (c.hub i)).fail q stConnection).modRun q (fun r => { r with conn := x })).collFinish q

/-- COL_STATUS of a hub (R396). -/
def State.colStatus (s : State) (h : Nat) : Nat :=
  (List.range 4).foldl (fun a x =>
    match s.colls.find? (fun p => p.2.ctx == x && p.2.lanes.contains h) with
    | none => a
    | some p =>
      let waits := match s.coll p.1 with
        | some c => c.now.any (fun p => (List.range c.k.lanes.length).any (fun i => c.hub i == h && (s.laneAwaits c p i).isSome))
        | none => false
      a + 2 ^ x + b2n waits * 2 ^ (4 + x)) 0

/-! ### Meanings -/

def execAllreduceX (q : UnitsAt) (s : State) : Host.Outcome State Fault Refusal :=
  .next (collective 1 false q.q.toNat (unitList q.met) s)
def execAllreduceR (q : UnitsAt) (s : State) : Host.Outcome State Fault Refusal :=
  .next (collective 2 false q.q.toNat (unitList q.met) s)
def execReduceScatter (q : UnitsAt) (s : State) : Host.Outcome State Fault Refusal :=
  .next (collective 3 false q.q.toNat (unitList q.met) s)
def execAllgather (q : UnitsAt) (s : State) : Host.Outcome State Fault Refusal :=
  .next (collective 4 false q.q.toNat (unitList q.met) s)
def execBroadcast (q : UnitsAt) (s : State) : Host.Outcome State Fault Refusal :=
  .next (collective 5 false q.q.toNat (unitList q.met) s)
def execBarrier (q : UnitsAt) (s : State) : Host.Outcome State Fault Refusal :=
  .next (collective 6 false q.q.toNat (unitList q.met) s)
def execAllreduceMax (q : UnitsAt) (s : State) : Host.Outcome State Fault Refusal :=
  .next (collective 7 false q.q.toNat (unitList q.met) s)
def execPermute (q : UnitsAt) (s : State) : Host.Outcome State Fault Refusal :=
  .next (collective 8 false q.q.toNat (unitList q.met) s)
def execWhisk (q : UnitsAt) (s : State) : Host.Outcome State Fault Refusal :=
  .next (collective 8 true q.q.toNat (unitList q.met) s)
def execAlltoall (q : UnitsAt) (s : State) : Host.Outcome State Fault Refusal :=
  .next (collective 9 false q.q.toNat (unitList q.met) s)
def execPieceAdd (h : Fin 8) (src : BitVec 16) (tag : PieceAt) (s : State) : Host.Outcome State Fault Refusal :=
  .next (pieceAdd h.val src.toNat tag.tag.toNat (unitList tag.met) s)
def execCollectiveStall (q : BitVec 16) (s : State) : Host.Outcome State Fault Refusal := .next (collectiveStall q.toNat s)

end Sys2Proof.Machine
end

