-- ==== Sys2Proof/Machine/RegView.lean ====
section
/-! DEFINITION. How registers read (R10 to R12, R530): the words whose fields the device computes from its units, the words that read
as 0, reads that clear, and the lantern shadows (R481, R541). -/

namespace Sys2Proof.Machine

/-! ### Words computed from the units -/

/-- State code of a long slot or tile (R116). -/
def Eng.unitState (e : Eng) (u : Nat) : Nat := ((smFind e.chains u).map (·.st)).getD 0

/-- MTX_SLOT_STATE of an engine (R129). -/
def Eng.slotWord (e : Eng) : Nat :=
  let slot := fun (t : Nat) =>
    let int := e.mode32.contains t
    let st := if int then b2n ((List.range 6).any (fun i => e.unitState (4 + 6 * t + i) != 0)) else e.unitState t
    st + 4 * b2n int + 8 * b2n (e.failed.contains t)
  let seg := match e.seg with
    | some g => 2 ^ 16 + unitSlot g.unit * 2 ^ 17
    | none => 0
  slot 0 + slot 1 * 16 + slot 2 * 256 + slot 3 * 4096 + seg

/-- MTX_LANE_STATE of an engine (R130). -/
def Eng.laneWord (e : Eng) : Nat :=
  ((List.range 24).map (fun t => (if e.mode32.contains (t / 6) then e.unitState (4 + t) else 0) * 4 ^ t)).sum

/-- STR_STATUS of a core (R193). -/
def CoreSt.streamWord (k : CoreSt) : Nat :=
  let busy := fun (x : Nat) =>
    if x = 0 then !(k.context 0).staged.isEmpty || !k.fetches.isEmpty || k.xfers.any (fun y => y.ctx == 0) else (k.context x).q.isSome
  let bit := fun (x : Nat) => b2n (busy x) * 2 ^ (10 + x) + b2n (k.context x).handle.isSome * 2 ^ (14 + x)
  min 512 ((k.xfers.map (·.slots)).sum) + ((List.range 4).map bit).sum

/-- MBTAGs of the commands submitted between a queue's HEAD and TAIL (R285), extensions passed over; the fuel bounds the entries. -/
def State.ringTags (s : State) (q : Nat) : Nat → Nat → List Nat
  | 0, _ => []
  | n + 1, i =>
    if (s.fg F.QM_QDESC.TAIL q + 2 ^ 32 - i % 2 ^ 32) % 2 ^ 32 = 0 ∨ 2 ^ 31 ≤ (s.fg F.QM_QDESC.TAIL q + 2 ^ 32 - i % 2 ^ 32) % 2 ^ 32 then []
    else
      let h := Hdr.ofWords (s.words (s.ringAddr q i) 8)
      if h.ext ∧ (s.fg F.QM_QDESC.TAIL q + 2 ^ 32 - i % 2 ^ 32) % 2 ^ 32 = 1 then []
      else h.mbtag :: s.ringTags q n (i + if h.ext then 2 else 1)

/-- QM_MB_ACTIVE (R297, R311). -/
def State.tagsActive (s : State) : Nat :=
  let run := (s.runs.filter (fun p => p.2.busy)).map (fun p => (Hdr.ofWords p.2.words).mbtag)
  let ring := (s.queues.filter (fun q => s.fg F.QM_QDESC.TYPE q == qCommand && s.fg F.QM_QDESC.STATE q != 0)).flatMap
    (fun q => s.ringTags q (s.ringHeld q) (s.fg F.QM_QDESC.HEAD q))
  ((run ++ ring).map (fun t => 2 ^ t)).foldl Nat.lor 0

/-- QM_QUIESCE (R312). -/
def State.quiesceWord (s : State) : Nat :=
  let bit := fun (x : Quiesce) => match x.u with
    | .core _ => 1
    | .port p => 2 ^ (1 + p.val)
    | .queue _ => 0
  (s.quiesce.map bit).foldl Nat.lor 0

/-- Whether the compute dies are in core reset, in SHELF or not yet powered, so that their windows read as 0 (R530). -/
def State.diesDown (s : State) : Bool := s.inShelf || s.fb F.RST_CTL.CORE_BUSY

/-- Whether a word reads as 0 and ignores writes because of where it lies (R530). -/
def State.deadWord (s : State) (k : RegKey) : Bool :=
  (k.name.hub0Only && k.i != 0) || (k.name.inCore && (!s.present k.i || s.diesDown))

/-- Whether a core waits for multicast data (R155, R162): the next step of every index it holds needs a multicast tile that has not landed. -/
def State.waitsTile (s : State) (c : Nat) : Bool :=
  let k := s.core c
  let lacks := fun (h : Held) =>
    let r := s.run h.q
    (r.opc == 1 || r.opc == 2) && (match r.stepsLeft h with
    | i :: _ => [0, 1].any (fun op => (r.opc == 1 || op == 0) && (r.lnd.ent op).mc && (s.landedTile c h op i).isNone)
    | [] => false)
  !k.held.isEmpty && k.held.all lacks && k.eng.all (fun e => e.seg.isNone && e.dec.isNone)

/-- Whether the group of an idle core has a command at the head of a queue that waits for a handle only (R162, R294). -/
def State.waitsHandle (s : State) (c : Nat) : Bool :=
  match s.groupOf c with
  | none => false
  | some g => s.queues.any (fun q => s.qOn q qCommand && !(s.run q).busy && decide (1 ≤ s.ringHeld q) && decide (s.headSlots q ≤ s.ringHeld q) &&
      s.boundTo q == [0x100 + g] && (let h := Hdr.ofWords (s.headWords q); h.hwait && s.qOn h.hq qHandle && s.ringHeld h.hq == 0))

/-- STATE of CORE_CP_STATUS (R162). -/
def State.cpState (s : State) (c st : Nat) : Nat :=
  if st = 1 ∧ s.waitsTile c = true then 2 else if st = 0 ∧ s.waitsHandle c = true then 2 else st

/-- A register word as its unit holds it. -/
def State.unitView (s : State) (k : RegKey) : Nat :=
  let w := (s.rd k).toNat
  match k.name with
  | .MTX_SLOT_STATE => ((s.core k.i).engine k.j).slotWord
  | .MTX_LANE_STATE => ((s.core k.i).engine k.j).laneWord
  | .STR_STATUS => (s.core k.i).streamWord
  | .MEM_ATOM => setBits w 48 7 (min 64 (s.unitQ (8 * k.i + k.j)).length)
  | .COL_STATUS => s.colStatus k.i
  | .CORE_CP_STATUS => setBits w 0 2 (s.cpState k.i (bitsOf w 0 2))
  | .VEC_STATUS => if bitsOf w 0 2 = 1 ∧ s.vecWaits k.i = true then setBits w 0 2 2 else w
  | .TOP_CCLK_STATUS => if s.diesDown then 0 else w
  | .COL_LAYOUT => setBits w 16 32 s.oldPending
  | .QM_QUIESCE => s.quiesceWord
  | .QM_MB_ACTIVE => s.tagsActive
  | _ => w

/-- A register word as it stands, before the access types apply: while the unit's block reset goes on, what it clears shows its reset value
already (R536). -/
def State.view (s : State) (k : RegKey) : Nat :=
  if s.inReset k then (clearWord k .block (BitVec.ofNat 64 (s.unitView k))).toNat else s.unitView k

/-- Keep the fields of a word that satisfy a condition. -/
def maskWord (l : List FieldInfo) (p : FieldInfo → Bool) (w : Nat) : Nat :=
  ((l.filter p).map (fun f => bitsOf w f.lo f.w * 2 ^ f.lo)).sum

/-- What a read of a register word returns (R11, R12, R530): WO fields read as 0. -/
def State.readWord (s : State) (k : RegKey) : Word :=
  if s.deadWord k then 0 else BitVec.ofNat 64 (maskWord (fieldsOf k.name) (fun f => f.acc != .wo) (s.view k))

/-- The RC fields of a word are cleared (R12); LOST_CLASS goes with LOST (R494). -/
def State.clearRc (s : State) (k : RegKey) : State :=
  if s.deadWord k then s
  else
    let s1 := s.wr k (BitVec.ofNat 64 (maskWord (fieldsOf k.name) (fun f => f.acc != .rc) (s.rd k).toNat))
    if k.name = .MGT_ERR_CTL then s1.fs F.MGT_ERR_CTL.LOST_CLASS 0 else s1

/-- The shadow of a register word (R481, R541). -/
def State.shadowWord (s : State) (a : Nat) : Word := smGet (fun _ => 0) s.shadow a

/-- The base of the lantern shadows above register space (R481). -/
def shadowOff : Nat := 0x8000000000

/-- One read of register space by whoever may make it: the state after, the word, and whether the word is assigned (R12, R538). A
lantern shadow never clears. -/
def State.readReg (s : State) (a : Nat) : State × Word × Bool :=
  if regBase + shadowOff ≤ a then
    match keyOf (a - shadowOff) with
    | some k => (s, s.shadowWord k.addr, true)
    | none => (s.decodeErr, 0, false)
  else
    match keyOf a with
    | some k => (s.clearRc k, s.readWord k, true)
    | none => (s.decodeErr, 0, false)

/-! ### The lantern's latch (R478 to R481) -/

/-- The words computed from a unit that hold a measure (R541). -/
def computedKeys (u : Nat) : List RegKey :=
  let i := u % 4096
  match u / 4096 with
  | 5 => [⟨.STR_STATUS, i, 0, 0⟩]
  | 0xD => [⟨.MEM_ATOM, i / 8, i % 8, 0⟩]
  | _ => if u = uid 7 0 then [⟨.COL_LAYOUT, 0, 0, 0⟩] else []

/-- Whether a unit is in reset or power-gated (R479): inside a core, while the dies are down or the core is absent. -/
def State.deadUnit (s : State) (u : Nat) : Bool :=
  match unitCore u with
  | some c => s.diesDown || !s.present c
  | none => false

/-- A unit latches: every field of its registers that counts or measures is copied to its shadow (R478, R481); what is gated off or in
reset latches reset values (R479). -/
def State.latch (s : State) (u : Nat) : State :=
  let old := s.shadow.filter (fun p => match keyOf p.1 with
    | some k => k.unit != u
    | none => true)
  let mine := (s.regs.filterMap (fun p => keyOf p.1)).filter (fun k => k.unit == u) ++ computedKeys u
  let val := fun (k : RegKey) =>
    BitVec.ofNat 64 (maskWord (fieldsOf k.name) (fun f => f.meas) (if s.deadWord k then k.resetWord.toNat else s.view k))
  { s with shadow := mine.foldl (fun m k => smPut (fun _ => 0) m k.addr (val k)) old }

end Sys2Proof.Machine
end

