-- ==== Sys2Proof/Machine/Reliability.lean ====
section
/-! DEFINITION. The sieve (R470 to R473, R247 to R249), idle-slot tests (R474 to R477), the lantern (R478 to R481), laggards (R482) and
retirement (R483, R484). -/

namespace Sys2Proof.Machine

/-! ### The wide recompute (R247, R248) -/

/-- The TSCALE an operand has in the wide recompute (R247). -/
def QRun.wideScale (r : QRun) (i : Nat) : Int :=
  if r.wideAt i = 0 then (r.td i).tscale else (r.td i).tscale - (16 - ((r.td i).f.bits : Int))

/-- An element of a wide original; outside its rows the pad (R146). -/
def State.wideEl (s : State) (t : TDesc) (row k : Nat) : Val := if t.rows ≤ row then .num t.padVal else (s.readEl t row k).v

/-- A K-block of an operand row in the wide recompute (R247): the wide original in TB16, or the narrow operand. -/
def State.wideBlk (s : State) (c : Nat) (r : QRun) (i row kb : Nat) : OpBlk :=
  let l := Lnd.ofWords r.desc
  if r.wideAt i = 0 then s.opBlk (r.td i) (r.storedAt c i) 0 l.k row kb
  else
    let t := s.readTd (r.wideAt i)
    let n := min 32 (l.k - 32 * kb)
    let b := encodeBlock 16 (r.wideScale i) (fun _ x => roundQ .near x) ((List.range n).map (fun j => s.wideEl t row (32 * kb + j)))
    if bitOf b.blk 6 then { bad := true, ms := List.replicate 32 0 }
    else if b.blk = 0x20 then { zero := true, ms := List.replicate 32 0 }
    else { e := sext 6 b.blk, ms := b.ms ++ List.replicate (32 - n) 0 }

/-- Whether an operand enters the array in two slices in the wide recompute. -/
def QRun.wideSlices (r : QRun) (i : Nat) : Bool := r.wideAt i != 0 || (r.td i).f == .tb16

/-- The grid of the wide recompute (R66). -/
def QRun.wideGrid (r : QRun) : Int := r.wideScale 0 + r.wideScale 1 - 64

/-- The wide value u of the element (row, col) of a tile's box before rounding, with its addend (R84, R247). -/
def State.wideValue (s : State) (c : Nat) (r : QRun) (b : Box) (row col : Nat) : Val :=
  let ps := passList 3 (r.wideSlices 0) (r.wideSlices 1)
  let bs := (segBlocks b).map (fun kb => (s.wideBlk c r 0 row kb, s.wideBlk c r 1 col kb))
  let bad := bs.any (fun x => x.1.bad || x.2.bad)
  let a := bs.foldl (fun m x => promoteLong (r.wideSlices 0) (r.wideSlices 1) ps m x.1 x.2) 0
  (s.decantReg r r.wideGrid row col (a, bad)).val r.wideGrid

/-- The output step q at an element as written (R86, R248): its exponent. DEDUCED (log entry 71): the smallest normal step, for w = 0, is in a
block format the step at the smallest offset, −31. -/
def State.stepAt (s : State) (t : TDesc) (row col : Nat) (w : Rat) : Int :=
  let f := t.f
  if f.isBlock then
    let b := (s.byte (blockByteAddr f (t.rowAddr row) col)).toNat
    t.tscale + (if w = 0 then -31 else sext 6 b)
  else if f.isFp then fpStep (f.fracBits + 1) w
  else t.tscale

/-- The bin of |d| (R248). -/
def devBin (d : Rat) : Nat :=
  let a := ratAbs d
  if a ≤ mkRat 1 2 then 0 else if 8192 < a then 15
  else ((List.range 14).find? (fun (i : Nat) => decide (a ≤ pow2 (Int.ofNat i)))).getD 14 + 1

/-- Add one deviation to a record, or a poisoned element (R248, R249). -/
def DevRec.add (v : DevRec) (d : Option Rat) : DevRec :=
  match d with
  | none => { v with poisoned := satAdd 32 v.poisoned 1 }
  | some d => { v with
      bins := modNth v.bins (devBin d) (fun n => satAdd 32 n 1)
      pos := satAdd 32 v.pos (b2n (decide (mkRat 1 2 < d)))
      neg := satAdd 32 v.neg (b2n (decide (d < -mkRat 1 2))) }

/-- The deviations of a sampled tile (R248): none for a poisoned element. -/
def State.tileDevs (s : State) (j : SieveJob) : List (Option Rat) :=
  let r := s.run j.q
  let l := Lnd.ofWords r.desc
  let t := { r.td 2 with tscale := (r.td 2).tscale + j.raise, map := 0 }
  let s1 := j.held.foldl (fun u w => u.store w.wr.addr w.wr.bytes w.wr.pz) s
  match l.indices[j.index]? with
  | none => []
  | some b =>
    let o := l.tileOrigin j.index j.tile
    let v := tileValid l o
    (List.range v.1).flatMap (fun i => (List.range v.2).map (fun k =>
      match (s1.readEl t (o.1 + i) (o.2 + k)).v, s.wideValue j.core r b.2 (o.1 + i) (o.2 + k) with
      | .num w, .num u => some ((w - u) / pow2 (s1.stepAt t (o.1 + i) (o.2 + k) w))
      | _, _ => none))

/-- The wide recompute of a sampled tile goes into its tag's deviation record (R247 to R249). -/
def State.addDevs (s : State) (j : SieveJob) : State :=
  let r := s.run j.q
  if !r.wide then s
  else
    let tag := (r.td 2).tag
    let old := smGet (fun _ => {}) s.devs tag
    let new := (if r.dec.topkOnly then [] else s.tileDevs j).foldl DevRec.add { old with samples := satAdd 32 old.samples 1 }
    { s with devs := smPut (fun _ => {}) s.devs tag new }

/-! ### The comparison (R473) -/

/-- The engine that takes a job when the one chosen has left the pool (R472, R486). -/
def State.liveEngine (s : State) (j : SieveJob) : Nat × Bool :=
  if j.partner / 4 = j.core ∨ s.inPool (j.partner / 4) = true then (j.partner, j.sameDie) else s.partner j.q j.core j.e

/-- The check region of a core holds what a job left there (R487). -/
def State.scratchCheck (s : State) (c : Nat) : State :=
  s.freeFill (tileBase + c * 0x1000000 + s.fg F.TOP_CHECK_REGION.BASE) (s.fg F.TOP_CHECK_REGION.SIZE)

/-- The held output of a sampled tile goes to the stream engine (R473). -/
def State.letGo (s : State) (j : SieveJob) : State :=
  { s with sieve := s.sieve.erase j }.modCtx j.core 0 (fun x => { x with staged := x.staged ++ j.held })

/-- Bytes of the operands of a job's tile, and of its held output (R473). -/
def State.jobBytes (s : State) (j : SieveJob) : Nat × Nat :=
  let r := s.run j.q
  let v := tileValid r.lnd (r.lnd.tileOrigin j.index j.tile)
  let k := ((r.lnd.indices[j.index]?).map (fun b => b.2.kr)).getD 0
  (v.1 * (r.td 0).f.rowBytes k + v.2 * (r.td 1).f.rowBytes k, (j.held.map (fun w => w.wr.bytes.length)).sum)

/-- What an engine that checks a job reads of its operands (R473): the rows of the tile's segments where they are stored, and those of its wide
originals (R247). -/
def State.jobSpans (s : State) (j : SieveJob) : List (Nat × Nat) :=
  let r := s.run j.q
  match r.lnd.indices[j.index]? with
  | none => []
  | some b =>
    let segs := (r.lnd.segments b.2).filter (fun g => tileOrdinal (r.lnd.tiles b.2) g == j.tile)
    r.repeatSpans segs ++ (if !r.wide then [] else segs.flatMap (fun g => [0, 1].flatMap (fun i =>
      if r.wideAt i = 0 then []
      else
        let t := s.readTd (r.wideAt i)
        let m := if i = 0 then (g.m0, min r.lnd.tm (t.rows - g.m0)) else (g.n0, min r.lnd.tn (t.rows - g.n0))
        (List.range m.2).map (fun k => t.rowSpan (m.1 + k) g.k0 g.kr))))

/-- Whether an engine can check a job now (R473): it has a FREE slot for the chain, and its core reaches the operands (R18, R270). -/
def State.canCheck (s : State) (x : Nat) (j : SieveJob) : Bool :=
  (((s.core (x / 4)).engine (x % 4)).freshUnit (s.run j.q).lnd.lanes).isSome && s.coresReach [x / 4] (s.jobSpans j)

/-- What the code over accumulator memory finds as an engine's sieve chain and its decant are read (R127). -/
def State.sieveAcc (s : State) (x : Nat) (j : SieveJob) (found : Ecc) : State :=
  match found with
  | .ok => s
  | .corrected => s.fc F.MTX_ECC.CORRECTED 1 (x / 4) (x % 4)
  | .uncorrectable =>
    let u := (((s.core (x / 4)).engine (x % 4)).freshUnit (s.run j.q).lnd.lanes).getD 0
    s.accUe (x / 4) (x % 4) (unitSlot u) (some (s.opRef j.q j.index j.tile))

/-- An engine computes a job's tile again (R473): its core fetches the operands into its check region through its stream engine and reads the held output
(R195, R268), and the engine runs the same chain in a slot of its own, with its repeats, and the same sweeps (R127, R132). -/
def State.jobRun (s : State) (x : Nat) (j : SieveJob) (acc : Ecc) (met : List (Nat × Ecc)) : State :=
  let c := x / 4
  let n := s.jobBytes j
  let s1 := s.streamMet c (s.jobSpans j) met (s.opRef j.q j.index j.tile)
  let s2 := ((s1.fc F.STR_BYTES_RD.BYTES (n.1 + n.2) c).fc F.STR_BYTES_WR.BYTES n.1 c).scratchCheck c
  ((s2.fc F.MTX_DECANT.SWEEPS (j.raise + 1) c (x % 4)).fc F.MTX_DECANT.INT32_REPEATS j.shift c (x % 4)).sieveAcc x j acc

/-- SIEVE_COMPARE (R473): the oldest comparison of an engine ends; `diff` is how the outputs differ. `acc` and `met` are what the partner meets. -/
def sieveCompare (c e : Nat) (acc : Ecc) (met : List (Nat × Ecc)) (diff : Option SieveDiff) (s : State) : State :=
  match s.sieve.find? (fun j => j.core == c && j.e == e && j.mismatch.isNone) with
  | none => s
  | some j0 =>
    let p := s.liveEngine j0
    let j := { j0 with partner := p.1, sameDie := p.2 }
    if !s.canCheck j.partner j then s
    else
      let s1 := { s with sieve := s.sieve.map (fun x => if x = j0 then j else x) }
      let s2 := ((s1.fc F.TOP_SIEVE_STATUS.SAMPLED 1).addDevs j).jobRun j.partner j acc met
      match diff with
      | none => s2.letGo j
      | some d =>
        let k := { j with mismatch := some (d.offset.toNat, d.bits.toNat, d.xor.toNat) }
        { (s2.fc F.TOP_SIEVE_STATUS.MISMATCHES 1) with sieve := s2.sieve.map (fun x => if x = j then k else x) }

/-- The third engine of a job (R473): that of R472, its search starting after the partner, among the cores of the group that are neither the original's nor
the partner's. DESIGN CHOICE (log entry 100): where the group has no such core, it is the next engine of the original's core that is neither. -/
def State.third (s : State) (j : SieveJob) : Nat :=
  let n := s.fg F.TOP_UNIT_COUNT.CORES
  let g := (s.groupCores (s.fg F.QM_QDESC.GROUP j.q)).filter (fun d => d != j.core && d != j.partner / 4)
  match s.checker g j.core j.e ((j.partner / 4 + 1) % max 1 n) with
  | some x => x.1
  | none => 4 * j.core + (if j.partner / 4 = j.core then (j.e + 2) % 4 else (j.e + 1) % 4)

/-- SIEVE_ARBITRATION (R473): a third engine has computed the tile. The model's engines compute what the rules say, so that the held output is what an
undisturbed run writes: the output agreed under verdict 2. -/
def sieveArbitration (c e : Nat) (acc : Ecc) (met : List (Nat × Ecc)) (v : SieveVerdict) (s : State) : State :=
  match s.sieve.find? (fun j => j.core == c && j.e == e && j.mismatch.isSome) with
  | none => s
  | some j =>
    let t := s.third j
    if !s.canCheck t j then s
    else
      let d := j.mismatch.getD (0, 0, 0)
      let code := match v with
        | .originalRight => 1
        | .partnerRight => 2
        | .noTwoAgree => 3
      let blamed := if code = 1 then j.partner else 4 * j.core + j.e
      let s1 := s.jobRun t j acc met
      let s2 := s1.errRec 0x06 (uid 3 blamed) (some (s1.opRef j.q j.index j.tile))
        [(40, 2, uid 3 j.partner), (42, 2, uid 1 (s.fg F.TOP_CORE_MAP.SITE (j.partner / 4))), (44, 2, uid 3 t),
         (46, 1, code), (47, 1, b2n j.sameDie), (48, 4, d.1), (52, 4, d.2.1), (56, 8, d.2.2)]
      let s3 := if code = 2 then s2.fc F.TOP_SIEVE_STATUS.REWRITTEN 1
        else if code = 3 then s2.fc F.TOP_SIEVE_STATUS.UNRESOLVED 1 else s2
      s3.letGo j

/-! ### Idle-slot tests (R475 to R477) -/

/-- A core is held out of the pool after a failed test (R477, R490). -/
def State.katHeld (s : State) (c : Nat) : Bool := s.coreBit F.TOP_KAT_HELD_LO.CORES_LO F.TOP_KAT_HELD_HI.CORES_HI c

/-- The next core of the rotation (R475): in the pool, not held, not awaiting retirement. -/
def State.katNext (s : State) : Option Nat :=
  let n := s.fg F.TOP_UNIT_COUNT.CORES
  ((List.range n).map (fun i => (s.fg F.TOP_KAT_STATUS.NEXT + i) % n)).find? (fun c =>
    s.inPool c && !s.katHeld c && !s.mg.chosen.any (fun x => x.1 == c))

/-- A KAT_FAIL record (R465, R477). -/
def State.katRec (s : State) (c attempt : Nat) (f : KatFail) : State :=
  (s.fc F.TOP_KAT_STATUS.FAILS 1).errRec 0x07 (uid 2 c) none
    [(40, 2, f.case.toNat), (42, 1, attempt), (43, 1, f.unitClass.toNat), (48, 4, f.offset.toNat), (52, 4, f.bits.toNat),
     (56, 8, f.xor.toNat)]

/-- A core fails both attempts of a pass (R477). -/
def State.holdCore (s : State) (c : Nat) : State :=
  (s.setCoreBit F.TOP_KAT_HELD_LO.CORES_LO F.TOP_KAT_HELD_HI.CORES_HI c true).leavePool c 4

/-- A pass runs on a core that holds no index (R475 to R477): `first` and `second` are the differences the two attempts find. -/
def State.runPass (s : State) (c : Nat) (first second : Option KatFail) : State :=
  let s1 := s.scratchCheck c
  match first, second with
  | none, _ => s1.fc F.TOP_KAT_STATUS.PASSES 1
  | some f, none => (s1.katRec c 1 f).fc F.TOP_KAT_STATUS.PASSES 1
  | some f, some g => ((s1.katRec c 1 f).katRec c 2 g).holdCore c

/-- The pass that waits for its core goes on once the core holds no index; the core rejoins (R475, R477). -/
def State.endPass (s : State) (c : Nat) (first second : Option KatFail) : State :=
  let s1 := (s.modMg (fun m => { m with testing := none })).fs F.TOP_KAT_STATUS.RUNNING 0
  if !s.present c then s1.joinPool c 0 else (s1.runPass c first second).joinPool c 0

/-- A pass starts (R475): a core that holds an index leaves the pool to finish it, and the pass waits (log entry 84). -/
def State.startPass (s : State) (c : Nat) (first second : Option KatFail) : State :=
  let s1 := s.leaveIdle.fs F.TOP_KAT_STATUS.NEXT ((c + 1) % max 1 (s.fg F.TOP_UNIT_COUNT.CORES))
  if (s.core c).held.isEmpty then s1.runPass c first second
  else ((s1.modMg (fun m => { m with testing := some c })).fs F.TOP_KAT_STATUS.RUNNING 1).leavePool c 0

/-- KAT_PASS (R475 to R477): the pass that waits, or the next one of the rotation. -/
def katPass (first second : Option KatFail) (s : State) : State :=
  match s.mg.testing with
  | some c => if s.live && !s.diesDown && (s.core c).held.isEmpty then s.endPass c first second else s
  | none =>
    match s.katNext with
    | none => s
    | some c =>
      if !s.live || !s.fb F.TOP_KAT_CTL.EN || s.multicasting || s.diesDown then s
      else if s.fg F.TOP_CHECK_REGION.SIZE < 2 ^ 20 then s.fc F.TOP_KAT_STATUS.SKIPPED 1
      else s.startPass c first second

/-- A write of TOP_KAT_HELD_LO or HI (R490): each bit written as 1 returns its core to the pool. -/
def State.clearHeld (s : State) (hi : Bool) (v : Nat) : State :=
  ((List.range 96).filter (fun c => bitOf v (c % 64) && decide (64 ≤ c) == hi && s.katHeld c)).foldl
    (fun t c => (t.setCoreBit F.TOP_KAT_HELD_LO.CORES_LO F.TOP_KAT_HELD_HI.CORES_HI c false).joinPool c 4) s

/-! ### Laggards (R482) -/

/-- CCLK of a die in MHz (R33). -/
def clkField (d : Nat) : Fld := ⟨.TOP_CCLK_STATUS, 16 * d, 16⟩
def State.dieClk (s : State) (d : Nat) : Nat := s.fg (clkField d)

/-- A core's rate (R482). -/
def lagRate (m : LagMeasure) : Rat := mkRat m.active (4 * m.held)

/-- Whether a core is judged in a window (R482). -/
def State.judged (s : State) (m : LagMeasure) : Bool :=
  s.inPool m.core.val && decide (m.window ≤ 10 * m.held) && decide (0 < m.held)

/-- The median of a list of rates; of an even number, the mean of the two in the middle. -/
def medianOf (xs : List Rat) : Rat :=
  let ys := xs.mergeSort (fun a b => decide (a ≤ b))
  let n := ys.length
  if n % 2 = 1 then ys.getD (n / 2) 0 else (ys.getD (n / 2 - 1) 0 + ys.getD (n / 2) 0) / 2

/-- Judge one core against the median (R482). -/
def State.judge (s : State) (median : Rat) (m : LagMeasure) : State :=
  let c := m.core.val
  let low := decide (lagRate m * 100 < median * (s.fg F.TOP_LAG_CTL.PCT : Rat))
  let runs := if low then smGet (fun _ => 0) s.mg.lagRuns c + 1 else 0
  let s1 := s.modMg (fun g => { g with lagRuns := smPut (fun _ => 0) g.lagRuns c runs })
  let was := s1.coreBit F.TOP_LAG_LO.CORES_LO F.TOP_LAG_HI.CORES_HI c
  let s2 := if !low then s1.setCoreBit F.TOP_LAG_LO.CORES_LO F.TOP_LAG_HI.CORES_HI c false
    else if s1.fg F.TOP_LAG_CTL.WINDOWS ≤ runs then s1.setCoreBit F.TOP_LAG_LO.CORES_LO F.TOP_LAG_HI.CORES_HI c true else s1
  if s2.coreBit F.TOP_LAG_LO.CORES_LO F.TOP_LAG_HI.CORES_HI c && !was then
    s2.errRec 0x08 (uid 2 c) none [(40, 2, (lagRate m * 1000 / median).floor.toNat), (42, 2, runs), (44, 2, s.dieClk (s.dieOf c)),
      (48, 8, m.stalls.toNat)]
  else s2

/-- The cores not judged in a window begin their consecutive windows anew (R482). -/
def State.keepRuns (s : State) (judged : List Nat) : State :=
  s.modMg (fun g => { g with lagRuns := g.lagRuns.filter (fun p => judged.contains p.1) })

/-- LAGGARD_WINDOW (R482): the measures of one window. -/
def laggardWindow (ms : List LagMeasure) (s : State) : State :=
  let js := ms.filter s.judged
  if !s.live then s
  else if !s.fb F.TOP_LAG_CTL.EN || decide (js.length < 8) then s.keepRuns []
  else
    let med := medianOf (js.map lagRate)
    js.foldl (fun t m => t.judge med m)
      ((s.keepRuns (js.map (fun m => m.core.val))).fs F.TOP_LAG_CTL.MEDIAN (min 1023 (med * 1000).floor.toNat))

/-! ### The lantern -/

/-- A write of TOP_LANTERN (R478, R492). -/
def State.writeLantern (s : State) (v : Nat) : State :=
  let s1 := if bitOf v 33 then s.fs F.TOP_LANTERN.REFUSED 0 else s
  if bitOf v 15 = false ∨ bitsOf v 0 15 = 0 then s1
  else if !s1.fb F.TOP_LANTERN.DONE then s1.fs F.TOP_LANTERN.REFUSED 1
  else s1.fireToken (bitsOf v 0 15) (bitOf v 16)

/-- Units no longer await the token; DONE once none does (R478). -/
def State.tokenPassed (s : State) (p : Nat → Bool) : State :=
  let left := s.lantern.filter (fun u => !p u)
  let s1 : State := { s with lantern := left }
  if left.isEmpty && !s.lantern.isEmpty then s1.fs F.TOP_LANTERN.DONE 1 else s1

/-- LANTERN_TOKEN (R478, R479): the token's first arrival at a unit. DESIGN CHOICE (log entry 41): the QM latches first, and with it every unit of the
device takes its values, so that the cut is consistent whatever messages pass between units; a unit in reset or gated as its own token comes shows reset
values. -/
def lanternToken (u : Nat) (s : State) : State :=
  if !s.lantern.contains u then s
  else
    let qm := uid 7 0
    let s1 := if u = qm then s.latchUnits.foldl (fun t x => t.latch x) s else if s.lantern.contains qm then s else if s.deadUnit u then s.latch u else s
    if u ≠ qm ∧ s.lantern.contains qm = true then s else s1.tokenPassed (fun x => x == u)

/-! ### Retirement (R483, R484) -/

/-- The free spare sites of a die, in ascending order (R21, R22). -/
def State.spares (s : State) (d : Nat) : List Nat :=
  ((List.range 26).map (· + 26 * d)).filter (fun x =>
    !s.mg.fuse.disabled.contains x && !s.mg.retired.contains x &&
      !(List.range (s.fg F.TOP_UNIT_COUNT.CORES)).any (fun c => s.fg F.TOP_CORE_MAP.SITE c == x))

/-- Show the free spares of a die in TOP_UNIT_COUNT (R23). -/
def State.showSpares (s : State) (d : Nat) : State := s.fs ⟨.TOP_UNIT_COUNT, 16 + 2 * d, 2⟩ (min 2 (s.spares d).length)

/-- Choose a core for retirement (R483, R484): it leaves the pool; `cls` is the class of the record behind the choice. -/
def State.chooseCore (s : State) (c cls : Nat) : State :=
  if s.mg.chosen.any (fun x => x.1 == c) then s
  else ((s.leaveIdle.modMg (fun m => { m with chosen := m.chosen ++ [(c, cls)] })).fs F.TOP_RETIRE_STATUS.BUSY 1).leavePool c 2

/-- A write of TOP_RETIRE_CMD (R484, R493). -/
def State.writeRetire (s : State) (v : Nat) : State :=
  let c := bitsOf v 0 7
  if bitOf v 7 = false then s
  else if s.fb F.TOP_RETIRE_STATUS.BUSY || !s.present c then s.fs F.TOP_RETIRE_STATUS.REFUSED 1
  else s.chooseCore c 0

/-- A RETIRE record (R465); the site named is the old one. -/
def State.retireRec (s : State) (c site result new cls : Nat) : State :=
  s.errRec 0x09 (uid 2 c) none [(40, 1, result), (41, 1, new), (42, 1, cls)] false (some (uid 1 site))

/-- Whether a chosen core has finished its work (R484, step 1). -/
def State.retirable (s : State) (c : Nat) : Bool :=
  let k := s.core c
  s.coreIdle c && k.ctx.all (fun x => x.q.isNone) && !s.multicasting && s.mg.testing != some c

/-- Spares that fail their test, with the one that passes (R484): the tests answer in order, and a spare not answered for passes. -/
def tryTests : List Nat → List Bool → List Nat × Option Nat
  | [], _ => ([], none)
  | x :: xs, ts => if ts.headD true then ([], some x) else (let r := tryTests xs (ts.drop 1); (x :: r.1, r.2))

/-- The units of a retired core forget the core (R118, R484): engines, accumulator memory, streams, buffers. -/
def State.freshUnits (s : State) (c : Nat) : State :=
  { s.modCore c (fun k => { out := k.out }) with
    acc := s.acc.filter (fun p => p.1 / 262144 != c) }

/-- RETIREMENT (R484): the first core chosen is replaced or becomes absent. -/
def retirement (c : Nat) (tests : List Bool) (bad : List Nat) (s : State) : State :=
  match s.mg.chosen with
  | [] => s
  | (c', cls) :: rest =>
    if c' ≠ c ∨ s.retirable c = false ∨ s.live = false then s
    else
      let site := s.fg F.TOP_CORE_MAP.SITE c
      let d := site / 26
      let t := tryTests (s.spares d) tests
      let s1 := t.1.foldl (fun (u : State) (x : Nat) => (u.modMg (fun m => { m with retired := m.retired ++ [x] })).retireRec c site 2 x cls) s
      let s2 := s1.modMg (fun m => { m with chosen := rest, retired := m.retired ++ [site] })
      let s3 := s2.setCoreBit F.TOP_KAT_HELD_LO.CORES_LO F.TOP_KAT_HELD_HI.CORES_HI c false
      let s4 := match t.2 with
        | some x =>
          let u := bad.foldl (fun (u : State) (b : Nat) => (u.poisonUnit (tileBase / 64 + c * 0x40000 + b % 0x40000)).sramRec (uid 2 c) 0 0
            (tileBase + c * 0x1000000 + b % 0x40000 * 64) none) (s3.freshUnits c)
          let u := (u.fs F.TOP_CORE_MAP.SITE x c).fs F.TOP_CORE_MAP.WAS_SPARE 1 c
          ((((u.joinPool c 2).joinPool c 4).fs F.TOP_RETIRE_STATUS.RESULT 1).fc F.TOP_KAT_STATUS.PASSES 1).retireRec c site 0 x cls
        | none =>
          let u := ((s3.freshUnits c).fs F.TOP_CORE_MAP.STATE 2 c).tokenPassed (fun y => unitCore y == some c)
          ((u.fs F.TOP_UNIT_COUNT.PRESENT (u.fg F.TOP_UNIT_COUNT.PRESENT - 1)).fs F.TOP_RETIRE_STATUS.RESULT 2).retireRec c site 1 0x7F cls
      ((s4.showSpares d).fs F.TOP_RETIRE_STATUS.BUSY (b2n (!rest.isEmpty))).persist

/-! ### Meanings -/

def execSieveCompare (c : Fin 96) (e : SieveAt) (diff : Option SieveDiff) (s : State) : Host.Outcome State Fault Refusal :=
  .next (sieveCompare c.val e.e.val e.acc (unitList e.met) diff s)
def execSieveArbitration (c : Fin 96) (e : SieveAt) (v : SieveVerdict) (s : State) : Host.Outcome State Fault Refusal :=
  .next (sieveArbitration c.val e.e.val e.acc (unitList e.met) v s)
def execKatPass (first second : Option KatFail) (s : State) : Host.Outcome State Fault Refusal := .next (katPass first second s)
def execKatHeldClear (who : Req) (hi : Bool) (v : Word) (s : State) : Host.Outcome State Fault Refusal :=
  .next (s.gated who (⟨if hi then .TOP_KAT_HELD_HI else .TOP_KAT_HELD_LO, 0, 0, 0⟩ : RegKey).addr (fun t => t.clearHeld hi v.toNat))
def execLaggardWindow (ms : List LagMeasure) (s : State) : Host.Outcome State Fault Refusal := .next (laggardWindow ms s)
def execFire (who : Req) (v : Word) (s : State) : Host.Outcome State Fault Refusal :=
  .next (s.gated who (⟨.TOP_LANTERN, 0, 0, 0⟩ : RegKey).addr (fun t => t.writeLantern (v ||| 0x8000).toNat))
def execLanternToken (u : UnitId) (s : State) : Host.Outcome State Fault Refusal := .next (lanternToken u.toNat s)

end Sys2Proof.Machine
end

