-- ==== Sys2Proof/Machine/Words.lean ====
section
/-! DEFINITION. Writes of register words that their access types govern (R12, R533 to R535), and of the words of the units that have a reset
of their own (R502, R536). -/

namespace Sys2Proof.Machine

/-! ### Fields that take the nearest value in range -/

/-- The fields of FAB_CC with their ranges (R350, R358): lowest bit, width, least and greatest value. -/
def ccRanges : List (Nat × Nat × Nat × Nat) :=
  [(0, 10, 1, 1000), (10, 8, 1, 255), (18, 6, 1, 63), (24, 6, 1, 63), (30, 4, 0, 15), (34, 10, 1, 1000), (44, 1, 0, 1)]

/-- ETH_CC.CC holds the fields of FAB_CC with their ranges (R425). -/
def ccClamp (v : Nat) : Nat := (ccRanges.map (fun r => clampNat r.2.2.1 r.2.2.2 (bitsOf v r.1 r.2.1) * 2 ^ r.1)).sum

/-- The fields whose table says that a value out of range is stored as the nearest value in range: lowest bit, least, greatest. -/
def fieldRanges : RegName → List (Nat × Nat × Nat)
  | .STR_CTL => [(0, 1, 512), (10, 0, 512)]
  | .QM_CTL => [(0, 100, 1000000)]
  | .FAB_E2E => [(0, 1, 31), (5, 1, 31), (10, 1, 255), (18, 1, 4095), (30, 1, 15), (34, 1, 15)]
  | .FAB_CC => ccRanges.map (fun r => (r.1, r.2.2.1, r.2.2.2))
  | .COL_CTL => [(4, 1, 1000)]
  | .ETH_HS => [(16, 1, 1023)]
  | .ETH_CC => [(45, 1, 15)]
  | .TOP_LAG_CTL => [(1, 50, 99), (8, 10, 10000), (22, 1, 15)]
  | _ => []

/-- The value a RW field stores for a value written (R533, R534). -/
def stored (n : RegName) (lo v : Nat) : Nat :=
  if n = .ETH_CC ∧ lo = 0 then ccClamp v
  else
    match (fieldRanges n).find? (fun r => r.1 == lo) with
    | some r => clampNat r.2.1 r.2.2 v
    | none => v

/-- A field after a write, by its access type (R12). -/
def fieldWrite (n : RegName) (f : FieldInfo) (old v : Nat) : Nat :=
  match f.acc with
  | .rw => stored n f.lo v
  | .w1c => old - Nat.land old v
  | .w1s => Nat.lor old v
  | _ => old

/-- A register word after a write that only its access types govern (R12, R533). -/
def wordWrite (n : RegName) (old v : Nat) : Nat :=
  ((fieldsOf n).map (fun f => fieldWrite n f (bitsOf old f.lo f.w) (bitsOf v f.lo f.w) * 2 ^ f.lo)).sum

/-- A write of a word with no rule of its own. -/
def State.plainWrite (s : State) (k : RegKey) (v : Nat) : State :=
  s.wr k (BitVec.ofNat 64 (wordWrite k.name (s.rd k).toNat v))

/-! ### The words of units -/

/-- Clearing VALID of a record clears its other fields and its companion word (R163, R196). -/
def State.writeValid (s : State) (k mate : RegKey) (v : Nat) : State := if bitOf v 0 then (s.wr k 0).wr mate 0 else s

/-- With CC_EN = 0 every open connection's rate is 1,000 (R350). -/
def State.connRates (s : State) : State :=
  if s.fb F.FAB_CC.CC_EN then s
  else (s.conns.map (·.1)).foldl (fun t c => if t.connOpen c then t.fs F.FAB_CONN.RATE 1000 0 c else t) s

/-- A write of a word that answers and has no rule beyond its unit's (R12, R530, R533). -/
def State.unitWrite (s : State) (k : RegKey) (v : Nat) : State :=
  match k.name with
  | .CORE_CP_FAULT => s.writeValid k ⟨.CORE_CP_FAULT_DESC, k.i, 0, 0⟩ v
  | .STR_POISON_FIRST => s.writeValid k ⟨.STR_POISON_ADDR, k.i, 0, 0⟩ v
  | .FAB_LINK_CTL => s.writeLinkCtl (5 * k.i + k.j) v
  | .ETH_CTL => s.writeEthCtl k.i v
  | .ETH_IP4 => s.writeEthAddr .ETH_IP4 k.i F.ETH_IP4.ADDR (bitsOf v 0 32)
  | .ETH_IP6_HI => s.writeEthAddr .ETH_IP6_HI k.i F.ETH_IP6_HI.ADDR_HI v
  | .ETH_IP6_LO => s.writeEthAddr .ETH_IP6_LO k.i F.ETH_IP6_LO.ADDR_LO v
  | .ETH_SESS_W0 => s.writeSess0 (512 * k.i + k.j) v
  | .FAB_CC => (s.plainWrite k v).connRates
  | .ETH_CC => (let t := s.plainWrite k v; if t.ccField k.i F.FAB_CC.CC_EN = 0 then t.capRates k.i else t)
  | _ => s.plainWrite k v

/-- A write that waited for the end of a block reset is made (R536). -/
def State.lateWrite (s : State) (a v : Nat) : State :=
  match keyOf a with
  | some k => if s.deadWord k then s else s.unitWrite k v
  | none => s

end Sys2Proof.Machine
end

