-- ==== Sys2Proof/Machine/Reset.lean ====
section
/-! DEFINITION. Resets (R496 to R503), power states (R505 to R512, R514) and clocks (R516 to R518). -/

namespace Sys2Proof.Machine

/-! ### Clearing registers (R14, R515) -/

/-- An event clears what it lists in the register words that satisfy a condition. -/
def State.clear (s : State) (l : Level) (p : RegKey → Bool) : State :=
  { s with regs := smMap regDefault (fun a w => match keyOf a with
    | some k => if p k then clearWord k l w else w
    | none => w) s.regs }

/-! ### Tile stores and cores -/

/-- Whether the byte at an address lies in a tile store that loses it: one of the cores, and no retained bank (R272, R510). -/
def tileLost (keep : Nat) (cs : Nat → Bool) (a : Nat) : Bool :=
  decide (tileBase ≤ a ∧ a < tileBase + 96 * 0x1000000) && cs ((a - tileBase) / 0x1000000) &&
    !bitOf keep ((a - tileBase) % 0x1000000 / 0x100000)

/-- The tile stores of some cores are lost, but for the retained banks: what they lose is as memory nothing has written. -/
def State.loseTiles (s : State) (cs : Nat → Bool) : State :=
  { s with
    mem := s.mem.filter (fun p => !tileLost s.pw.retain cs p.1)
    marks := s.marks.filter (fun p => !tileLost s.pw.retain cs (p.1 * 64)) }

/-- Handles that a core's stream engine had not yet posted go with it: their commands may complete. -/
def State.dropHandles (s : State) (c : Nat) : State :=
  [1, 2, 3].foldl (fun t x =>
    let cx := (t.core c).context x
    match cx.q with
    | some q => if cx.posted then t.modRun q (fun r => { r with finished := true, ready := true }) else t
    | none => t) s

/-- A core's units are reset (R118, R501, R502): engines, accumulator memory, streams, buffers. Why it is out of the pool stays. -/
def State.blankCore (s : State) (c : Nat) : State :=
  { (s.dropHandles c).modCore c (fun k => { out := k.out }) with acc := s.acc.filter (fun p => p.1 / 262144 != c) }

/-- The cores whose units are not as after reset. -/
def State.coreKeys (s : State) : List Nat := s.cores.map (·.1)

/-- A test under way and the cores still to load new microcode are forgotten: the dies load the copy anew (R448, R475, R501). -/
def State.endOutings (s : State) : State :=
  let s1 := (s.modMg (fun m => { m with rolling := [], testing := none })).fs F.TOP_KAT_STATUS.RUNNING 0
  s.coreKeys.foldl (fun (u : State) c => (u.joinPool c 0).joinPool c 1) s1

/-- Every core's units are reset, with the CORE registers and the tile stores (R501, R507). -/
def State.blankCores (s : State) : State :=
  let t : State := s.coreKeys.foldl (fun (u : State) c => u.blankCore c) s.endOutings
  ({ t with acc := [] }.clear .core (fun _ => true)).loseTiles (fun _ => true)

/-! ### Core reset (R501) -/

/-- A combine handed to an atomic unit goes on without its sender (R501, step 2). -/
def CombReq.orphan (c : CombReq) : CombReq :=
  match c.home with
  | .xfer _ _ _ => { c with home := .none }
  | _ => c

/-- A command in flight on the compute dies loses its work (R501, steps 1 to 3): its transfers not yet landed are abandoned. -/
def State.abortReset (s : State) (q : Nat) : State :=
  let r := s.run q
  if !r.busy || r.record.isSome || !coreBound r.opc then s
  else
    let s1 := (s.fail q stAbortedReset).modRun q (fun r => { r with notStarted := !r.ready && r.done == 0 && r.undef.isEmpty })
    let s2 := s1.dropSieve (fun j => j.q == q)
    let s3 := s2.cores.foldl (fun t p =>
      ((t.core p.1).held.filter (fun h => h.q == q)).foldl (fun u h => u.abandonIndex p.1 h stAbortedReset) t) s2
    let s4 := s3.dropOutput q
    let s5 := [1, 2, 3].foldl (fun t x =>
      if ((t.core r.core).context x).q == some q then t.abandonCtx r.core x stAbortedReset else t) s4
    s5.modRun q (fun r => { r with
      finished := true
      onward := r.unhanded
      ready := true })

/-- A change of LOCAL_GIB that takes effect leaves the microcode copy undefined until it is written again (R501, step 7). -/
def State.placeStep (s : State) : State :=
  let new := s.fb F.MEM_PLACE.PENDING && s.fg F.MEM_PLACE.NEXT_GIB != s.fg F.MEM_PLACE.LOCAL_GIB
  let s1 := s.applyGib
  if new then { s1 with pw := { s1.pw with copyStale := true } } else s1

/-- The dies run again, a tick after a core reset or a request to leave SHELF (R501, steps 6 to 8; R507, log entry 105): the microcode is loaded and the
cores rejoin. -/
def State.diesBack (s : State) : State :=
  if s.fb F.RST_CTL.CORE_BUSY then (s.fs F.RST_CTL.CORE_BUSY 0).loadUcode
  else if s.fg F.PWR_STATUS.STATE = 4 then (s.fs F.PWR_STATUS.STATE 0).loadUcode
  else s

/-- A core reset (R501), as far as step 5; in SHELF only its step 5. -/
def State.coreReset (s : State) : State :=
  let s0 := (s.fs F.RST_CAUSE.CORE 1).fs F.RST_CAUSE.LAST 2
  if s0.inShelf then s0.placeStep
  else
    let qs := s0.runs.map (·.1)
    let s1 := qs.foldl (fun t q => t.abortReset q) s0
    let s2 := { s1 with units := s1.units.map (fun (p : Nat × List CombReq) => (p.1, p.2.map CombReq.orphan)) }
    let s3 := qs.foldl (fun t q => commandComplete q t) s2.blankCores
    let s4 := s3.queues.foldl (fun t q => t.showWait q) s3
    ((s4.fs F.CLK_STATUS.CCLK_LOCK 0).placeStep).fs F.RST_CTL.CORE_BUSY 1

/-! ### System and power-on reset -/

/-- The device with nothing but its registers, management complex and power state. -/
def State.bare (s : State) (m : Mgmt) (p : Power) : State :=
  { regs := s.regs, mg := m, pw := p, us := s.us, out := s.out, freeCtr := s.freeCtr, pending := s.pending }

/-- What start-up leaves and a system reset keeps of the management complex: fuses, flash, and the last sample of HOLDUP_SENSE. -/
def Mgmt.kept (m : Mgmt) : Mgmt := { fuse := m.fuse, flash := m.flash, sense := m.sense }

/-- A system reset (R496, R500): the device is at FUSES. -/
def State.sysReset (s : State) (cause : Fld) : State :=
  let p : Power := { pinLow := s.pw.pinLow, refMissing := s.pw.refMissing, holdover := s.pw.holdover, tap := s.pw.tap }
  let s1 : State := { (s.clear .sys (fun _ => true)).bare s.mg.kept p with temps := s.temps, volts := s.volts }
  (((s1.fs cause 1).fs F.RST_CAUSE.LAST 1).fc F.RST_CAUSE.SYS_COUNT 1).fs F.MGT_STATUS.STAGE 2

/-- A power-on reset (R496, R499): everything returns to its reset value. -/
def State.porReset (s : State) : State :=
  let p : Power := { pinLow := s.pw.pinLow, refMissing := s.pw.refMissing || s.pw.holdover }
  let s0 := if s.pw.tripped then s.emit (.pin pinTherm true) else s
  ({ s0 with regs := [] } : State).bare { fuse := s.mg.fuse, flash := s.mg.flash } p

/-- A write of RST_CTL (R520). -/
def State.writeRstCtl (s : State) (v : Nat) : State :=
  if bitsOf v 0 8 ≠ 0x5A then s
  else if bitOf v 9 then s.sysReset F.RST_CAUSE.SOFT
  else if bitOf v 8 then s.coreReset
  else s

/-! ### Block reset (R502, R503) -/

/-- Whether SHELF is being entered or left, or DOME is being entered (R514). -/
def State.transition (s : State) : Bool := s.fg F.PWR_STATUS.STATE == 3 || s.fg F.PWR_STATUS.STATE == 4 || s.pw.domeStep != 0

/-- Whether a unit identifier names a block that can be reset now. -/
def State.blockThere (s : State) (u : Nat) : Bool :=
  let i := u % 4096
  match u / 4096 with
  | 2 => s.present i && !s.diesDown
  | 8 => decide (i < 32) && s.fb F.MEM_STACK.TRAINED (i / 4) (i % 4)
  | 9 => decide (i < 16) && s.fg F.MEM_DDR_CH.STATE (i / 2) (i % 2) != 0
  | 0xA => decide (i < 40)
  | 0xB | 0xC => decide (i < 8)
  | _ => false

/-- A block is asked to go idle (R502). -/
def State.askIdle (s : State) (u : Nat) : State :=
  let b : BlockRst := { unit := u, swDis := s.coreBit F.QM_CORE_DIS_LO.CORES_LO F.QM_CORE_DIS_HI.CORES_HI (u % 4096) }
  let s1 := { s with pw := { s.pw with block := some b } }
  match u / 4096 with
  | 2 => if b.swDis then s1 else s1.disableCore (u % 4096)
  | 0xA => s1.modLink (u % 4096) (fun k => { k with retune := true })
  | _ => s1

/-- Whether a block that was asked has gone idle (R502, R278). -/
def State.blockIdle (s : State) (u : Nat) : Bool :=
  let i := u % 4096
  match u / 4096 with
  | 2 => (s.quiescing (.core (Fin.ofNat 96 i))).isNone
  | 8 => !(s.fb F.MEM_REPAIR_STATUS.BUSY (i / 4) && s.repairUnit (i / 4) == u)
  | 9 => !(s.fb F.MEM_REPAIR_STATUS.BUSY (i / 2) && s.repairUnit (i / 2) == u)
  | 0xA => !s.linkUp i || (s.link i).outq.isEmpty
  | 0xB => !s.portOwes i
  | _ => !s.colls.any (fun c => c.2.lanes.contains i)

/-- What remains in a block at the timeout is abandoned (R502, R385). -/
def State.blockForce (s : State) (u : Nat) : State :=
  let i := u % 4096
  match u / 4096 with
  | 2 => quiesceTimeout (.core (Fin.ofNat 96 i)) s
  | 0xC => (s.colls.filter (fun c => c.2.lanes.contains i)).foldl (fun t c =>
      commandComplete c.1 (((t.fail c.1 stAbortedDisable).collEnd c.1).modRun c.1 (fun r => { r with finished := true, ready := true }))) s
  | _ => s

/-- The state a link takes after its block reset: training where it is enabled (R315, R502). -/
def State.linkAgain (s : State) (l : Nat) : State :=
  if s.lg F.FAB_LINK_CTL.EN l = 1 then s.startTraining l (min 2 (s.lg F.FAB_LINK_CTL.MAX_WIDTH l))
  else s.ls F.FAB_LINK_STATUS.STATE lkDisabled l

/-- The state a port's link takes after its block reset. -/
def State.portAgain (s : State) (p : Nat) : State :=
  s.fs F.ETH_STATUS.LINK (if s.fb F.ETH_CTL.EN p then ethTraining else ethDisabled) p

/-- The reset of a block that is idle (R502). -/
def State.blockDo (s : State) (b : BlockRst) : State :=
  let i := b.unit % 4096
  match b.unit / 4096 with
  | 2 =>
    let s1 := ((s.blankCore i).clear .block (s.inBlock b.unit)).loseTiles (fun c => c == i)
    if b.swDis then s1 else s1.enableCore i
  | 8 => (s.clear .block (s.inBlock b.unit)).fs F.MEM_STACK.TRAINED 1 (i / 4) (i % 4)
  | 9 =>
    (s.clear .block (s.inBlock b.unit)).fs F.MEM_DDR_CH.STATE (s.fg F.MEM_DDR_CH.STATE (i / 2) (i % 2)) (i / 2) (i % 2)
  | 0xA =>
    let s1 := if 2 ≤ s.lg F.FAB_LINK_STATUS.STATE i then (s.goDown i).linkRec i 1 else s
    ({ s1.clear .block (s.inBlock b.unit) with links := smDel s1.links i }).linkAgain i
  | 0xB => (((s.closePort i false).1).clear .block (s.inBlock b.unit)).portAgain i
  | _ => s.clear .block (s.inBlock b.unit)

/-- A block reset ends (R503): the writes that waited for it are made (R536), RESULT says whether the block went idle before the timeout, and packets
that waited for its memory are applied (R341). -/
def State.blockEnd (s : State) (b : BlockRst) : State :=
  let s1 := b.writes.foldl (fun (t : State) w => t.lateWrite w.1 w.2.toNat) ({ s with pw := { s.pw with block := none } }.blockDo b)
  ((s1.fs F.RST_BLOCK_STATUS.BUSY 0).fs F.RST_BLOCK_STATUS.RESULT (if b.forced then 2 else 1)).connsAdvance

/-- A block reset goes on if its block has gone idle. -/
def State.blockGo (s : State) : State :=
  match s.pw.block with
  | some b => if s.blockIdle b.unit then s.blockEnd b else s
  | none => s

/-- A write of RST_BLOCK_CMD (R502, R503, R514, R521). -/
def State.writeBlockCmd (s : State) (v : Nat) : State :=
  let u := bitsOf v 0 16
  if !bitOf v 16 then s
  else if s.fb F.RST_BLOCK_STATUS.BUSY then s.fs F.RST_BLOCK_STATUS.REFUSED 1
  else if !s.blockThere u || s.transition then (s.fs F.RST_BLOCK_STATUS.REFUSED 1).fs F.RST_BLOCK_STATUS.RESULT 3
  else (((s.fs F.RST_BLOCK_STATUS.BUSY 1).fs F.RST_BLOCK_STATUS.UNIT u).askIdle u).blockGo

/-- BLOCK_RESET_TIMEOUT (R502): a memory controller always finishes what it has issued. -/
def blockResetTimeout (s : State) : State :=
  match s.pw.block with
  | none => s
  | some b =>
    if b.unit / 4096 = 8 ∨ b.unit / 4096 = 9 then s
    else
      let f := { b with forced := true }
      ({ s with pw := { s.pw with block := some f } }.blockForce b.unit).blockEnd f

/-! ### IDLE and SHELF -/

/-- Whether a command bound to the cores runs. -/
def State.coreRuns (s : State) : Bool := s.runs.any (fun p => p.2.busy && coreBound p.2.opc)

/-- IDLE_ENTRY (R506). -/
def idleEntry (s : State) : State :=
  if s.live && s.fb F.PWR_CTL.AUTO_IDLE && s.fg F.PWR_STATUS.STATE == 0 && !s.transition && !s.coreRuns && !s.queues.any s.coreReady &&
      !s.coreJobs && !s.fb F.RST_CTL.CORE_BUSY then s.fs F.PWR_STATUS.STATE 1
  else s

/-- IDLE_EXIT (R506). -/
def idleExit (s : State) : State := s.idleGo

/-- The compute dies are power-gated (R507, R508, R510). -/
def State.gateDies (s : State) : State :=
  { s with pw := { s.pw with retain := s.fg F.PWR_RETAIN.BANKS } }.blankCores.fs F.CLK_STATUS.CCLK_LOCK 0

/-- The entry to SHELF ends once the running commands, tests and retirements have ended (R507). -/
def State.shelfGo (s : State) : State :=
  if s.fg F.PWR_STATUS.STATE = 3 ∧ s.pw.block = none ∧ s.fb F.RST_CTL.CORE_BUSY = false ∧ s.coreRuns = false ∧ s.mg.chosen.isEmpty = true ∧ s.mg.testing = none then
    (s.gateDies.fs F.PWR_STATUS.STATE 2).fc F.PWR_STATUS.SHELF_ENTRIES 1
  else s

/-- A power request is refused (R507, R508, R514). -/
def State.refusePower (s : State) (why : Nat) : State := (s.fs F.PWR_STATUS.REFUSED 1).fs F.PWR_STATUS.REFUSE_WHY why

/-- SHELF_QUIESCE_TIMEOUT (R507). -/
def shelfTimeout (s : State) : State :=
  if s.fg F.PWR_STATUS.STATE = 3 then (s.refusePower 1).fs F.PWR_STATUS.STATE 0 else s

/-- The device begins to leave SHELF (R507); the cores are back at the next tick. In RECOVERY the dies stay in SHELF (R439). -/
def State.leaveShelf (s : State) : State :=
  if s.fg F.PWR_STATUS.STATE = 2 ∧ s.pw.domeStep = 0 ∧ s.fb F.MGT_STATUS.RECOVERY = false then s.fs F.PWR_STATUS.STATE 4 else s

/-- The automatic exit (R507): a command bound to the cores would be ready. -/
def State.autoWake (s : State) : State :=
  if s.live && s.fb F.PWR_CTL.AUTO_WAKE && s.queues.any s.coreReady then s.leaveShelf else s

/-! ### DOME -/

/-- A wake (R512): the first names LAST_WAKE, and one that comes during entry is latched. -/
def State.wakeBy (s : State) (code : Nat) : State :=
  if s.pw.wake.isSome then s
  else
    let s1 := { s with pw := { s.pw with wake := some code } }.fs F.PWR_STATUS.LAST_WAKE code
    if s.pw.dome then s1 else s1.fs F.DOME_WAKE.LATCHED 1

/-- Whether a wake counts: during DOME entry, or in DOME. -/
def State.wakes (s : State) : Bool := !s.pw.tripped && (s.pw.dome || s.pw.domeStep != 0)

/-- Steps 2 to 7 of the entry to DOME (R508, R509, R511): what the save list holds stays, and the rest is as after reset. -/
def State.enterDome (s : State) : State :=
  let s1 := s.gateDies
  let s2 := (List.range 8).foldl (fun t p => (t.closePort p).1) s1
  let s3 := (s2.clear .dome (fun _ => true)).fc F.PWR_STATUS.DOME_ENTRIES 1
  let m : Mgmt := { s3.mg with stores := [], pldm := {}, handover := none, wdPending := false, powMs := 0, thermMs := [], lagRuns := [] }
  let p : Power := { s3.pw with domeStep := 0, dome := true, physDue := true, block := none }
  let s4 : State := { s3.bare m p with
    mem := s3.mem
    marks := s3.marks
    cores := smMap (fun _ => {}) (fun _ k => { out := k.out.filter (fun x => x != 3) }) s3.cores
    groupPend := s3.groupPend
    errWin := s3.errWin
    temps := s3.temps
    volts := s3.volts
    bridges := s3.bridges
    repairs := s3.repairs }
  s4.fs F.DOME_PADS.HELD 1

/-- The entry to DOME goes on as far as it can (R508, R514). -/
def State.domeGo (s : State) : State :=
  let s1 := if s.pw.domeStep = 1 ∧ s.pw.block = none then { s with pw := { s.pw with domeStep := 2 } }.forceRelease else s
  if s1.pw.domeStep = 2 ∧ s1.fb F.QM_OWNER.RELEASING = false then s1.enterDome else s1

/-- Whether a link or port is being retuned. -/
def State.tuning (s : State) : Bool :=
  (List.range 40).any (fun l => (s.link l).retune || s.lg F.FAB_LINK_STATUS.STATE l == lkRetune) ||
    (List.range 8).any (fun p => s.fg F.ETH_STATUS.LINK p == ethTraining)

/-- A link (0 to 39) or port (40 to 47) is retuned (R316, R448): a port trains again. -/
def State.retuneUnit (s : State) (n : Nat) : State :=
  if n < 40 then s.askRetune n
  else if s.portUp (n - 40) then s.fs F.ETH_STATUS.LINK ethTraining (n - 40) else s

/-- New PHY tables reach the links and ports one at a time (R448). -/
def State.phyGo (s : State) : State :=
  match s.mg.retunes with
  | [] => s
  | n :: ns =>
    if s.tuning then s
    else
      let s1 := s.modMg (fun m => { m with retunes := ns })
      if n = 48 then s1.showUpd else s1.retuneUnit n

/-- A rolling microcode update goes on (R448): the next core leaves the pool; once it holds nothing it loads the image and rejoins. After the
last, the slot is active. -/
def State.rollGo (s : State) : State :=
  if !s.fb F.MGT_STATUS.MIXED_UCODE then s
  else
    match s.mg.rolling with
    | [] => (s.makeActive 2 (1 - s.activeSlot 2)).fs F.MGT_STATUS.MIXED_UCODE 0
    | c :: cs =>
      let on := s.modMg (fun m => { m with rolling := cs })
      if !s.present c then on
      else if s.mg.testing = some c then s
      else if !(s.core c).out.contains 1 then s.leavePool c 1
      else if s.coreIdle c then on.joinPool c 1
      else s

/-- What waits for work to end goes on: a block reset, then an entry to DOME or SHELF, the next retune and the next core of an update; and IDLE ends where
there is work (R506). -/
def State.settle (s : State) : State := s.blockGo.domeGo.shelfGo.phyGo.rollGo.idleGo

/-- A request for DOME (R508, R514). -/
def State.askDome (s : State) : State :=
  if s.transition then s.refusePower 3
  else if s.fb F.MGT_STORE_STATUS.BUSY || s.fb F.MGT_UPD_STATUS.BUSY then s.refusePower 2
  else ({ s with pw := { s.pw with domeStep := 1, wake := none } }.fs F.DOME_WAKE.LATCHED 0).settle

/-- A request for SHELF (R507, R514). -/
def State.askShelf (s : State) : State :=
  if s.transition then s.refusePower 3
  else if s.fg F.PWR_STATUS.STATE = 2 then s
  else (s.fs F.PWR_STATUS.STATE 3).settle

/-- A request for ACTIVE (R507, R514). -/
def State.askActive (s : State) : State :=
  if s.pw.domeStep ≠ 0 then s.wakeBy 0
  else if s.fg F.PWR_STATUS.STATE = 3 ∨ s.fg F.PWR_STATUS.STATE = 4 then s.refusePower 3
  else s.leaveShelf

/-- A write of PWR_CTL (R523). -/
def State.writePwrCtl (s : State) (v : Nat) : State :=
  let s1 := ((s.fs F.PWR_CTL.AUTO_IDLE (bitsOf v 2 1)).fs F.PWR_CTL.IDLE_US (max 1 (bitsOf v 3 16))).fs F.PWR_CTL.AUTO_WAKE (bitsOf v 19 1)
  match bitsOf v 0 2 with
  | 1 => s1.askActive
  | 2 => s1.askShelf
  | 3 => s1.askDome
  | _ => s1

/-- A write of DOME_PADS (R511, R526). -/
def State.writePads (s : State) (v : Nat) : State :=
  let s1 := if bitOf v 2 then s.fs F.DOME_PADS.REFUSED 0 else s
  if !bitOf v 1 then s1
  else if s1.pw.physDue then s1.fs F.DOME_PADS.REFUSED 1
  else s1.fs F.DOME_PADS.HELD 0

/-- PAD_RELEASE (R511): in DOME, management firmware that runs in the exit may write it before the PHYs are restored. -/
def padRelease (who : Req) (v : Nat) (s : State) : State :=
  let w := setBits v 1 1 1
  if s.pw.dome then (if who = .mgmt ∧ s.pw.wake.isSome = true ∧ s.pw.tripped = false then s.writePads w else s)
  else s.gated who (⟨.DOME_PADS, 0, 0, 0⟩ : RegKey).addr (fun t => t.writePads w)

/-! ### REFCLK (R518) -/

/-- REFCLK_LOSS: every PLL holds its last frequency; in DOME they are stopped already (R514). -/
def refclkLoss (s : State) : State :=
  if s.pw.holdover || s.pw.refMissing then s
  else
    let s1 := { s with pw := { s.pw with holdover := true } }
    if s.pw.dome then s1 else s1.fs F.CLK_STATUS.REFCLK_OK 0

/-- HOLDOVER_EXPIRY: a system reset, held until REFCLK returns. -/
def holdoverExpiry (s : State) : State :=
  if s.pw.holdover && !s.pw.dome && !s.pw.tripped then
    { s with pw := { s.pw with holdover := false, refMissing := true } }.sysReset F.RST_CAUSE.REFCLK
  else s

/-- REFCLK_RETURN. -/
def refclkReturn (s : State) : State :=
  if s.pw.refMissing then { s with pw := { s.pw with refMissing := false } }
  else if s.pw.holdover then
    let s1 := { s with pw := { s.pw with holdover := false } }
    if s.pw.dome then s1 else (s1.fs F.CLK_STATUS.REFCLK_OK 1).fc F.CLK_STATUS.LOSSES 1
  else s

/-! ### Pins -/

/-- SYS_RESET_N (R497, R500): the reset is held while the pin is low. -/
def sysResetN (s : State) : State :=
  if s.pw.tripped then { s with pw := { s.pw with pinLow := true } }
  else { s with pw := { s.pw with pinLow := true } }.sysReset F.RST_CAUSE.PIN

/-- SYS_RESET_RELEASE (R500). -/
def sysResetRelease (s : State) : State := { s with pw := { s.pw with pinLow := false } }

/-- WAKE_N (R512). -/
def wakeN (s : State) : State := if s.wakes && s.fb F.DOME_WAKE.EN_PIN then s.wakeBy 1 else s

/-- I3C_WAKE (R512). -/
def i3cWake (s : State) : State := if s.wakes && s.fb F.DOME_WAKE.EN_I3C then s.wakeBy 2 else s

/-- TIMER_WAKE (R512): the timer counts from the end of the entry. -/
def timerWake (s : State) : State :=
  if s.pw.dome && !s.pw.tripped && s.fb F.DOME_WAKE.EN_TIMER then s.wakeBy 3 else s

/-! ### Meanings -/

/-- The address of RST_CTL, RST_BLOCK_CMD and PWR_CTL. -/
def rstCtlAddr : Nat := (⟨.RST_CTL, 0, 0, 0⟩ : RegKey).addr
def blockCmdAddr : Nat := (⟨.RST_BLOCK_CMD, 0, 0, 0⟩ : RegKey).addr
def pwrCtlAddr : Nat := (⟨.PWR_CTL, 0, 0, 0⟩ : RegKey).addr

def execQuiesceEnd (u : QUnit) (s : State) : Host.Outcome State Fault Refusal := .next (quiesceEnd u s).settle
def execQuiesceTimeout (u : QUnit) (s : State) : Host.Outcome State Fault Refusal := .next (quiesceTimeout u s).settle
def execRelease (who : Req) (s : State) : Host.Outcome State Fault Refusal := .next (release who s)
def execForcedRelease (who : Req) (s : State) : Host.Outcome State Fault Refusal := .next (forcedRelease who s)
def execCommandComplete (q : UnitsAt) (s : State) : Host.Outcome State Fault Refusal :=
  .next (commandComplete q.q.toNat s (unitList q.met)).settle
def execFlitGroup (l : Fin 40) (g : FlitGroup) (s : State) : Host.Outcome State Fault Refusal := .next (flitGroup l.val g s).settle
def execRepairHoldEnd (h : Fin 8) (spare : HoldEnd) (s : State) : Host.Outcome State Fault Refusal :=
  .next (repairHoldEnd h.val spare.spare (unitList spare.row) s).settle
def execRetirement (c : Fin 96) (tests : List Bool) (bad : List (BitVec 18)) (s : State) : Host.Outcome State Fault Refusal :=
  .next (retirement c.val tests (bad.map (·.toNat)) s).settle
def execPowerOnReset (_src : PorSource) (s : State) : Host.Outcome State Fault Refusal := .next s.porReset
def execSysResetN (s : State) : Host.Outcome State Fault Refusal := .next (sysResetN s)
def execSysResetRelease (s : State) : Host.Outcome State Fault Refusal := .next (sysResetRelease s)
def execSystem (who : Req) (v : Word) (s : State) : Host.Outcome State Fault Refusal :=
  .next (s.gated who rstCtlAddr (fun t => t.writeRstCtl (setBits v.toNat 9 1 1)))
def execCoreReset (who : Req) (v : Word) (s : State) : Host.Outcome State Fault Refusal :=
  .next (s.gated who rstCtlAddr (fun t => t.writeRstCtl (setBits v.toNat 8 2 1)))
def execBlockReset (who : Req) (v : Word) (s : State) : Host.Outcome State Fault Refusal :=
  .next (s.gated who blockCmdAddr (fun t => t.writeBlockCmd (setBits v.toNat 16 1 1)))
def execBlockResetTimeout (s : State) : Host.Outcome State Fault Refusal := .next (blockResetTimeout s).settle
def execIdleEntry (s : State) : Host.Outcome State Fault Refusal := .next (idleEntry s)
def execIdleExit (s : State) : Host.Outcome State Fault Refusal := .next (idleExit s)
def execShelf (who : Req) (v : Word) (s : State) : Host.Outcome State Fault Refusal :=
  .next (s.gated who pwrCtlAddr (fun t => t.writePwrCtl (setBits v.toNat 0 2 2)))
def execShelfExit (w : ShelfWake) (s : State) : Host.Outcome State Fault Refusal :=
  match w with
  | .req who v => .next (s.gated who pwrCtlAddr (fun t => t.writePwrCtl (setBits v.toNat 0 2 1)))
  | .auto => .next s.autoWake
def execShelfQuiesceTimeout (s : State) : Host.Outcome State Fault Refusal := .next (shelfTimeout s)
def execDomeEntry (who : Req) (v : Word) (s : State) : Host.Outcome State Fault Refusal :=
  .next (s.gated who pwrCtlAddr (fun t => t.writePwrCtl (setBits v.toNat 0 2 3)))
def execWakeN (s : State) : Host.Outcome State Fault Refusal := .next (wakeN s)
def execI3cWake (s : State) : Host.Outcome State Fault Refusal := .next (i3cWake s)
def execTimerWake (s : State) : Host.Outcome State Fault Refusal := .next (timerWake s)
def execPadRelease (who : Req) (v : Word) (s : State) : Host.Outcome State Fault Refusal := .next (padRelease who v.toNat s)
def execRefclkLoss (s : State) : Host.Outcome State Fault Refusal := .next (refclkLoss s)
def execHoldoverExpiry (s : State) : Host.Outcome State Fault Refusal := .next (holdoverExpiry s)
def execRefclkReturn (s : State) : Host.Outcome State Fault Refusal := .next (refclkReturn s)

end Sys2Proof.Machine
end

