-- ==== Sys2Proof/Machine/Management.lean ====
section
/-! DEFINITION. The management complex (chapter 14): start-up, stores and updates, policies, the watchdog; and the exit from DOME (R513). -/

namespace Sys2Proof.Machine

/-! ### The code of the part (R2, R31, R33) -/

/-- The highest CCLK of the S code and the lowest CCLK, in MHz (R31). -/
def clkMax : Nat := 2250
def clkMin : Nat := 1000

/-- The highest CCLK of this part's code, by its fuse (R2, R31). -/
def State.codeMax (s : State) : Nat := if s.mg.fuse.grade = 1 then 2000 else clkMax

/-- The fuses are read: the grade shows, and every die's CCLK stands at the code's maximum (R2, R33). -/
def State.readFuses (s : State) : State :=
  (List.range 4).foldl (fun (t : State) d => t.fs (clkField d) t.codeMax) (s.fs F.TOP_DEVICE_ID.GRADE s.mg.fuse.grade)

/-! ### Choosing images (R428, R436, R439) -/

/-- The slot of a class that start-up runs: the one the BOOT_SLOT bank names, else the other. Every image refused is recorded. -/
def State.pickImage (s : State) (cls : Nat) (readable : Bool) : State × Option Nat :=
  let first := if bitOf s.mg.fuse.boot (cls - 1) then 1 else 0
  [first, 1 - first].foldl (fun (a : State × Option Nat) slot =>
    if a.2.isSome then a
    else
      match (if readable then s.image cls slot else none) with
      | none => (a.1.fwRec cls 1 slot, none)
      | some i =>
        match s.mg.fuse.fails cls i with
        | none => (a.1, some slot)
        | some k => (a.1.fwRec cls k slot, none)) (s, none)

/-- The device identity key of the management firmware that was accepted in a slot: from the fused seed and the hash of KEY (R435, R440). -/
def State.deriveId (s : State) (slot : Nat) : State :=
  let img := ((s.image 1 slot).map (·.bytes)).getD []
  s.modMg (fun m => { m with idKey := some (Config.identityKey m.fuse.seed (Config.sha384 ((img.drop 64).take 96))) })

/-! ### The configuration (R431) -/

/-- The factory defaults of the ports' addresses (R402). -/
def State.portDefaults (s : State) : State :=
  (List.range 8).foldl (fun (t : State) p => t.fs F.ETH_MAC.MAC ((t.mg.fuse.baseMac + p) % 2 ^ 48) p) s

/-- The CONFIG stage: both slots are read and one is selected. -/
def State.readConfig (s : State) (present : Bool) : State :=
  let raw := fun (i : Nat) => if !present then [] else if i = 0 then s.mg.flash.cfg0 else s.mg.flash.cfg1
  let a := cfgParse (raw 0)
  let b := cfgParse (raw 1)
  let s1 := (s.fs F.CFG_STATUS.SLOT0_BAD (b2n a.isNone)).fs F.CFG_STATUS.SLOT1_BAD (b2n b.isNone)
  match cfgSelect a b with
  | none => s1.portDefaults.fs F.CFG_STATUS.DEFAULTS_USED 1
  | some i =>
    let c := ((if i = 0 then a else b)).getD { seq := 0, recs := [] }
    let s2 := ((s1.fs F.CFG_STATUS.SLOT i).fs F.CFG_STATUS.SEQ c.seq).portDefaults
    let s3 := c.recs.foldl (fun (t : State) r => t.applyRec r) s2
    s3.modMg (fun m => { m with block := (raw i).take (cfgLength (raw i)) })

/-! ### Training (R262, R428) -/

/-- The good sites of a die (R21). -/
def State.goodSites (s : State) (d : Nat) : List Nat :=
  ((List.range 26).map (· + 26 * d)).filter (fun x => !s.mg.fuse.disabled.contains x && !s.mg.retired.contains x)

/-- The sites of the logical cores, in order (R21). -/
def State.mapSites (s : State) : List Nat := (List.range 4).flatMap (fun d => (s.goodSites d).take 24)

/-- Build the core map (R21 to R24); with no HBM4 stack the cores stay absent (R428). -/
def State.buildMap (s : State) (hbm : Bool) : State :=
  let m := s.mapSites
  let s1 := (List.range 96).foldl (fun (t : State) c =>
    ((t.fs F.TOP_CORE_MAP.SITE (m.getD c 0x7F) c).fs F.TOP_CORE_MAP.STATE (if c < m.length && hbm then 0 else 2) c).fs
      F.TOP_CORE_MAP.WAS_SPARE 0 c) s
  let s2 := (s1.fs F.TOP_UNIT_COUNT.CORES m.length).fs F.TOP_UNIT_COUNT.PRESENT (if hbm then m.length else 0)
  (List.range 4).foldl (fun (t : State) d => t.showSpares d) s2

/-- The tier that channels make which trained with matching RDIMMs (R262): the channels used. -/
def tierOf (ok : List Nat) : List Nat :=
  let evens := (List.range 8).map (· * 2)
  if (List.range 16).all ok.contains then List.range 16 else if evens.all ok.contains then evens else []

/-- Show the tier (R273). -/
def State.showTier (s : State) (used : List Nat) (gib rate : Nat) : State :=
  let n := used.length
  (((s.fs F.MEM_DDR_SIZE.SIZE_GIB (n * gib)).fs F.MEM_DDR_SIZE.CHANNELS n).fs F.MEM_DDR_SIZE.DIMM_GIB (if n = 0 then 0 else gib)).fs
    F.MEM_DDR_SIZE.RATE (if n = 0 then 0 else rate)

/-- The state of a channel, with a DDR_CHANNEL record where it is populated and not in the tier (R262, R465, R277). -/
def State.showChannel (s : State) (c st why : Nat) : State :=
  let s1 := s.fs F.MEM_DDR_CH.STATE st (c / 2) (c % 2)
  if 2 ≤ st then s1.errRec 0x0E (uid 9 c) none [(40, 1, st), (41, 1, why)] else s1

/-- The RATE code of the highest rate that every populated RDIMM supports (R262, R273). -/
def ddrRate (ddr : List (Fin 16 × Dimm × Bool)) : Option Nat :=
  [0, 1, 2].find? (fun i => ddr.all (fun x => x.2.1.rates.getLsbD i))

/-- Whether two RDIMMs may stand in one tier: the same capacity, ranks and device width (R262). -/
def dimmsMatch (a b : Dimm) : Bool := a.gib == b.gib && a.twoRanks == b.twoRanks && a.x8 == b.x8

/-- The channels that trained with RDIMMs matching that of channel 0, which every tier has (R262). A channel without ECC fails training, and all
do where no rate is common to them. -/
def trainedDdr (ddr : List (Fin 16 × Dimm × Bool)) : List (Nat × Dimm) :=
  if (ddrRate ddr).isNone then [] else (ddr.filter (fun x => x.2.1.ecc && x.2.2)).map (fun x => (x.1.val, x.2.1))

/-- DDR5 is trained and the tier built (R262). DESIGN CHOICE (log entry 72): a trained channel out of the tier shows an SPD mismatch where its RDIMM
differs from that of the lowest channel that trained. -/
def State.trainDdr (s : State) (ddr : List (Fin 16 × Dimm × Bool)) : State :=
  let ok := trainedDdr ddr
  let alike := fun (x : Nat × Dimm) => match ok.find? (fun y => ok.all (fun z => decide (y.1 ≤ z.1))) with
    | some y => dimmsMatch x.2 y.2
    | none => false
  let used := tierOf ((ok.filter alike).map (·.1))
  let gib := ((ok.find? (fun x => used.contains x.1)).map (fun x => x.2.gib)).getD 0
  let s1 := s.showTier used gib ((ddrRate ddr).getD 0)
  ddr.foldl (fun (t : State) x =>
    let c := x.1.val
    if used.contains c then t.showChannel c 1 0
    else match ok.find? (fun y => y.1 == c) with
      | some y => t.showChannel c 2 (b2n (!alike y))
      | none => t.showChannel c 3 (if x.2.1.ecc then 2 else 3)) s1

/-- HBM4 stacks that train (R276). -/
def State.trainHbm (s : State) (hbm : List (Fin 32)) : State :=
  hbm.foldl (fun (t : State) x => t.fs F.MEM_STACK.TRAINED 1 (x.val / 4) (x.val % 4)) s

/-- Links and ports train (R315, R401). -/
def State.trainLinks (s : State) (links : List (Fin 40 × BitVec 2 × BitVec 4)) (ports : List (Fin 8 × BitVec 2)) : State :=
  let s1 := (List.range 40).foldl (fun (t : State) l =>
    if t.lg F.FAB_LINK_CTL.EN l = 0 then t else
    match links.find? (fun x => x.1.val == l) with
    | some x => if lanesFit x.2.1.toNat x.2.2.toNat then t.goUp l x.2.1.toNat x.2.2.toNat else t.ls F.FAB_LINK_STATUS.STATE lkDown l
    | none => t.ls F.FAB_LINK_STATUS.STATE lkDown l) s
  (List.range 8).foldl (fun (t : State) p =>
    if !t.fb F.ETH_CTL.EN p then t.fs F.ETH_STATUS.LINK ethDisabled p
    else
      match ports.find? (fun x => x.1.val == p) with
      | some x => (t.fs F.ETH_STATUS.LINK ethUp p).fs F.ETH_STATUS.RATE x.2.toNat p
      | none => t.fs F.ETH_STATUS.LINK ethDown p) s1

/-- The hubs' clocks lock (R499, R525). -/
def State.lockClocks (s : State) : State :=
  ((s.fs F.CLK_STATUS.REFCLK_OK 1).fs F.CLK_STATUS.HCLK_LOCK 0xFF).fs F.CLK_STATUS.MCLK_LOCK 1

/-- The spire named in the configuration runs the fabric manager (R352, R354). -/
def State.spireStart (s : State) : State :=
  if s.fb F.FAB_ID.VALID && s.fg F.FAB_SPIRE.PRIMARY == s.fg F.FAB_ID.DEVICE_ID && s.fg F.FAB_ID.ROLE == 1 then s.fs F.FAB_SPIRE.ACTIVE 1
  else s

/-- What was programmed into the flash from outside, as a start-up finds it. -/
def Flash.found (f : Flash) (env : StartEnv) : Flash :=
  let f1 := match env.cfg with
    | some c => { f with cfg0 := c.1, cfg1 := c.2 }
    | none => f
  { f1 with
    chain := (env.chain.getD f1.chain).take 65536,
    imgs := env.imgs.foldl (fun m x => smIns (smDel m x.1.val) x.1.val x.2) f1.imgs }

/-- What the manufacturer blew into fuses that were blank, as the first start-up finds it (R428). -/
def Fuses.found (f : Fuses) (env : StartEnv) : Fuses :=
  match env.fuses with
  | some b =>
    if f = {} then
      { disabled := b.disabled, grade := b.grade, baseMac := b.baseMac.toNat, serial := b.serial.toNat, rootHash := b.rootHash.take 4, debug := b.debug,
        seed := b.seed }
    else f
  | none => f

/-- The stages from TRAIN on (R428): with the microcode verified, the dies are powered and their clocks lock (R499). -/
def State.trainStage (s : State) (env : StartEnv) : State :=
  let s1 := ((s.fs F.CLK_STATUS.CCLK_LOCK 0xF).trainHbm env.hbm).trainDdr env.ddr
  let s2 := (s1.buildMap (!env.hbm.isEmpty)).placeSuite
  let s3 := (s2.trainLinks env.links env.ports).spireStart
  s3.fs F.MGT_STATUS.STAGE 8

/-- Whether a start-up can run: the device stands at DOME_UP or FUSES and nothing holds it there (R428, R500). -/
def State.canStart (s : State) : Bool :=
  (s.fg F.MGT_STATUS.STAGE == 1 || s.fg F.MGT_STATUS.STAGE == 2) && !s.fb F.MGT_STATUS.FUSE_ERR && !s.pw.pinLow && !s.pw.refMissing &&
    !s.pw.holdover && s.powered

/-- START_UP (R428). -/
def startUp (env : StartEnv) (s : State) : State :=
  if !s.canStart then s
  else if !env.fuseParityOk then (s.fs F.MGT_STATUS.STAGE 2).fs F.MGT_STATUS.FUSE_ERR 1
  else
    let s1 := (s.modMg (fun m => { m with fuse := m.fuse.found env, flash := m.flash.found env })).readFuses.lockClocks
    let s2 := s1.readConfig env.flashPresent
    let m := s2.pickImage 1 env.flashPresent
    match m.2 with
    | none => m.1.recover 4
    | some a =>
      let u := ((m.1.setActive 1 a).deriveId a).pickImage 2 env.flashPresent
      match u.2 with
      | none => u.1.recover 5
      | some b =>
        let s3 := u.1.setActive 2 b
        (s3.setActive 3 (if bitOf s3.mg.fuse.boot 2 then 1 else 0)).trainStage env

/-! ### Exit from DOME (R513) -/

/-- The management images as the boot ROM reads them now. -/
def Flash.checked (f : Flash) (a b : ImageCheck) : Flash :=
  { f with imgs := f.imgs.map (fun (p : Nat × ImgInfo) => if p.1 = 0 then (0, a.read.getD p.2) else if p.1 = 1 then (1, b.read.getD p.2) else p) }

/-- A PHY that fails even a full training (R513): its stack or channel is out of service, as at start-up. -/
def State.physLost (s : State) (c : MemCtl) : State :=
  match c with
  | .stack x => s.fs F.MEM_STACK.TRAINED 0 (x.val / 4) (x.val % 4)
  | .channel x =>
    if s.fg F.MEM_DDR_CH.STATE (x.val / 2) (x.val % 2) = 0 then s
    else
      let s1 := s.showChannel x.val 3 2
      let ok := (List.range 16).filter (fun k => s1.fg F.MEM_DDR_CH.STATE (k / 2) (k % 2) == 1)
      let used := tierOf ok
      let s2 := s1.showTier used (s1.fg F.MEM_DDR_SIZE.DIMM_GIB) (s1.fg F.MEM_DDR_SIZE.RATE)
      (ok.filter (fun k => !used.contains k)).foldl (fun (t : State) k => t.showChannel k 2 0) s2

/-- Steps 5 to 10 of the exit (R513). -/
def State.wakeUp (s : State) (env : WakeEnv) : State :=
  let s1 := env.physFailed.foldl (fun (t : State) c => t.physLost c) s
  let s2 := { s1 with pw := { s1.pw with physDue := false } }.fs F.DOME_PADS.HELD 0
  let s3 := { s2 with pw := { s2.pw with dome := false, wake := none } }.fs F.PWR_STATUS.STATE 0
  let s4 := ((List.range 96).foldl (fun (t : State) c => t.showPool c) s3).lockClocks.loadUcode
  if s4.fb F.MGT_STATUS.RECOVERY then s4 else (s4.trainLinks env.links env.ports).fs F.MGT_STATUS.STAGE 8

/-- DOME_EXIT (R513): on a wake that has come, once REFCLK is there (R514). -/
def domeExit (env : WakeEnv) (s : State) : State :=
  if !s.pw.dome || s.pw.wake.isNone || s.pw.holdover || s.pw.refMissing || s.pw.tripped then s
  else if !env.saveOk then s.sysReset F.RST_CAUSE.DOME_LOST
  else
    let s1 := s.modMg (fun m => { m with flash := m.flash.checked env.mgmtA env.mgmtB })
    let m := s1.pickImage 1 true
    match m.2 with
    | none => ({ m.1 with pw := { m.1.pw with dome := false, wake := none } }).recover 4
    | some a => ((m.1.setActive 1 a).deriveId a).wakeUp env

/-! ### Updates (R448 to R450, R459) -/

/-- An update is refused (R434, R438, R450). -/
def State.updRefused (s : State) : State := s.fs F.MGT_UPD_STATUS.REFUSED 1

/-- Queue the store of an update (R434, R450). -/
def State.updStore (s : State) (what : StoreWhat) (steps : Nat) (unguarded : Bool) : State :=
  if 5 ≤ s.mg.stores.length then s.updRefused
  else (s.addStore { what := what, steps := steps, unguarded := unguarded, upd := true } F.MGT_UPD_STATUS.REFUSED).showUpd

/-- The body length of the image at an HBM4 address, if its header is one of a class that fits its slot (R435). -/
def State.imageHead (s : State) (a cls : Nat) : Option Nat :=
  let n := s.le (a + 12) 4
  if hbmEnd < a + 256 ∨ s.marked a 256 = true ∨ s.le a 4 ≠ 0x7200F1A0 ∨ s.le (a + 4) 1 ≠ cls ∨ slotBytes cls < n + 256 ∨
      63 < s.le (a + 6) 2 ∨ hbmEnd < a + 256 + n ∨ s.marked a (256 + n) = true then none
  else some n

/-- STAGE (R450): the image in HBM4 is verified; `chk` says how its SIG was made. -/
def State.stageImage (s : State) (who : Req) (v : Nat) (chk : ImageCheck) : State :=
  let cls := bitsOf v 51 2
  match s.imageHead (bitsOf v 0 48) cls with
  | none => s.updResult resBadImage
  | some n =>
    let info : ImgInfo := { bytes := s.bytes (bitsOf v 0 48) (256 + n), signer := chk.read.bind (·.signer) }
    let slot := 1 - s.activeSlot cls
    match s.mg.fuse.fails cls info with
    | some k => (s.fwRec cls k slot).updResult resBadImage
    | none => s.updStore (.img cls slot info) (ceilDiv (256 + n) 4096) (bitOf v 55 && isMgmt who)

/-- A handover of the management cores begins (R449): the standby boots the image in a slot; `asked`: ACTIVATE asked for it. -/
def State.startHandover (s : State) (slot : Nat) (asked : Bool) : State := (s.modMg (fun m => { m with handover := some (slot, asked) })).showUpd

/-- A handover ends (R449, log entry 83): the standby has become active, the roles swap, and an image that ACTIVATE named is the active one. -/
def State.handGo (s : State) : State :=
  match s.mg.handover with
  | none => s
  | some h =>
    let s1 := (s.modMg (fun m => { m with handover := none })).fs F.MGT_STATUS.ACTIVE_CORE (1 - s.fg F.MGT_STATUS.ACTIVE_CORE)
    if h.2 then s1.makeActive 1 h.1 else s1

/-- A rolling microcode update begins (R448): the image and its suite take the firmware region, and every core that runs is to load it. -/
def State.startRolling (s : State) : State :=
  let s1 := (s.fs F.MGT_STATUS.MIXED_UCODE 1).showUpd.placeSuite
  s1.modMg (fun m => { m with rolling := if s.diesDown then [] else (List.range 96).filter s.present })

/-- ACTIVATE (R448 to R450): a handover, a rolling update of the cores, or retunes one after another; it is over when the standby, every core or every
link has followed and the BOOT_SLOT bank has been stored (log entry 83). `chk` is what the standby reads in the slot. -/
def State.activateImage (s : State) (cls : Nat) (chk : ImageCheck) : State :=
  let slot := 1 - s.activeSlot cls
  match s.image cls slot with
  | none => s.updResult resBadImage
  | some i =>
    if !s.mg.flash.staged.contains (imgKey cls slot) then s.updResult resBadImage
    else if 5 ≤ s.mg.stores.length then s.updRefused
    else
      match cls with
      | 1 =>
        match s.mg.fuse.fails 1 (chk.read.getD i) with
        | some k => (s.fwRec 1 k slot).updResult resBadImage
        | none => s.startHandover slot true
      | 2 => s.startRolling.settle
      | _ => ((s.makeActive 3 slot).modMg (fun m => { m with retunes := List.range 49 })).settle

/-- COMMIT_SVN (R437, R450). -/
def State.commitSvn (s : State) (cls : Nat) : State :=
  match s.image cls (s.activeSlot cls) with
  | none => s.updResult resBadImage
  | some i => if 63 < imgSvn i then s.updResult resFuse else s.updStore (.svn cls (imgSvn i)) 1 false

/-- REVOKE (R438). -/
def State.revokeKey (s : State) (k : Nat) : State :=
  let signs := match s.image 1 (s.activeSlot 1) with
    | some i => s.mg.fuse.keySlots i
    | none => []
  if signs.any (fun j => j != k && !s.mg.fuse.revoked.contains j) then s.updStore (.revoke k) 1 false
  else s.updRefused

/-- A write of MGT_UPD_CMD (R450, R459): `chk` is what the checks of R436 find on the image the command names. -/
def State.writeUpd (s : State) (who : Req) (v : Nat) (chk : ImageCheck) : State :=
  let op := bitsOf v 48 3
  let cls := bitsOf v 51 2
  if op = 0 ∨ 4 < op then s
  else if s.fb F.MGT_UPD_STATUS.BUSY then s.updRefused
  else if op = 4 then s.revokeKey (bitsOf v 53 2)
  else if cls = 0 then s.updRefused
  else
    match op with
    | 1 => s.stageImage who v chk
    | 2 => s.activateImage cls chk
    | _ => s.commitSvn cls

/-- The address of MGT_UPD_CMD, and an update command with its OP (R459). -/
def updAddr : Nat := (⟨.MGT_UPD_CMD, 0, 0, 0⟩ : RegKey).addr
def updWrite (op : Nat) (who : Req) (v : Word) (chk : ImageCheck) (s : State) : State :=
  s.gated who updAddr (fun t => if t.live then t.writeUpd who (setBits v.toNat 48 3 op) chk else t)

/-- A check that reads what is stored: for the operations that read no image. -/
def noCheck : ImageCheck := { read := none }

/-- How the SIG of an image in HBM4 was made, where no operand says it: free values. -/
def State.freeCheck (s : State) : State × ImageCheck :=
  let a := s.free
  let b := a.2.free
  (b.2, { read := some { bytes := [], signer := some { key := a.1, nonce := b.1 } } })

/-! ### Stores -/

/-- STORE (R433). -/
def store (who : Req) (v : Word) (s : State) : State :=
  s.gated who (⟨.MGT_STORE_CMD, 0, 0, 0⟩ : RegKey).addr (fun t => if t.live then t.writeStoreCmd who (setBits v.toNat 48 1 1) else t)

/-- STORE_SECTOR (R434, R444); the end of RECOVERY resets the device (R439). -/
def storeSector (ok : Bool) (s : State) : State :=
  if !s.powered then s
  else
    let r := s.storeStep ok
    if r.2 then r.1.sysReset F.RST_CAUSE.RECOVERY else r.1

/-- HOLDUP_SAMPLE (R444): every millisecond. -/
def holdupSample (code : Nat) (s : State) : State :=
  if !s.powered then s
  else
    let s1 := s.modMg (fun m => { m with sense := code })
    match s.mg.holdup with
    | some h => s1.fs F.MGT_STORE_STATUS.HOLDUP_MJ (min 65535 (h.avail code * 1000).floor.toNat)
    | none => s1

/-- HOLDUP_RECHECK (R444). -/
def holdupRecheck (s : State) : State := if s.powered then s.showStores else s

/-! ### Host keys (R460) -/

/-- A write of word 0 of a host key: EN = 1 with an invalid point is ignored. -/
def State.writeKey0 (s : State) (n v : Nat) : State :=
  if bitOf v 0 && !pointOk (s.hostKey n) then s
  else (s.fs F.MGT_HOSTKEY.EN (bitsOf v 0 1) n).fs F.MGT_HOSTKEY.IDENTITY (bitsOf v 32 32) n

/-- A write of a word of the key itself. -/
def State.writeKeyWord (s : State) (n w v : Nat) : State :=
  if s.fb F.MGT_HOSTKEY.EN n then s
  else s.wr ⟨.MGT_HOSTKEY_KEY, n, w, 0⟩ (BitVec.ofNat 64 (if w = 12 then bitsOf v 0 8 else v))

/-! ### Policies (R451 to R453) -/

/-- A POLICY record (R451, R465). -/
def State.policyRec (s : State) (unit policy action old new meas : Nat) (acted : Bool) : State :=
  s.errRec 0x0F unit none [(40, 1, policy), (41, 1, action), (42, 2, old), (44, 2, new), (48, 8, meas)] acted

/-- Whether a policy decides anything: the device is READY and the policy is not OFF; and whether it acts. -/
def State.decides (s : State) (f : Fld) : Bool := s.live && (s.fg f == 1 || s.fg f == 2)
def State.acts (s : State) (f : Fld) : Bool := s.fg f == 2

/-- What a policy asks for a die, at most the code's highest CCLK `mx`. -/
def asked (mx : Nat) (m : SMap Nat) (d : Nat) : Nat := min mx (smGet (fun _ => clkMax) m d)

/-- The CCLK of each die is the lower of what POWER and THERMAL ask (R452). -/
def State.showClk (s : State) : State :=
  (List.range 4).foldl (fun (t : State) d => t.fs (clkField d) (min (asked t.codeMax t.mg.powClk d) (asked t.codeMax t.mg.thermClk d))) s

/-- One step of what a policy asks: down from the present CCLK, or up. -/
def stepAsk (mx : Nat) (m : SMap Nat) (d now : Nat) (up : Bool) : SMap Nat :=
  smPut (fun _ => clkMax) m d (if up then min mx (asked mx m d + 25) else max clkMin (now - 25))

/-- A POWER decision on every die (R451). -/
def State.powerStep (s : State) (up : Bool) (watts : Nat) : State :=
  let old := s.dieClk 0
  let m := (List.range 4).foldl (fun m d => stepAsk s.codeMax m d (s.dieClk d) up) s.mg.powClk
  let act := s.acts F.MGT_POLICY.POWER
  let new := min (asked s.codeMax m 0) (asked s.codeMax s.mg.thermClk 0)
  let s1 := if act then (s.modMg (fun g => { g with powClk := m, powMs := if up then 0 else g.powMs })).showClk
    else s.modMg (fun g => { g with powMs := if up then 0 else g.powMs })
  s1.policyRec (uid 0xE (s.fg F.MGT_STATUS.ACTIVE_CORE)) 0 (if up then 2 else 1) old new watts act

/-- POWER_POLICY (R451): every millisecond. -/
def powerPolicy (watts : Nat) (s : State) : State :=
  if !s.live then s
  else
    let s1 := (s.fs F.MGT_PWR.MEASURED_W watts).modMg (fun m => { m with powMs := m.powMs + 1 })
    let cap := s.fg F.MGT_PWR.CAP_W
    if !s.decides F.MGT_POLICY.POWER then s1
    else if cap < watts then (if (List.range 4).any (fun d => decide (clkMin < s.dieClk d)) then s1.powerStep false watts else s1)
    else if watts * 100 < cap * 98 ∧ 10 ≤ s1.mg.powMs ∧ (List.range 4).any (fun d => decide (asked s.codeMax s.mg.powClk d < s.codeMax)) = true then
      s1.powerStep true watts
    else s1

/-- The hottest sensor of a die, in units of 0.125 °C; none where none was sampled. -/
def State.hottest (s : State) (d : Nat) : Option Int :=
  ((s.temps.filter (fun p => decide (26 * d ≤ p.1 ∧ p.1 < 26 * d + 26))).map (fun p => sext 16 p.2)).foldl
    (fun a x => match a with
      | none => some x
      | some y => some (max x y)) none

/-- A THERMAL decision on one die (R451). -/
def State.thermalStep (s : State) (d : Nat) (up : Bool) (t : Int) : State :=
  let m := stepAsk s.codeMax s.mg.thermClk d (s.dieClk d) up
  let act := s.acts F.MGT_POLICY.THERMAL
  let ms := if up then smPut (fun _ => 0) s.mg.thermMs d 0 else s.mg.thermMs
  let s1 := if act then (s.modMg (fun g => { g with thermClk := m, thermMs := ms })).showClk else s.modMg (fun g => { g with thermMs := ms })
  s1.policyRec (uid 0 d) 1 (if up then 2 else 1) (s.dieClk d) (min (asked s.codeMax s.mg.powClk d) (asked s.codeMax m d)) (tcBits 16 t) act

/-- THERMAL_POLICY (R451): every millisecond, for one die. -/
def thermalPolicy (d : Nat) (s : State) : State :=
  if !s.live then s
  else
    let s1 := s.modMg (fun m => { m with thermMs := smPut (fun _ => 0) m.thermMs d (smGet (fun _ => 0) m.thermMs d + 1) })
    match s.decides F.MGT_POLICY.THERMAL, s.hottest d with
    | true, some t =>
      let lim : Int := ((s.fg F.MGT_THERM.THROTTLE_C * 8 : Nat) : Int)
      if lim < t then (if clkMin < s.dieClk d then s1.thermalStep d false t else s1)
      else if t ≤ lim - 24 ∧ 10 ≤ smGet (fun _ => 0) s1.mg.thermMs d ∧ asked s.codeMax s.mg.thermClk d < s.codeMax then s1.thermalStep d true t
      else s1
    | _, _ => s1

/-- VOLTAGE_POLICY (R451): one step of 5 mV within ±50 mV. -/
def voltagePolicy (c : Nat) (up : Bool) (s : State) : State :=
  let old := smGet (fun _ => (0 : Int)) s.mg.vOff c
  let new := if up then old + 5 else old - 5
  if !s.decides F.MGT_POLICY.VOLTAGE || !s.present c || decide (new < -50) || decide (50 < new) then s
  else
    let act := s.acts F.MGT_POLICY.VOLTAGE
    let s1 := if act then s.modMg (fun m => { m with vOff := smPut (fun _ => 0) m.vOff c new }) else s
    s1.policyRec (uid 2 c) 2 (if up then 2 else 1) (tcBits 16 old) (tcBits 16 new) 0 act

/-- The number of a link or port among the retunes. -/
def linkNo : LinkTarget → Nat
  | .link l => l.val
  | .port p => 40 + p.val

/-- LINKS_POLICY (R451, R452): at most once in 10 minutes for each, and one retune at a time. -/
def linksPolicy (t : LinkTarget) (s : State) : State :=
  let n := linkNo t
  let recent := match smFind s.mg.retunedAt n with
    | some at' => decide (s.us < at' + 600000000)
    | none => false
  let up := if n < 40 then s.linkUp n else s.portUp (n - 40)
  if !s.decides F.MGT_POLICY.LINKS || recent || !up || s.tuning then s
  else
    let act := s.acts F.MGT_POLICY.LINKS
    let old := if n < 40 then s.lg F.FAB_LINK_STATUS.WIDTH n else s.fg F.ETH_STATUS.RATE (n - 40)
    let new := if n < 40 then min 2 (s.lg F.FAB_LINK_CTL.MAX_WIDTH n) else old
    let meas := if n < 40 then s.lg F.FAB_LINK_ERR.FEC_UNCORR n else s.fg F.ETH_DROP.FCS (n - 40)
    let s1 := s.modMg (fun m => { m with retunedAt := smIns (smDel m.retunedAt n) n s.us })
    let s2 := if act then s1.retuneUnit n else s1
    s2.policyRec (if n < 40 then uid 0xA n else uid 0xB (n - 40)) 3 3 old new meas act

/-- Records that blame a core within the last day (R483): of SIEVE, or of SRAM_UE and PARITY. -/
def State.blames (s : State) (c : Nat) (sieve : Bool) : Nat :=
  (s.mg.blames.filter (fun b => b.1 == c && decide (s.now < b.2.2 + dayUs) && (if sieve then b.2.1 == 6 else b.2.1 != 6))).length

/-- Whether a criterion of R483 holds, and the class of the record behind it. -/
def State.retireDue (s : State) (c : Nat) (why : RetireWhy) : Option Nat :=
  match why with
  | .laggard => if s.coreBit F.TOP_LAG_LO.CORES_LO F.TOP_LAG_HI.CORES_HI c then some 8 else none
  | .held => if s.katHeld c then some 7 else none
  | .sieve => if 2 ≤ s.blames c true then some 6 else none
  | .errors =>
    if 2 ≤ s.blames c false then (s.mg.blames.find? (fun b => b.1 == c && b.2.1 != 6)).map (fun b => b.2.1) else none

/-- RETIRE_POLICY (R451, R452, R483): the decision waits while the core is out for a test or a microcode update. -/
def retirePolicy (c : Nat) (why : RetireWhy) (s : State) : State :=
  let out := (s.core c).out.contains 0 || (s.core c).out.contains 1
  match s.retireDue c why with
  | none => s
  | some cls =>
    if !s.decides F.MGT_POLICY.RETIRE || !s.present c || out || s.mg.chosen.any (fun x => x.1 == c) then s
    else
      let act := s.acts F.MGT_POLICY.RETIRE
      let site := s.fg F.TOP_CORE_MAP.SITE c
      let s1 := if act then s.chooseCore c cls else s
      s1.policyRec (uid 2 c) 4 4 site ((s.spares (site / 26)).headD 0x7F) (s.blames c (why == .sieve)) act

/-- The distinct rows and the reads with a failing symbol in a PC among the last corrected reads (R469). -/
def State.laneDue (s : State) (k pc symbol : Nat) : Bool :=
  let r := ((s.ceRing k).ofPc pc).filter (fun x => x.2 == symbol)
  decide (16 ≤ r.length) && decide (4 < (r.map (·.1)).eraseDups.length)

/-- Whether a criterion of R468 or R469 holds. -/
def State.repairDue (s : State) (k : Nat) (why : RepairWhy) (loc : DramLoc) : Bool :=
  match why with
  | .ueRow => s.mg.ueRows.contains (k, loc.pc.toNat, loc.bank.toNat, loc.row.toNat)
  | .ceRow => (s.ceRing k).fired.any (fun f => f.1 == { pc := loc.pc.toNat, bank := loc.bank.toNat, row := loc.row.toNat })
  | .ceLane _ => decide (k < 32) && s.laneDue k loc.pc.toNat loc.symbol.toNat

/-- The MEM_REPAIR_CMD word of a repair (R278). -/
def repairWord (k : Nat) (why : RepairWhy) (loc : DramLoc) : Nat :=
  let lane := match why with
    | .ceLane l => l.toNat
    | _ => 0
  let kind := match why with
    | .ceLane _ => 1
    | _ => 0
  let target := if k < 32 then k % 4 else 4 + k % 2
  target + (if k < 32 then loc.pc.toNat % 32 else 0) * 2 ^ 3 + kind * 2 ^ 8 + loc.bank.toNat % 16 * 2 ^ 10 +
    loc.row.toNat % 2 ^ 18 * 2 ^ 14 + lane * 2 ^ 32 + (if k < 32 then 0 else loc.pc.toNat % 2) * 2 ^ 39

/-- REPAIR_POLICY (R451, R452, R468, R469): waits while the hub repairs. -/
def repairPolicy (c : MemCtl) (why : RepairWhy) (loc : DramLoc) (s : State) : State :=
  let k := ctlNo c
  let h := if k < 32 then k / 4 else (k - 32) / 2
  if !s.decides F.MGT_POLICY.REPAIR || s.fb F.MEM_REPAIR_STATUS.BUSY h || !s.repairDue k why loc then s
  else
    let act := s.acts F.MGT_POLICY.REPAIR
    let w := repairWord k why loc
    let s0 := if why = .ueRow then s.modMg (fun m => { m with ueRows := m.ueRows.filter (fun r => r != (k, loc.pc.toNat, loc.bank.toNat, loc.row.toNat)) })
      else s
    let s1 := if act then s0.startRepair h w else s0
    s1.policyRec (ctlUnit k) 5 (5 + bitsOf w 8 2) 0 0 (loc.row.toNat) act

/-! ### The watchdog (R504) -/

/-- A write of RST_WDOG (R522). -/
def State.writeWdog (s : State) (v : Nat) : State :=
  let s1 := (s.fs F.RST_WDOG.EN (bitsOf v 0 1)).fs F.RST_WDOG.TIMEOUT_MS (clampNat 100 60000 (bitsOf v 1 16))
  if bitOf v 17 then s1.modMg (fun m => { m with wdPending := false }) else s1

/-- WATCHDOG_EXPIRY (R504, R514): the standby takes over as at a handover, or, where one goes on, the takeover is that handover's; `chk` is what the
standby reads in the active slot. -/
def watchdogExpiry (chk : ImageCheck) (s : State) : State :=
  if !s.live || !s.fb F.RST_WDOG.EN then s
  else if s.mg.wdPending then s.sysReset F.RST_CAUSE.WDOG
  else
    let slot := match s.mg.handover with
      | some h => h.1
      | none => s.activeSlot 1
    let fails := match s.image 1 slot with
      | some i => s.mg.fuse.fails 1 (chk.read.getD i)
      | none => some 1
    let s1 := (s.fc F.RST_WDOG.EXPIRIES 1).modMg (fun m => { m with wdPending := true })
    if s.mg.handover.isSome then s1.fwRec 1 0 slot
    else
      let s2 := s1.fwRec 1 (fails.getD 0) slot
      if fails.isNone then s2.startHandover slot false else s2

/-! ### Meanings -/

def execStartUp (env : StartEnv) (s : State) : Host.Outcome State Fault Refusal := .next (startUp env s)
def execDomeExit (env : WakeEnv) (s : State) : Host.Outcome State Fault Refusal := .next (domeExit env s)
def execStore (who : Req) (v : Word) (s : State) : Host.Outcome State Fault Refusal := .next (store who v s)
def execStoreSector (ok : Bool) (s : State) : Host.Outcome State Fault Refusal := .next (storeSector ok s)
def execHoldupSample (code : BitVec 12) (s : State) : Host.Outcome State Fault Refusal := .next (holdupSample code.toNat s)
def execHoldupRecheck (s : State) : Host.Outcome State Fault Refusal := .next (holdupRecheck s)
def execStage (who : Req) (v : Word) (chk : ImageCheck) (s : State) : Host.Outcome State Fault Refusal :=
  .next (updWrite 1 who v chk s)
def execActivate (who : Req) (v : Word) (chk : ImageCheck) (s : State) : Host.Outcome State Fault Refusal :=
  .next (updWrite 2 who v chk s)
def execCommitSvn (who : Req) (v : Word) (s : State) : Host.Outcome State Fault Refusal := .next (updWrite 3 who v noCheck s)
def execRevoke (who : Req) (v : Word) (s : State) : Host.Outcome State Fault Refusal := .next (updWrite 4 who v noCheck s)
def execHostkeyEnable (who : Req) (n : Fin 16) (v : Word) (s : State) : Host.Outcome State Fault Refusal :=
  .next (s.gated who (⟨.MGT_HOSTKEY_W0, n.val, 0, 0⟩ : RegKey).addr (fun t => t.writeKey0 n.val (setBits v.toNat 0 1 1)))
def execPowerPolicy (w : BitVec 13) (s : State) : Host.Outcome State Fault Refusal := .next (powerPolicy w.toNat s)
def execThermalPolicy (d : Fin 4) (s : State) : Host.Outcome State Fault Refusal := .next (thermalPolicy d.val s)
def execVoltagePolicy (c : Fin 96) (up : Bool) (s : State) : Host.Outcome State Fault Refusal := .next (voltagePolicy c.val up s)
def execLinksPolicy (t : LinkTarget) (s : State) : Host.Outcome State Fault Refusal := .next (linksPolicy t s)
def execRetirePolicy (c : Fin 96) (why : RetireWhy) (s : State) : Host.Outcome State Fault Refusal := .next (retirePolicy c.val why s)
def execRepairPolicy (c : MemCtl) (why : RepairWhy) (loc : DramLoc) (s : State) : Host.Outcome State Fault Refusal :=
  .next (repairPolicy c why loc s)
def execKick (who : Req) (v : Word) (s : State) : Host.Outcome State Fault Refusal :=
  .next (s.gated who (⟨.RST_WDOG, 0, 0, 0⟩ : RegKey).addr (fun t => t.writeWdog (setBits v.toNat 17 1 1)))
def execWatchdogExpiry (chk : ImageCheck) (s : State) : Host.Outcome State Fault Refusal := .next (watchdogExpiry chk s)

end Sys2Proof.Machine
end

