-- ==== Sys2Proof/Machine/RegWrite.lean ====
section
/-! DEFINITION. Writes of register words (R12, R533 to R538) by any requester, and reads that clear. -/

namespace Sys2Proof.Machine

/-! ### Words with rules of their own -/

/-- A write of a word of a queue descriptor that only a stopped queue takes (R308); SEQ sets DONE_SEQ too. -/
def State.writeQdesc (s : State) (k : RegKey) (v : Nat) : State :=
  let new := wordWrite k.name (s.rd k).toNat v
  if s.fg F.QM_QDESC.STATE k.i ≠ 0 then (if new = (s.rd k).toNat then s else s.fs F.QM_QDESC.REFUSED 1 k.i)
  else
    let s1 := s.plainWrite k v
    if k.name = .QM_QDESC_W3 then s1.fs F.QM_QDESC.DONE_SEQ ((bitsOf v 0 48 + 2 ^ 48 - 1) % 2 ^ 48) k.i else s1

/-- A write of QM_OWNER (R280, R311). -/
def State.writeOwner (s : State) (who : Req) (v : Nat) : State :=
  let s1 := if bitOf v 33 then claim who (BitVec.ofNat 32 v) s else s
  if bitOf v 34 then release who s1 else s1

/-- A write of QM_CORE_DIS_LO or HI (R305, R306, R312): each bit that changes disables its core or ends the disable. -/
def State.writeCoreDis (s : State) (hi : Bool) (v : Nat) : State :=
  let cs := if hi then (List.range 32).map (· + 64) else List.range 64
  cs.foldl (fun (t : State) c =>
    let was := t.coreBit F.QM_CORE_DIS_LO.CORES_LO F.QM_CORE_DIS_HI.CORES_HI c
    if bitOf v (c % 64) = was then t else if was then t.enableCore c else t.disableCore c) s

/-- A write of QM_PORT_DIS (R305, R306, R312). -/
def State.writePortDis (s : State) (v : Nat) : State :=
  (List.range 8).foldl (fun (t : State) p =>
    let was := t.fb { F.QM_PORT_DIS.PORTS with lo := p, w := 1 }
    if bitOf v p = was then t else if was then t.enablePort p else t.disablePort p) s

/-- A write of MGT_ERR_LOG (R494): a TAIL beyond HEAD is stored as HEAD. -/
def State.writeTail (s : State) (v : Nat) : State :=
  let head := s.fg F.MGT_ERR_LOG.HEAD
  let d := (bitsOf v 32 32 + 2 ^ 32 - head) % 2 ^ 32
  s.fs F.MGT_ERR_LOG.TAIL (if 0 < d ∧ d < 2 ^ 31 then head else bitsOf v 32 32)

/-- A write of MGT_UPD_CMD by a register write (R450), whose operands do not say how the SIG of an image in HBM4 was made; a slot reads as it was
stored. -/
def State.writeUpdFree (s : State) (who : Req) (v : Nat) : State :=
  if bitsOf v 48 3 = 1 then
    let r := s.freeCheck
    r.1.writeUpd who v r.2
  else s.writeUpd who v noCheck

/-- A write of a register word that answers (R12, R530, R533): each word by its own rule, the rest as their units take them. -/
def State.applyWrite (s : State) (who : Req) (k : RegKey) (v : Nat) : State :=
  match k.name with
  | .TOP_GROUP_LO => groupWrite k.i false (BitVec.ofNat 64 v) s
  | .TOP_GROUP_HI => groupWrite k.i true (BitVec.ofNat 64 v) s
  | .TOP_KAT_HELD_LO => s.clearHeld false v
  | .TOP_KAT_HELD_HI => s.clearHeld true v
  | .TOP_LANTERN => s.writeLantern v
  | .TOP_RETIRE_CMD => s.writeRetire v
  | .QM_QDESC_W0 => s.writeQdesc0 k.i (BitVec.ofNat 64 v)
  | .QM_QDESC_W1 | .QM_QDESC_W2 | .QM_QDESC_W3 => s.writeQdesc k v
  | .QM_OWNER => s.writeOwner who v
  | .QM_CORE_DIS_LO => s.writeCoreDis false v
  | .QM_CORE_DIS_HI => s.writeCoreDis true v
  | .QM_PORT_DIS => s.writePortDis v
  | .MEM_PLACE => s.writePlace v
  | .MEM_REPAIR_CMD => s.startRepair k.i v
  | .FAB_EPOCH => s.writeEpoch v
  | .FAB_ROUTE_GROUP => s.writeRoute false k.j k.t v
  | .FAB_ROUTE_MEMBER => s.writeRoute true k.j k.t v
  | .FAB_CONN_W0 => s.writeConn0 k.j v
  | .MGT_POLICY => s.setPolicy v
  | .MGT_PWR => s.setCap (bitsOf v 0 13)
  | .MGT_THERM => s.setThrottle (bitsOf v 0 7)
  | .MGT_STORE_CMD => if s.live then s.writeStoreCmd who v else s
  | .MGT_UPD_CMD => if s.live then s.writeUpdFree who v else s
  | .MGT_ERR_LOG => s.writeTail v
  | .MGT_HOSTKEY_W0 => s.writeKey0 k.i v
  | .MGT_HOSTKEY_KEY => s.writeKeyWord k.i k.j v
  | .RST_CTL => s.writeRstCtl v
  | .RST_BLOCK_CMD => s.writeBlockCmd v
  | .RST_WDOG => s.writeWdog v
  | .PWR_CTL => s.writePwrCtl v
  | .DOME_PADS => s.writePads v
  | _ => s.unitWrite k v

/-- One aligned 64-bit write of register space by a requester who may make it (R530, R538): a lantern shadow ignores it, and a
block in its own reset makes it wait (R536). -/
def State.regWrite (s : State) (who : Req) (a v : Nat) : State :=
  if regBase + shadowOff ≤ a then (if (keyOf (a - shadowOff)).isSome then s else s.decodeErr)
  else
    match keyOf a with
    | none => s.decodeErr
    | some k => if s.deadWord k then s else if s.inReset k then s.holdWrite k v else s.applyWrite who k v

/-! ### What a session may reach (R414, R531) -/

/-- The outcome of one register access of a session: done, dropped, or NAKed. -/
inductive Access where
  | ok
  | drop
  | nak
  deriving DecidableEq, Repr

/-- Whether an address lies in the window of the queue manager (R528). -/
def inQm (a : Nat) : Bool := decide (0x300020000000 ≤ a ∧ a < 0x300021000000)

/-- The addresses of QM_OWNER and TOP_DEVICE_ID. -/
def ownerAddr : Nat := (⟨.QM_OWNER, 0, 0, 0⟩ : RegKey).addr
def deviceIdAddr : Nat := (⟨.TOP_DEVICE_ID, 0, 0, 0⟩ : RegKey).addr

/-- How a session's access of a register word fares (R414): `claims`: it is a write that carries CLAIM. -/
def State.sessAccess (s : State) (n a : Nat) (write claims : Bool) : Access :=
  if s.ownerSess n then .ok
  else if (keyOf a).isNone then .nak
  else if write then (if a = ownerAddr ∧ claims = true then .ok else if inQm a then .drop else .nak)
  else if a = ownerAddr ∨ a = deviceIdAddr then .ok
  else if inQm a then .drop
  else .nak

/-- One write of a register word by a session: the state after, and the outcome. -/
def State.sessWrite (s : State) (n : BitVec 12) (a v : Nat) : State × Access :=
  match s.sessAccess n.toNat a true (bitOf v 33) with
  | .ok => (s.regWrite (.session n) a (if s.ownerSess n.toNat then v else setBits v 34 1 0), .ok)
  | .drop => (s.foreign, .drop)
  | .nak => (if (keyOf a).isNone && decide (a < regBase + shadowOff) then s.decodeErr else s, .nak)

/-- One read of a register word by a session: the state after, the word and the outcome. -/
def State.sessRead (s : State) (n a : Nat) : State × Nat × Access :=
  match s.sessAccess n a false false with
  | .ok =>
    let r := s.readReg a
    (r.1, r.2.1.toNat, .ok)
  | .drop => (s.foreign, 0, .drop)
  | .nak => (if (keyOf a).isNone && decide (a < regBase + shadowOff) then s.decodeErr else s, 0, .nak)

/-! ### The commands -/

/-- Whether an access is one aligned 64-bit word (R10, R538). -/
def wordShape (a width : Nat) : Bool := width == 8 && a % 8 == 0

/-- REGISTER_WRITE (R533, R538). -/
def registerWrite (who : Req) (a width v : Nat) (s : State) : State :=
  if !s.live || !decide (regBase ≤ a ∧ a < bellBase) then s
  else
    match who with
    | .session n =>
      if !s.sessOpen n.toNat then s
      else if !wordShape a width then s.decodeErr.nakClose n.toNat (s.ses n.toNat).ePsn synAccess
      else
        let r := s.sessWrite n a v
        if r.2 = .nak then r.1.nakClose n.toNat (s.ses n.toNat).ePsn synAccess else r.1
    | w => if !s.reaches w a then s else if !wordShape a width then s.decodeErr else s.regWrite w a v

/-- A control register word whose contents are lost (R462): its RW fields return to their reset values. -/
def controlReset (k : RegKey) (w : Word) : Word :=
  BitVec.ofNat 64 (((fieldsOf k.name).map (fun f =>
    (if f.acc = .rw then k.resetField f % 2 ^ f.w else bitsOf w.toNat f.lo f.w) * 2 ^ f.lo)).sum)

/-- The TOP control registers (R462, R540): the words of the TOP block with a field that software sets. -/
def topControls : List RegName := [.TOP_GROUP_LO, .TOP_GROUP_HI, .TOP_CHECK_REGION, .TOP_KAT_CTL, .TOP_LAG_CTL]

/-- What the code over a word finds as a requester who reaches it reads it (R461, R462): a lost TOP control register returns to its reset
value, and a lost word of the error log in always-on SRAM reads 0. -/
def State.wordMet (s : State) (who : Req) (a : Nat) (found : Ecc) : State :=
  if s.live && s.reaches who a then
    match keyOf a with
    | some k =>
      if k.name ∈ topControls then s.ctlMet found (uid 7 0) 10 (a - regBase) (fun t => t.wr k (controlReset k (t.rd k)))
      else if k.name = .MGT_ERR_REC then s.ctlMet found (uid 0xE 2) 11 (8 * (8 * k.i + k.j)) (fun t => t.wr k 0)
      else s
    | none => s
  else s

/-- READ_CLEAR (R12): the read's answer goes to its requester. -/
def readClear (who : Req) (a : Nat) (s : State) : State :=
  if !s.live || !decide (regBase ≤ a ∧ a < bellBase) then s
  else
    match who with
    | .session n =>
      if !s.sessOpen n.toNat then s
      else if !wordShape a 8 then s.decodeErr.nakClose n.toNat (s.ses n.toNat).ePsn synAccess
      else
        let r := s.sessRead n.toNat a
        if r.2.2 = .nak then r.1.nakClose n.toNat (s.ses n.toNat).ePsn synAccess else r.1
    | w => if !s.reaches w a then s else if !wordShape a 8 then s.decodeErr else (s.readReg a).1

/-! ### Meanings -/

def execGroupWrite (who : Req) (g : Fin 16) (hi : Bool) (v : Word) (s : State) : Host.Outcome State Fault Refusal :=
  .next (s.gated who (⟨if hi then .TOP_GROUP_HI else .TOP_GROUP_LO, g.val, 0, 0⟩ : RegKey).addr (fun t => groupWrite g.val hi v t))
def execReadClear (who : Req) (a : WordAt) (s : State) : Host.Outcome State Fault Refusal :=
  .next (readClear who a.addr.toNat (s.wordMet who a.addr.toNat a.found))
def execRegisterWrite (who : Req) (a : Word) (width : Nat) (v : Word) (s : State) : Host.Outcome State Fault Refusal :=
  .next (registerWrite who a.toNat width v.toNat s)

end Sys2Proof.Machine
end

