-- ==== Sys2Proof/Machine/HostRdma.lean ====
section
/-! DEFINITION. The RDMA operations of host sessions (R412 to R417): SEND Only, WRITE and READ, in PSN order. -/

namespace Sys2Proof.Machine

/-! ### Targets (R414) -/

/-- What a range of local addresses is to a host session. -/
inductive Target where
  | mem
  | debug
  | regs
  | bell
  /-- Register space, in another shape than whole aligned words. -/
  | shape
  /-- Not decoded, or refused under R256 or R261. -/
  | bad
  deriving DecidableEq, Repr

/-- The end of register space. -/
def regEnd : Nat := 0x310000000000

/-- The target of n bytes from a. -/
def State.hostTarget (s : State) (a n : Nat) (write : Bool) : Target :=
  match s.rng a with
  | .hbm | .firmware => if a + n ≤ (if write then fwBase else hbmEnd) then .mem else .bad
  | .ddr => if a + n ≤ ddrBase + s.ddrSize then .mem else .bad
  | .tile c =>
    if (List.range ((a + n - 1 - tileBase) / 0x1000000 - c + 1)).all (fun i => decide (c + i < 96) && s.present (c + i)) then .mem else .bad
  | .debug => if a + n ≤ dbgBase + 384 * 0x200000 then .debug else .bad
  | .regs | .shadow => if a % 8 = 0 ∧ n % 8 = 0 ∧ a + n ≤ regEnd then .regs else .shape
  | .doorbell => if write || decide (n ≤ 8) then .bell else .bad
  | .none => .bad

/-- How a request on a range fares before its bytes are touched (R414): register words are judged one by one. -/
def State.hostAccess (s : State) (n : Nat) (t : Target) (write : Bool) : Access :=
  match t with
  | .mem => if s.ownerSess n then .ok else .nak
  | .debug => if s.ownerSess n && !write then .ok else .nak
  | .regs => .ok
  | .bell => if s.ownerSess n then .ok else if write then .drop else .nak
  | .shape | .bad => .nak

/-- Count what R256 and R538 count. -/
def State.countTarget (s : State) (t : Target) : State :=
  match t with
  | .shape | .bad => s.decodeErr
  | _ => s

/-- Whether a port reaches n bytes of memory from a: every bridge on the way works and no repair holds them (R18, R270). -/
def State.hostWay (s : State) (p a n : Nat) : Bool := s.hubWay p a n

/-- One byte of the accumulator-memory debug window (R78). -/
def State.debugByte (s : State) (a : Nat) : Byte :=
  let o := a - dbgBase
  let off := o % 0x200000
  if 0x180000 ≤ off then 0
  else
    let key := (o / 0x200000 * 4 + off / 0x60000) * 16384 + off % 0x60000 / 24
    BitVec.ofNat 8 (bitsOf (smGet (fun _ => 0) s.acc key).toNat (8 * (off % 0x60000 % 24)) 8)

/-- What the code over accumulator memory finds in 64 bytes of the window (R127). DESIGN CHOICE (log entry 74): an uncorrectable error is recorded and
fails no slot, since neither the ladle nor the decant read it; what the read returns there is free. -/
def State.debugMet (s : State) (u : Nat) (found : Ecc) : State :=
  let o := u * 64 - dbgBase
  let e := o / 0x200000
  let off := o % 0x200000
  if 0x180000 ≤ off then s
  else match found with
    | .ok => s
    | .corrected => s.fc F.MTX_ECC.CORRECTED 1 (e / 4) (e % 4)
    | .uncorrectable => s.accUe (e / 4) (e % 4) (off / 0x60000) none

/-- The bytes of the debug window, with what the code finds under them. -/
def State.debugRead (s : State) (a len : Nat) (errs : List ReadErr) : State × List Byte :=
  let s1 := errs.foldl (fun t e => match e with
    | .corrected u => t.debugMet (unitIn a len u) .corrected
    | .uncorrectable u => t.debugMet (unitIn a len u) .uncorrectable
    | _ => t) s
  let lost := errs.filterMap (fun e => match e with
    | .uncorrectable u => some (unitIn a len u)
    | _ => none)
  let f := s1.freeCtr
  ({ s1 with freeCtr := f + (if lost.isEmpty then 0 else len) },
   (List.range len).map (fun i => if lost.contains ((a + i) / 64) then BitVec.ofNat 8 (Config.freeValue (f + i)) else s.debugByte (a + i)))

/-- What a READ by a port meets in memory and on its way (R183, R268, R461): the state after, and the units that come damaged. -/
def State.hostMet (s : State) (port a len : Nat) (errs : List ReadErr) : State × List Nat :=
  (errs.foldl (fun t e => t.hubMet port a len e none) s, errs.flatMap (fun e => (hitUnit a len e).map (·.1)))

/-! ### The transport (R412, R413) -/

/-- The path MTU of a session in bytes. -/
def State.pmtu (s : State) (n : Nat) : Nat := 2 ^ (7 + s.sg F.ETH_SESS.PMTU n)

/-- Where a request's PSN stands: the one expected, one already applied, or one beyond a gap. -/
inductive PsnAt where
  | next
  | old
  | gap
  deriving DecidableEq, Repr

/-- The place of a request's PSN. -/
def State.psnAt (s : State) (n psn : Nat) : PsnAt :=
  let d := (psn + 2 ^ 24 - (s.ses n).ePsn) % 2 ^ 24
  if d = 0 then .next else if 2 ^ 23 ≤ d then .old else .gap

/-- Acknowledge everything applied. -/
def State.ackAll (s : State) (n : Nat) : State :=
  if s.sessOpen n then s.sendAeth n (((s.ses n).ePsn + 2 ^ 24 - 1) % 2 ^ 24) synAck else s

/-- A gap is answered once with a sequence error. -/
def State.nakSeq (s : State) (n : Nat) : State :=
  if (s.ses n).nakSent then s else (s.modSes n (fun x => { x with nakSent := true })).sendAeth n (s.ses n).ePsn synSeq

/-- k PSNs have been applied; `last` ends a message. The session may have been closed by what it did. -/
def State.psnDone (s : State) (n k : Nat) (last : Bool) : State :=
  if s.sessOpen n then
    s.modSes n (fun x => { x with
      ePsn := (x.ePsn + k) % 2 ^ 24
      msn := if last then (x.msn + 1) % 2 ^ 24 else x.msn
      nakSent := false
      arrived := x.arrived + 1 })
  else s

/-- Acknowledge after a message, and after every 16 packets (R413). -/
def State.ackDue (s : State) (n : Nat) (last : Bool) : State := if last || decide (16 ≤ (s.ses n).arrived) then s.ackAll n else s

/-- A request that breaks the rules of R412 and R413. -/
def State.invalid (s : State) (n : Nat) (p : Roce) : State := s.nakClose n p.psn.toNat synInvalid

/-- A request whose target R414 refuses. -/
def State.accessNak (s : State) (n : Nat) (p : Roce) : State := s.nakClose n p.psn.toNat synAccess

/-! ### WRITE -/

/-- Register writes of one packet, in ascending order: whether one was refused (R414). -/
def State.regWords (s : State) (n : BitVec 12) : Nat → List (List Byte) → State × Bool
  | _, [] => (s, true)
  | a, w :: ws =>
    if !s.sessOpen n.toNat then (s, true)
    else
      let r := s.sessWrite n a (leNat w)
      if r.2 = .nak then (r.1, false) else State.regWords r.1 n (a + 8) ws

/-- The poisoned units of a packet's payload (R416). -/
def roceUnits (a len : Nat) (poison : BitVec 64) : List Nat :=
  ((unitsOf a len).zip (List.range 64)).filterMap (fun x => if bitOf poison.toNat x.2 then some x.1 else none)

/-- The payload of one WRITE packet at an address: the state after, and whether it was accepted (R257, R414, R416, R284); `land`: what the write
meets. -/
def State.writePayload (s : State) (n : BitVec 12) (a : Nat) (bs : List Byte) (poison : BitVec 64) (land : LandErr) : State × Bool :=
  match s.hostTarget a bs.length true with
  | .mem => (s.storeMet { addr := a, bytes := bs, pz := roceUnits a bs.length poison } a land 4 none (s.hubWayOf (n.toNat / 512) a), true)
  | .regs => s.regWords n a (chunks 8 bs)
  | .bell => (doorbell (.session n) ((a - bellBase) / 64) bs.length (BitVec.ofNat 64 (leNat (bs.take 8))) s, true)
  | t => (s.countTarget t, false)

/-- Whether the opcode begins, and whether it ends, a WRITE. -/
def wrFirst (op : Nat) : Bool := op == 6 || op == 0xA
def wrLast (op : Nat) : Bool := op == 8 || op == 0xA

/-- The message a WRITE packet belongs to: the one in progress, or the one its RETH begins; none where the packet breaks the form of a
message (R413). -/
def State.writeMsg (s : State) (n : Nat) (p : Roce) : Option WriteMsg :=
  let op := p.opcode.toNat
  let len := p.payload.length
  let m := if wrFirst op then (if (s.ses n).msg.isNone then some { va := p.va.toNat, left := p.dmalen.toNat, drop := false } else none)
    else (s.ses n).msg
  match m with
  | none => none
  | some w =>
    if wrLast op then (if len = w.left ∧ len ≤ s.pmtu n then some w else none)
    else if len = s.pmtu n ∧ len < w.left then some w else none

/-- A WRITE packet in order (R412 to R417). -/
def State.writeNext (s : State) (port : Nat) (n : BitVec 12) (p : Roce) (w : WriteMsg) (land : LandErr) : State :=
  let k := n.toNat
  let first := wrFirst p.opcode.toNat
  let len := p.payload.length
  let last := wrLast p.opcode.toNat
  let tgt := if w.left = 0 then Target.mem else s.hostTarget w.va w.left true
  let acc := if !first || decide (w.left = 0) then Access.ok else s.hostAccess k tgt true
  if first && decide (2 ^ 31 < w.left) then s.invalid k p
  else if first && (decide (2 ^ 48 ≤ w.va) || p.rkey.toNat != (s.ses k).rkey) then s.accessNak k p
  else if acc = .nak then (s.countTarget tgt).accessNak k p
  else if tgt = .mem ∧ w.drop = false ∧ s.hostWay port w.va len = false then s
  else
    let drop := w.drop || acc == .drop
    let s0 := if acc = .drop then s.foreign else s
    let r := if drop || decide (len = 0) then (s0, true)
      else if tgt = .bell then s0.writePayload n w.va (if w.left = 8 then p.payload else p.payload ++ [0, 0, 0, 0, 0, 0, 0, 0, 0]) p.poison land
      else s0.writePayload n w.va p.payload p.poison land
    if !r.2 then r.1.accessNak k p
    else
      let next : WriteMsg := { va := w.va + len, left := w.left - len, drop := drop || tgt == .bell }
      let s1 := if r.1.sessOpen k then r.1.modSes k (fun x => { x with msg := if last then none else some next }) else r.1
      (s1.psnDone k 1 last).ackDue k last

/-- RDMA_WRITE (R412, R414). -/
def rdmaWrite (port : Nat) (p : Roce) (land : LandErr) (s : State) : State :=
  let op := p.opcode.toNat
  if !([6, 7, 8, 0xA].contains op) then s
  else
    let r := s.openRoce port p
    match r.2 with
    | none => r.1
    | some k =>
      if p.pkey ≠ 0xFFFF then r.1.invalid k p
      else
        match r.1.psnAt k p.psn.toNat with
        | .old => r.1.ackAll k
        | .gap => r.1.nakSeq k
        | .next =>
          match r.1.writeMsg k p with
          | none => r.1.invalid k p
          | some w => r.1.writeNext port (BitVec.ofNat 12 k) p w land

/-! ### READ -/

/-- Register reads of a READ, in ascending order (R414): the state after, the bytes, and whether none was refused. -/
def State.regReads (s : State) (n : Nat) : Nat → Nat → List Byte → State × List Byte × Bool
  | 0, _, acc => (s, acc, true)
  | k + 1, a, acc =>
    let r := s.sessRead n a
    if r.2.2 = .nak then (r.1, acc, false) else State.regReads r.1 n k (a + 8) (acc ++ leBytes 8 r.2.1)

/-- What a READ returns (R414, R415): its bytes, the units that came damaged, and whether it was accepted. -/
structure HostRead where
  bytes : List Byte := []
  bad : List Nat := []
  ok : Bool := true
  deriving DecidableEq, Repr

/-- The bytes a READ returns, and the state after (R268, R414, R415). -/
def State.readBytes (s : State) (port n a len : Nat) (t : Target) (errs : List ReadErr) : State × HostRead :=
  match t with
  | .mem => (let x := s.hostMet port a len errs; (x.1, { bytes := x.1.bytes a len, bad := x.2 }))
  | .debug => (let x := s.debugRead a len errs; (x.1, { bytes := x.2 }))
  | .regs => (let x := s.regReads n (len / 8) a []; (x.1, { bytes := x.2.1, ok := x.2.2 }))
  | .bell => (s, { bytes := List.replicate len 0 })
  | .shape | .bad => (s, { ok := false })

/-- The POISON bits of a response's bytes (R416). -/
def State.targetPoison (s : State) (t : Target) (a len : Nat) (bad : List Nat) : Nat :=
  if t = .mem then (((unitsOf a len).zip (List.range 64)).map (fun x => if s.mark x.1 || bad.contains x.1 then 2 ^ x.2 else 0)).sum else 0

/-- The opcode of response i of k (R412). -/
def respOp (i k : Nat) : Nat := if k = 1 then 0x10 else if i = 0 then 0x0D else if i + 1 = k then 0x0F else 0x0E

/-- Send the responses of a READ: from PSN psn on, one packet for each piece. -/
def State.sendResps (s : State) (n psn a : Nat) (t : Target) (pieces : List (List Byte)) (bad : List Nat) : State :=
  let k := pieces.length
  let step := s.pmtu n
  ((List.range k).zip pieces).foldl (fun (u : State) x =>
    if u.sessOpen n then
      u.seal n (0x100 + respOp x.1 k)
        [(psn + x.1) % 2 ^ 24, synAck, (u.ses n).msn, s.targetPoison t (a + step * x.1) x.2.length bad] x.2
    else u) s

/-- READs of a session whose responses have not all gone out (R413, R420). -/
def State.readsOut (s : State) (n : Nat) : Nat := (s.ethHold.filter (isResp n true)).length

/-- A READ request is applied (R414 to R416): at its PSN, or again where it is repeated (R539). -/
def State.readNow (s : State) (port n : Nat) (p : Roce) (again : Bool) (errs : List ReadErr) : State :=
  let a := p.va.toNat
  let len := p.dmalen.toNat
  let t := if len = 0 then Target.mem else s.hostTarget a len false
  if 2 ^ 31 < len ∨ p.payload ≠ [] ∨ (again = false ∧ 16 ≤ s.readsOut n) then s.invalid n p
  else if 2 ^ 48 ≤ a ∨ p.rkey.toNat ≠ (s.ses n).rkey then s.accessNak n p
  else if 0 < len ∧ s.hostAccess n t false ≠ .ok then (s.countTarget t).accessNak n p
  else if t = .mem ∧ s.hostWay port a len = false then s
  else
    let r := s.readBytes port n a len t errs
    if !r.2.ok then r.1.accessNak n p
    else
      let pieces := if len = 0 then [[]] else chunks (s.pmtu n) r.2.bytes
      let s1 := if again then r.1
        else (r.1.psnDone n pieces.length true).modSes n (fun x => { x with arrived := 0 })
      s1.sendResps n p.psn.toNat a t pieces r.2.bad

/-- RDMA_READ (R412, R415). -/
def rdmaRead (port : Nat) (p : Roce) (errs : List ReadErr) (s : State) : State :=
  if p.opcode ≠ 0x0C then s
  else
    let r := s.openRoce port p
    match r.2 with
    | none => r.1
    | some k =>
      if p.pkey ≠ 0xFFFF then r.1.invalid k p
      else
        match r.1.psnAt k p.psn.toNat with
        | .gap => r.1.nakSeq k
        | .old => r.1.readNow port k p true errs
        | .next => if (r.1.ses k).msg.isSome then r.1.invalid k p else r.1.readNow port k p false errs

/-! ### SEND (R417) -/

/-- A SEND Only in order, from the owner (R417): refused as a doorbell is, put off with RNR, or written and its doorbell applied. -/
def State.sendNext (s : State) (port n : Nat) (p : Roce) (land : LandErr) : State :=
  let bs := p.payload
  let q := leNat (bs.take 2)
  let cnt := leNat ((bs.drop 2).take 2)
  let tail := s.fg F.QM_QDESC.TAIL q
  let ok := decide (8 ≤ bs.length) && leNat ((bs.drop 4).take 4) == 0 && decide (1 ≤ cnt ∧ cnt ≤ (s.pmtu n - 8) / 64) &&
    bs.length == 8 + 64 * cnt
  if s.qOn q qCommand = false ∨ ok = false then ((s.refuseDoorbell q (BitVec.ofNat 64 ((tail + cnt) % 2 ^ 32))).psnDone n 1 true).ackAll n
  else if s.ringSize q - s.ringHeld q < cnt then s.sendAeth n p.psn.toNat synRnr
  else if (List.range cnt).all (fun i => s.hostWay port (s.ringAddr q (tail + i)) 64) = false then s
  else
    let s1 := ((List.range cnt).zip (chunks 64 (bs.drop 8))).foldl (fun (t : State) x =>
      t.storeMet { addr := t.ringAddr q (tail + x.1), bytes := x.2 } (t.ringAddr q (tail + x.1)) land 4 none
        (t.hubWayOf port (t.ringAddr q (tail + x.1)))) s
    ((s1.applyDoorbell q 8 (BitVec.ofNat 64 ((tail + cnt) % 2 ^ 32))).psnDone n 1 true).ackAll n

/-- SEND_ONLY (R417), and every request whose opcode R412 does not list. -/
def sendOnly (port : Nat) (p : Roce) (land : LandErr) (s : State) : State :=
  if [6, 7, 8, 0xA, 0xC, 0x11, 0x81].contains p.opcode.toNat then s
  else
    let r := s.openRoce port p
    match r.2 with
    | none => r.1
    | some k =>
      if p.opcode ≠ 4 ∨ p.pkey ≠ 0xFFFF then r.1.invalid k p
      else
        match r.1.psnAt k p.psn.toNat with
        | .old => r.1.ackAll k
        | .gap => r.1.nakSeq k
        | .next =>
          if (r.1.ses k).msg.isSome then r.1.invalid k p
          else if r.1.ownerSess k then r.1.sendNext port k p land
          else ((r.1.foreign).psnDone k 1 true).ackAll k

/-! ### Meanings -/

def execSendOnly (port : Fin 8) (p : RoceLand) (s : State) : Host.Outcome State Fault Refusal :=
  .next (sendOnly port.val p.p p.land s)
def execRdmaWrite (port : Fin 8) (p : RoceLand) (s : State) : Host.Outcome State Fault Refusal :=
  .next (rdmaWrite port.val p.p p.land s)
def execRdmaRead (port : Fin 8) (p : RoceRead) (s : State) : Host.Outcome State Fault Refusal :=
  .next (rdmaRead port.val p.p p.errs s)

end Sys2Proof.Machine
end

