-- ==== Sys2Proof/Machine/Sideband.lean ====
section
/-! DEFINITION. The side-band (R442, R443, R445 to R447, R439): the I3C target, MCTP control, PLDM, SPDM and vendor messages. -/

namespace Sys2Proof.Machine

/-! ### Answering -/

/-- The number of an in-band interrupt among what the side-band sends; its payload is one byte (R443). -/
def ibiCode : Nat := 0x91

/-- Send an answer: while it waits to be fetched ALERT_N is low and an in-band interrupt says so (R443). -/
def State.answer (s : State) (proto code : Nat) (fields : List Nat) : State :=
  let waits := (s.emit (.pin pinAlert false)).emit (.side ibiCode (Config.ibiByte s.out.length).toNat [])
  (waits.emit (.side proto code fields)).emit (.pin pinAlert true)

/-- Whether the I3C target runs: after a fuse error, in RECOVERY, and once the device is READY (R428, R439, R443); in DOME a transfer
only wakes (R536). -/
def State.i3cUp (s : State) : Bool :=
  s.powered && (s.fg F.MGT_STATUS.STAGE == 8 || s.fb F.MGT_STATUS.RECOVERY || s.fb F.MGT_STATUS.FUSE_ERR)

/-- Whether MCTP control is answered; any other MCTP message (R445); and one that RECOVERY does not serve (R439). -/
def State.mctpCtl (s : State) : Bool := s.i3cUp && !s.fb F.MGT_STATUS.FUSE_ERR && s.mg.i3cDynamic.isSome
def State.mctpMsg (s : State) : Bool := s.mctpCtl && s.mg.eid != 0
def State.mctpFull (s : State) : Bool := s.mctpMsg && !s.fb F.MGT_STATUS.RECOVERY

/-- Message types of R445. -/
def mtControl : Nat := 0x00
def mtPldm : Nat := 0x01
def mtSpdm : Nat := 0x05
def mtVendor : Nat := 0x7F

/-! ### I3C addresses (R443) -/

/-- ENTDAA: a target that has no dynamic address takes one. -/
def entdaa (addr : Nat) (s : State) : State :=
  if s.i3cUp && s.mg.i3cDynamic.isNone then s.modMg (fun m => { m with i3cDynamic := some addr }) else s

/-- SETDASA: a dynamic address in place of the configured static one. -/
def setdasa (st dyn : Nat) (s : State) : State :=
  if s.i3cUp && s.mg.i3cDynamic.isNone && st == s.mg.i3cStatic then s.modMg (fun m => { m with i3cDynamic := some dyn }) else s

/-! ### MCTP control (R445) -/

/-- A control command that changes nothing: its code (PRESUMED DSP0236) and the fields of its answer. -/
def State.control (s : State) (code : Nat) (fields : List Nat) : State := if s.mctpCtl then s.answer mtControl code fields else s

/-- SET_ENDPOINT_ID. -/
def setEndpointId (eid : Nat) (s : State) : State :=
  if s.mctpCtl then (s.modMg (fun m => { m with eid := eid })).answer mtControl 0x01 [0, eid] else s

/-- n bytes whose content the standards or Lamier fix: open here. -/
def blob (kind n : Nat) : List Nat := (List.range n).map (fun i => (Config.blobByte kind i).toNat)

/-! ### PLDM (R446) -/

/-- An answer of PLDM: its type and command (PRESUMED DSP0240, DSP0248, DSP0267). -/
def State.pldm (s : State) (type cmd : Nat) (fields : List Nat) : State := s.answer mtPldm (256 * type + cmd) fields

/-- The commands of a type. -/
def pldmCommands (type : Nat) : Option (List Nat) :=
  match type with
  | 0 => some [0x02, 0x03, 0x04, 0x05]
  | 2 => some [0x11, 0x51]
  | 5 => some [0x10, 0x13, 0x14, 0x15, 0x16, 0x17, 0x18, 0x1A, 0x1D]
  | _ => none

/-- A PLDM command of type 0. -/
def State.pldm0 (s : State) (cmd : Nat) (fields : List Nat) : State := if s.mctpMsg then s.pldm 0 cmd fields else s

/-- The types served: type 2 not in RECOVERY (R439). -/
def State.pldmTypes (s : State) : List Nat := if s.fb F.MGT_STATUS.RECOVERY then [0, 5] else [0, 2, 5]

/-- GET_PLDM_COMMANDS. -/
def getPldmCommands (type : Nat) (s : State) : State :=
  s.pldm0 0x05 (match pldmCommands type with
    | some l => if s.pldmTypes.contains type then 0 :: l else [1]
    | none => [1])

/-- The hottest of some sensors, if any was sampled. -/
def State.hotOf (s : State) (first n : Nat) : Option Nat :=
  let xs := (s.temps.filter (fun p => decide (first ≤ p.1 ∧ p.1 < first + n) && p.2 != 0x8000)).map (fun p => sext 16 p.2)
  (xs.foldl (fun a x => match a with
    | none => some x
    | some y => some (max x y)) none).map (tcBits 16)

/-- The reading of a PLDM sensor, if there is one yet: temperatures in 0.125 °C, power in W, voltages in mV. -/
def State.reading (s : State) (sn : PldmSensor) : Option Nat :=
  match sn with
  | .dieTemp d => s.hotOf (26 * d.val) 26
  | .hubTemp h => s.hotOf (104 + 4 * h.val) 4
  | .power => some (s.fg F.MGT_PWR.MEASURED_W)
  | .rail r => smFind s.volts r.val

/-- GET_SENSOR_READING. -/
def getSensorReading (sn : PldmSensor) (s : State) : State :=
  if !s.mctpFull then s
  else
    match s.reading sn with
    | some v => s.pldm 2 0x11 [0, v]
    | none => s.pldm 2 0x11 [1]

/-- GET_PDR. -/
def getPdr (handle : Nat) (s : State) : State := if s.mctpFull then s.pldm 2 0x51 (0 :: blob (0x100 + handle) 64) else s

/-! ### Updates over PLDM (R439, R446) -/

/-- Change the update in progress; MGT_UPD_STATUS shows it (R450, R459). -/
def State.setPldm (s : State) (p : Pldm) : State := (s.modMg (fun m => { m with pldm := p })).showUpd

/-- An answer that says the command does not fit the state of the update. -/
def State.pldmBad (s : State) (cmd : Nat) : State := s.pldm 5 cmd [1]

/-- REQUEST_UPDATE: one update runs at a time (R450). -/
def requestUpdate (s : State) : State :=
  if !s.mctpMsg then s
  else if s.mg.pldm.stage ≠ 0 ∨ s.fb F.MGT_UPD_STATUS.BUSY = true then s.pldmBad 0x10
  else (s.setPldm { stage := 1 }).pldm 5 0x10 [0]

/-- PASS_COMPONENT_TABLE. -/
def passComponentTable (cls : Nat) (s : State) : State :=
  if !s.mctpMsg then s
  else if (s.mg.pldm.stage ≠ 1 ∧ s.mg.pldm.stage ≠ 2) ∨ cls = 0 then s.pldmBad 0x13
  else (s.setPldm { s.mg.pldm with stage := 2 }).pldm 5 0x13 [0]

/-- UPDATE_COMPONENT: the transfer of one image begins. -/
def updateComponent (cls size : Nat) (s : State) : State :=
  if !s.mctpMsg then s
  else if (s.mg.pldm.stage ≠ 2 ∧ s.mg.pldm.stage ≠ 6) ∨ cls = 0 ∨ slotBytes cls < size ∨ size < 256 then s.pldmBad 0x14
  else (s.setPldm { stage := 3, cls := cls, size := size, image := [] }).pldm 5 0x14 [0]

/-- REQUEST_FIRMWARE_DATA: bytes that continue the image, or repeat some of it. -/
def requestFirmwareData (offset : Nat) (data : List Byte) (s : State) : State :=
  let p := s.mg.pldm
  if !s.mctpMsg then s
  else if p.stage ≠ 3 ∨ p.image.length < offset ∨ p.size < offset + data.length then s.pldmBad 0x15
  else
    (s.setPldm { p with image := p.image.take offset ++ data ++ p.image.drop (offset + data.length) }).pldm 5 0x15
      [0, offset, data.length]

/-- TRANSFER_COMPLETE. -/
def transferComplete (s : State) : State :=
  let p := s.mg.pldm
  if !s.mctpMsg then s
  else if p.stage ≠ 3 ∨ p.image.length ≠ p.size then s.pldmBad 0x16
  else (s.setPldm { p with stage := 4 }).pldm 5 0x16 [0]

/-- The transferred image, if its header is one of its class (R435); `chk` says how its SIG was made. -/
def Pldm.info (p : Pldm) (chk : ImageCheck) : Option ImgInfo :=
  let i : ImgInfo := { bytes := p.image, signer := chk.read.bind (fun (x : ImgInfo) => x.signer) }
  if imgField i 0 4 ≠ 0x7200F1A0 ∨ imgField i 4 1 ≠ p.cls ∨ 63 < imgSvn i ∨ imgLength i + 256 ≠ p.size then none else some i

/-- The image an update ends with when its verification fails. -/
def State.pldmFail (s : State) (check : Nat) : State :=
  ((s.fwRec s.mg.pldm.cls check (if s.fb F.MGT_STATUS.RECOVERY then 0 else 1 - s.activeSlot s.mg.pldm.cls)).setPldm {}).pldm 5 0x17 [1]

/-- Store the verified image (R444): outside RECOVERY into the inactive slot, with the energy check. -/
def State.pldmStore (s : State) (info : ImgInfo) : State :=
  let p := s.mg.pldm
  s.updStore (.img p.cls (1 - s.activeSlot p.cls) info) (ceilDiv p.size 4096) false

/-- VERIFY_COMPLETE (R436, R446): VerifyResult 0x01 for an image that fails. -/
def verifyComplete (chk : ImageCheck) (s : State) : State :=
  let p := s.mg.pldm
  if !s.mctpMsg then s
  else if p.stage ≠ 4 then s.pldmBad 0x17
  else
    match p.info chk with
    | none => s.pldmFail 1
    | some i =>
      match s.mg.fuse.fails p.cls i with
      | some k => s.pldmFail k
      | none =>
        let s1 := (s.setPldm { p with stage := 5 }).modMg (fun m => { m with pldmInfo := some i })
        (if s.fb F.MGT_STATUS.RECOVERY then s1 else s1.pldmStore i).pldm 5 0x17 [0]

/-- APPLY_COMPLETE (R446): the image has been stored; in RECOVERY it is held in always-on SRAM (R439). -/
def applyComplete (s : State) : State :=
  let p := s.mg.pldm
  if !s.mctpMsg then s
  else if p.stage ≠ 5 then s.pldmBad 0x18
  else if s.fb F.MGT_STATUS.RECOVERY then (s.setPldm { p with stage := 6 }).pldm 5 0x18 [0]
  else if s.mg.stores.any (·.upd) then s
  else if s.mg.flash.staged.contains (imgKey p.cls (1 - s.activeSlot p.cls)) then (s.setPldm { p with stage := 6 }).pldm 5 0x18 [0]
  else (s.setPldm {}).pldm 5 0x18 [1]

/-- ACTIVATE_FIRMWARE (R439, R446): ACTIVATE; in RECOVERY the image goes to slot A, and a system reset follows its store. -/
def activateFirmware (s : State) : State :=
  let p := s.mg.pldm
  if !s.mctpMsg then s
  else if p.stage ≠ 6 then s.pldmBad 0x1A
  else
    let s1 := (s.setPldm {}).pldm 5 0x1A [0]
    if s.fb F.MGT_STATUS.RECOVERY then
      match s.mg.pldmInfo with
      | some i =>
        (s1.addStore { what := .img p.cls 0 i, steps := ceilDiv p.size 4096, unguarded := true, recovery := true, upd := true }
          F.MGT_UPD_STATUS.REFUSED).showUpd
      | none => s1
    else s1.activateImage p.cls noCheck

/-- CANCEL_UPDATE. -/
def cancelUpdate (s : State) : State := if s.mctpMsg then (s.setPldm {}).pldm 5 0x1D [0] else s

/-! ### SPDM (R442) -/

/-- An answer of the SPDM responder (PRESUMED DSP0274 codes); an ERROR with its code. -/
def State.spdm (s : State) (code : Nat) (fields : List Nat) : State := if s.mctpFull then s.answer mtSpdm code fields else s
def State.spdmError (s : State) (why : Nat) : State := s.spdm 0x7F [why]

/-- The measurement of the fuse state (R442): root-key hashes, revocations and SVN counters. -/
def Fuses.digest (f : Fuses) : BitVec 384 :=
  Config.fuseDigest (f.rootHash.map (fun (h : BitVec 384) => h.toNat) ++ [f.svn1, f.svn2, f.svn3] ++ (List.range 4).filter f.revoked.contains)

/-- The digest of the certificate chain in flash (R441, R442). -/
def State.chainDigest (s : State) : BitVec 384 := Config.sha384 s.mg.flash.chain

/-- A measurement (R442): SHA-384 of an image's body, of the selected configuration block, of the boot ROM or of the fuse state. -/
def State.measured (s : State) (i : Nat) : BitVec 384 :=
  let body := fun (cls : Nat) => Config.sha384 ((((s.image cls (s.activeSlot cls)).map (·.bytes)).getD []).drop 256)
  match i with
  | 1 => Config.romDigest
  | 2 => body 1
  | 3 => body 2
  | 4 => body 3
  | 5 => Config.sha384 s.mg.block
  | _ => s.mg.fuse.digest

/-- Bytes as the fields of an answer, and the bytes of a digest. -/
def byteFields (bs : List Byte) : List Nat := bs.map (·.toNat)
def digestBytes (d : BitVec 384) : List Byte := beBytes 48 d.toNat

/-- An answer that the device identity key signs (R440, R442). -/
def State.spdmSigned (s : State) (code : Nat) (fields : List Nat) : State :=
  let r := s.signed (Config.spdmTranscript s.freeCtr)
  r.1.spdm code (fields ++ byteFields r.2)

/-- What NEGOTIATE_ALGORITHMS offers (R442): the hash TPM_ALG_SHA_384; no base signature algorithm, and one extended algorithm: the DMTF vendor
registry, Lamier's identifier there (free values) and algorithm 0x0001. -/
def algorithms : List Nat := [0x02, 0, 1] ++ blob 4 1 ++ blob 5 4 ++ [0x0001]

/-- The indices of the measurements. -/
def measIndices : List Nat := [1, 2, 3, 4, 5, 6]

/-- GET_CERTIFICATE: slot 0 only; the chain is that of CERT_REQ (R441), and what lies past its end is not sent (log entry 106). -/
def getCertificate (slot offset len : Nat) (s : State) : State :=
  if slot ≠ 0 then s.spdmError 0x01
  else s.spdm 0x02 (slot :: offset :: byteFields ((s.mg.flash.chain.drop offset).take len))

/-- CHALLENGE: the summary covers every index. -/
def challenge (slot : Nat) (s : State) : State :=
  if slot ≠ 0 then s.spdmError 0x01
  else s.spdmSigned 0x03 (slot :: byteFields (digestBytes s.chainDigest ++
    digestBytes (Config.sha384 (measIndices.flatMap (fun i => digestBytes (s.measured i))))))

/-- GET_MEASUREMENTS: the number of indices, one index, or all; signed where the request asks for it. -/
def getMeasurements (i : Nat) (sign : Bool) (s : State) : State :=
  let of := fun (ks : List Nat) => ks.flatMap (fun k => k :: byteFields (digestBytes (s.measured k)))
  let send := fun (fields : List Nat) => if sign then s.spdmSigned 0x60 fields else s.spdm 0x60 fields
  if i = 0 then send [0, 6]
  else if i = 0xFF then send (of measIndices)
  else if measIndices.contains i then send (of [i])
  else s.spdmError 0x01

/-! ### Vendor messages (R447, R538) -/

/-- The status of a register access: 0x01 another shape than one aligned word, or outside register space; 0x02 an unassigned word. -/
def vendorStatus (a : Nat) : Nat :=
  if a % 8 ≠ 0 ∨ a < regBase ∨ regEnd ≤ a then 1
  else if (keyOf (if regBase + shadowOff ≤ a then a - shadowOff else a)).isNone then 2
  else 0

/-- VENDOR_REGISTER_READ. -/
def vendorRead (a : Nat) (s : State) : State :=
  if !s.mctpFull then s
  else
    match vendorStatus a with
    | 0 =>
      let r := s.readReg a
      r.1.answer mtVendor 0 [0, r.2.1.toNat]
    | k => s.decodeErr.answer mtVendor 0 [k, 0]

/-- VENDOR_REGISTER_WRITE. -/
def vendorWrite (a v : Nat) (s : State) : State :=
  if !s.mctpFull then s
  else
    match vendorStatus a with
    | 0 => (s.regWrite .sideband a v).answer mtVendor 1 [0]
    | k => s.decodeErr.answer mtVendor 1 [k]

/-! ### Meanings -/

def execEntdaa (a : BitVec 7) (s : State) : Host.Outcome State Fault Refusal := .next (entdaa a.toNat s)
def execSetdasa (st dyn : BitVec 7) (s : State) : Host.Outcome State Fault Refusal := .next (setdasa st.toNat dyn.toNat s)
def execSetEndpointId (e : Byte) (s : State) : Host.Outcome State Fault Refusal := .next (setEndpointId e.toNat s)
def execGetEndpointId (s : State) : Host.Outcome State Fault Refusal := .next (s.control 0x02 [0, s.mg.eid])
def execGetMctpVersionSupport (s : State) : Host.Outcome State Fault Refusal := .next (s.control 0x04 (0 :: blob 1 5))
def execGetMessageTypeSupport (s : State) : Host.Outcome State Fault Refusal :=
  .next (s.control 0x05 [0, mtControl, mtPldm, mtSpdm, mtVendor])
def execGetTid (s : State) : Host.Outcome State Fault Refusal := .next (s.pldm0 0x02 (0 :: blob 2 1))
def execGetPldmVersion (s : State) : Host.Outcome State Fault Refusal := .next (s.pldm0 0x03 (0 :: blob 3 4))
def execGetPldmTypes (s : State) : Host.Outcome State Fault Refusal := .next (s.pldm0 0x04 (0 :: s.pldmTypes))
def execGetPldmCommands (t : Byte) (s : State) : Host.Outcome State Fault Refusal := .next (getPldmCommands t.toNat s)
def execGetSensorReading (sn : PldmSensor) (s : State) : Host.Outcome State Fault Refusal := .next (getSensorReading sn s)
def execGetPdr (h : BitVec 32) (s : State) : Host.Outcome State Fault Refusal := .next (getPdr h.toNat s)
def execRequestUpdate (s : State) : Host.Outcome State Fault Refusal := .next (requestUpdate s)
def execPassComponentTable (c : BitVec 2) (s : State) : Host.Outcome State Fault Refusal := .next (passComponentTable c.toNat s)
def execUpdateComponent (c : BitVec 2) (n : Nat) (s : State) : Host.Outcome State Fault Refusal := .next (updateComponent c.toNat n s)
def execRequestFirmwareData (o : Nat) (d : List Byte) (s : State) : Host.Outcome State Fault Refusal :=
  .next (requestFirmwareData o d s)
def execTransferComplete (s : State) : Host.Outcome State Fault Refusal := .next (transferComplete s)
def execVerifyComplete (chk : ImageCheck) (s : State) : Host.Outcome State Fault Refusal := .next (verifyComplete chk s)
def execApplyComplete (s : State) : Host.Outcome State Fault Refusal := .next (applyComplete s)
def execActivateFirmware (s : State) : Host.Outcome State Fault Refusal := .next (activateFirmware s)
def execCancelUpdate (s : State) : Host.Outcome State Fault Refusal := .next (cancelUpdate s)
def execGetVersion (s : State) : Host.Outcome State Fault Refusal := .next (s.spdm 0x04 [0x12])
def execGetCapabilities (s : State) : Host.Outcome State Fault Refusal := .next (s.spdm 0x61 [0x16])
def execNegotiateAlgorithms (s : State) : Host.Outcome State Fault Refusal := .next (s.spdm 0x63 algorithms)
def execGetDigests (s : State) : Host.Outcome State Fault Refusal :=
  .next (s.spdm 0x01 (0x01 :: byteFields (digestBytes s.chainDigest)))
def execGetCertificate (slot : Byte) (o n : BitVec 16) (s : State) : Host.Outcome State Fault Refusal :=
  .next (getCertificate slot.toNat o.toNat n.toNat s)
def execChallenge (slot : Byte) (s : State) : Host.Outcome State Fault Refusal := .next (challenge slot.toNat s)
def execGetMeasurements (i : MeasReq) (s : State) : Host.Outcome State Fault Refusal :=
  .next (getMeasurements i.index.toNat i.sign s)
def execUnsupportedRequest (_code : Byte) (s : State) : Host.Outcome State Fault Refusal := .next (s.spdmError 0x07)
def execVendorRegisterRead (a : Word) (s : State) : Host.Outcome State Fault Refusal := .next (vendorRead a.toNat s)
def execVendorRegisterWrite (a v : Word) (s : State) : Host.Outcome State Fault Refusal := .next (vendorWrite a.toNat v.toNat s)

end Sys2Proof.Machine
end

