-- ==== Sys2Proof/Machine/Spire.lean ====
section
/-! DEFINITION. Management packets, source-routed packets, heartbeats and the takeover of a spire (R352 to R354). -/

namespace Sys2Proof.Machine

/-! ### Requests and responses -/

/-- What follows a route list, or the whole payload of a MGMT packet: the 16 bytes of a request or response (R353). -/
def mgmtBody (p : Pkt) : List Byte := if p.ptype = 13 then p.payload.drop 32 else p.payload

/-- OP, status and value of a management payload. -/
def mgmtOp (p : Pkt) : Nat := leNat ((mgmtBody p).take 1)
def mgmtStatus (p : Pkt) : Nat := leNat (((mgmtBody p).drop 1).take 1)
def mgmtValue (p : Pkt) : Nat := leNat (((mgmtBody p).drop 8).take 8)

/-- A management payload. -/
def mgmtBytes (op status value : Nat) : List Byte := leBytes 1 op ++ leBytes 1 status ++ leBytes 6 0 ++ leBytes 8 value

/-- The route list of a source-routed packet: its position, its count and its ports. -/
def routePos (p : Pkt) : Nat := leNat (p.payload.take 1)
def routeLen (p : Pkt) : Nat := leNat ((p.payload.drop 1).take 1)
def routePorts (p : Pkt) : List Byte := (p.payload.drop 2).take (routeLen p)

/-- The route list of a response: the reversed list, from its start. -/
def routeBack (p : Pkt) : List Byte :=
  leBytes 1 0 ++ leBytes 1 (routeLen p) ++ (routePorts p).reverse ++ List.replicate (30 - routeLen p) 0

/-- Why a request is refused (R353): 2 its source, 1 its term, 3 its address. -/
def State.mgmtRefused (s : State) (p : Pkt) : Option Nat :=
  if p.src.toNat ≠ s.fg F.FAB_SPIRE.PRIMARY ∧ p.src.toNat ≠ s.fg F.FAB_SPIRE.STANDBY then some 2
  else if p.tag.toNat < s.fg F.FAB_ID.TERM then some 1
  else if fabricReg p.addr.toNat then none
  else some 3

/-- Answer a request (R353): the response carries this device's TERM. -/
def State.mgmtAnswer (s : State) (p : Pkt) (status value : Nat) : State :=
  let body := mgmtBytes 2 status value
  s.inject { zeroPkt with
    dst := p.src, src := BitVec.ofNat 16 s.devId, ptype := p.ptype, tc := 7, addr := p.addr,
    tag := BitVec.ofNat 16 (s.fg F.FAB_ID.TERM), payload := if p.ptype = 13 then routeBack p ++ body else body }

/-- A request is refused. -/
def State.mgmtRefuse (s : State) (p : Pkt) (status : Nat) : State := (s.fc F.FAB_RX.MGMT_REFUSED 1).mgmtAnswer p status 0

/-- A read or write request that is for this device (R353, R538). -/
def State.mgmtRequest (s : State) (p : Pkt) : State :=
  let a := p.addr.toNat
  match s.mgmtRefused p with
  | some why => s.mgmtRefuse p why
  | none =>
    let s1 := s.fs F.FAB_ID.TERM p.tag.toNat
    if a % 8 ≠ 0 ∨ (keyOf a).isNone then s1.decodeErr.mgmtAnswer p 3 0
    else if mgmtOp p = 0 then
      let r := s1.readReg a
      r.1.mgmtAnswer p 0 r.2.1.toNat
    else (s1.regWrite (.fabric p.src) a (mgmtValue p)).mgmtAnswer p 0 0

/-- A response reaches the fabric manager (R354): a refusal with a term above the one it acts in stops a former spire. -/
def State.mgmtReply (s : State) (p : Pkt) : State :=
  let s1 : State := { s with termSeen := max s.termSeen p.tag.toNat }
  if mgmtStatus p ≠ 0 ∧ s.spireTerm < p.tag.toNat then s1.fs F.FAB_SPIRE.ACTIVE 0 else s1

/-- A heartbeat of a spire reaches the standby (R354). -/
def State.heartbeatIn (s : State) (p : Pkt) : State :=
  if p.src.toNat = s.fg F.FAB_SPIRE.PRIMARY ∨ p.src.toNat = s.fg F.FAB_SPIRE.STANDBY then
    { s with hbMissed := 0, hbSeen := true, termSeen := max s.termSeen p.tag.toNat }
  else s

/-- Take a management payload that is for this device. -/
def State.mgmtTake (s : State) (p : Pkt) : State :=
  if (mgmtBody p).length ≠ 16 then s
  else
    match mgmtOp p with
    | 0 | 1 => s.mgmtRequest p
    | 2 => s.mgmtReply p
    | 3 => s.heartbeatIn p
    | _ => s

/-- MGMT_READ, MGMT_WRITE, MGMT_RESPONSE and HEARTBEAT: a MGMT packet with that OP. -/
def mgmtPacket (op : Nat) (p : Pkt) (s : State) : State :=
  if p.ptype = 12 ∧ p.dst.toNat = s.devId ∧ mgmtOp p = op ∧ s.live = true then (s.takeArrived p).mgmtTake p else s

/-! ### Source routing -/

/-- The packet among those delivered: where it came in, no link for one that this device created. -/
def State.arrivedAs (s : State) (p : Pkt) : NetPkt := (s.arrived.find? (fun n => n.p == p)).getD { p := p, src := some 0 }

/-- The port a source-routed packet leaves by (R353), and whether working bridges lie between it and the hub the packet came in on (R18). -/
def routePort (p : Pkt) : Nat := leNat (((routePorts p).drop (routePos p)).take 1)
def State.srReach (s : State) (p : Pkt) : Bool :=
  decide (routeLen p ≤ routePos p) || (s.arrivedAs p).src.isNone || decide (40 ≤ routePort p) || s.hubsMeet (s.hubOf p) (routePort p / 5)

/-- Forward a source-routed packet on the next port of its list (R332, R353); one that finds its link down is dropped (log entry 27). -/
def State.forwardSr (s : State) (np : NetPkt) : State :=
  let p := np.p
  let i := routePos p
  let l := routePort p
  let mine := np.src.isNone
  if !mine && p.hops == 0 then s.fc F.FAB_DROP.HOPLIMIT 1
  else if 40 ≤ l ∨ s.linkUp l = false then s.fc F.FAB_DROP.NOROUTE 1
  else
    let q : Pkt := { p with hops := if mine then p.hops else p.hops - 1, payload := leBytes 1 (i + 1) ++ p.payload.drop 1 }
    s.enqueue l { np with p := q }

/-- MGMT_SR (R353). -/
def mgmtSr (p : Pkt) (s : State) : State :=
  if p.ptype ≠ 13 ∨ s.live = false ∨ s.srReach p = false then s
  else
    let s1 := s.takeArrived p
    let n := routeLen p
    if n < 1 ∨ 30 < n ∨ p.payload.length ≠ 48 then s1.fc F.FAB_DROP.HDR_ERR 1
    else if n ≤ routePos p then s1.mgmtTake p
    else s1.forwardSr (s.arrivedAs p)

/-! ### The spire -/

/-- A packet of this device's fabric manager (R353, R354), in the term it acts in. -/
def State.mgmtSend (s : State) (dst op a value : Nat) : State :=
  s.inject { zeroPkt with
    dst := BitVec.ofNat 16 dst, src := BitVec.ofNat 16 s.devId, ptype := 12, tc := 7, addr := BitVec.ofNat 48 a,
    tag := BitVec.ofNat 16 s.spireTerm, payload := mgmtBytes op 0 value }

/-- HEARTBEAT_SEND (R354): to the other spire. -/
def heartbeatSend (s : State) : State :=
  if !s.live || !s.fb F.FAB_SPIRE.ACTIVE then s
  else s.mgmtSend (if s.devId = s.fg F.FAB_SPIRE.STANDBY then s.fg F.FAB_SPIRE.PRIMARY else s.fg F.FAB_SPIRE.STANDBY) 3 0 0

/-- The state of bank b in a value of FAB_EPOCH (R357). -/
def epochBank (w b : Nat) : Nat := bitsOf w (1 + 2 * b) 2

/-- A new spire writes a device's FAB_EPOCH, its own as a register and another's by a packet. -/
def State.spireWrite (s : State) (dev v : Nat) : State := if dev = s.devId then s.writeEpoch v else s.mgmtSend dev 1 (geo .FAB_EPOCH).base v

/-- What a new spire does with what every device's FAB_EPOCH reads as (R354): where some device has switched to a bank that is LOADED on another, it
completes the change; otherwise, where it is to overwrite LOADED banks, it brings them back to FREE first. -/
def State.finishEpoch (s : State) (es : List (Nat × Nat)) (overwrite : Bool) : State :=
  let half := [0, 1].filter (fun b => es.any (fun e => epochBank e.2 b == 2) && es.any (fun e => epochBank e.2 b == 1))
  es.foldl (fun t e =>
    let loaded := [0, 1].filter (fun b => epochBank e.2 b == 1)
    if loaded.any half.contains then t.spireWrite e.1 (2 ^ 13)
    else if half.isEmpty && overwrite && !loaded.isEmpty then t.spireWrite e.1 (2 ^ 14 + (loaded.map (fun b => 2 ^ (11 + b))).sum)
    else t) s

/-- The term of a new spire (R354): one above the highest that it has seen. -/
def State.newTerm (s : State) : Nat := (max (max s.termSeen s.spireTerm) (s.fg F.FAB_ID.TERM) + 1) % 2 ^ 16

/-- SPIRE_TAKEOVER (R354): `epochs` is what the other devices' FAB_EPOCH read as; `overwrite`: the LOADED banks are to be overwritten. -/
def spireTakeover (epochs : List (Nat × Nat)) (overwrite : Bool) (s : State) : State :=
  if !s.live || s.fg F.FAB_ID.ROLE != 2 || s.fb F.FAB_SPIRE.ACTIVE || decide (s.hbMissed < s.fg F.FAB_SPIRE.HB_MISS) then s
  else
    let t := s.newTerm
    let s1 : State := { s with termSeen := t, spireTerm := t, hbMissed := 0, hbSeen := false }
    let s2 := epochs.foldl (fun u e => u.mgmtSend e.1 0 (geo .FAB_EPOCH).base 0) (s1.fs F.FAB_SPIRE.ACTIVE 1)
    s2.finishEpoch ((s.devId, 2 * s.bank false + 8 * s.bank true) :: epochs) overwrite

/-- A standby counts the intervals in which no heartbeat comes (R354). -/
def State.hbTick (s : State) : State :=
  if s.live && s.fg F.FAB_ID.ROLE == 2 && !s.fb F.FAB_SPIRE.ACTIVE && s.us % max 1 (s.fg F.FAB_SPIRE.HB_US) == 0 then
    { s with hbSeen := false, hbMissed := if s.hbSeen then 0 else min 15 (s.hbMissed + 1) }
  else s

/-! ### Meanings -/

def execMgmtRead (p : Pkt) (s : State) : Host.Outcome State Fault Refusal := .next (mgmtPacket 0 p s)
def execMgmtWrite (p : Pkt) (s : State) : Host.Outcome State Fault Refusal := .next (mgmtPacket 1 p s)
def execMgmtResponse (p : Pkt) (s : State) : Host.Outcome State Fault Refusal := .next (mgmtPacket 2 p s)
def execHeartbeat (p : Pkt) (s : State) : Host.Outcome State Fault Refusal := .next (mgmtPacket 3 p s)
def execMgmtSr (p : Pkt) (s : State) : Host.Outcome State Fault Refusal := .next (mgmtSr p s)
def execHeartbeatSend (s : State) : Host.Outcome State Fault Refusal := .next (heartbeatSend s)
def execSpireTakeover (epochs : List EpochAt) (overwrite : Bool) (s : State) : Host.Outcome State Fault Refusal :=
  .next (spireTakeover (epochs.map (fun e => (e.dev.toNat, e.epoch.toNat))) overwrite s)

end Sys2Proof.Machine
end

