-- ==== Sys2Proof/Machine/Package.lean ====
section
/-! DEFINITION. The package (chapter 18): sensors, the thermal trip and JTAG; and what the passing of a microsecond does. -/

namespace Sys2Proof.Machine

/-! ### Sensors (R557) -/

/-- Whether the dome samples a sensor now: in DOME only those of the always-on domain. -/
def State.samples (s : State) (sn : Sensor) : Bool :=
  match sn with
  | .pkgStack _ | .dome => true
  | _ => !s.pw.dome

/-- The hottest compute-die sensor, in units of 0.125 °C. -/
def State.hottestSite (s : State) : Option Int :=
  ((s.temps.filter (fun p => decide (p.1 < 104))).map (fun p => sext 16 p.2)).foldl
    (fun a x => match a with
      | none => some x
      | some y => some (max x y)) none

/-- Show HOTTEST_C (R457). How a fraction rounds, and how a value below 0 or above 255 reads, the spec leaves open: free values. -/
def State.showHottest (s : State) : State :=
  match s.hottestSite with
  | none => s
  | some t =>
    let r := s.free
    if t < 0 ∨ 2040 < t then r.2.fs F.MGT_THERM.HOTTEST_C (r.1 % 256)
    else if t.toNat % 8 = 0 then s.fs F.MGT_THERM.HOTTEST_C (t.toNat / 8)
    else r.2.fs F.MGT_THERM.HOTTEST_C (t.toNat / 8 + r.1 % 2)

/-- SENSOR_SAMPLE (R557, R463). -/
def sensorSample (xs : List (Sensor × BitVec 16)) (rails : List (Fin 14 × BitVec 16)) (s : State) : State :=
  if s.pw.tripped then s
  else
    let temps := (xs.filter (fun x => s.samples x.1)).foldl (fun m x => smPut (fun _ => 0x8000) m (sensorNo x.1) x.2.toNat) s.temps
    let volts := rails.foldl (fun m x => smPut (fun _ => 0) m x.1.val x.2.toNat) s.volts
    let s1 := { s with temps := temps, volts := volts }
    if s.pw.dome then s1 else s1.showHottest

/-- THERMAL_TRIP (R559, R560): THERMTRIP_N goes low and nothing more happens until a power-on reset. -/
def thermalTrip (sn : Sensor) (s : State) : State :=
  if s.pw.tripped || !s.samples sn then s
  else
    let s1 := s.loseStores.emit (.pin pinTherm false)
    { s1 with pw := { s1.pw with tripped := true } }

/-! ### JTAG (R554) -/

/-- Codes of the instruction in the TAP. -/
def tapBypass : Nat := 0
def tapIdcode : Nat := 1
def tapSample : Nat := 2
def tapExtest : Nat := 3

/-- The part field of IDCODE. -/
def partField : Nat := 0x7200

/-- An instruction is in the TAP. -/
def State.tapIs (s : State) (n : Nat) : State := { s with pw := { s.pw with tap := some n } }

/-- JTAG_INSTRUCTION (R554). -/
def jtag (i : Jtag) (s : State) : Host.Outcome State Fault Refusal :=
  match i with
  | .bypass => .next (s.tapIs tapBypass)
  | .idcode => .next ((s.tapIs tapIdcode).emit (.side 0x90 tapIdcode [partField]))
  | .samplePreload => .next (s.tapIs tapSample)
  | .extest => .next (s.tapIs (if s.pw.pinLow then tapExtest else tapBypass))
  | .other _ => if s.mg.fuse.debug then .refused .debugLogic else .next (s.tapIs tapBypass)

/-- TRST_N (R554). -/
def trstN (s : State) : State := { s with pw := { s.pw with tap := none } }

/-! ### Time -/

/-- One microsecond passes in the count of microseconds and in DOME_TIME, which only error records use (R34, R463, R535). -/
def State.passUs (s : State) : State := { s with us := s.us + 1 }.fs F.DOME_TIME.TIME_US ((s.now + 1) % 2 ^ 48)

/-- One microsecond of local time passes: what waits for work to end goes on, the dies that were reset or leave SHELF run again, a handover ends, a
standby counts heartbeats, and rates of sessions rise (R350, R354, R419, R449, R501, R507). -/
def State.tick (s : State) : State :=
  let s1 := s.passUs
  if s1.powered then
    let s2 := s1.settle.diesBack.handGo.idleGo.hbTick
    (s2.sess.map (·.1)).foldl (fun (t : State) n => t.raiseRate n) s2
  else s1

/-! ### Meanings -/

def execSensorSample (xs : List (Sensor × BitVec 16)) (rails : List (Fin 14 × BitVec 16)) (s : State) :
    Host.Outcome State Fault Refusal := .next (sensorSample xs rails s)
def execThermalTrip (sn : Sensor) (s : State) : Host.Outcome State Fault Refusal := .next (thermalTrip sn s)
def execJtagInstruction (i : Jtag) (s : State) : Host.Outcome State Fault Refusal := jtag i s
def execTrstN (s : State) : Host.Outcome State Fault Refusal := .next (trstN s)

end Sys2Proof.Machine
end

