-- ==== Sys2Proof/Machine/Dispatch.lean ====
section
/-! DEFINITION. One arm for each command, each one call of its meaning. -/

namespace Sys2Proof.Machine

/-- The effect of a command on everything but the queue of waiting commands. -/
def exec (i : Instr) (s : State) : Host.Outcome State Fault Refusal :=
  match i with
  | .doorbell who q width value => Sys2Proof.Machine.execDoorbell who q width value s
  | .queueEnable who q w0 => Sys2Proof.Machine.execQueueEnable who q w0 s
  | .queueDisable who q w0 => Sys2Proof.Machine.execQueueDisable who q w0 s
  | .coreDisable who core => Sys2Proof.Machine.execCoreDisable who core s
  | .coreDisableClear who core => Sys2Proof.Machine.execCoreDisableClear who core s
  | .portDisable who port => Sys2Proof.Machine.execPortDisable who port s
  | .quiesceEnd u => Sys2Proof.Machine.execQuiesceEnd u s
  | .quiesceTimeout u => Sys2Proof.Machine.execQuiesceTimeout u s
  | .claim who ident => Sys2Proof.Machine.execClaim who ident s
  | .release who => Sys2Proof.Machine.execRelease who s
  | .forcedRelease who => Sys2Proof.Machine.execForcedRelease who s
  | .commandStart q met => Sys2Proof.Machine.execCommandStart q met s
  | .matrix q read => Sys2Proof.Machine.execMatrix q read s
  | .decant q read => Sys2Proof.Machine.execDecant q read s
  | .nop q => Sys2Proof.Machine.execNop q s
  | .stream q => Sys2Proof.Machine.execStream q s
  | .commandComplete q => Sys2Proof.Machine.execCommandComplete q s
  | .cqRecordWrite q => Sys2Proof.Machine.execCqRecordWrite q s
  | .groupWrite who g hi v => Sys2Proof.Machine.execGroupWrite who g hi v s
  | .indexTake core => Sys2Proof.Machine.execIndexTake core s
  | .multicastFetch q operandB => Sys2Proof.Machine.execMulticastFetch q operandB s
  | .slotAllocation core e => Sys2Proof.Machine.execSlotAllocation core e s
  | .segmentIssue core e err => Sys2Proof.Machine.execSegmentIssue core e err s
  | .segmentComplete core e acc => Sys2Proof.Machine.execSegmentComplete core e acc s
  | .int32Repeat core e tile => Sys2Proof.Machine.execInt32Repeat core e tile s
  | .decantSweep core e src met => Sys2Proof.Machine.execDecantSweep core e src met s
  | .decantVerdict core e => Sys2Proof.Machine.execDecantVerdict core e s
  | .descriptorBatchRead core ctx read => Sys2Proof.Machine.execDescriptorBatchRead core ctx read s
  | .strided core ctx => Sys2Proof.Machine.execStrided core ctx s
  | .convert core ctx => Sys2Proof.Machine.execConvert core ctx s
  | .gather core ctx => Sys2Proof.Machine.execGather core ctx s
  | .scatter core ctx => Sys2Proof.Machine.execScatter core ctx s
  | .transferIssue core ctx met => Sys2Proof.Machine.execTransferIssue core ctx met s
  | .transferLanded core x err => Sys2Proof.Machine.execTransferLanded core x err s
  | .streamEnd core ctx => Sys2Proof.Machine.execStreamEnd core ctx s
  | .handlePost core ctx => Sys2Proof.Machine.execHandlePost core ctx s
  | .add256 unit read => Sys2Proof.Machine.execAdd256 unit read s
  | .add32s unit read => Sys2Proof.Machine.execAdd32s unit read s
  | .max32 unit read => Sys2Proof.Machine.execMax32 unit read s
  | .min32 unit read => Sys2Proof.Machine.execMin32 unit read s
  | .maxf unit read => Sys2Proof.Machine.execMaxf unit read s
  | .minf unit read => Sys2Proof.Machine.execMinf unit read s
  | .topk unit read => Sys2Proof.Machine.execTopk unit read s
  | .addf unit read => Sys2Proof.Machine.execAddf unit read s
  | .map core => Sys2Proof.Machine.execMap core s
  | .fma core => Sys2Proof.Machine.execFma core s
  | .rsum core => Sys2Proof.Machine.execRsum core s
  | .rdot core => Sys2Proof.Machine.execRdot core s
  | .lnorm core => Sys2Proof.Machine.execLnorm core s
  | .rmsnorm core => Sys2Proof.Machine.execRmsnorm core s
  | .softmax core => Sys2Proof.Machine.execSoftmax core s
  | .xent core => Sys2Proof.Machine.execXent core s
  | .sumsq core => Sys2Proof.Machine.execSumsq core s
  | .accred core => Sys2Proof.Machine.execAccred core s
  | .adamw core => Sys2Proof.Machine.execAdamw core s
  | .topkm core => Sys2Proof.Machine.execTopkm core s
  | .amaxSave core => Sys2Proof.Machine.execAmaxSave core s
  | .amaxPush core => Sys2Proof.Machine.execAmaxPush core s
  | .scaleSave core => Sys2Proof.Machine.execScaleSave core s
  | .scaleLoad core => Sys2Proof.Machine.execScaleLoad core s
  | .devSave core => Sys2Proof.Machine.execDevSave core s
  | .allreduceX q => Sys2Proof.Machine.execAllreduceX q s
  | .allreduceR q => Sys2Proof.Machine.execAllreduceR q s
  | .reduceScatter q => Sys2Proof.Machine.execReduceScatter q s
  | .allgather q => Sys2Proof.Machine.execAllgather q s
  | .broadcast q => Sys2Proof.Machine.execBroadcast q s
  | .barrier q => Sys2Proof.Machine.execBarrier q s
  | .allreduceMax q => Sys2Proof.Machine.execAllreduceMax q s
  | .permute q => Sys2Proof.Machine.execPermute q s
  | .whisk q => Sys2Proof.Machine.execWhisk q s
  | .alltoall q => Sys2Proof.Machine.execAlltoall q s
  | .pieceAdd hub src tag => Sys2Proof.Machine.execPieceAdd hub src tag s
  | .collectiveStall q => Sys2Proof.Machine.execCollectiveStall q s
  | .flitGroup link g => Sys2Proof.Machine.execFlitGroup link g s
  | .hello link id valid nlink => Sys2Proof.Machine.execHello link id valid nlink s
  | .drain link epoch round => Sys2Proof.Machine.execDrain link epoch round s
  | .laneDegrade link cause good => Sys2Proof.Machine.execLaneDegrade link cause good s
  | .linkTrainRetry link => Sys2Proof.Machine.execLinkTrainRetry link s
  | .linkDown link => Sys2Proof.Machine.execLinkDown link s
  | .retune who link v => Sys2Proof.Machine.execRetune who link v s
  | .retuneDone link ok => Sys2Proof.Machine.execRetuneDone link ok s
  | .linkEnable who link v => Sys2Proof.Machine.execLinkEnable who link v s
  | .route p fromLink err => Sys2Proof.Machine.execRoute p fromLink err s
  | .escape n => Sys2Proof.Machine.execEscape n s
  | .write p => Sys2Proof.Machine.execWrite p s
  | .combine p => Sys2Proof.Machine.execCombine p s
  | .readReq p => Sys2Proof.Machine.execReadReq p s
  | .readResp p => Sys2Proof.Machine.execReadResp p s
  | .signal p => Sys2Proof.Machine.execSignal p s
  | .doorbellPacket p => Sys2Proof.Machine.execDoorbellPacket p s
  | .ack p => Sys2Proof.Machine.execAck p s
  | .nak p => Sys2Proof.Machine.execNak p s
  | .cnp p => Sys2Proof.Machine.execCnp p s
  | .ackDelayUs c => Sys2Proof.Machine.execAckDelayUs c s
  | .gapUs c => Sys2Proof.Machine.execGapUs c s
  | .rtoUs c => Sys2Proof.Machine.execRtoUs c s
  | .incUs c => Sys2Proof.Machine.execIncUs c s
  | .mgmtRead p => Sys2Proof.Machine.execMgmtRead p s
  | .mgmtWrite p => Sys2Proof.Machine.execMgmtWrite p s
  | .mgmtResponse p => Sys2Proof.Machine.execMgmtResponse p s
  | .heartbeat p => Sys2Proof.Machine.execHeartbeat p s
  | .mgmtSr p => Sys2Proof.Machine.execMgmtSr p s
  | .heartbeatSend => Sys2Proof.Machine.execHeartbeatSend s
  | .spireTakeover loaded switched => Sys2Proof.Machine.execSpireTakeover loaded switched s
  | .seal who v => Sys2Proof.Machine.execSeal who v s
  | .switch who v => Sys2Proof.Machine.execSwitch who v s
  | .clear who v => Sys2Proof.Machine.execClear who v s
  | .routeTableWrite who member bank n v => Sys2Proof.Machine.execRouteTableWrite who member bank n v s
  | .connectionOpen who c v => Sys2Proof.Machine.execConnectionOpen who c v s
  | .connectionClose who c v => Sys2Proof.Machine.execConnectionClose who c v s
  | .cmapUpdate => Sys2Proof.Machine.execCmapUpdate s
  | .init port m => Sys2Proof.Machine.execInit port m s
  | .finish sess msg sigOk => Sys2Proof.Machine.execFinish sess msg sigOk s
  | .handshakeTimeout sess => Sys2Proof.Machine.execHandshakeTimeout sess s
  | .certReq port offset len srcMac => Sys2Proof.Machine.execCertReq port offset len srcMac s
  | .rekey sess ctr tagOk => Sys2Proof.Machine.execRekey sess ctr tagOk s
  | .oldPhaseExpiry sess => Sys2Proof.Machine.execOldPhaseExpiry sess s
  | .close sess ctr tagOk => Sys2Proof.Machine.execClose sess ctr tagOk s
  | .sessionClose who sess v => Sys2Proof.Machine.execSessionClose who sess v s
  | .sendOnly port p => Sys2Proof.Machine.execSendOnly port p s
  | .rdmaWrite port p => Sys2Proof.Machine.execRdmaWrite port p s
  | .rdmaRead port p => Sys2Proof.Machine.execRdmaRead port p s
  | .acknowledge port p => Sys2Proof.Machine.execAcknowledge port p s
  | .ackTimeout sess => Sys2Proof.Machine.execAckTimeout sess s
  | .roceCnp port p => Sys2Proof.Machine.execRoceCnp port p s
  | .arpRequest port h target => Sys2Proof.Machine.execArpRequest port h target s
  | .neighbourSolicitation port h target => Sys2Proof.Machine.execNeighbourSolicitation port h target s
  | .echoRequest port h v6 target => Sys2Proof.Machine.execEchoRequest port h v6 target s
  | .pfcPause port h prios => Sys2Proof.Machine.execPfcPause port h prios s
  | .portLinkDown port => Sys2Proof.Machine.execPortLinkDown port s
  | .portTraining port peerAdv trains => Sys2Proof.Machine.execPortTraining port peerAdv trains s
  | .portLinkDisable who port v => Sys2Proof.Machine.execPortLinkDisable who port v s
  | .patrolScrub c unit found loc => Sys2Proof.Machine.execPatrolScrub c unit found loc s
  | .rowRepair who hub v => Sys2Proof.Machine.execRowRepair who hub v s
  | .laneRepair who hub v => Sys2Proof.Machine.execLaneRepair who hub v s
  | .repairHoldEnd hub spare => Sys2Proof.Machine.execRepairHoldEnd hub spare s
  | .localGib who v => Sys2Proof.Machine.execLocalGib who v s
  | .bridgeFailure b => Sys2Proof.Machine.execBridgeFailure b s
  | .sieveCompare core e diff => Sys2Proof.Machine.execSieveCompare core e diff s
  | .sieveArbitration core e v => Sys2Proof.Machine.execSieveArbitration core e v s
  | .katPass first second => Sys2Proof.Machine.execKatPass first second s
  | .katHeldClear who hi v => Sys2Proof.Machine.execKatHeldClear who hi v s
  | .laggardWindow ms => Sys2Proof.Machine.execLaggardWindow ms s
  | .fire who v => Sys2Proof.Machine.execFire who v s
  | .lanternToken u => Sys2Proof.Machine.execLanternToken u s
  | .retirement core spareTests badUnits => Sys2Proof.Machine.execRetirement core spareTests badUnits s
  | .startUp env => Sys2Proof.Machine.execStartUp env s
  | .store who v => Sys2Proof.Machine.execStore who v s
  | .storeSector ok => Sys2Proof.Machine.execStoreSector ok s
  | .holdupSample code => Sys2Proof.Machine.execHoldupSample code s
  | .holdupRecheck => Sys2Proof.Machine.execHoldupRecheck s
  | .stage who v chk => Sys2Proof.Machine.execStage who v chk s
  | .activate who v chk => Sys2Proof.Machine.execActivate who v chk s
  | .commitSvn who v => Sys2Proof.Machine.execCommitSvn who v s
  | .revoke who v => Sys2Proof.Machine.execRevoke who v s
  | .hostkeyEnable who n v => Sys2Proof.Machine.execHostkeyEnable who n v s
  | .powerPolicy watts => Sys2Proof.Machine.execPowerPolicy watts s
  | .thermalPolicy die => Sys2Proof.Machine.execThermalPolicy die s
  | .voltagePolicy core up => Sys2Proof.Machine.execVoltagePolicy core up s
  | .linksPolicy t => Sys2Proof.Machine.execLinksPolicy t s
  | .retirePolicy core why => Sys2Proof.Machine.execRetirePolicy core why s
  | .repairPolicy c why loc => Sys2Proof.Machine.execRepairPolicy c why loc s
  | .sensorSample samples rails => Sys2Proof.Machine.execSensorSample samples rails s
  | .thermalTrip sn => Sys2Proof.Machine.execThermalTrip sn s
  | .kick who v => Sys2Proof.Machine.execKick who v s
  | .watchdogExpiry chk => Sys2Proof.Machine.execWatchdogExpiry chk s
  | .entdaa addr => Sys2Proof.Machine.execEntdaa addr s
  | .setdasa static dynamic => Sys2Proof.Machine.execSetdasa static dynamic s
  | .setEndpointId eid => Sys2Proof.Machine.execSetEndpointId eid s
  | .getEndpointId => Sys2Proof.Machine.execGetEndpointId s
  | .getMctpVersionSupport => Sys2Proof.Machine.execGetMctpVersionSupport s
  | .getMessageTypeSupport => Sys2Proof.Machine.execGetMessageTypeSupport s
  | .getTid => Sys2Proof.Machine.execGetTid s
  | .getPldmVersion => Sys2Proof.Machine.execGetPldmVersion s
  | .getPldmTypes => Sys2Proof.Machine.execGetPldmTypes s
  | .getPldmCommands type => Sys2Proof.Machine.execGetPldmCommands type s
  | .getSensorReading sn => Sys2Proof.Machine.execGetSensorReading sn s
  | .getPdr handle => Sys2Proof.Machine.execGetPdr handle s
  | .requestUpdate => Sys2Proof.Machine.execRequestUpdate s
  | .passComponentTable cls => Sys2Proof.Machine.execPassComponentTable cls s
  | .updateComponent cls size => Sys2Proof.Machine.execUpdateComponent cls size s
  | .requestFirmwareData offset data => Sys2Proof.Machine.execRequestFirmwareData offset data s
  | .transferComplete => Sys2Proof.Machine.execTransferComplete s
  | .verifyComplete chk => Sys2Proof.Machine.execVerifyComplete chk s
  | .applyComplete => Sys2Proof.Machine.execApplyComplete s
  | .activateFirmware => Sys2Proof.Machine.execActivateFirmware s
  | .cancelUpdate => Sys2Proof.Machine.execCancelUpdate s
  | .getVersion => Sys2Proof.Machine.execGetVersion s
  | .getCapabilities => Sys2Proof.Machine.execGetCapabilities s
  | .negotiateAlgorithms => Sys2Proof.Machine.execNegotiateAlgorithms s
  | .getDigests => Sys2Proof.Machine.execGetDigests s
  | .getCertificate slot offset len => Sys2Proof.Machine.execGetCertificate slot offset len s
  | .challenge slot => Sys2Proof.Machine.execChallenge slot s
  | .getMeasurements index => Sys2Proof.Machine.execGetMeasurements index s
  | .unsupportedRequest code => Sys2Proof.Machine.execUnsupportedRequest code s
  | .vendorRegisterRead addr => Sys2Proof.Machine.execVendorRegisterRead addr s
  | .vendorRegisterWrite addr v => Sys2Proof.Machine.execVendorRegisterWrite addr v s
  | .powerOnReset src => Sys2Proof.Machine.execPowerOnReset src s
  | .sysResetN => Sys2Proof.Machine.execSysResetN s
  | .sysResetRelease => Sys2Proof.Machine.execSysResetRelease s
  | .system who v => Sys2Proof.Machine.execSystem who v s
  | .coreReset who v => Sys2Proof.Machine.execCoreReset who v s
  | .blockReset who v => Sys2Proof.Machine.execBlockReset who v s
  | .blockResetTimeout => Sys2Proof.Machine.execBlockResetTimeout s
  | .idleEntry => Sys2Proof.Machine.execIdleEntry s
  | .idleExit => Sys2Proof.Machine.execIdleExit s
  | .shelf who v => Sys2Proof.Machine.execShelf who v s
  | .shelfExit w => Sys2Proof.Machine.execShelfExit w s
  | .domeEntry who v => Sys2Proof.Machine.execDomeEntry who v s
  | .wakeN => Sys2Proof.Machine.execWakeN s
  | .i3cWake => Sys2Proof.Machine.execI3cWake s
  | .timerWake => Sys2Proof.Machine.execTimerWake s
  | .domeExit env => Sys2Proof.Machine.execDomeExit env s
  | .padRelease who v => Sys2Proof.Machine.execPadRelease who v s
  | .refclkLoss => Sys2Proof.Machine.execRefclkLoss s
  | .holdoverExpiry => Sys2Proof.Machine.execHoldoverExpiry s
  | .refclkReturn => Sys2Proof.Machine.execRefclkReturn s
  | .jtagInstruction i0 => Sys2Proof.Machine.execJtagInstruction i0 s
  | .readClear who addr => Sys2Proof.Machine.execReadClear who addr s
  | .registerWrite who addr width v => Sys2Proof.Machine.execRegisterWrite who addr width v s
  | .linkTrained link ok lanes => Sys2Proof.Machine.execLinkTrained link ok lanes s
  | .shelfQuiesceTimeout => Sys2Proof.Machine.execShelfQuiesceTimeout s
  | .frameDropped port h k => Sys2Proof.Machine.execFrameDropped port h k s
  | .pauseExpiry port => Sys2Proof.Machine.execPauseExpiry port s
  | .retuneHandshake link => Sys2Proof.Machine.execRetuneHandshake link s
  | .portDisableClear who port => Sys2Proof.Machine.execPortDisableClear who port s
  | .bridgeRestored b => Sys2Proof.Machine.execBridgeRestored b s
  | .trstN => Sys2Proof.Machine.execTrstN s

end Sys2Proof.Machine
end

