-- ==== Sys2Proof/Safety.lean ====
section
/-! DEFINITION. What a safe state and a safe run are, in the terms the statements use: the addressed memories in their one canonical form,
and a step that neither faults nor refuses. -/

namespace Sys2Proof.Machine

/-- The canonical form of a byte memory: addresses strictly rising, and no entry equal to what an unlisted address reads as. -/
def Memory.wf (m : SMap Byte) : Bool := smWf (fun _ => 0) m

/-- The addressed memories are in canonical form: the bytes of HBM4, DDR5 and the tile stores, their poison marks (R257), and the
accumulator memory (R74). -/
def State.canonical (s : State) : Bool :=
  Memory.wf s.mem && smWf (fun _ => false) s.marks && smWf (fun _ => 0) s.acc

/-- The parts of the state, one for each field. -/
inductive StatePart where
  | regs | shadow | mem | marks | acc | runs | cores | units | scales | devs | sieve | quiesce | groupPend | lastServed | errWin
  | temps | volts | links | conns | net | arrived | drain | notices | colls | sess | hsWin | echoWin | ethHold | mg | pw | nakAt
  | hbMissed | termSeen | bridges | lantern | lanternFabric | ceRings | repairs | nextTag | out | freeCtr | pending | pauseTx | us
  | hbSeen | spireTerm
  deriving DecidableEq, Repr

/-- Two states have a part in common. -/
def sameIn (p : StatePart) (s t : State) : Prop :=
  match p with
  | .regs => t.regs = s.regs
  | .shadow => t.shadow = s.shadow
  | .mem => t.mem = s.mem
  | .marks => t.marks = s.marks
  | .acc => t.acc = s.acc
  | .runs => t.runs = s.runs
  | .cores => t.cores = s.cores
  | .units => t.units = s.units
  | .scales => t.scales = s.scales
  | .devs => t.devs = s.devs
  | .sieve => t.sieve = s.sieve
  | .quiesce => t.quiesce = s.quiesce
  | .groupPend => t.groupPend = s.groupPend
  | .lastServed => t.lastServed = s.lastServed
  | .errWin => t.errWin = s.errWin
  | .temps => t.temps = s.temps
  | .volts => t.volts = s.volts
  | .links => t.links = s.links
  | .conns => t.conns = s.conns
  | .net => t.net = s.net
  | .arrived => t.arrived = s.arrived
  | .drain => t.drain = s.drain
  | .notices => t.notices = s.notices
  | .colls => t.colls = s.colls
  | .sess => t.sess = s.sess
  | .hsWin => t.hsWin = s.hsWin
  | .echoWin => t.echoWin = s.echoWin
  | .ethHold => t.ethHold = s.ethHold
  | .mg => t.mg = s.mg
  | .pw => t.pw = s.pw
  | .nakAt => t.nakAt = s.nakAt
  | .hbMissed => t.hbMissed = s.hbMissed
  | .termSeen => t.termSeen = s.termSeen
  | .bridges => t.bridges = s.bridges
  | .lantern => t.lantern = s.lantern
  | .lanternFabric => t.lanternFabric = s.lanternFabric
  | .ceRings => t.ceRings = s.ceRings
  | .repairs => t.repairs = s.repairs
  | .nextTag => t.nextTag = s.nextTag
  | .out => t.out = s.out
  | .freeCtr => t.freeCtr = s.freeCtr
  | .pending => t.pending = s.pending
  | .pauseTx => t.pauseTx = s.pauseTx
  | .us => t.us = s.us
  | .hbSeen => t.hbSeen = s.hbSeen
  | .spireTerm => t.spireTerm = s.spireTerm

/-- From s to t nothing changes but, perhaps, the parts named. -/
def onlyChanges (ps : List StatePart) (s t : State) : Prop := ∀ p : StatePart, p ∉ ps → sameIn p s t

/-- From s to t no register word changes but, perhaps, instances of the words named (R540). -/
def onlyRegs (ns : List RegName) (s t : State) : Prop := ∀ k : RegKey, k.valid = true → k.name ∉ ns → t.rd k = s.rd k

/-- Whether an address lies in the ring of an enabled event queue (R281, R283, R304). -/
def State.inEventRing (s : State) (a : Nat) : Prop :=
  ∃ e : Nat, e < 65536 ∧ s.qOn e qEvent = true ∧ s.fg F.QM_QDESC.RING e ≤ a ∧ a < s.fg F.QM_QDESC.RING e + s.ringSize e * 32

/-- From s to t no byte of memory changes but, perhaps, in the rings of enabled event queues. -/
def onlyEventRings (s t : State) : Prop := ∀ a : Nat, ¬ s.inEventRing a → t.byte a = s.byte a

/-- The step of a state completes: it is neither a fault nor a refusal. -/
def stepSafe (s : State) : Bool :=
  match step s with
  | .next _ => true
  | _ => false

/-- The first k steps from a state complete. -/
def runSafe : Nat → State → Bool
  | 0, _ => true
  | k + 1, s =>
    match step s with
    | .next t => runSafe k t
    | _ => false

end Sys2Proof.Machine
end

