-- ==== Sys2Proof/WellFormed.lean ====
section
/-! DEFINITION. Which commands are well formed: the bounds that the spec puts on what a command carries and that its operands' types do
not already say. A meaning does not rest on them; they say which commands the surroundings can make. -/

namespace Sys2Proof

/-- Whether a list names nothing twice. -/
def noTwice {α : Type} [DecidableEq α] : List α → Bool
  | [] => true
  | a :: l => !l.contains a && noTwice l

/-- A register or doorbell access is of 1 to 4,096 bytes: a packet carries no more (R322, R412). -/
def widthOk (n : Nat) : Bool := decide (1 ≤ n) && decide (n ≤ 4096)

/-- A flit group is 512 bytes (R318). -/
def flitOk (g : FlitGroup) : Bool := g.bytes.length == 512

/-- A payload is at most 4,096 bytes, and a poison bit stands for one of the 64-byte units it lands in (R325, R408). -/
def payloadOk (payload : List Byte) (poison : BitVec 64) : Bool :=
  decide (payload.length ≤ 4096) && poison.toNat / 2 ^ ((payload.length + 126) / 64) == 0

/-- A Valix packet that a link can carry (R322). -/
def pktOk (p : Pkt) : Bool := payloadOk p.payload p.poison

/-- A packet of a session that a port can carry (R408, R412). -/
def roceOk (p : Roce) : Bool := payloadOk p.payload p.poison

/-- A failed word of the feeder feeds some rows, or some columns, and each is named once (R108, R461). -/
def feederOk : FeederErr → Bool
  | .none => true
  | .corrected => true
  | .rowsOfA l => !l.isEmpty && noTwice l
  | .colsOfB l => !l.isEmpty && noTwice l
  | .lostRowsOfA _ l => !l.isEmpty && noTwice l
  | .lostColsOfB _ l => !l.isEmpty && noTwice l

/-- A parity error of a landing names each receiver once (R184). -/
def landOk : LandErr → Bool
  | .parity l _ => noTwice l
  | _ => true

/-- A code is checked once at each unit read (R268). -/
def metOk (l : List (BitVec 42 × Ecc)) : Bool := noTwice (l.map (·.1))

/-- The capacities of an RDIMM (R262). -/
def dimmSizes : List Nat := [32, 48, 64, 96, 128, 192, 256]

/-- The bytes of the slot that holds an image: of management firmware, of core microcode, of PHY tables (R429). -/
def imageRoom (slot : Fin 6) : Nat := ([16, 8, 4].getD (slot.val / 2) 0) * 2 ^ 20

/-- A tile of an index has a number below 0xFFFF (R300). -/
def sourceOk : DecantSrc → Bool
  | .slot _ => true
  | .tile _ => true
  | .acc256 n => decide (n < 0xFFFF)

/-- A router's error mask is of units the packet's payload has (R325). -/
def pktErrOk (p : Pkt) : PktErr → Bool
  | .none => true
  | .payloadUnits m => m.toNat != 0 && m.toNat / 2 ^ ((p.payload.length + 126) / 64) == 0
  | .header => true
  | .entryCorrected => true
  | .entryUncorrectable => true

/-- A laggard window names no core twice, lasts, and counts the cycles of four engines (R482). -/
def lagOk (ms : List LagMeasure) : Bool :=
  noTwice (ms.map (·.core)) && ms.all (fun m => decide (0 < m.window) && decide (m.active ≤ 4 * m.window) && decide (m.held ≤ m.window))

/-- A part's fuses name each of its 104 sites once, one of the two codes, and four root keys (R2, R21, R428, R436). -/
def fusesOk (f : FactoryFuses) : Bool :=
  noTwice f.disabled && f.disabled.all (fun x => decide (x < 104)) && decide (f.grade ≤ 1) && f.rootHash.length == 4

/-- A start-up finds each stack, channel, link, port and image once, and what is programmed into the flash fits its region (R429, R431, R441). -/
def startOk (e : StartEnv) : Bool :=
  e.fuses.all fusesOk && e.chain.all (fun c => decide (c.length ≤ 65536)) &&
  noTwice e.hbm && noTwice (e.ddr.map (·.1)) && noTwice (e.links.map (·.1)) && noTwice (e.ports.map (·.1)) &&
  noTwice (e.imgs.map (·.1)) && e.imgs.all (fun x => decide (x.2.bytes.length ≤ imageRoom x.1)) &&
  e.ddr.all (fun x => dimmSizes.contains x.2.1.gib) &&
  (match e.cfg with
  | none => true
  | some c => decide (c.1.length ≤ 65536) && decide (c.2.length ≤ 65536))

/-- A wake finds each controller, link and port once (R513). -/
def wakeOk (e : WakeEnv) : Bool := noTwice e.physFailed && noTwice (e.links.map (·.1)) && noTwice (e.ports.map (·.1))

/-- An ACK tells of a COMBINE packet once. -/
def foundOk (l : List CombFound) : Bool := noTwice (l.map (·.psn))

/-- Whether a command is well formed. -/
def Instr.wf : Instr → Bool
  | .doorbell _ _ width _ => widthOk width
  | .queueEnable _ _ _ => true
  | .queueDisable _ _ _ => true
  | .coreDisable _ _ => true
  | .coreDisableClear _ _ => true
  | .portDisable _ _ => true
  | .quiesceEnd _ => true
  | .quiesceTimeout _ => true
  | .claim _ _ => true
  | .release _ => true
  | .forcedRelease _ => true
  | .commandStart _ _ => true
  | .matrix _ met => metOk met
  | .decant _ met => metOk met
  | .nop _ => true
  | .stream _ => true
  | .commandComplete ⟨_, met⟩ => metOk met
  | .cqRecordWrite ⟨_, met⟩ => metOk met
  | .groupWrite _ _ _ _ => true
  | .indexTake ⟨_, met⟩ => metOk met
  | .multicastFetch _ _ => true
  | .slotAllocation _ _ => true
  | .segmentIssue _ _ err => feederOk err
  | .segmentComplete _ _ _ => true
  | .int32Repeat _ _ ⟨_, err, _, met⟩ => feederOk err && metOk met
  | .decantSweep _ _ src _ => sourceOk src
  | .decantVerdict _ _ => true
  | .descriptorBatchRead _ _ _ => true
  | .strided _ _ => true
  | .convert _ ⟨_, met⟩ => metOk met
  | .gather _ _ => true
  | .scatter _ _ => true
  | .transferIssue _ _ _ => true
  | .transferLanded _ _ err => landOk err
  | .streamEnd _ ⟨_, met⟩ => metOk met
  | .handlePost _ ⟨_, met⟩ => metOk met
  | .add256 _ _ => true
  | .add32s _ _ => true
  | .max32 _ _ => true
  | .min32 _ _ => true
  | .maxf _ _ => true
  | .minf _ _ => true
  | .topk _ _ => true
  | .addf _ _ => true
  | .map _ => true
  | .fma _ => true
  | .rsum _ => true
  | .rdot _ => true
  | .lnorm _ => true
  | .rmsnorm _ => true
  | .softmax _ => true
  | .xent _ => true
  | .sumsq _ => true
  | .accred ⟨_, met⟩ => metOk met
  | .adamw _ => true
  | .topkm _ => true
  | .amaxSave ⟨_, met⟩ => metOk met
  | .amaxPush ⟨_, _, _, met⟩ => metOk met
  | .scaleSave ⟨_, met⟩ => metOk met
  | .scaleLoad ⟨_, met⟩ => metOk met
  | .devSave ⟨_, _, _, met⟩ => metOk met
  | .allreduceX ⟨_, met⟩ => metOk met
  | .allreduceR ⟨_, met⟩ => metOk met
  | .reduceScatter ⟨_, met⟩ => metOk met
  | .allgather ⟨_, met⟩ => metOk met
  | .broadcast ⟨_, met⟩ => metOk met
  | .barrier ⟨_, met⟩ => metOk met
  | .allreduceMax ⟨_, met⟩ => metOk met
  | .permute ⟨_, met⟩ => metOk met
  | .whisk ⟨_, met⟩ => metOk met
  | .alltoall ⟨_, met⟩ => metOk met
  | .pieceAdd _ _ ⟨_, met⟩ => metOk met
  | .collectiveStall _ => true
  | .flitGroup _ g => flitOk g
  | .hello _ _ _ _ => true
  | .drain _ _ _ => true
  | .laneDegrade _ _ _ => true
  | .linkTrainRetry _ => true
  | .linkDown _ => true
  | .retune _ _ _ => true
  | .retuneDone _ _ => true
  | .linkEnable _ _ _ => true
  | .route p _ err => pktOk p && pktErrOk p err
  | .escape _ => true
  | .write ⟨p, _, land⟩ => pktOk p && landOk land
  | .combine ⟨p, _⟩ => pktOk p
  | .readReq ⟨p, _, _⟩ => pktOk p
  | .readResp ⟨p, _⟩ => pktOk p
  | .signal ⟨p, _, _⟩ => pktOk p
  | .doorbellPacket ⟨p, _⟩ => pktOk p
  | .ack ⟨p, _, found⟩ => pktOk p && foundOk found
  | .nak ⟨p, _, met⟩ => pktOk p && metOk met
  | .cnp ⟨p, _⟩ => pktOk p
  | .ackDelayUs _ => true
  | .gapUs _ => true
  | .rtoUs ⟨_, met⟩ => metOk met
  | .incUs _ => true
  | .mgmtRead p => pktOk p
  | .mgmtWrite p => pktOk p
  | .mgmtResponse p => pktOk p
  | .heartbeat p => pktOk p
  | .mgmtSr p => pktOk p
  | .heartbeatSend => true
  | .spireTakeover epochs _ => noTwice (epochs.map (·.dev))
  | .seal _ _ => true
  | .switch _ _ => true
  | .clear _ _ => true
  | .routeTableWrite _ _ _ _ _ => true
  | .connectionOpen _ _ _ => true
  | .connectionClose _ _ _ => true
  | .cmapUpdate => true
  | .init _ _ => true
  | .finish _ _ _ => true
  | .handshakeTimeout _ => true
  | .certReq _ _ _ _ => true
  | .rekey _ _ _ => true
  | .oldPhaseExpiry _ => true
  | .close _ _ _ => true
  | .sessionClose _ _ _ => true
  | .sendOnly _ ⟨p, land⟩ => roceOk p && landOk land
  | .rdmaWrite _ ⟨p, land⟩ => roceOk p && landOk land
  | .rdmaRead _ ⟨p, _⟩ => roceOk p
  | .acknowledge _ p => roceOk p
  | .ackTimeout _ => true
  | .roceCnp _ p => roceOk p
  | .arpRequest _ _ _ => true
  | .neighbourSolicitation _ _ _ => true
  | .echoRequest _ _ _ _ => true
  | .pfcPause _ _ _ => true
  | .portLinkDown _ => true
  | .portTraining _ _ _ => true
  | .portLinkDisable _ _ _ => true
  | .patrolScrub _ _ _ _ => true
  | .rowRepair _ _ _ => true
  | .laneRepair _ _ _ => true
  | .repairHoldEnd _ ⟨_, row⟩ => metOk row
  | .localGib _ _ => true
  | .bridgeFailure _ => true
  | .sieveCompare _ ⟨_, _, met⟩ _ => metOk met
  | .sieveArbitration _ ⟨_, _, met⟩ _ => metOk met
  | .katPass _ _ => true
  | .katHeldClear _ _ _ => true
  | .laggardWindow ms => lagOk ms
  | .fire _ _ => true
  | .lanternToken _ => true
  | .retirement _ _ badUnits => noTwice badUnits
  | .startUp env => startOk env
  | .store _ _ => true
  | .storeSector _ => true
  | .holdupSample _ => true
  | .holdupRecheck => true
  | .stage _ _ _ => true
  | .activate _ _ _ => true
  | .commitSvn _ _ => true
  | .revoke _ _ => true
  | .hostkeyEnable _ _ _ => true
  | .powerPolicy _ => true
  | .thermalPolicy _ => true
  | .voltagePolicy _ _ => true
  | .linksPolicy _ => true
  | .retirePolicy _ _ => true
  | .repairPolicy _ _ _ => true
  | .sensorSample samples rails => noTwice (samples.map (·.1)) && noTwice (rails.map (·.1))
  | .thermalTrip _ => true
  | .kick _ _ => true
  | .watchdogExpiry _ => true
  | .entdaa _ => true
  | .setdasa _ _ => true
  | .setEndpointId _ => true
  | .getEndpointId => true
  | .getMctpVersionSupport => true
  | .getMessageTypeSupport => true
  | .getTid => true
  | .getPldmVersion => true
  | .getPldmTypes => true
  | .getPldmCommands _ => true
  | .getSensorReading _ => true
  | .getPdr _ => true
  | .requestUpdate => true
  | .passComponentTable _ => true
  | .updateComponent _ size => decide (size < 2 ^ 32)
  | .requestFirmwareData offset data => decide (1 ≤ data.length) && decide (offset + data.length ≤ 2 ^ 32)
  | .transferComplete => true
  | .verifyComplete _ => true
  | .applyComplete => true
  | .activateFirmware => true
  | .cancelUpdate => true
  | .getVersion => true
  | .getCapabilities => true
  | .negotiateAlgorithms => true
  | .getDigests => true
  | .getCertificate _ _ _ => true
  | .challenge _ => true
  | .getMeasurements _ => true
  | .unsupportedRequest _ => true
  | .vendorRegisterRead _ => true
  | .vendorRegisterWrite _ _ => true
  | .powerOnReset _ => true
  | .sysResetN => true
  | .sysResetRelease => true
  | .system _ _ => true
  | .coreReset _ _ => true
  | .blockReset _ _ => true
  | .blockResetTimeout => true
  | .idleEntry => true
  | .idleExit => true
  | .shelf _ _ => true
  | .shelfExit _ => true
  | .domeEntry _ _ => true
  | .wakeN => true
  | .i3cWake => true
  | .timerWake => true
  | .domeExit env => wakeOk env
  | .padRelease _ _ => true
  | .refclkLoss => true
  | .holdoverExpiry => true
  | .refclkReturn => true
  | .jtagInstruction _ => true
  | .readClear _ _ => true
  | .registerWrite _ _ width _ => widthOk width
  | .linkTrained _ _ _ => true
  | .shelfQuiesceTimeout => true
  | .frameDropped _ _ _ => true
  | .pauseExpiry _ => true
  | .retuneHandshake _ => true
  | .portDisableClear _ _ => true
  | .bridgeRestored _ => true
  | .trstN => true

end Sys2Proof
end

