-- ==== Sys2Proof/Certificates/Slice0/Obligations.lean ====
section
/-! DEFINITION. The statements for the provers, in the order of the command table's families. -/

open Sys2Proof Sys2Proof.Machine

/-- Nothing waits for work to end: no block reset, no entry to DOME or SHELF, no retune, no rolling update (R502, R507, R508, R448). -/
abbrev Sys2Proof.When.settled (s : State) : Prop :=
  s.pw.block = none ∧ s.pw.domeStep = 0 ∧ s.fg F.PWR_STATUS.STATE ≠ 3 ∧ s.mg.retunes = [] ∧ s.fb F.MGT_STATUS.MIXED_UCODE = false


/-! ### Queues and commands (R280 to R312) -/

/-- The pointer a doorbell of a queue moves: TAIL of a command queue, HEAD of another (R284). -/
def Sys2Proof.When.pointer (s : State) (q : Nat) : Nat :=
  if s.fg F.QM_QDESC.TYPE q = qCommand then s.fg F.QM_QDESC.TAIL q else s.fg F.QM_QDESC.HEAD q

/-- The entries a doorbell may announce: free entries of a command queue, entries held by another (R284). -/
def Sys2Proof.When.room (s : State) (q : Nat) : Nat :=
  if s.fg F.QM_QDESC.TYPE q = qCommand then s.ringSize q - s.ringHeld q else s.ringHeld q

/-- A doorbell that is taken (R280, R284). -/
abbrev Sys2Proof.When.doorbell (s : State) (who : Req) (q : BitVec 16) (v : Word) : Prop :=
  s.live = true ∧ s.qmAllows who = true ∧ s.fg F.QM_QDESC.STATE q.toNat = 1 ∧ v.toNat < 2 ^ 32 ∧
  0 < (v.toNat + 2 ^ 32 - When.pointer s q.toNat) % 2 ^ 32 ∧ (v.toNat + 2 ^ 32 - When.pointer s q.toNat) % 2 ^ 32 < 2 ^ 31 ∧
  (v.toNat + 2 ^ 32 - When.pointer s q.toNat) % 2 ^ 32 ≤ When.room s q.toNat

/-- A write of word 0 that leaves the configuration of the queue as it is. -/
abbrev Sys2Proof.When.sameWord0 (s : State) (q : BitVec 16) (w : Word) : Prop :=
  bitOf w.toNat 10 = false ∧ bitOf w.toNat 11 = false ∧ qdescCfg.all (fun f => s.fg f q.toNat == bitsOf w.toNat f.lo f.w) = true

/-- An enable that is taken (R283). -/
abbrev Sys2Proof.When.queueEnable (s : State) (who : Req) (q : BitVec 16) (w : Word) : Prop :=
  s.live = true ∧ s.qmAllows who = true ∧ s.fg F.QM_QDESC.STATE q.toNat = 0 ∧ s.enableFault q.toNat = none ∧ When.sameWord0 s q w

/-- A disable of an enabled command queue (R305). -/
abbrev Sys2Proof.When.queueDisable (s : State) (who : Req) (q : BitVec 16) (w : Word) : Prop :=
  s.live = true ∧ s.qmAllows who = true ∧ s.fg F.QM_QDESC.STATE q.toNat = 1 ∧ s.fg F.QM_QDESC.TYPE q.toNat = qCommand ∧ When.sameWord0 s q w

/-- A write the queue manager makes. -/
abbrev Sys2Proof.When.qmWrite (s : State) (who : Req) : Prop := s.live = true ∧ s.qmAllows who = true

/-- A session that may claim the device, and the identity it claims it for (R280). -/
abbrev Sys2Proof.When.claim (s : State) (who : Req) (ident : BitVec 32) (owner : Nat) : Prop :=
  s.live = true ∧ s.fg F.QM_OWNER.OWNED = 0 ∧
  ((∃ n : BitVec 12, who = .session n ∧ s.sessOpen n.toNat = true ∧ owner = s.sessIdent n.toNat) ∨
    (isMgmt who = true ∧ s.keyCarries ident.toNat = true ∧ owner = ident.toNat))

/-- A command at the head of its queue that starts: no fault of its words, no mark, no handle to wait for (R285, R292). -/
abbrev Sys2Proof.When.commandStart (s : State) (q : BitVec 16) : Prop :=
  s.headReady q.toNat = true ∧ s.unitFree q.toNat = true ∧ s.rrNext q.toNat = true ∧ s.headBad q.toNat = false ∧
  (Hdr.ofWords (s.headWords q.toNat)).hwait = false ∧ s.hubReach (q.toNat % 8) (s.startSpans q.toNat) = true ∧
  ∀ i < s.headSlots q.toNat, s.marked (s.ringAddr q.toNat (s.fg F.QM_QDESC.HEAD q.toNat + i)) 64 = false

/-- A completion queue that takes a record now, with no mirror (R295, R303). -/
abbrev Sys2Proof.When.cqRoom (s : State) (cq : Nat) : Prop :=
  s.qOn cq qCompletion = true ∧ s.ringHeld cq < s.ringSize cq ∧ s.fg F.QM_QDESC.MIRROR cq = 0

/-- A command that completes, with no extension (R295). -/
abbrev Sys2Proof.When.commandComplete (s : State) (q : BitVec 16) : Prop :=
  When.settled s ∧ s.workDone q.toNat = true ∧ (s.run q.toNat).ext = [] ∧ When.cqRoom s (s.fg F.QM_QDESC.CQ q.toNat) ∧
  s.hubReach (q.toNat % 8) (s.doneSpans q.toNat) = true

/-- A record is written into the next slot of a completion queue and nowhere else (R295, R298). -/
abbrev Sys2Proof.When.recordAt (s t : State) (cq : Nat) (bs : List Byte) : Prop :=
  t.fg F.QM_QDESC.TAIL cq = (s.fg F.QM_QDESC.TAIL cq + 1) % 2 ^ 32 ∧
  ∀ a : Nat, t.byte a = if s.ringAddr cq (s.fg F.QM_QDESC.TAIL cq) ≤ a ∧ a < s.ringAddr cq (s.fg F.QM_QDESC.TAIL cq) + 32
    then (s.withPhase cq bs).getD (a - s.ringAddr cq (s.fg F.QM_QDESC.TAIL cq)) 0 else s.byte a

/-- A quiesce whose unit has finished what it may finish (R305). -/
abbrev Sys2Proof.When.quiesceDone (s : State) (u : QUnit) : Prop :=
  When.settled s ∧ (s.quiescing u).isSome = true ∧ s.fg F.QM_OWNER.RELEASING = 0 ∧
  match u with
  | .queue q => (s.run q.toNat).busy = false ∧ s.ringHeld q.toNat = 0
  | .core c => s.coreIdle c.val = true
  | .port p => s.portOwes p.val = false

/-- A doorbell that is taken moves its queue's pointer to the value it carries, and no other queue's (R280, R284). -/
def Obligations.DoorbellMovesItsPointer : Prop :=
  ∀ (s : State) (who : Req) (q : BitVec 16) (v : Word), When.doorbell s who q v →
    ∃ t, exec (.doorbell who ⟨q, .ok⟩ 8 v) s = .next t ∧ When.pointer t q.toNat = v.toNat ∧
      (s.fg F.QM_QDESC.TYPE q.toNat = qCommand → t.fg F.QM_QDESC.HEAD q.toNat = s.fg F.QM_QDESC.HEAD q.toNat) ∧
      (s.fg F.QM_QDESC.TYPE q.toNat ≠ qCommand → t.fg F.QM_QDESC.TAIL q.toNat = s.fg F.QM_QDESC.TAIL q.toNat) ∧
      ∀ p : BitVec 16, p ≠ q → When.pointer t p.toNat = When.pointer s p.toNat

/-- A queue that may be enabled is; a disabled command queue quiesces; cores and ports are disabled and enabled again by their bits (R283,
R305, R306). -/
def Obligations.EnablesAndDisables : Prop :=
  (∀ (s : State) (who : Req) (q : BitVec 16) (w : Word), When.queueEnable s who q w →
    ∃ t, exec (.queueEnable who q w) s = .next t ∧ t.fg F.QM_QDESC.EN q.toNat = 1 ∧ t.fg F.QM_QDESC.STATE q.toNat = 1) ∧
  (∀ (s : State) (who : Req) (q : BitVec 16) (w : Word), When.queueDisable s who q w →
    ∃ t, exec (.queueDisable who q w) s = .next t ∧ t.fg F.QM_QDESC.EN q.toNat = 0 ∧ t.fg F.QM_QDESC.STATE q.toNat = 2 ∧
      (t.quiescing (.queue q)).isSome = true) ∧
  (∀ (s : State) (who : Req) (c : Fin 96), When.qmWrite s who →
    ∃ t, exec (.coreDisable who c) s = .next t ∧ (s.coreBit F.QM_CORE_DIS_LO.CORES_LO F.QM_CORE_DIS_HI.CORES_HI c.val = false →
      t.coreBit F.QM_CORE_DIS_LO.CORES_LO F.QM_CORE_DIS_HI.CORES_HI c.val = true ∧ t.inPool c.val = false ∧
      (t.quiescing (.core c)).isSome = true)) ∧
  (∀ (s : State) (who : Req) (c : Fin 96), When.qmWrite s who →
    ∃ t, exec (.coreDisableClear who c) s = .next t ∧
      t.coreBit F.QM_CORE_DIS_LO.CORES_LO F.QM_CORE_DIS_HI.CORES_HI c.val = false ∧
      ((s.quiescing (.core c)).isSome = false → 3 ∉ (t.core c.val).out)) ∧
  (∀ (s : State) (who : Req) (p : Fin 8), When.qmWrite s who →
    ∃ t, exec (.portDisable who p) s = .next t ∧ t.fb { F.QM_PORT_DIS.PORTS with lo := p.val, w := 1 } = true ∧
      (s.fb { F.QM_PORT_DIS.PORTS with lo := p.val, w := 1 } = false → (t.quiescing (.port p)).isSome = true)) ∧
  (∀ (s : State) (who : Req) (p : Fin 8), When.qmWrite s who →
    ∃ t, exec (.portDisableClear who p) s = .next t ∧ t.fb { F.QM_PORT_DIS.PORTS with lo := p.val, w := 1 } = false)

/-- A unit that has finished what it may ends its quiesce, and a queue then stops; a core or port stops quiescing at its timeout (R305). -/
def Obligations.QuiesceEndsOrExpires : Prop :=
  (∀ (s : State) (u : QUnit), When.quiesceDone s u →
    ∃ t, exec (.quiesceEnd u) s = .next t ∧ t.quiescing u = none ∧
      (∀ q, u = .queue q → t.fg F.QM_QDESC.STATE q.toNat = 0 ∧ t.fg F.QM_QDESC.EN q.toNat = 0)) ∧
  (∀ (s : State) (u : QUnit), When.settled s → (s.quiescing u).isSome = true → (∀ q, u ≠ .queue q) →
    ∃ t, exec (.quiesceTimeout u) s = .next t ∧ t.quiescing u = none)

/-- A claim of a free device makes the owner; the owner's release, and a forced one once every queue is stopped, end it (R280). -/
def Obligations.ClaimAndRelease : Prop :=
  (∀ (s : State) (who : Req) (ident : BitVec 32) (owner : Nat), When.claim s who ident owner →
    ∃ t, exec (.claim who ident) s = .next t ∧ t.fg F.QM_OWNER.OWNED = 1 ∧ t.fg F.QM_OWNER.OWNER_ID = owner) ∧
  (∀ (s : State) (n : BitVec 12), s.live = true → s.ownerSess n.toNat = true →
    ∃ t, exec (.release (.session n)) s = .next t ∧ t.fg F.QM_OWNER.OWNED = 0 ∧ t.fg F.QM_OWNER.OWNER_ID = 0 ∧
      t.fg F.QM_OWNER.RELEASING = 0) ∧
  (∀ (s : State) (who : Req), s.live = true → isMgmt who = true → s.fg F.QM_OWNER.RELEASING = 0 →
    (∀ q : Nat, q < 65536 → s.fg F.QM_QDESC.STATE q = 0) →
    ∃ t, exec (.forcedRelease who) s = .next t ∧ t.fg F.QM_OWNER.OWNED = 0 ∧ t.fg F.QM_OWNER.RELEASING = 0)

/-- A command whose words are sound and that its unit can take starts and is given the queue's sequence number; a NOP is then done (R285,
R291, R292). -/
def Obligations.CommandsStart : Prop :=
  (∀ (s : State) (q : BitVec 16) (handle : Ecc), When.commandStart s q →
    ∃ t, exec (.commandStart q { read := .ok, handle := handle }) s = .next t ∧ (t.run q.toNat).busy = true ∧
      (t.run q.toNat).words = s.headWords q.toNat ∧
      (t.run q.toNat).seq = s.fg F.QM_QDESC.SEQ q.toNat ∧
      t.fg F.QM_QDESC.SEQ q.toNat = (s.fg F.QM_QDESC.SEQ q.toNat + 1) % 2 ^ 48 ∧
      t.fg F.QM_QDESC.HEAD q.toNat = (s.fg F.QM_QDESC.HEAD q.toNat + s.headSlots q.toNat) % 2 ^ 32) ∧
  (∀ (s : State) (q : BitVec 16), (s.run q.toNat).busy = true → (s.run q.toNat).opc = 6 →
    ∃ t, exec (.nop q) s = .next t ∧ ((s.run q.toNat).finished = false → t.run q.toNat = { s.run q.toNat with ready := true, finished := true }) ∧
      ∀ p, p ≠ q.toNat → t.run p = s.run p)

/-- A command whose work is done writes its record into the next slot of its completion queue and nowhere else, and one whose record waited
writes it once there is room (R295, R298, R303). -/
def Obligations.CommandsComplete : Prop :=
  (∀ (s : State) (q : BitVec 16) (met : List (BitVec 42 × Ecc)), When.commandComplete s q →
    ∃ t, exec (.commandComplete ⟨q, met⟩) s = .next t ∧ t.run q.toNat = {} ∧
      t.fg F.QM_QDESC.DONE_SEQ q.toNat = (s.run q.toNat).seq % 2 ^ 48 ∧
      (met = [] → When.recordAt s t (s.fg F.QM_QDESC.CQ q.toNat) ((s.run q.toNat).recordBytes q.toNat false false))) ∧
  (∀ (s : State) (q : BitVec 16) (met : List (BitVec 42 × Ecc)) (bs : List Byte), (s.run q.toNat).record = some bs → bs.length = 32 →
      When.cqRoom s (s.fg F.QM_QDESC.CQ q.toNat) →
      s.hubReach (q.toNat % 8) (s.tailSpan (s.fg F.QM_QDESC.CQ q.toNat) qCompletion) = true →
    ∃ t, exec (.cqRecordWrite ⟨q, met⟩) s = .next t ∧ t.run q.toNat = {} ∧
      t.fg F.QM_QDESC.DONE_SEQ q.toNat = (s.run q.toNat).seq % 2 ^ 48 ∧
      t.fg F.QM_QDESC.FULL_WAIT (s.fg F.QM_QDESC.CQ q.toNat) = b2n (t.writerWaits (s.fg F.QM_QDESC.CQ q.toNat)) ∧
      (met = [] → When.recordAt s t (s.fg F.QM_QDESC.CQ q.toNat) bs))


/-! ### Matrix commands (R102 to R164) -/

/-- What a matrix command has fetched once its setup has read every descriptor (R134, R141). -/
def Sys2Proof.When.fetched (s : State) (q : Nat) : QRun :=
  let r := { s.run q with desc := s.words (s.run q).lndAddr 17 }
  { r with tds := r.usedTds.map (fun x => if x = 0 then {} else s.readTd x) }

/-- A matrix command whose descriptors can all be read and break no rule (R134, R135, R136 to R143). -/
abbrev Sys2Proof.When.matrixSetup (s : State) (q : BitVec 16) (opc : Nat) : Prop :=
  (s.run q.toNat).busy = true ∧ (s.run q.toNat).opc = opc ∧ (s.run q.toNat).ready = false ∧
  (s.run q.toNat).lndAddr % 8 = 0 ∧ s.okRange (s.run q.toNat).lndAddr 136 false = true ∧
  s.coresReach (s.run q.toNat).cores (s.setupSpans (s.run q.toNat)) = true ∧ s.marked (s.run q.toNat).lndAddr 136 = false ∧
  (∀ x ∈ (When.fetched s q.toNat).usedTds ++ (When.fetched s q.toNat).wideTds.map (·.2), x ≠ 0 →
    s.okRange x 64 false = true ∧ s.marked x 64 = false) ∧
  (s.setRun q.toNat (When.fetched s q.toNat)).matrixFault (When.fetched s q.toNat) [] = none ∧
  (opc = 1 → chainOk (Lnd.ofWords (When.fetched s q.toNat).desc) ((When.fetched s q.toNat).td 0) ((When.fetched s q.toNat).td 1) = true)

/-- A core that takes the next index of the stage-group command of queue q (R150, R151, R156). -/
abbrev Sys2Proof.When.indexTake (s : State) (c : Fin 96) (q : Nat) : Prop :=
  s.diesGo = true ∧ s.groupRun c.val = some q ∧ (s.run q).opc ≠ 3 ∧ (s.run q).ready = true ∧ s.inPool c.val = true ∧
  (s.core c.val).faulted = false ∧ c.val ∉ (s.run q).stopped ∧ ((s.core c.val).held.filter (fun h => h.q == q)).length < 2 ∧
  (∀ h ∈ (s.core c.val).held, h.q = q → (s.run q).segCount h.index ≤ h.seg) ∧
  s.fg F.TOP_TCOUNT.CLOSED (s.fg F.QM_QDESC.GROUP q) ≠ 1 ∧ (s.run q).next < (s.run q).total ∧
  ((s.run q).lnd.dloops ≠ 0 ∨ (s.run q).next ≠ 0 ∨ s.soloCore (s.run q) = some c.val) ∧
  (s.alloc c.val (s.run q) (s.run q).ownOrder).2 = none ∧ (s.run q).next < 2 ^ 40 - 1 ∧
  ∀ h ∈ (s.core c.val).held, h.q = q → h.index ≠ (s.run q).next

/-- A core that takes the next index of the VECTOR command of queue q, which has been set up (R150, R224). -/
abbrev Sys2Proof.When.vectorTake (s : State) (c : Fin 96) (q : Nat) : Prop :=
  s.diesGo = true ∧ s.groupRun c.val = some q ∧ (s.run q).opc = 3 ∧ (s.run q).ready = true ∧ (s.run q).finished = false ∧
  (((Vod.ofWords (s.run q).desc).op.map (·.dist)).getD false) = true ∧ s.inPool c.val = true ∧ c.val ∉ (s.run q).stopped ∧
  (∀ h ∈ (s.core c.val).held, h.q ≠ q) ∧ s.fg F.TOP_TCOUNT.CLOSED (s.fg F.QM_QDESC.GROUP q) ≠ 1 ∧ (s.run q).next < (s.run q).units ∧
  (s.run q).next < 2 ^ 40 - 1

/-- The round that a multicast operand's next fetch is for (R155). -/
def Sys2Proof.When.round (r : QRun) (b : Bool) : Nat := if b then r.mcB else r.mcA

/-- A multicast operand whose next round may be fetched: every receiver has released the rounds that its buffer held, and the operand's region fits
every window (R154, R155, R156). -/
abbrev Sys2Proof.When.multicast (s : State) (q : BitVec 16) (b : Bool) : Prop :=
  let r := s.run q.toNat
  let e := r.lnd.ent (b2n b)
  r.busy = true ∧ r.ready = true ∧ (r.opc = 1 ∨ r.opc = 2 ∧ b = false) ∧ r.finished = false ∧ e.mc = true ∧
  When.round r b < (if e.level = 7 then 1 else r.lnd.rounds.length) ∧ s.mcReceivers q.toNat ≠ [] ∧
  s.fg F.TOP_TCOUNT.CLOSED (s.fg F.QM_QDESC.GROUP q.toNat) ≠ 1 ∧
  ∀ c ∈ s.mcReceivers q.toNat, (s.alloc c r [b2n b]).2 = none ∧
    ∀ n ∈ s.mustRelease q.toNat c (b2n b) (When.round r b), s.released q.toNat c n = true

/-- The tile of operand `b` that a multicast round needs (R140, R155). -/
def Sys2Proof.When.roundTile (r : QRun) (b : Bool) : TileAt := r.tileAt (b2n b) (r.lnd.rounds.getD (When.round r b) r.lnd.whole)

/-- Every receiver has the round's tile, as the one of that operand that came last (R140). -/
def Sys2Proof.When.sameTile (s : State) (q : Nat) (b : Bool) : Prop :=
  ∀ d ∈ s.mcReceivers q, ∃ x, (s.core d).lastTile q (b2n b) = some x ∧ x.box = When.roundTile (s.run q) b

/-- A multicast fetch has been formed on its issuer, and every receiver has a place for its tile (R154, R155). -/
abbrev Sys2Proof.When.fetchFormed (s t : State) (q : Nat) (b : Bool) : Prop :=
  let r := s.run q
  let c := (s.mcReceivers q).headD 0
  (∃ f, (t.core c).fetches = (s.core c).fetches ++ [f] ∧ f.q = q ∧ f.op = b2n b ∧ f.inst = When.round r b ∧
    f.buf = When.round r b % (r.lnd.ent (b2n b)).bufs ∧ f.box = When.roundTile r b ∧ f.mc = true ∧ f.receivers = s.mcReceivers q ∧
    f.row = 0 ∧ f.off = 0) ∧
  ∀ d ∈ s.mcReceivers q, ∃ x ∈ (t.core d).tiles, x.q = q ∧ x.op = b2n b ∧ x.inst = When.round r b ∧ x.box = When.roundTile r b ∧
    x.landed = false

/-- The next segment of a core is for engine e, its chain has the unit u and its operands have landed (R109, R117, R134, R144). -/
abbrev Sys2Proof.When.segment (s : State) (c : Fin 96) (e : Fin 4) (n : NextSeg) (u : Nat) : Prop :=
  s.nextSeg c.val = some n ∧ n.tile % 4 = e.val ∧ (s.core c.val).faulted = false ∧
  ((s.core c.val).engine e.val).unitOf n.h.q n.h.index n.tile = some u ∧ ((s.core c.val).engine e.val).seg = none ∧
  ((s.core c.val).engine e.val).repeatDue = false ∧ s.operandsIn c.val n.h n.h.seg = true

/-- The next segment of a core begins a long chain, and a slot may be allocated for it (R115, R117). -/
abbrev Sys2Proof.When.longSlot (s : State) (c : Fin 96) (e : Fin 4) (n : NextSeg) : Prop :=
  s.nextSeg c.val = some n ∧ n.tile % 4 = e.val ∧ (s.core c.val).faulted = false ∧
  ((s.core c.val).engine e.val).unitOf n.h.q n.h.index n.tile = none ∧ (Lnd.ofWords (s.run n.h.q).desc).lanes = false ∧
  (((s.core c.val).engine e.val).chains.filter (fun p => p.2.q == n.h.q && p.2.st == 1 && !p.2.closed)).length < 4

/-- A sweep that may begin, whose regions fit the window (R120, R121, R156). -/
abbrev Sys2Proof.When.sweep (s : State) (c : Fin 96) (e : Fin 4) (src : DecantSrc) (x : SweepSrc) : Prop :=
  s.sweepSrc c.val e.val src = some x ∧ (s.alloc c.val (s.run x.q) (s.run x.q).decantOrder).2 = none

/-- The sweep needs no addend, or has it in its region (R84, R157). -/
def Sys2Proof.When.addendIn (s : State) (c : Fin 96) (e : Fin 4) (x : SweepSrc) : Prop :=
  (s.run x.q).dec.add = 0 ∨ ∃ j, (s.core c.val).rdJob x.q x.index x.tile e.val = some j ∧ (s.core c.val).rdDone j = true

/-- The segments that an INT32 repeat of a tile runs again (R81). -/
def Sys2Proof.When.repeatSegs (r : QRun) (tile : Nat) (b : Nat × Box) : List Box :=
  (r.lnd.segments b.2).filter (fun g => tileOrdinal (r.lnd.tiles b.2) g == tile)

/-- The raise of the decant an engine is in (R89). -/
def Sys2Proof.When.raise (s : State) (c e : Nat) : Nat := (((s.core c).engine e).dec.map (·.raise)).getD 0

/-- A sweep has been made, its last promotion is written back, and the verdict is due (R121). -/
abbrev Sys2Proof.When.verdict (s : State) (c : Fin 96) (e : Fin 4) (d : Dec) : Prop :=
  ((s.core c.val).engine e.val).dec = some d ∧ d.swept = true ∧
  (∀ g u, ((s.core c.val).engine e.val).seg = some g → d.unit = some u → g.unit ≠ u)

/-- The tile of a decant has failed (R127). -/
def Sys2Proof.When.tileFailed (s : State) (c e : Nat) (d : Dec) : Bool :=
  d.failed || ((d.unit.bind (smFind ((s.core c).engine e).chains)).map (·.failed)).getD false

/-- A write of a stage group's cores waits for the group's command, or is taken at once; the setup of a MATRIX or DECANT command fetches its
descriptors (R134, R141, R152, R160). -/
def Obligations.StageGroupsAndSetup : Prop :=
  (∀ (s : State) (who : Req) (g : Fin 16) (hi : Bool) (v : Word), s.live = true →
      s.reaches who (RegKey.addr ⟨if hi then .TOP_GROUP_HI else .TOP_GROUP_LO, g.val, 0, 0⟩) = true →
    ∃ t, exec (.groupWrite who g hi v) s = .next t ∧
      (s.groupBusy g.val = true → t.fg F.TOP_GROUP_HI.PENDING g.val = 1 ∧ t.groupPend = s.groupPend ++ [(g.val, hi, v)] ∧
        t.fg F.TOP_GROUP_LO.CORES_LO g.val = s.fg F.TOP_GROUP_LO.CORES_LO g.val ∧
        t.fg F.TOP_GROUP_HI.CORES_HI g.val = s.fg F.TOP_GROUP_HI.CORES_HI g.val) ∧
      (s.groupBusy g.val = false →
        if hi then t.fg F.TOP_GROUP_HI.CORES_HI g.val = v.toNat % 2 ^ 32 else t.fg F.TOP_GROUP_LO.CORES_LO g.val = v.toNat)) ∧
  (∀ (s : State) (q : BitVec 16) (met : List (BitVec 42 × Ecc)), When.matrixSetup s q 1 →
    ∃ t, exec (.matrix q met) s = .next t ∧ (∀ p, p ≠ q.toNat → t.run p = s.run p) ∧
      (met = [] → t.run q.toNat = { When.fetched s q.toNat with ready := true }) ∧
      (∀ u, (u, .uncorrectable) ∈ met → u.toNat ∈ unitsOf (s.run q.toNat).lndAddr 136 → stDescPoisoned ∈ (t.run q.toNat).st)) ∧
  (∀ (s : State) (q : BitVec 16) (met : List (BitVec 42 × Ecc)), When.matrixSetup s q 2 →
    ∃ t, exec (.decant q met) s = .next t ∧ (∀ p, p ≠ q.toNat → t.run p = s.run p) ∧
      (met = [] → t.run q.toNat = { When.fetched s q.toNat with ready := true }) ∧
      (∀ u, (u, .uncorrectable) ∈ met → u.toNat ∈ unitsOf (s.run q.toNat).lndAddr 136 → stDescPoisoned ∈ (t.run q.toNat).st))

/-- A core takes the next index of its group's command, and for a VECTOR command forms the reads of the index; a multicast round's fetch is formed for
every receiver and for no other core, unless every one has the tile already (R140, R150, R154, R155, R161, R224). -/
def Obligations.TileCounterAndMulticast : Prop :=
  (∀ (s : State) (c : Fin 96) (q : Nat) (met : List (BitVec 42 × Ecc)), When.indexTake s c q →
    ∃ t, exec (.indexTake ⟨c, met⟩) s = .next t ∧
      (∃ h, (t.core c.val).held = (s.core c.val).held ++ [h] ∧ h.q = q ∧ h.index = (s.run q).next ∧ h.seg = 0 ∧ h.tiles = []) ∧
      (t.run q).next = (s.run q).next + 1 ∧ t.fg F.TOP_TCOUNT.NEXT (s.fg F.QM_QDESC.GROUP q) = (s.run q).next + 1 ∧
      t.fg F.CORE_CP_STATUS.STATE c.val = 1 ∧ t.fg F.CORE_CP_STATUS.INDEX c.val = (s.run q).next ∧
      ∀ d, d ≠ c.val → t.core d = s.core d) ∧
  (∀ (s : State) (c : Fin 96) (q : Nat) (met : List (BitVec 42 × Ecc)), When.vectorTake s c q →
    ∃ t, exec (.indexTake ⟨c, met⟩) s = .next t ∧
      (t.core c.val).held = (s.core c.val).held ++ [{ q := q, index := (s.run q).next }] ∧
      (∃ j, (t.core c.val).reads = (s.core c.val).reads ++ [j] ∧ j.q = q ∧ j.index = (s.run q).next ∧ j.unit = 4 ∧ j.got = [] ∧
        j.todo = (s.run q).indexPieces (Vod.ofWords (s.run q).desc) (s.run q).next) ∧
      (t.run q).next = (s.run q).next + 1 ∧ t.fg F.VEC_STATUS.STATE c.val = 1 ∧ ∀ d, d ≠ c.val → t.core d = s.core d) ∧
  (∀ (s : State) (q : BitVec 16) (b : Bool), When.multicast s q b →
    ∃ t, exec (.multicastFetch q b) s = .next t ∧
      (t.run q.toNat).mcB = (s.run q.toNat).mcB + b2n b ∧ (t.run q.toNat).mcA = (s.run q.toNat).mcA + b2n (!b) ∧
      (When.sameTile s q.toNat b → ∀ d ∈ s.mcReceivers q.toNat, (t.core d).fetches = (s.core d).fetches ∧
        ∃ x, (s.core d).lastTile q.toNat (b2n b) = some x ∧ { x with inst := When.round (s.run q.toNat) b } ∈ (t.core d).tiles) ∧
      (¬ When.sameTile s q.toNat b → When.fetchFormed s t q.toNat b) ∧
      (∀ d ∈ s.mcReceivers q.toNat, (t.core d).regions = (s.alloc d (s.run q.toNat) [b2n b]).1) ∧
      ∀ c, c ∉ s.mcReceivers q.toNat → t.core c = s.core c)

/-- A long chain takes a FREE slot, or waits for the first one freed; a segment runs into its accumulator, with the marks its feeder errors make; the
end of the last one makes the chain READY; a saturated INT32 tile returns to CHAIN and repeats with its shift one higher (R81, R105, R108, R116,
R117). -/
def Obligations.SegmentsRunThroughTheArray : Prop :=
  (∀ (s : State) (c : Fin 96) (e : Fin 4) (n : NextSeg), When.longSlot s c e n →
    ∃ t, exec (.slotAllocation c e) s = .next t ∧
      (∀ u, ((s.core c.val).engine e.val).unitFor false = some u →
        smGet (fun _ => {}) ((t.core c.val).engine e.val).chains u = newChain (s.run n.h.q) n ∧
        ∀ v, v ≠ u → smGet (fun _ => {}) ((t.core c.val).engine e.val).chains v = smGet (fun _ => {}) ((s.core c.val).engine e.val).chains v) ∧
      (((s.core c.val).engine e.val).unitFor false = none →
        ((t.core c.val).engine e.val).chains = ((s.core c.val).engine e.val).chains ∧ ((t.core c.val).engine e.val).want = some false)) ∧
  (∀ (s : State) (c : Fin 96) (e : Fin 4) (err : FeederErr) (n : NextSeg) (u : Nat), When.segment s c e n u →
    ∃ t, exec (.segmentIssue c e err) s = .next t ∧
      let x := s.runSegment c.val e.val u (s.run n.h.q) (s.opSrcs c.val n.h n.h.seg)
        ((smFind ((s.core c.val).engine e.val).chains u).getD {}) n.seg
      let l := (s.run n.h.q).lnd
      let ch := smGet (fun _ => {}) ((t.core c.val).engine e.val).chains u
      t.acc = x.1.acc ∧
      ((t.core c.val).engine e.val).seg = some ⟨u, l.closes n.box n.h.seg,
        l.tseg ((s.run n.h.q).td 0).f ((s.run n.h.q).td 1).f n.seg⟩ ∧
      (err = .none ∨ err = .corrected → ch = { x.2.1 with closed := l.closes n.box n.h.seg }) ∧
      (∀ rs, err = .rowsOfA rs ∨ (∃ b, err = .lostRowsOfA b rs) → ∀ i ∈ rs, i.val ∈ ch.rows) ∧
      (∀ cs, err = .colsOfB cs ∨ (∃ b, err = .lostColsOfB b cs) → ∀ j ∈ cs, j.val ∈ ch.cols)) ∧
  (∀ (s : State) (c : Fin 96) (e : Fin 4) (acc : Ecc) (g : Seg), ((s.core c.val).engine e.val).seg = some g →
    ∃ t, exec (.segmentComplete c e acc) s = .next t ∧ ((t.core c.val).engine e.val).seg = none ∧
      (acc = .ok → ∀ ch, smFind ((s.core c.val).engine e.val).chains g.unit = some ch → ch.st = 1 → ch.closed = true → g.last = true →
        smGet (fun _ => {}) ((t.core c.val).engine e.val).chains g.unit = { ch with st := 2 }) ∧
      (acc = .corrected → t.fg F.MTX_ECC.CORRECTED c.val e.val = satAdd F.MTX_ECC.CORRECTED.w (s.fg F.MTX_ECC.CORRECTED c.val e.val) 1)) ∧
  (∀ (s : State) (c : Fin 96) (e : Fin 4) (u : Fin 24) (err : FeederErr) (acc : Ecc) (met : List (BitVec 42 × Ecc)) (ch : Chain) (b : Nat × Box),
      smFind ((s.core c.val).engine e.val).chains (4 + u.val) = some ch → ch.st = 2 → ch.sat = true → ch.shift < 4 →
      ((s.core c.val).engine e.val).seg = none → (s.run ch.q).lnd.indices[ch.index]? = some b →
      s.coresReach [c.val] ((s.run ch.q).repeatSpans (When.repeatSegs (s.run ch.q) ch.tile b)) = true →
    ∃ t g, exec (.int32Repeat c e ⟨u, err, acc, met⟩) s = .next t ∧
      (smGet (fun _ => {}) ((t.core c.val).engine e.val).chains (4 + u.val)).shift = ch.shift + 1 ∧
      (smGet (fun _ => {}) ((t.core c.val).engine e.val).chains (4 + u.val)).st = 1 ∧
      ((t.core c.val).engine e.val).seg = some g ∧ g.unit = 4 + u.val ∧ g.last = true ∧
      t.fg F.MTX_DECANT.INT32_REPEATS c.val e.val =
        satAdd F.MTX_DECANT.INT32_REPEATS.w (s.fg F.MTX_DECANT.INT32_REPEATS c.val e.val) 1)

/-- A tile with an addend has it fetched first; a sweep puts what it makes into the staging region, and nothing elsewhere, and is counted; its verdict
writes the tile, sweeps again one raise higher, or reports a failed tile (R84, R89, R120, R121, R127). -/
def Obligations.DecantsSweepAndDecide : Prop :=
  (∀ (s : State) (c : Fin 96) (e : Fin 4) (src : DecantSrc) (acc : Ecc) (x : SweepSrc), When.sweep s c e src x →
      (s.run x.q).dec.add ≠ 0 → (s.core c.val).rdJob x.q x.index x.tile e.val = none →
    ∃ t j, exec (.decantSweep c e src acc) s = .next t ∧ (t.core c.val).reads = (s.core c.val).reads ++ [j] ∧
      j.q = x.q ∧ j.index = x.index ∧ j.tile = x.tile ∧ j.unit = e.val ∧ j.got = [] ∧
      j.todo = t.addendPieces c.val (s.run x.q) x.tile ((s.run x.q).lnd.tileOrigin x.index x.tile)
        (tileValid (s.run x.q).lnd ((s.run x.q).lnd.tileOrigin x.index x.tile)) ∧ (t.core c.val).eng = (s.core c.val).eng) ∧
  (∀ (s : State) (c : Fin 96) (e : Fin 4) (src : DecantSrc) (acc : Ecc) (x : SweepSrc), When.sweep s c e src x → When.addendIn s c e x →
    ∃ t d, exec (.decantSweep c e src acc) s = .next t ∧ ((t.core c.val).engine e.val).dec = some d ∧ d.swept = true ∧
      d.unit = x.unit ∧ d.q = x.q ∧ d.index = x.index ∧ d.tile = x.tile ∧ d.raise = When.raise s c.val e.val ∧
      (∀ a, (∀ p ∈ d.staged ++ d.topk, a < p.2 ∨ p.2 + p.1.bytes.length ≤ a) → t.byte a = s.byte a) ∧
      t.fg F.MTX_DECANT.SWEEPS c.val e.val = satAdd F.MTX_DECANT.SWEEPS.w (s.fg F.MTX_DECANT.SWEEPS c.val e.val) 1) ∧
  (∀ (s : State) (c : Fin 96) (e : Fin 4) (record : Ecc) (d : Dec), When.verdict s c e d →
    ∃ t, exec (.decantVerdict c ⟨e, record⟩) s = .next t ∧
      (When.tileFailed s c.val e.val d = true → ((t.core c.val).engine e.val).dec = none ∧
        (d.index, d.tile) ∈ (t.run d.q).undef ∧ stUncorrectable ∈ (t.run d.q).st) ∧
      (When.tileFailed s c.val e.val d = false → d.overflow = true → d.raise < (s.run d.q).dec.retryMax →
        ((t.core c.val).engine e.val).dec =
          some { d with raise := d.raise + 1, swept := false, staged := [], topk := [], retry := [] }) ∧
      (When.tileFailed s c.val e.val d = false → (d.overflow = false ∨ (s.run d.q).dec.retryMax ≤ d.raise) →
        ((t.core c.val).engine e.val).dec = none ∧
        (sampled (s.run d.q) ((Lnd.ofWords (s.run d.q).desc).tileOrigin d.index d.tile) = false →
          ((t.core c.val).context 0).staged = ((s.core c.val).context 0).staged ++ d.stagedWrs (s.run d.q).comb.op)))

/-! ### Streams and combines (R165 to R214) -/

/-- The descriptors of a context's next batch, and their address (R175). -/
def Sys2Proof.When.batchLen (cx : Ctx) : Nat := min 16 (cx.count - cx.fetched)
def Sys2Proof.When.batchAt (cx : Ctx) : Nat := cx.list + 128 * cx.fetched

/-- A context whose next batch of descriptors may be read, none of them damaged (R175, R177). -/
abbrev Sys2Proof.When.batch (s : State) (c : Fin 96) (x : Fin 3) (q : Nat) : Prop :=
  let cx := (s.core c.val).context (x.val + 1)
  cx.q = some q ∧ (s.run q).ready = true ∧ cx.ended = false ∧ cx.bad = none ∧ cx.fetched < cx.count ∧ cx.buf.length ≤ 16 ∧
  s.mayStream c.val = true ∧ s.slotFree c.val (x.val + 1) (ceilDiv (128 * When.batchLen cx) 1024) = true ∧
  s.okRange (When.batchAt cx) (128 * When.batchLen cx) false = true ∧ s.pathOk c.val (When.batchAt cx) (128 * When.batchLen cx) = true ∧
  ∀ i < When.batchLen cx, s.marked (When.batchAt cx + 128 * i) 128 = false

/-- The state as the check of a CONVERT sees it, its tensor descriptors read with what the code finds in their units (R171, R195, R268). -/
def Sys2Proof.When.convSeen (s : State) (c : Fin 96) (q : Nat) (w : List Word) (met : List (BitVec 42 × Ecc)) : State :=
  ((s.streamMet c.val (s.tdSpans w) (unitList met) (s.opRef q)).fc F.STR_BYTES_RD.BYTES (64 * (s.tdSpans w).length) c.val).seenList (unitList met)

/-- A descriptor at the head of a context's buffer, which its context may take; what it reads can be reached (R176, R177). -/
abbrev Sys2Proof.When.descriptor (s : State) (c : Fin 96) (x : Fin 3) (q kind : Nat) (w : List Word) (rest : List (List Word)) : Prop :=
  let cx := (s.core c.val).context (x.val + 1)
  cx.q = some q ∧ cx.buf = w :: rest ∧ (SdHead.ofWord (w.headD 0)).kind = kind ∧ cx.ended = false ∧ cx.cur = none ∧
  (s.run q).ready = true ∧ s.mayStream c.val = true ∧ s.coresReach [c.val] (s.tdSpans w) = true ∧
  (bitOf (w.headD 0).toNat 10 = true → s.mg.testing = none)

/-- A descriptor passes its checks: no rule broken, no mark (R177, R301). -/
abbrev Sys2Proof.When.descGood (s : State) (q : Nat) (w : List Word) : Prop := s.descOk false (s.run q).comb w = true ∧ s.tdPoisoned w = false

/-- The descriptor has become the one its context runs (R176). -/
def Sys2Proof.When.started (s t : State) (c : Fin 96) (x : Fin 3) (w : List Word) (rest : List (List Word)) : Prop :=
  let old := (s.core c.val).context (x.val + 1)
  let new := (t.core c.val).context (x.val + 1)
  (∃ cd, new.cur = some cd ∧ cd.words = w ∧ cd.idx = old.next ∧ cd.run = 0 ∧ cd.off = 0) ∧ new.next = old.next + 1 ∧ new.lastDesc = w ∧
  new.buf = (if (SdHead.ofWord (w.headD 0)).last then [] else rest) ∧
  ((SdHead.ofWord (w.headD 0)).last = true → new.count = old.next + 1)

/-- It is context 0's turn, and it has no fetch or read to issue but the staged output w first (R134, R165, R166). -/
abbrev Sys2Proof.When.stagedIssue (s : State) (c : Fin 96) (w : StagedWr) (rest : List StagedWr) (n : Nat) : Prop :=
  s.ctxTurn c.val = some 0 ∧ s.nextZero c.val = some .staged ∧ ((s.core c.val).context 0).staged = w :: rest ∧ w.comb = false ∧
  n = min w.wr.bytes.length (min (1024 - w.wr.addr % 1024) (if w.src = 0 then 1024 else 1024 - w.src % 1024))

/-- It is the turn of a context whose STRIDED descriptor issues its next transfer between two local places (R165, R166, R169, R170). -/
abbrev Sys2Proof.When.stridedIssue (s : State) (c : Fin 96) (x : Fin 3) (q : Nat) (cd : CurDesc) (src dst len : Nat) : Prop :=
  let cx := (s.core c.val).context (x.val + 1)
  s.ctxTurn c.val = some (x.val + 1) ∧ cx.q = some q ∧ cx.cur = some cd ∧ (SdHead.ofWord (cd.words.headD 0)).kind = 1 ∧
  (SdHead.ofWord (cd.words.headD 0)).mc = false ∧ cd.run < runCount cd.words ∧ (s.run q).comb.op = 0 ∧
  src = (runAddrs cd.words cd.run).1 + cd.off ∧ dst = (runAddrs cd.words cd.run).2 + cd.off ∧ s.isLocal src = true ∧ s.isLocal dst = true ∧
  len = pieceLen (s.run q).comb src dst (bitsOf (sdW cd.words 3) 0 32 - cd.off) ∧ s.okRange (src % 2 ^ 48) len false = true

/-- Transfer i of a core is a plain local write that may land (R179, R180, R256). -/
abbrev Sys2Proof.When.landing (s : State) (c : Fin 96) (i : Nat) (x : Xfer) : Prop :=
  (s.core c.val).xfers[i]? = some x ∧ x.conn = none ∧ x.comb = 0 ∧ x.remoteSrc = false ∧ x.mc = false ∧ x.fetch = none ∧
  blockedBy (s.core c.val).xfers i x = false ∧ s.refused x.wr.addr x.wr.bytes.length = false ∧
  s.pathOk c.val x.wr.addr x.wr.bytes.length = true

/-- A stream whose transfers have all landed and that was not stopped (R176, R181). -/
abbrev Sys2Proof.When.streamEnd (s : State) (c : Fin 96) (x : Fin 4) (q : Nat) : Prop :=
  s.streamDone c.val x.val = true ∧ ((s.core c.val).context x.val).q = some q ∧ (s.run q).ready = true ∧
  ((s.core c.val).context x.val).bad = none ∧ s.mayPost c.val x.val = true

/-- A handle queue that takes an entry now (R190). -/
abbrev Sys2Proof.When.handleRoom (s : State) (h : Nat) : Prop := h < 65536 ∧ s.qOn h qHandle = true ∧ s.ringHeld h < s.ringSize h

/-- The request at the head of an atomic unit may be worked on (R205, R266). -/
abbrev Sys2Proof.When.combine (s : State) (u : Fin 64) (op : Nat) (r : CombReq) (rest : List CombReq) : Prop :=
  s.unitQ u.val = r :: rest ∧ (Comb.ofNat r.comb).op = op ∧ s.memHeld r.wr.addr = false ∧
  s.memHeld (combKey (Comb.ofNat r.comb) r.wr.addr) = false

/-- The piece of a request an atomic unit takes in one step (R205): what is left of its 64-byte unit, or a whole run of records. -/
def Sys2Proof.When.streamPiece (op : Nat) (r : CombReq) : Wr :=
  let n := if op = 7 then r.wr.bytes.length else min r.wr.bytes.length (64 - r.wr.addr % 64)
  { addr := r.wr.addr, bytes := r.wr.bytes.take n, pz := if op = 7 then r.wr.pz else r.wr.pz.filter (fun p => p == r.wr.addr / 64) }

/-- A combining command applies one piece to memory and moves on to the rest of its request, and a sender on another device is told of what it counts
(R202, R205, R207); where the last piece of a request that came on a connection is applied, what the connection then carries on with
(R341) is not said here. -/
abbrev Sys2Proof.When.combines (s t : State) (u : Fin 64) (op : Nat) (r : CombReq) (rest : List CombReq) : Prop :=
  let n := (When.streamPiece op r).bytes.length
  ((∀ k p, r.home ≠ .conn k p) ∨ n < r.wr.bytes.length) →
    t.unitQ u.val = (if r.wr.bytes.length ≤ n then rest
      else { r with wr := { addr := r.wr.addr + n, bytes := r.wr.bytes.drop n, pz := r.wr.pz } } :: rest) ∧
    (∀ a : Nat, t.byte a = ((s.combine (Comb.ofNat r.comb) (When.streamPiece op r)).wrs.foldl State.combStore s).byte a) ∧
    (∀ v : Nat, v ≠ u.val → t.unitQ v = s.unitQ v) ∧
    (∀ k p, r.home = .conn k p →
      let e := s.combineFar (Comb.ofNat r.comb) (When.streamPiece op r)
      e ≠ {} → Msg.combined k p e.poisoned e.saturated e.fmt false ∈ t.out)

/-- A stream command is set up; a context reads its descriptors in batches of up to 16; a descriptor of each kind that passes its checks becomes
the one the context runs (R168, R175, R176). -/
def Obligations.StreamsReadTheirDescriptors : Prop :=
  (∀ (s : State) (q : BitVec 16) (x : Nat), (s.run q.toNat).busy = true → (s.run q.toNat).opc = 4 → (s.run q.toNat).ready = false →
      s.ctxOf (s.run q.toNat).core q.toNat = some x → ((s.core (s.run q.toNat).core).context x).list % 128 = 0 →
      ((s.core (s.run q.toNat).core).context x).count ≠ 0 → (s.run q.toNat).comb.ok = true →
    ∃ t, exec (.stream q) s = .next t ∧ (t.run q.toNat).ready = true ∧
      (t.run q.toNat).next = ((s.core (s.run q.toNat).core).context x).count) ∧
  (∀ (s : State) (c : Fin 96) (x : Fin 3) (q : Nat), When.batch s c x q →
    ∃ t, exec (.descriptorBatchRead c x .none) s = .next t ∧
      let old := (s.core c.val).context (x.val + 1)
      let new := (t.core c.val).context (x.val + 1)
      let n := When.batchLen old
      new.buf = old.buf ++ cutDescs (s.words (When.batchAt old) (16 * n)) ∧ new.fetched = old.fetched + n ∧
      t.fg F.STR_BYTES_RD.BYTES c.val = satAdd F.STR_BYTES_RD.BYTES.w (s.fg F.STR_BYTES_RD.BYTES c.val) (128 * n)) ∧
  (∀ (s : State) (c : Fin 96) (x : Fin 3) (q : Nat) (w : List Word) (rest : List (List Word)) (met : List (BitVec 42 × Ecc)),
    (When.descriptor s c x q 1 w rest → When.descGood s q w → ∃ t, exec (.strided c x) s = .next t ∧ When.started s t c x w rest) ∧
    (When.descriptor s c x q 2 w rest → When.descGood (When.convSeen s c q w met) q w →
      ∃ t, exec (.convert c ⟨x, met⟩) s = .next t ∧ When.started s t c x w rest) ∧
    (When.descriptor s c x q 2 w rest → (When.convSeen s c q w met).descOk false (s.run q).comb w = true →
        (When.convSeen s c q w met).tdPoisoned w = true →
      ∃ t, exec (.convert c ⟨x, met⟩) s = .next t ∧ ((t.core c.val).context (x.val + 1)).ended = true ∧ stDescPoisoned ∈ (t.run q).st) ∧
    (When.descriptor s c x q 3 w rest → When.descGood s q w → ∃ t, exec (.gather c x) s = .next t ∧ When.started s t c x w rest) ∧
    (When.descriptor s c x q 4 w rest → When.descGood s q w → ∃ t, exec (.scatter c x) s = .next t ∧ When.started s t c x w rest))

/-- A staged output, the next run of an operand fetch, of a read for a decant or the vector engine, and a STRIDED piece are issued as transfers;
damage met under a staged output marks what is written of it; a plain local transfer lands: its bytes are written and no other (R134, R166, R169,
R179, R184). -/
def Obligations.TransfersMoveBytes : Prop :=
  (∀ (s : State) (c : Fin 96) (err aux : ReadErr) (w : StagedWr) (rest : List StagedWr) (n : Nat), When.stagedIssue s c w rest n →
    ∃ t y, exec (.transferIssue c 0 ⟨err, aux⟩) s = .next t ∧ (t.core c.val).xfers = (s.core c.val).xfers ++ [y] ∧
      y.q = w.q ∧ y.wr.addr = w.wr.addr ∧ (err = .none ∨ w.src = 0 → y.wr.bytes = w.wr.bytes.take n) ∧ y.tag = s.nextTag ∧
      (∀ u, err = .uncorrectable u → w.src ≠ 0 → n ≠ 0 → y.wr.pz ≠ []) ∧ t.nextTag = s.nextTag + 1 ∧
      (w.wr.bytes.length ≤ n → ((t.core c.val).context 0).staged = rest)) ∧
  (∀ (s : State) (c : Fin 96) (err aux : ReadErr) (f : Fetch), s.ctxTurn c.val = some 0 → s.nextFetch c.val = some f →
    ∃ t y, exec (.transferIssue c 0 ⟨err, aux⟩) s = .next t ∧ (t.core c.val).xfers = (s.core c.val).xfers ++ [y] ∧
      y.q = f.q ∧ y.fetch = some f.id ∧ y.receivers = f.receivers ∧ y.src = (s.fetchPiece c.val f).src ∧
      y.wr.addr = (s.fetchPiece c.val f).dst ∧ y.rd = (s.fetchPiece c.val f).len) ∧
  (∀ (s : State) (c : Fin 96) (err aux : ReadErr) (j : RdJob) (p : RdPiece) (rest : List RdPiece), s.ctxTurn c.val = some 0 →
      s.nextZero c.val = some (.read j) → j.todo = p :: rest →
    ∃ t y got, exec (.transferIssue c 0 ⟨err, aux⟩) s = .next t ∧ (t.core c.val).xfers = (s.core c.val).xfers ++ [y] ∧
      y.q = j.q ∧ y.fetch = some j.id ∧ y.src = p.src ∧ y.wr.addr = p.dst ∧ y.rd = p.len ∧
      (t.core c.val).reads = (s.core c.val).reads.map (fun k => if k.id = j.id then { k with todo := rest, got := k.got ++ got } else k)) ∧
  (∀ (s : State) (c : Fin 96) (x : Fin 3) (err aux : ReadErr) (q : Nat) (cd : CurDesc) (src dst len : Nat), When.stridedIssue s c x q cd src dst len →
    ∃ t y, exec (.transferIssue c x.succ ⟨err, aux⟩) s = .next t ∧ (t.core c.val).xfers = (s.core c.val).xfers ++ [y] ∧
      y.q = q ∧ y.idx = cd.idx ∧ y.wr = s.rawWr (src % 2 ^ 48) (dst % 2 ^ 48) len false err ∧ (t.core c.val).turn = x.val + 1) ∧
  (∀ (s : State) (c : Fin 96) (i : Nat) (x : Xfer), When.landing s c i x →
    ∃ t, exec (.transferLanded c i .none) s = .next t ∧ (t.core c.val).xfers = (s.core c.val).xfers.eraseIdx i ∧
      (∀ a : Nat, t.byte a = if x.wr.addr ≤ a ∧ a < x.wr.addr + x.wr.bytes.length
        then (s.keepNibbles x x.wr x.wr.addr).getD (a - x.wr.addr) 0 else s.byte a) ∧
      t.fg F.STR_BYTES_WR.BYTES c.val = satAdd F.STR_BYTES_WR.BYTES.w (s.fg F.STR_BYTES_WR.BYTES c.val) x.wr.bytes.length)

/-- A stream that has landed everything ends; its handle goes into the next slot of its handle queue, and one that waited is posted once there
is room (R176, R181, R189, R190). -/
def Obligations.StreamsEndAndPostHandles : Prop :=
  (∀ (s : State) (c : Fin 96) (x : Fin 4) (q : Nat) (met : List (BitVec 42 × Ecc)), When.streamEnd s c x q →
    ∃ t, exec (.streamEnd c ⟨x, met⟩) s = .next t ∧
      (((s.core c.val).context x.val).endHandle c.val (s.run q).seq = none →
        (t.core c.val).context x.val = {} ∧ (t.run q).finished = true) ∧
      ∀ h bs, ((s.core c.val).context x.val).endHandle c.val (s.run q).seq = some (h, bs) → When.handleRoom s h →
        (t.core c.val).context x.val = {} ∧ (t.run q).finished = true ∧
        t.fg F.QM_QDESC.TAIL h = (s.fg F.QM_QDESC.TAIL h + 1) % 2 ^ 32 ∧
        (met = [] → ∀ a : Nat, t.byte a = if s.ringAddr h (s.fg F.QM_QDESC.TAIL h) ≤ a ∧ a < s.ringAddr h (s.fg F.QM_QDESC.TAIL h) + bs.length
          then bs.getD (a - s.ringAddr h (s.fg F.QM_QDESC.TAIL h)) 0 else s.byte a)) ∧
  (∀ (s : State) (c : Fin 96) (x : Fin 3) (h : Nat) (bs : List Byte) (q : Nat) (met : List (BitVec 42 × Ecc)),
      ((s.core c.val).context (x.val + 1)).handle = some (h, bs) → ((s.core c.val).context (x.val + 1)).q = some q → When.handleRoom s h →
      s.mayPost c.val (x.val + 1) = true →
    ∃ t, exec (.handlePost c ⟨x, met⟩) s = .next t ∧ (t.core c.val).context (x.val + 1) = {} ∧ (t.run q).finished = true ∧
      t.fg F.QM_QDESC.TAIL h = (s.fg F.QM_QDESC.TAIL h + 1) % 2 ^ 32 ∧ t.fg F.QM_QDESC.FULL_WAIT h = b2n (t.writerWaits h) ∧
      (met = [] → ∀ a : Nat, t.byte a = if s.ringAddr h (s.fg F.QM_QDESC.TAIL h) ≤ a ∧ a < s.ringAddr h (s.fg F.QM_QDESC.TAIL h) + bs.length
        then bs.getD (a - s.ringAddr h (s.fg F.QM_QDESC.TAIL h)) 0 else s.byte a))

/-- Each combining operation applies the next piece of the request at the head of its atomic unit's queue (R202, R205, R264). -/
def Obligations.CombinesApplyAtTheMemory : Prop :=
  ∀ (s : State) (u : Fin 64) (r : CombReq) (rest : List CombReq),
    (When.combine s u 1 r rest → ∃ t, exec (.add256 u .ok) s = .next t ∧ When.combines s t u 1 r rest) ∧
    (When.combine s u 2 r rest → ∃ t, exec (.add32s u .ok) s = .next t ∧ When.combines s t u 2 r rest) ∧
    (When.combine s u 3 r rest → ∃ t, exec (.max32 u .ok) s = .next t ∧ When.combines s t u 3 r rest) ∧
    (When.combine s u 4 r rest → ∃ t, exec (.min32 u .ok) s = .next t ∧ When.combines s t u 4 r rest) ∧
    (When.combine s u 5 r rest → ∃ t, exec (.maxf u .ok) s = .next t ∧ When.combines s t u 5 r rest) ∧
    (When.combine s u 6 r rest → ∃ t, exec (.minf u .ok) s = .next t ∧ When.combines s t u 6 r rest) ∧
    (When.combine s u 7 r rest → ∃ t, exec (.topk u .ok) s = .next t ∧ When.combines s t u 7 r rest) ∧
    (When.combine s u 8 r rest → ∃ t, exec (.addf u .ok) s = .next t ∧ When.combines s t u 8 r rest)

/-! ### Vector operations (R216 to R249) -/

/-- A core that holds an index of a distributed operation, what it reads having landed in its window (R134, R217, R224). -/
abbrev Sys2Proof.When.vecIndex (s : State) (c : Fin 96) (q opc : Nat) (h : Held) (j : RdJob) : Prop :=
  s.groupRun c.val = some q ∧ s.diesGo = true ∧ (s.run q).opc = 3 ∧ (s.run q).ready = true ∧
  (Vod.ofWords (s.run q).desc).opc = opc ∧ (s.core c.val).held.find? (fun h => h.q == q) = some h ∧
  (s.core c.val).rdJob q h.index 0xFFFF 4 = some j ∧ (s.core c.val).rdDone j = true

/-- Some outputs of an operation have been put into its window and staged on context 0, and no other byte has changed (R134, R217). -/
abbrev Sys2Proof.When.stagedOut (s t : State) (c : Fin 96) (q index : Nat) (wrs : List (Nat × Wr)) : Prop :=
  let ps := (Vod.ofWords (s.run q).desc).placeOut c.val (wrs.map (·.2))
  ((t.core c.val).context 0).staged = ((s.core c.val).context 0).staged ++
    ps.map (fun x => { q := q, index := index, tile := 0xFFFF, wr := x.1, src := x.2 }) ∧
  ∀ a, (∀ x ∈ ps, a < x.2 ∨ x.2 + x.1.bytes.length ≤ a) → t.byte a = s.byte a

/-- The index is done: the core holds none of the command, and what it makes of the data as they were read is staged on context 0 (R134,
R184, R224). -/
abbrev Sys2Proof.When.indexDone (s t : State) (c : Fin 96) (q : Nat) (h : Held) (j : RdJob) : Prop :=
  let v := Vod.ofWords (s.run q).desc
  (t.core c.val).held = (s.core c.val).held.filter (fun x => x.q != q) ∧ (t.run q).done = (s.run q).done + 1 ∧
  t.fg F.VEC_STATUS.STATE c.val = 0 ∧
  (clashes (s.run q) v = [] → When.stagedOut s t c q h.index ((s.seenGot j.got).vecIndex (s.run q) v h.index).wrs)

/-- The state as an undistributed operation sees it once its reads have landed (R134, R184, R224). -/
def Sys2Proof.When.soleSeen (s : State) (c : Fin 96) (q : Nat) : State :=
  s.seenGot (((s.core c.val).rdJob q 0 0xFFFF 4).elim [] (·.got))

/-- An undistributed operation whose setup has been made, on the core that it belongs to (R224). -/
abbrev Sys2Proof.When.soleHere (s : State) (c : Fin 96) (q opc : Nat) : Prop :=
  s.groupRun c.val = some q ∧ s.diesGo = true ∧ (s.run q).opc = 3 ∧ s.soleFor opc c.val q = true

/-- The transfers that bring an undistributed operation what it reads (R217). -/
def Sys2Proof.When.soleTodo (s : State) (q : Nat) : List RdPiece :=
  (Vod.ofWords (s.run q).desc).pieces ((s.run q).vecReads (Vod.ofWords (s.run q).desc) [])

/-- An undistributed operation that may run: what it reads has landed, or it reads nothing, and its data pass their checks (R224, R240, R244). -/
abbrev Sys2Proof.When.vecSole (s : State) (c : Fin 96) (q opc : Nat) : Prop :=
  When.soleHere s c q opc ∧
  ((s.core c.val).rdJob q 0 0xFFFF 4 = none ∧ When.soleTodo s q = [] ∨
    ∃ j, (s.core c.val).rdJob q 0 0xFFFF 4 = some j ∧ (s.core c.val).rdDone j = true) ∧
  (When.soleSeen s c q).dataFault (Vod.ofWords (s.run q).desc) = none

/-- An undistributed operation whose reads have not been formed (R217). -/
abbrev Sys2Proof.When.soleUnread (s : State) (c : Fin 96) (q opc : Nat) : Prop :=
  When.soleHere s c q opc ∧ (s.core c.val).rdJob q 0 0xFFFF 4 = none ∧ When.soleTodo s q ≠ []

/-- The reads of an undistributed operation are formed, and nothing else has happened (R134, R217). -/
abbrev Sys2Proof.When.soleFormed (s t : State) (c : Fin 96) (q : Nat) : Prop :=
  (∃ j, (t.core c.val).reads = (s.core c.val).reads ++ [j] ∧ j.q = q ∧ j.unit = 4 ∧ j.got = [] ∧ j.todo = When.soleTodo s q) ∧
  t.runs = s.runs ∧ t.scales = s.scales ∧ t.devs = s.devs ∧ t.mem = s.mem

/-- The operation has run: its outputs are staged on context 0 (R134, R224). -/
abbrev Sys2Proof.When.soleDone (s t : State) (c : Fin 96) (q : Nat) : Prop :=
  let v := Vod.ofWords (s.run q).desc
  (t.run q).finished = true ∧ t.fg F.VEC_STATUS.OPC c.val = v.opc % 2 ^ F.VEC_STATUS.OPC.w ∧
  (clashes (s.run q) v = [] → When.stagedOut s t c q 0 ((When.soleSeen s c q).soleOp v).2.wrs)

/-- Each distributed vector operation runs the index its core holds and stages its outputs on context 0 (R134, R223, R224). -/
def Obligations.VectorOperationsRunAnIndex : Prop :=
  ∀ (s : State) (c : Fin 96) (q : Nat) (h : Held) (j : RdJob),
    (When.vecIndex s c q 0x01 h j → ∃ t, exec (.map c) s = .next t ∧ When.indexDone s t c q h j) ∧
    (When.vecIndex s c q 0x02 h j → ∃ t, exec (.fma c) s = .next t ∧ When.indexDone s t c q h j) ∧
    (When.vecIndex s c q 0x03 h j → ∃ t, exec (.rsum c) s = .next t ∧ When.indexDone s t c q h j) ∧
    (When.vecIndex s c q 0x04 h j → ∃ t, exec (.rdot c) s = .next t ∧ When.indexDone s t c q h j) ∧
    (When.vecIndex s c q 0x05 h j → ∃ t, exec (.lnorm c) s = .next t ∧ When.indexDone s t c q h j) ∧
    (When.vecIndex s c q 0x06 h j → ∃ t, exec (.rmsnorm c) s = .next t ∧ When.indexDone s t c q h j) ∧
    (When.vecIndex s c q 0x07 h j → ∃ t, exec (.softmax c) s = .next t ∧ When.indexDone s t c q h j) ∧
    (When.vecIndex s c q 0x08 h j → ∃ t, exec (.xent c) s = .next t ∧ When.indexDone s t c q h j) ∧
    (When.vecIndex s c q 0x09 h j → ∃ t, exec (.sumsq c) s = .next t ∧ When.indexDone s t c q h j) ∧
    (When.vecIndex s c q 0x0B h j → ∃ t, exec (.adamw c) s = .next t ∧ When.indexDone s t c q h j) ∧
    (When.vecIndex s c q 0x0C h j → ∃ t, exec (.topkm c) s = .next t ∧ When.indexDone s t c q h j)

/-- Each undistributed operation has what it reads fetched, runs once, and changes the scaling table and the deviation records as it says, and no more
(R217, R223, R234, R240, R242 to R244, R249). -/
def Obligations.TablesAndPartials : Prop :=
  ∀ (s : State) (c : Fin 96) (q : Nat) (tag : BitVec 12) (met : List (BitVec 42 × Ecc)),
    let v := Vod.ofWords (s.run q).desc
    (When.soleUnread s c q 0x0A → ∃ t, exec (.accred ⟨c, met⟩) s = .next t ∧ When.soleFormed s t c q) ∧
    (When.soleUnread s c q 0x0E → ∃ t, exec (.amaxPush ⟨c, tag, .ok, met⟩) s = .next t ∧ When.soleFormed s t c q) ∧
    (When.soleUnread s c q 0x10 → ∃ t, exec (.scaleLoad ⟨c, met⟩) s = .next t ∧ When.soleFormed s t c q) ∧
    (When.vecSole s c q 0x0A → ∃ t, exec (.accred ⟨c, met⟩) s = .next t ∧ When.soleDone s t c q ∧ t.scales = s.scales ∧ t.devs = s.devs) ∧
    (When.vecSole s c q 0x0D → ∃ t, exec (.amaxSave ⟨c, met⟩) s = .next t ∧ When.soleDone s t c q ∧ t.scales = s.scales ∧ t.devs = s.devs) ∧
    (When.vecSole s c q 0x0E → ∃ t, exec (.amaxPush ⟨c, tag, .ok, met⟩) s = .next t ∧ When.soleDone s t c q ∧ t.devs = s.devs ∧
      t.scales = (v.tags.foldl (fun x g => (x.pushTag v g).1) (When.soleSeen s c q)).scales) ∧
    (When.vecSole s c q 0x0F → ∃ t, exec (.scaleSave ⟨c, met⟩) s = .next t ∧ When.soleDone s t c q ∧ t.scales = s.scales ∧ t.devs = s.devs) ∧
    (When.vecSole s c q 0x10 → ∃ t, exec (.scaleLoad ⟨c, met⟩) s = .next t ∧ When.soleDone s t c q ∧ t.devs = s.devs ∧
      ∀ g : Nat, t.scaleRec g = if v.arg0 ≤ g ∧ g < v.arg0 + v.count
        then ScaleRec.ofBytes ((When.soleSeen s c q).bytes (v.slot 0 + 128 * (g - v.arg0)) 128) else s.scaleRec g) ∧
    (When.vecSole s c q 0x11 → ∃ t, exec (.devSave ⟨c, tag, .ok, met⟩) s = .next t ∧ When.soleDone s t c q ∧ t.scales = s.scales ∧
      ∀ g : Nat, t.devRec g = if bitOf v.func 0 = true ∧ v.arg0 ≤ g ∧ g < v.arg0 + v.count then {} else s.devRec g)

/-! ### Collectives (R365 to R396) -/

/-- A collective in phase `p`, the last that has anything to send, receive or do; its connections can be used and nothing it sent is
unacknowledged (R367, R376, R385, R387, R391). -/
abbrev Sys2Proof.When.lastPhase (s : State) (q op : Nat) (whisk : Bool) (c : Coll) (p : CPhase) : Prop :=
  s.coll q = some c ∧ c.d.op = op ∧ c.d.whisk = whisk ∧ c.now = some p ∧
  (s.run q).busy = true ∧ (s.run q).opc = 5 ∧ (s.run q).finished = false ∧ (s.run q).st = [] ∧
  (∀ x ∈ c.k.conns, s.collConnOk x = true) ∧ s.collOwes q = false ∧
  ∀ r ∈ c.d.phases.drop (c.k.phase + 1), ∃ l, (r = .ag l ∨ r = .bc l) ∧ ∀ i, c.sends r i = [] ∧ c.recvs r i = []

/-- The collective has ended with OK and is no longer held by the engines (R301, R385). -/
abbrev Sys2Proof.When.collDone (t : State) (q : Nat) : Prop :=
  (t.run q).finished = true ∧ (t.run q).st = [] ∧ smFind t.colls q = none

/-- The owner's action of a reduction or a copy, once its lanes reach the memory, ends the collective: the bytes are those the action leaves, but for
the rest of ALLREDUCE_X's working buffer, which is undefined; `met` is what the code finds in the units read (R268, R376, R380, R382, R383). -/
def Obligations.OwnersActionEndsTheCollective : Prop :=
  ∀ (s : State) (q : BitVec 16) (c : Coll) (met : List (BitVec 42 × Ecc)),
    let u := s.collMet q.toNat (unitList met)
    (When.lastPhase s q.toNat 1 false c .own → u.ownReach c = true → ∃ t, exec (.allreduceX ⟨q, met⟩) s = .next t ∧ When.collDone t q.toNat ∧
      ∀ a : Nat, (a < c.inAddr 0 ∨ c.inAddr (c.bound c.me) ≤ a) → (a < c.inAddr (c.bound (c.me + 1)) ∨ c.inAddr c.d.count ≤ a) →
        t.byte a = (u.ownAction c).byte a) ∧
    (When.lastPhase s q.toNat 2 false c .own → u.ownReach c = true → ∃ t, exec (.allreduceR ⟨q, met⟩) s = .next t ∧ When.collDone t q.toNat ∧
      ∀ a : Nat, t.byte a = (u.ownAction c).byte a) ∧
    (When.lastPhase s q.toNat 3 false c .own → u.ownReach c = true → ∃ t, exec (.reduceScatter ⟨q, met⟩) s = .next t ∧ When.collDone t q.toNat ∧
      ∀ a : Nat, t.byte a = (u.ownAction c).byte a) ∧
    (When.lastPhase s q.toNat 4 false c .own → u.ownReach c = true → ∃ t, exec (.allgather ⟨q, met⟩) s = .next t ∧ When.collDone t q.toNat ∧
      ∀ a : Nat, t.byte a = (u.ownAction c).byte a) ∧
    (When.lastPhase s q.toNat 5 false c .own → u.ownReach c = true → ∃ t, exec (.broadcast ⟨q, met⟩) s = .next t ∧ When.collDone t q.toNat ∧
      ∀ a : Nat, t.byte a = (u.ownAction c).byte a) ∧
    (When.lastPhase s q.toNat 7 false c .own → u.ownReach c = true → ∃ t, exec (.allreduceMax ⟨q, met⟩) s = .next t ∧ When.collDone t q.toNat ∧
      ∀ a : Nat, t.byte a = (u.ownAction c).byte a)

/-- A member that has passed both tokens of the last ring ends its BARRIER; PERMUTE and WHISK end with the move of what was kept and
received, and a WHISK clears its bit of COL_LAYOUT; ALLTOALL ends once its records are sent and received; one that has waited ten
seconds ends with CONNECTION_ERROR and names the connection, and the lane's hub counts the stall (R376, R385, R387, R391). -/
def Obligations.TokensMovesAndRecordsEndTheCollective : Prop :=
  ∀ (s : State) (q : BitVec 16) (c : Coll) (met : List (BitVec 42 × Ecc)),
    let u := s.collMet q.toNat (unitList met)
    (∀ l : Nat, When.lastPhase s q.toNat 6 false c (.tok l) → c.sentN 0 = 2 → c.recvN 0 = 2 →
      ∃ t, exec (.barrier ⟨q, met⟩) s = .next t ∧ When.collDone t q.toNat ∧ ∀ a : Nat, t.byte a = u.byte a) ∧
    (When.lastPhase s q.toNat 8 false c .move → u.flatReach c = true → ∃ t, exec (.permute ⟨q, met⟩) s = .next t ∧ When.collDone t q.toNat ∧
      ∀ a : Nat, t.byte a = (u.permMove c).byte a) ∧
    (When.lastPhase s q.toNat 8 true c .move → u.flatReach c = true → ∃ t, exec (.whisk ⟨q, met⟩) s = .next t ∧ When.collDone t q.toNat ∧
      t.fg F.COL_LAYOUT.WHISK = 0 ∧ ∀ a : Nat, t.byte a = (u.permMove c).byte a) ∧
    (When.lastPhase s q.toNat 9 false c .recs → u.flatReach c = true → c.sentN 0 ≠ 0 → s.heardFrom q.toNat (u.a2aFrom c .recs) = true →
      ∃ t, exec (.alltoall ⟨q, met⟩) s = .next t ∧ When.collDone t q.toNat ∧ ∀ a : Nat, t.byte a = u.byte a) ∧
    (∀ i x : Nat, s.coll q.toNat = some c → s.awaited c = some (i, x) → c.hub i < 8 →
      ∃ t, exec (.collectiveStall q) s = .next t ∧ (t.run q.toNat).finished = true ∧ stConnection ∈ (t.run q.toNat).st ∧
        (t.run q.toNat).conn = x ∧ smFind t.colls q.toNat = none ∧
        t.fg F.COL_ERR.STALLS (c.hub i) = satAdd F.COL_ERR.STALLS.w (s.fg F.COL_ERR.STALLS (c.hub i)) 1)

/-- A lane that holds the notice of the piece it receives next (R375, R379). -/
abbrev Sys2Proof.When.piece (s : State) (h : Nat) (src tag : Nat) (c : Coll) (p : CPhase) (step : Nat) (ch : Nat × Nat) (j : Nat) (n : Notice) (u : State) :
    Prop :=
  let i := bitsOf tag 0 3
  let l := bitsOf tag 7 2
  (∃ pk, s.colls.find? (fun x => x.2.ready && x.2.ctx == bitsOf tag 3 2 && x.2.lanes[i]? == some h) = some pk ∧ s.coll pk.1 = some c) ∧
  c.now = some p ∧ (c.recvs p i)[c.recvN i]? = some (step, ch, j) ∧ s.takeNotice (c.prevConn l i) tag = some (n, u) ∧ n.src = src ∧
  bitOf tag 10 = false ∧ l ≠ 0 ∧ tag < 2 ^ 11

/-- A landed piece is added into the working buffer, or kept where it landed in an allgather or broadcast; the notice is used up and
counted; `met` is what the code finds in the units read (R268, R375, R377, R382, R384, R396). -/
def Obligations.PiecesAreAddedOrKept : Prop :=
  ∀ (s : State) (h : Fin 8) (src tag : BitVec 16) (met : List (BitVec 42 × Ecc)) (c : Coll) (p : CPhase) (step : Nat) (ch : Nat × Nat) (j : Nat)
    (n : Notice) (v : State),
    When.piece s h.val src.toNat tag.toNat c p step ch j n v →
    (bitOf tag.toNat 9 = true → p = (if c.d.op = 5 then CPhase.bc (bitsOf tag.toNat 7 2) else .ag (bitsOf tag.toNat 7 2)) →
      ∃ t, exec (.pieceAdd h src ⟨tag, met⟩) s = .next t ∧ t.notices = s.notices.erase n ∧
        t.fg F.COL_COUNT.PIECES_RX h.val = satAdd F.COL_COUNT.PIECES_RX.w (s.fg F.COL_COUNT.PIECES_RX h.val) 1 ∧
        ∀ a : Nat, t.byte a = s.byte a) ∧
    (bitOf tag.toNat 9 = false → p = .rs (bitsOf tag.toNat 7 2) → bitsOf tag.toNat 5 2 = c.recvN (bitsOf tag.toNat 0 3) % 4 →
      let w := c.inRun (c.piece ch j)
      let slot := c.slotAddr (bitsOf tag.toNat 0 3) (bitsOf tag.toNat 7 2) (c.recvN (bitsOf tag.toNat 0 3))
      let u := v.collMet c.q (unitList met)
      s.hubWay h.val w.1 w.2 = true →
      ∃ t, exec (.pieceAdd h src ⟨tag, met⟩) s = .next t ∧ t.notices = s.notices.erase n ∧
        t.fg F.COL_COUNT.PIECES_RX h.val = satAdd F.COL_COUNT.PIECES_RX.w (s.fg F.COL_COUNT.PIECES_RX h.val) 1 ∧
        ∀ a : Nat, t.byte a = (if c.d.exact then u.addXpf c h.val slot w.1 w.2
          else u.reduceInto c w.1 (u.bytes slot w.2) (u.movedMarks slot w.1 w.2)).byte a)

/-! ### Links (R313 to R321, R333, R337, R362) -/

/-- Whether a requester's write of a register word is taken: the device answers and the requester reaches the word (R353, R414, R531). -/
abbrev Sys2Proof.When.taken (s : State) (who : Req) (a : Nat) : Prop := s.live = true ∧ s.reaches who a = true

/-- A link that has gone DOWN: it carries nothing, and holds nothing to send (R315, R333). -/
abbrev Sys2Proof.When.linkDown (t : State) (l : Nat) : Prop :=
  t.lg F.FAB_LINK_STATUS.STATE l = 1 ∧ (t.link l).outq = [] ∧ (t.link l).replay = [] ∧ (t.link l).unacked = []

/-- A link that trains at a width (R314, R315). -/
abbrev Sys2Proof.When.linkTrains (t : State) (l width : Nat) : Prop :=
  t.lg F.FAB_LINK_STATUS.STATE l = 2 ∧ (t.link l).tryWidth = width

/-- A link that has entered UP at a width and sent HELLO (R315, R317). -/
abbrev Sys2Proof.When.linkUp (s t : State) (l width : Nat) : Prop :=
  t.lg F.FAB_LINK_STATUS.STATE l = 3 ∧ t.lg F.FAB_LINK_STATUS.WIDTH l = width ∧ (t.link l).retune = false ∧
  Msg.hello l s.devId (s.fb F.FAB_ID.VALID) ∈ t.out

/-- Training, its retry, its success at a width on lanes that work, and its failures; degradation to the next width; a link that fails goes DOWN
(R315, R316, R333). -/
def Obligations.LinksTrainAndGoDown : Prop :=
  ∀ (s : State) (l : Fin 40) (lanes good : BitVec 4) (cause : LaneCause),
    (s.lg F.FAB_LINK_STATUS.STATE l.val = 1 → s.lg F.FAB_LINK_CTL.EN l.val = 1 →
      ∃ t, exec (.linkTrainRetry l) s = .next t ∧ When.linkTrains t l.val (min 2 (s.lg F.FAB_LINK_CTL.MAX_WIDTH l.val))) ∧
    (s.lg F.FAB_LINK_STATUS.STATE l.val = 2 → lanesFit (s.link l.val).tryWidth lanes.toNat = true → (s.link l.val).tryWidth ≤ 2 →
      Nat.land lanes.toNat (s.link l.val).lanesOk = lanes.toNat →
      ∃ t, exec (.linkTrained l true lanes) s = .next t ∧ When.linkUp s t l.val (s.link l.val).tryWidth ∧
        t.lg F.FAB_LINK_STATUS.LANES l.val = lanes.toNat ∧
        t.lg F.FAB_LINK_ERR.DEGRADES l.val = if (s.link l.val).shrinks (s.link l.val).tryWidth = true
          then satAdd F.FAB_LINK_ERR.DEGRADES.w (s.lg F.FAB_LINK_ERR.DEGRADES l.val) 1 else s.lg F.FAB_LINK_ERR.DEGRADES l.val) ∧
    (s.lg F.FAB_LINK_STATUS.STATE l.val = 2 → (s.link l.val).tryWidth < 2 →
      ∃ t, exec (.linkTrained l false lanes) s = .next t ∧ When.linkTrains t l.val ((s.link l.val).tryWidth + 1)) ∧
    (s.lg F.FAB_LINK_STATUS.STATE l.val = 2 → 2 ≤ (s.link l.val).tryWidth →
      ∃ t, exec (.linkTrained l false lanes) s = .next t ∧ When.linkDown t l.val) ∧
    (2 ≤ s.lg F.FAB_LINK_STATUS.STATE l.val → ∃ t, exec (.linkDown l) s = .next t ∧ When.linkDown t l.val) ∧
    (s.linkUp l.val = true → s.lg F.FAB_LINK_STATUS.WIDTH l.val < 2 →
      ∃ t, exec (.laneDegrade l cause good) s = .next t ∧ When.linkTrains t l.val (s.lg F.FAB_LINK_STATUS.WIDTH l.val + 1) ∧
        (t.link l.val).lanesOk = good.toNat ∧ t.lg F.FAB_LINK_ERR.DEGRADES l.val = satAdd F.FAB_LINK_ERR.DEGRADES.w (s.lg F.FAB_LINK_ERR.DEGRADES l.val) 1) ∧
    (s.linkUp l.val = true → 2 ≤ s.lg F.FAB_LINK_STATUS.WIDTH l.val →
      ∃ t, exec (.laneDegrade l cause good) s = .next t ∧ When.linkDown t l.val)

/-- A retune, asked for by either end, by register or not, waits for the output queues; it ends UP at MAX_WIDTH or DOWN. EN = 0 disables
a link; EN = 1 makes a disabled link train (R315, R316, R362). -/
def Obligations.RetunesAndLinkControl : Prop :=
  ∀ (s : State) (who : Req) (l : Fin 40) (v : Word),
    (s.linkUp l.val = true → (s.link l.val).outq = [] → s.resetting (uid 0xA l.val) = false →
      ∃ t, exec (.retuneHandshake l) s = .next t ∧ t.lg F.FAB_LINK_STATUS.STATE l.val = 4 ∧ Msg.retune l.val ∈ t.out) ∧
    (s.linkUp l.val = true → (s.link l.val).outq ≠ [] →
      ∃ t, exec (.retuneHandshake l) s = .next t ∧ t.lg F.FAB_LINK_STATUS.STATE l.val = 3 ∧ (t.link l.val).retune = true) ∧
    (s.lg F.FAB_LINK_STATUS.STATE l.val = 4 → ∃ t, exec (.retuneDone l true) s = .next t ∧
      When.linkUp s t l.val (min 2 (s.lg F.FAB_LINK_CTL.MAX_WIDTH l.val))) ∧
    (s.lg F.FAB_LINK_STATUS.STATE l.val = 4 → ∃ t, exec (.retuneDone l false) s = .next t ∧ When.linkDown t l.val) ∧
    (When.taken s who (linkCtlAddr l.val) → s.linkUp l.val = true → s.lg F.FAB_LINK_CTL.EN l.val = 1 → bitOf v.toNat 0 = true →
      (s.link l.val).outq = [] → s.inReset (linkCtlKey l.val) = false → s.resetting (uid 0xA l.val) = false →
      ∃ t, exec (.retune who l v) s = .next t ∧ t.lg F.FAB_LINK_STATUS.STATE l.val = 4 ∧ Msg.retune l.val ∈ t.out) ∧
    (When.taken s who (linkCtlAddr l.val) → bitOf v.toNat 0 = false → s.lg F.FAB_LINK_STATUS.STATE l.val ≠ 0 →
      s.inReset (linkCtlKey l.val) = false →
      ∃ t, exec (.linkEnable who l v) s = .next t ∧ t.lg F.FAB_LINK_STATUS.STATE l.val = 0 ∧ t.lg F.FAB_LINK_CTL.EN l.val = 0 ∧
        (t.link l.val).outq = []) ∧
    (When.taken s who (linkCtlAddr l.val) → bitOf v.toNat 0 = true → s.lg F.FAB_LINK_STATUS.STATE l.val = 0 → s.lg F.FAB_LINK_CTL.EN l.val = 0 →
      s.inReset (linkCtlKey l.val) = false →
      ∃ t, exec (.linkEnable who l v) s = .next t ∧ t.lg F.FAB_LINK_CTL.EN l.val = 1 ∧
        When.linkTrains t l.val (min 2 (if bitsOf v.toNat 1 2 = 3 then s.lg F.FAB_LINK_CTL.MAX_WIDTH l.val else bitsOf v.toNat 1 2)))

/-- The GSEQ that a group carries (R318). -/
def Sys2Proof.When.gseq (g : FlitGroup) : Nat := bitsOf (gword (flitsIn g.bytes) 0) 0 12

/-- A group is accepted: its words have no error, and it is the one expected next (R319). -/
def Sys2Proof.When.accepted (s : State) (l : Nat) (g : FlitGroup) : Bool :=
  g.fecOk && crcMatches g.bytes && When.gseq g == (s.link l).rxNext

/-- What a group has to say is owed, or a group that says it has been sent (R318, R319). -/
abbrev Sys2Proof.When.told (t : State) (l : Nat) (owes : LinkSt → Prop) : Prop :=
  owes (t.link l) ∨ ∃ (k : LinkSt) (fs : List Flit), owes k ∧ Msg.group l (k.groupBytes fs) ∈ t.out

/-- HELLO names the neighbour; DRAIN is noted for its epoch; a group is accepted and acknowledged; one refused is answered with the GSEQ
accepted last, and answered again when it comes again; while groups are discarded the others are dropped; a
group that a link forms carries a CRC that matches, and its GWORDs are its GSEQ, its ACKSEQ and its NAKSEQ with their valid bits (R317 to R319,
R337). -/
def Obligations.LinkFlitsAreTakenAndFormed : Prop :=
  (∀ (s : State) (l : Fin 40) (g : FlitGroup) (id : BitVec 16) (valid epoch : Bool) (n round : BitVec 6),
    s.linkUp l.val = true →
    (∃ t, exec (.hello l id valid n) s = .next t ∧ t.lg F.FAB_LINK_STATUS.NBR_ID l.val = id.toNat ∧
      t.lg F.FAB_LINK_STATUS.NBR_LINK l.val = n.toNat ∧ t.lg F.FAB_LINK_STATUS.NBR_VALID l.val = b2n valid) ∧
    (s.drain = none → ∃ t, exec (.drain l epoch round) s = .next t ∧
      (t.link l.val).drainRx epoch = max ((s.link l.val).drainRx epoch) round.toNat ∧
      (t.link l.val).drainRx (!epoch) = (s.link l.val).drainRx (!epoch)) ∧
    (When.settled s → When.accepted s l.val g = true → ∃ t, exec (.flitGroup l g) s = .next t ∧
      (t.link l.val).rxNext = ((s.link l.val).rxNext + 1) % 4096 ∧ (t.link l.val).rxBad = false ∧
      When.told t l.val (fun k => k.ackDue = some (s.link l.val).rxNext)) ∧
    (When.settled s → When.accepted s l.val g = false → (s.link l.val).rxBad = false ∨ When.gseq g = (s.link l.val).rxNext →
      ∃ t, exec (.flitGroup l g) s = .next t ∧ (t.link l.val).rxNext = (s.link l.val).rxNext ∧ (t.link l.val).rxBad = true ∧
        t.net = s.net ∧ When.told t l.val (fun k => k.nakDue = some (((s.link l.val).rxNext + 4095) % 4096))) ∧
    (When.settled s → (s.link l.val).rxBad = true → When.gseq g ≠ (s.link l.val).rxNext →
      ∃ t, exec (.flitGroup l g) s = .next t ∧ t.out = s.out ∧ t.net = s.net ∧ t.links = s.links)) ∧
  (∀ (k : LinkSt) (fs : List Flit), fs.length ≤ 4 → (∀ f ∈ fs, f.hdr < 2 ^ 16 ∧ f.data.length = 120) →
    crcMatches (k.groupBytes fs) = true ∧
    gword (flitsIn (k.groupBytes fs)) 0 = k.txNext % 4096 ∧
    (∀ a, k.ackDue = some a → gword (flitsIn (k.groupBytes fs)) 1 = a % 4096 + 2 ^ 15) ∧
    (k.ackDue = none → gword (flitsIn (k.groupBytes fs)) 1 = 0) ∧
    (∀ a, k.nakDue = some a → gword (flitsIn (k.groupBytes fs)) 2 = a % 4096 + 2 ^ 15) ∧
    (k.nakDue = none → gword (flitsIn (k.groupBytes fs)) 2 = 0))

/-! ### Routing (R321 to R332, R348, R351) -/

/-- A packet waits in the router, as `np` (R329). -/
abbrev Sys2Proof.When.inRouter (s : State) (p : Pkt) (l : Option (Fin 40)) (np : NetPkt) : Prop :=
  s.net.find? (fun n => n.p = p ∧ n.src = l.map (·.val)) = some np

/-- A packet is in a link's output queue, or its flits have all left on the link; CE may have been set on it (R321, R348). -/
abbrev Sys2Proof.When.onLink (t : State) (k : Nat) (p : Pkt) : Prop :=
  ∃ c : Bool, (∃ o ∈ (t.link k).outq, o.p = { p with ce := p.ce || c }) ∨ Msg.pkt k (vcOf p) { p with ce := p.ce || c } ∈ t.out

/-- A packet in the router is delivered, dropped and counted, or sent on by the port chosen for it, with one hop less where it came in
on a link; a header error drops it, errors of the payload poison units; a packet not yet in the router enters it first (R325, R329, R332). -/
def Obligations.RoutingSendsPacketsOn : Prop :=
  ∀ (s : State) (p : Pkt) (l : Option (Fin 40)) (np : NetPkt) (f : Fld) (k : Nat) (m : BitVec 64),
    (When.inRouter s p l np → s.fate np = .deliver → ∃ t, exec (.route p l .none) s = .next t ∧ t.arrived = s.arrived ++ [np]) ∧
    (When.inRouter s p l np → s.fate np = .drop f → ∃ t, exec (.route p l .none) s = .next t ∧ t.arrived = s.arrived ∧
      t.fg f = satAdd f.w (s.fg f) 1) ∧
    (When.inRouter s p l np → s.fate np = .port k → s.drain = none → ∃ t, exec (.route p l .none) s = .next t ∧ t.arrived = s.arrived ∧
      t.net = dropFirst s.net np ∧ When.onLink t k (if np.src.isSome then { p with hops := p.hops - 1 } else p)) ∧
    (When.inRouter s p l np → ∃ t, exec (.route p l .header) s = .next t ∧ t.arrived = s.arrived ∧
      t.fg F.FAB_DROP.HDR_ERR = satAdd F.FAB_DROP.HDR_ERR.w (s.fg F.FAB_DROP.HDR_ERR) 1) ∧
    (When.inRouter s p l np → s.fate np = .deliver → ∃ t, exec (.route p l (.payloadUnits m)) s = .next t ∧
      t.arrived = s.arrived ++ [{ np with p := { p with poison := p.poison ||| m } }]) ∧
    (∀ k : Fin 40, l = some k → s.linkUp k.val = true → s.net.find? (fun n => n.p = p ∧ n.src = some k.val) = none → ∀ err : PktErr,
      exec (.route p l err) s = exec (.route p l err)
        { s.modLink k.val (fun x => (List.range (flitsOf p)).foldl (fun y _ => y.flitIn (vcOf p)) x) with
          net := s.net ++ [{ p := p, src := some k.val, vc := vcOf p }] })

/-- A packet with a route and no credit moves to the escape channel of its epoch, on the fallback port alone; every millisecond's update
moves each average occupancy a sixteenth of the way (R327, R351). -/
def Obligations.EscapeAndOccupancy : Prop :=
  ∀ (s : State) (n : Nat) (np : NetPkt),
    (s.net[n]? = some np → s.stuck np = true →
      let q : NetPkt := { np with p := { np.p with esc := true } }
      let s1 : State := { s with net := s.net.set n q }
      (s1.fate q = .wait → ∃ t, exec (.escape n) s = .next t ∧ t = s1) ∧
      (∀ k, s1.fate q = .port k → ∃ t, exec (.escape n) s = .next t ∧ t.net = dropFirst s1.net q ∧
        When.onLink t k (if np.src.isSome then { q.p with hops := q.p.hops - 1 } else q.p))) ∧
    (∃ t, exec .cmapUpdate s = .next t ∧ ∀ (l : Fin 40) (c : Fin 8),
      let avg : Int := (s.lg F.FAB_CMAP.OCC_AVG l.val c.val : Nat)
      let q : Int := ((s.link l.val).occ c.val : Nat)
      (t.lg F.FAB_CMAP.OCC_AVG l.val c.val : Int) = (avg + Int.fdiv (q - avg) 16) % 2 ^ F.FAB_CMAP.OCC_AVG.w)

/-! ### Packets of a connection (R341 to R350) -/

/-- How far a packet's PSN lies beyond the next one expected (R341). -/
def Sys2Proof.When.ahead (s : State) (p : Pkt) : Nat := (p.psn.toNat + 2 ^ 32 - s.fg F.FAB_CONN.RX_EPSN 0 p.dconn.toNat) % 2 ^ 32

/-- A packet of type `n` for this device, from the peer of an OPEN connection, whose target no repair holds and no failed bridge cuts off (R18,
R270, R340, R341). -/
abbrev Sys2Proof.When.ofPeer (s : State) (p : Pkt) (n : Nat) : Prop :=
  p.ptype.toNat = n ∧ p.dst.toNat = s.devId ∧ s.connOpen p.dconn.toNat = true ∧
  p.src.toNat = s.fg F.FAB_CONN.PEER_ID 0 p.dconn.toNat ∧ p.gen.toNat = s.fg F.FAB_CONN.GEN 0 p.dconn.toNat ∧
  s.pktReach (s.hubOf p) p = true

/-- A packet that is applied on arrival, where its connection holds none back, at a target that takes it (R341, R346). -/
abbrev Sys2Proof.When.applied (s : State) (p : Pkt) (n : Nat) : Prop :=
  When.ofPeer s p n ∧ When.ahead s p < 256 ∧ smFind (s.conn p.dconn.toNat).rx p.psn.toNat = none ∧ (s.conn p.dconn.toNat).hold = [] ∧
  (p.ord = true → When.ahead s p = 0) ∧ s.targetOk p = true

/-- The bytes of a packet's payload lie at its address, and no other byte changes. -/
abbrev Sys2Proof.When.landedAt (s t : State) (p : Pkt) : Prop :=
  ∀ a : Nat, t.byte a = if p.addr.toNat ≤ a ∧ a < p.addr.toNat + p.payload.length then p.payload.getD (a - p.addr.toNat) 0 else s.byte a

/-- The bytes that the READ_RESP of one block of a READ_REQ carries: 0 in every unit of the target that a damaged byte lands in (R185, R323,
R325). -/
def Sys2Proof.When.respBytes (s : State) (p : Pkt) (read : ReadErr) (x : Nat × Nat) : List Byte :=
  let a := p.addr.toNat + (x.1 - leNat (p.payload.take 6))
  let seen := s.seenBad ((hitUnit p.addr.toNat (leNat ((p.payload.drop 6).take 2) + 1) read).map (·.1))
  (List.range x.2).map (fun i =>
    if (List.range x.2).any (fun j => (x.1 + j) / 64 == (x.1 + i) / 64 && seen.mark ((a + j) / 64)) then 0 else s.byte (a + i))

/-- Data that come back to a transfer that asked for them wait in it (R180, R323). -/
abbrev Sys2Proof.When.cameBack (t : State) (core : Nat) (x : Xfer) (p : Pkt) : Prop :=
  ∃ y ∈ (t.core core).xfers, y.tag = x.tag ∧
    y.got = x.got ++ [(p.psn.toNat, { addr := p.addr.toNat, bytes := p.payload, pz := poisonUnitsOf p })]

/-- Each sequenced packet is applied as its type says (R341, R342). -/
def Obligations.SequencedPacketsAreApplied : Prop :=
  ∀ (s : State) (p : Pkt) (read : ReadErr),
    (When.applied s p 1 → ∃ t, exec (.write ⟨p, .ok, .none⟩) s = .next t ∧ When.landedAt s t p ∧
      t.notices = s.notices ++ (if p.lastf then [⟨p.src.toNat, p.tag.toNat, p.dconn.toNat, p.addr.toNat + p.payload.length⟩] else [])) ∧
    (When.applied s p 2 → ∃ t, exec (.combine ⟨p, .ok⟩) s = .next t ∧ (∀ a : Nat, t.byte a = s.byte a) ∧
      t.units = (s.queueCombine (leNat (p.payload.take 8)) { addr := p.addr.toNat, bytes := p.payload.drop 8, pz := poisonUnitsOf p }
        (.conn p.dconn.toNat p.psn.toNat)).units) ∧
    (When.applied s p 3 → ∃ t, exec (.readReq ⟨p, .ok, read⟩) s = .next t ∧ (errHit read = none → ∀ a : Nat, t.byte a = s.byte a) ∧
      ((t.conn p.dconn.toNat).tx ++ (t.conn p.dconn.toNat).wait).map (·.p.payload) =
        ((s.conn p.dconn.toNat).tx ++ (s.conn p.dconn.toNat).wait).map (·.p.payload) ++
        (cutBlocks 17 (leNat (p.payload.take 6)) (leNat ((p.payload.drop 6).take 2) + 1)).map (When.respBytes s p read)) ∧
    (When.applied s p 4 → s.awaiting p.dconn.toNat p = none →
      ∃ t, exec (.readResp ⟨p, .ok⟩) s = .next t ∧ When.landedAt s t p ∧ t.notices = s.notices) ∧
    (∀ core x, When.applied s p 4 → s.awaiting p.dconn.toNat p = some (core, x) →
      ∃ t, exec (.readResp ⟨p, .ok⟩) s = .next t ∧ (∀ a : Nat, t.byte a = s.byte a) ∧ When.cameBack t core x p) ∧
    (When.applied s p 5 → bitOf p.tag.toNat 15 = false → errHit read = none → ∃ t, exec (.signal ⟨p, .ok, read⟩) s = .next t ∧ ∀ a : Nat,
      t.byte a = if p.addr.toNat ≤ a ∧ a < p.addr.toNat + 8
        then (leBytes 8 ((s.le p.addr.toNat 8 + leNat (p.payload.take 8)) % 2 ^ 64)).getD (a - p.addr.toNat) 0 else s.byte a) ∧
    (When.applied s p 6 → s.fb F.FAB_CONN.DB 0 p.dconn.toNat = true →
      let q := (p.addr.toNat - bellBase) / 64
      let v := leNat (p.payload.take 8)
      s.fg F.QM_QDESC.STATE q = 1 → v < 2 ^ 32 → q < 65536 →
      0 < (v + 2 ^ 32 - When.pointer s q) % 2 ^ 32 → (v + 2 ^ 32 - When.pointer s q) % 2 ^ 32 < 2 ^ 31 →
      (v + 2 ^ 32 - When.pointer s q) % 2 ^ 32 ≤ When.room s q →
      ∃ t, exec (.doorbellPacket ⟨p, .ok⟩) s = .next t ∧ When.pointer t q = v)

/-- The packet expected next moves ePSN on by one, but for a COMBINE, which counts when its atomic unit has applied it, and for data that a
transfer waits for, which count when they land (R180, R341). -/
def Obligations.TheExpectedPacketMovesTheWindow : Prop :=
  ∀ (s : State) (p : Pkt) (land : LandErr) (read : ReadErr),
    (s.conn p.dconn.toNat).rx = [] → When.ahead s p = 0 →
    let e := (s.fg F.FAB_CONN.RX_EPSN 0 p.dconn.toNat + 1) % 2 ^ 32
    (When.applied s p 1 → ∃ t, exec (.write ⟨p, .ok, land⟩) s = .next t ∧ t.fg F.FAB_CONN.RX_EPSN 0 p.dconn.toNat = e) ∧
    (When.applied s p 2 → ∃ t, exec (.combine ⟨p, .ok⟩) s = .next t ∧
      t.fg F.FAB_CONN.RX_EPSN 0 p.dconn.toNat = s.fg F.FAB_CONN.RX_EPSN 0 p.dconn.toNat) ∧
    (When.applied s p 3 → ∃ t, exec (.readReq ⟨p, .ok, read⟩) s = .next t ∧ t.fg F.FAB_CONN.RX_EPSN 0 p.dconn.toNat = e) ∧
    (When.applied s p 4 → ∃ t, exec (.readResp ⟨p, .ok⟩) s = .next t ∧ t.fg F.FAB_CONN.RX_EPSN 0 p.dconn.toNat =
      if (s.awaiting p.dconn.toNat p).isSome then s.fg F.FAB_CONN.RX_EPSN 0 p.dconn.toNat else e) ∧
    (When.applied s p 5 → bitOf p.tag.toNat 15 = false → ∃ t, exec (.signal ⟨p, .ok, read⟩) s = .next t ∧
      t.fg F.FAB_CONN.RX_EPSN 0 p.dconn.toNat = e) ∧
    (When.applied s p 6 → ∃ t, exec (.doorbellPacket ⟨p, .ok⟩) s = .next t ∧ t.fg F.FAB_CONN.RX_EPSN 0 p.dconn.toNat = e)

/-- A duplicate of a sequenced packet is answered with ePSN and applies nothing (R341). -/
def Obligations.DuplicatesApplyNothing : Prop :=
  ∀ (s : State) (p : Pkt) (land : LandErr) (read : ReadErr) (n : Nat) (c : Instr),
    (n, c) ∈ [(1, Instr.write ⟨p, .ok, land⟩), (2, .combine ⟨p, .ok⟩), (3, .readReq ⟨p, .ok, read⟩),
      (4, .readResp ⟨p, .ok⟩), (5, .signal ⟨p, .ok, read⟩), (6, .doorbellPacket ⟨p, .ok⟩)] →
    When.ofPeer s p n → 2 ^ 31 ≤ When.ahead s p ∨ When.ahead s p < 256 ∧ (smFind (s.conn p.dconn.toNat).rx p.psn.toNat).isSome = true →
    ∃ t, exec c s = .next t ∧ t.mem = s.mem ∧ t.marks = s.marks ∧ t.regs = s.regs ∧ t.units = s.units ∧ t.cores = s.cores ∧
      t.notices = s.notices ∧ ∃ a, t.net = s.net ++ [a] ∧ a.p.ptype = 8 ∧ a.p.psn = BitVec.ofNat 32 (s.fg F.FAB_CONN.RX_EPSN 0 p.dconn.toNat)

/-- An unsequenced packet from the peer of an OPEN connection (R341). -/
abbrev Sys2Proof.When.fromPeer (s : State) (p : Pkt) (n : Nat) : Prop := p.ptype.toNat = n ∧ s.ofConn p = true

/-- The unacknowledged packets of a connection from a PSN on (R345). -/
def Sys2Proof.When.due (s : State) (c psn : Nat) : List TxPkt :=
  (s.conn c).tx.filter (fun t => decide ((t.p.psn.toNat + 2 ^ 32 - psn) % 2 ^ 32 < 2 ^ 31))

/-- No repair holds what the packets from a PSN on are read from again (R270, R345). -/
abbrev Sys2Proof.When.sourcesFree (s : State) (c psn : Nat) : Prop :=
  ∀ x ∈ rereadSpans (When.due s c psn), ∀ g ∈ granulesOf x.1 x.2, s.memHeld g = false

/-- They are sent again: counted in RETX, and in the router once more, each with its data as they now stand in memory and `met` brings them (R345). -/
abbrev Sys2Proof.When.sentAgain (s t : State) (c psn : Nat) (met : List (BitVec 42 × Ecc)) : Prop :=
  t.fg F.FAB_CONN.RETX 0 c = satAdd F.FAB_CONN.RETX.w (s.fg F.FAB_CONN.RETX 0 c) (When.due s c psn).length ∧
  ∃ more : List NetPkt, t.net = s.net ++ more ∧ more.map (·.p.psn) = (When.due s c psn).map (·.p.psn) ∧
    more.map (·.p.payload) = (When.due s c psn).map (fun x => ((s.seenList (unitList met)).reread x).payload)

/-- The connection has entered ERROR (R345). -/
abbrev Sys2Proof.When.failed (t : State) (c cause : Nat) : Prop :=
  t.fg F.FAB_CONN.STATE 0 c = 2 ∧ t.fg F.FAB_CONN.ERR_CAUSE 0 c = cause ∧ (t.conn c).tx = [] ∧ (t.conn c).wait = []

/-- ACK retires every PSN below its own, and a command whose combine met an uncorrectable unit at the target ends UNCORRECTABLE; NAK SEQ has the rest
sent again, NAK TARGET ends the command with REMOTE, NAK CONN ends the connection; CNP cuts the rate (R207, R344, R345, R346, R350). -/
def Obligations.AcknowledgementsAreTaken : Prop :=
  ∀ (s : State) (p : Pkt) (found : List CombFound) (met : List (BitVec 42 × Ecc)),
    let c := p.dconn.toNat
    let below := fun (x : TxPkt) => decide ((p.psn.toNat + 2 ^ 32 - x.p.psn.toNat) % 2 ^ 32 < 2 ^ 31 ∧ x.p.psn.toNat ≠ p.psn.toNat)
    (When.fromPeer s p 8 → ∃ t, exec (.ack ⟨p, .ok, found⟩) s = .next t ∧ (∃ more, (t.conn c).tx = (s.conn c).tx.filter (fun x => !below x) ++ more) ∧
      ∀ x ∈ (s.conn c).tx, ∀ q core tag, below x = true → x.p.ptype = 2 → x.home = .xfer q core tag →
        (∃ f ∈ found, f.psn = x.p.psn ∧ f.lost = true) → stUncorrectable ∈ (t.run q).st) ∧
    (When.fromPeer s p 9 → p.ncode.toNat = 1 → (s.conn c).wait = [] → (∀ x ∈ (s.conn c).tx, x.sends ≤ s.fg F.FAB_E2E.RETRY_MAX) →
      When.sourcesFree s c p.psn.toNat → ∃ t, exec (.nak ⟨p, .ok, met⟩) s = .next t ∧ When.sentAgain s t c p.psn.toNat met) ∧
    (When.fromPeer s p 9 → p.ncode.toNat = 2 → ∀ (x : TxPkt) (q core tag : Nat),
      (s.conn c).tx.find? (fun x => x.p.psn.toNat == p.psn.toNat) = some x →
      x.home = .xfer q core tag ∨ x.home = .coll q tag → ∃ t, exec (.nak ⟨p, .ok, met⟩) s = .next t ∧ (t.run q).remote = true ∧
        stDescError ∈ (t.run q).st) ∧
    (When.fromPeer s p 9 → p.ncode.toNat = 3 → ∃ t, exec (.nak ⟨p, .ok, met⟩) s = .next t ∧ When.failed t c 2) ∧
    (When.fromPeer s p 10 → ∃ t, exec (.cnp ⟨p, .ok⟩) s = .next t ∧
      t.fg F.FAB_CONN.CNP_RX 0 c = satAdd F.FAB_CONN.CNP_RX.w (s.fg F.FAB_CONN.CNP_RX 0 c) 1 ∧
      (s.fb F.FAB_CC.CC_EN = true → (s.conn c).cutAt = none →
        let r := s.fg F.FAB_CONN.RATE 0 c
        t.fg F.FAB_CONN.RATE 0 c = max (s.fg F.FAB_CC.RATE_MIN) (r - r * s.fg F.FAB_CC.BETA / 256)))

/-- The timers of a connection: an acknowledgement that is due, a gap that stays, no progress, and the increase of the rate (R344, R345,
R350). -/
def Obligations.ConnectionTimersFire : Prop :=
  ∀ (s : State) (c : BitVec 12) (met : List (BitVec 42 × Ecc)),
    s.connOpen c.toNat = true →
    let k := s.conn c.toNat
    let r := s.fg F.FAB_CONN.RATE 0 c.toNat
    (0 < k.arrived → ∃ t, exec (.ackDelayUs c) s = .next t ∧ (t.conn c.toNat).arrived = 0 ∧
      ∃ a, t.net = s.net ++ [a] ∧ a.p.ptype = 8 ∧ a.p.psn = BitVec.ofNat 32 (s.fg F.FAB_CONN.RX_EPSN 0 c.toNat)) ∧
    (k.gap = true → ∃ t, exec (.gapUs c) s = .next t ∧
      ∃ a, t.net = s.net ++ [a] ∧ a.p.ptype = 9 ∧ a.p.ncode = 1 ∧ a.p.psn = BitVec.ofNat 32 (s.fg F.FAB_CONN.RX_EPSN 0 c.toNat)) ∧
    (∀ (x : TxPkt) (xs : List TxPkt), k.tx = x :: xs → (∀ y ∈ k.tx, y.sends ≤ s.fg F.FAB_E2E.RETRY_MAX) →
      When.sourcesFree s c.toNat x.p.psn.toNat → ∃ t, exec (.rtoUs ⟨c, met⟩) s = .next t ∧ When.sentAgain s t c.toNat x.p.psn.toNat met) ∧
    (∀ (x : TxPkt) (xs : List TxPkt), k.tx = x :: xs → s.fg F.FAB_E2E.RETRY_MAX < x.sends →
      ∃ t, exec (.rtoUs ⟨c, met⟩) s = .next t ∧ When.failed t c.toNat 1) ∧
    (s.fb F.FAB_CC.CC_EN = true → k.steps < s.fg F.FAB_CC.FAST_STEPS → k.rt ≤ 1000 →
      ∃ t, exec (.incUs c) s = .next t ∧ t.fg F.FAB_CONN.RATE 0 c.toNat = (r + k.rt) / 2 ∧ (t.conn c.toNat).steps = k.steps + 1) ∧
    (s.fb F.FAB_CC.CC_EN = true → s.fg F.FAB_CC.FAST_STEPS ≤ k.steps →
      ∃ t, exec (.incUs c) s = .next t ∧ t.fg F.FAB_CONN.RATE 0 c.toNat = min 1000 (r + s.fg F.FAB_CC.AI) ∧ (t.conn c.toNat).steps = k.steps + 1)

/-! ### Routing epochs, routing tables and connection entries (R334 to R340, R354, R357, R361, R363) -/

/-- Seal and clear change the state of a bank that allows it, and say REFUSED of one that does not; a switch starts the first epoch, or
moves to the other bank (R334, R336, R354, R357). -/
def Obligations.BanksAreSealedSwitchedAndCleared : Prop :=
  ∀ (s : State) (who : Req) (v : Word) (b : Bool),
    When.taken s who epochAddr →
    (bitOf v.toNat (11 + b2n b) = true → bitOf v.toNat (11 + b2n !b) = false →
      (s.bank b = 0 → ∃ t, exec (.seal who v) s = .next t ∧ t.bank b = 1 ∧ t.bank (!b) = s.bank (!b) ∧
        (if b then t.fg F.FAB_BANK_CRC.CRC1 else t.fg F.FAB_BANK_CRC.CRC0) = s.bankCrc (b2n b) % 2 ^ 32) ∧
      (s.bank b ≠ 0 → ∃ t, exec (.seal who v) s = .next t ∧ t.bank b = s.bank b ∧ t.fg F.FAB_EPOCH.REFUSED = 1) ∧
      (s.bank b = 1 → ∃ t, exec (.clear who v) s = .next t ∧ t.bank b = 0 ∧ t.bank (!b) = s.bank (!b)) ∧
      (s.bank b ≠ 1 → ∃ t, exec (.clear who v) s = .next t ∧ t.bank b = s.bank b ∧ t.fg F.FAB_EPOCH.REFUSED = 1)) ∧
    (bitOf v.toNat 11 = false → bitOf v.toNat 12 = false →
      (s.bank s.cur = 1 → s.bank (!s.cur) < 2 → ∃ t, exec (.switch who v) s = .next t ∧ t.bank s.cur = 2 ∧ t.cur = s.cur) ∧
      (s.bank s.cur = 2 → s.bank (!s.cur) = 1 → s.drain = none → ∃ t, exec (.switch who v) s = .next t ∧
        t.cur = (!s.cur) ∧ t.bank (!s.cur) = 2 ∧ t.bank s.cur ≠ 2))

/-- A routing-table entry of a FREE bank takes the write; another bank refuses it (R334, R361). A connection entry opens with its PSNs at
0 and its full rate; one that closes holds nothing more in flight (R340, R363). -/
def Obligations.RoutingTablesAndConnectionEntries : Prop :=
  ∀ (s : State) (who : Req) (bank : Bool) (n : BitVec 8) (c : BitVec 12) (v : Word),
    (When.taken s who (⟨.FAB_ROUTE_MEMBER, 0, b2n bank, n.toNat⟩ : RegKey).addr → s.bank bank = 0 →
      ∃ t, exec (.routeTableWrite who true bank n v) s = .next t ∧ t.fg F.FAB_ROUTE_MEMBER.CAND 0 (b2n bank) n.toNat = bitsOf v.toNat 0 40 ∧
        t.fg F.FAB_ROUTE_MEMBER.FALLBACK 0 (b2n bank) n.toNat = bitsOf v.toNat 40 6) ∧
    (When.taken s who (⟨.FAB_ROUTE_GROUP, 0, b2n bank, n.toNat⟩ : RegKey).addr → s.bank bank = 0 →
      ∃ t, exec (.routeTableWrite who false bank n v) s = .next t ∧ t.fg F.FAB_ROUTE_GROUP.CAND 0 (b2n bank) n.toNat = bitsOf v.toNat 0 40 ∧
        t.fg F.FAB_ROUTE_GROUP.FALLBACK 0 (b2n bank) n.toNat = bitsOf v.toNat 40 6) ∧
    (When.taken s who (⟨.FAB_ROUTE_GROUP, 0, b2n bank, n.toNat⟩ : RegKey).addr → s.bank bank ≠ 0 →
      ∃ t, exec (.routeTableWrite who false bank n v) s = .next t ∧ t.fg F.FAB_EPOCH.REFUSED = 1 ∧
        t.rd ⟨.FAB_ROUTE_GROUP, 0, b2n bank, n.toNat⟩ = s.rd ⟨.FAB_ROUTE_GROUP, 0, b2n bank, n.toNat⟩) ∧
    (When.taken s who (connAddr c.toNat) → s.fb F.FAB_CONN.EN 0 c.toNat = false →
      ∃ t, exec (.connectionOpen who c v) s = .next t ∧ t.connOpen c.toNat = true ∧ t.fg F.FAB_CONN.EN 0 c.toNat = 1 ∧
        t.fg F.FAB_CONN.PEER_ID 0 c.toNat = bitsOf v.toNat 11 16 ∧ t.fg F.FAB_CONN.PEER_CONN 0 c.toNat = bitsOf v.toNat 27 12 ∧
        t.fg F.FAB_CONN.GEN 0 c.toNat = bitsOf v.toNat 7 4 ∧ t.fg F.FAB_CONN.TX_PSN 0 c.toNat = 0 ∧ t.fg F.FAB_CONN.RX_EPSN 0 c.toNat = 0 ∧
        t.fg F.FAB_CONN.RATE 0 c.toNat = 1000 ∧ t.conn c.toNat = {}) ∧
    (When.taken s who (connAddr c.toNat) → s.fb F.FAB_CONN.EN 0 c.toNat = true →
      ∃ t, exec (.connectionClose who c v) s = .next t ∧ t.fg F.FAB_CONN.STATE 0 c.toNat = 0 ∧ t.fg F.FAB_CONN.EN 0 c.toNat = 0 ∧
        t.conn c.toNat = {})


/-! ### Management packets, source routing and the spires (R352 to R354) -/

/-- A MGMT packet of an operation is for this device, which answers (R353). -/
abbrev Sys2Proof.When.mgmtHere (s : State) (p : Pkt) (op : Nat) : Prop :=
  s.live = true ∧ p.ptype = 12 ∧ p.dst.toNat = s.devId ∧ p.payload.length = 16 ∧ mgmtOp p = op

/-- A response to a request waits to be routed: to its sender, with this device's term, a status and a value (R353). -/
abbrev Sys2Proof.When.answered (t : State) (p : Pkt) (term status value : Nat) : Prop :=
  ∃ n ∈ t.net, n.p.dst = p.src ∧ n.p.ptype = p.ptype ∧ n.p.addr = p.addr ∧ n.p.tag = BitVec.ofNat 16 term ∧ mgmtOp n.p = 2 ∧
    mgmtStatus n.p = status ∧ mgmtValue n.p = value % 2 ^ 64

/-- A request that R353 accepts is answered with status 0, and for a read with the register's value; one that it does not accept is answered
with the reason, counted, and changes no term. A refusal with a term above the one it acts in stops a former spire; a heartbeat of a
spire ends the count of those missed (R353, R354). -/
def Obligations.ManagementPacketsAreAnswered : Prop :=
  ∀ (s : State) (p : Pkt),
    (When.mgmtHere s p 0 → s.mgmtRefused p = none → p.addr.toNat % 8 = 0 → ∀ k : RegKey, keyOf p.addr.toNat = some k →
      ∃ t, exec (.mgmtRead p) s = .next t ∧ When.answered t p p.tag.toNat 0 ((s.fs F.FAB_ID.TERM p.tag.toNat).readWord k).toNat) ∧
    (When.mgmtHere s p 0 → ∀ why, s.mgmtRefused p = some why →
      ∃ t, exec (.mgmtRead p) s = .next t ∧ When.answered t p (s.fg F.FAB_ID.TERM) why 0 ∧ t.fg F.FAB_ID.TERM = s.fg F.FAB_ID.TERM ∧
        t.fg F.FAB_RX.MGMT_REFUSED = satAdd F.FAB_RX.MGMT_REFUSED.w (s.fg F.FAB_RX.MGMT_REFUSED) 1) ∧
    (When.mgmtHere s p 1 → s.mgmtRefused p = none → p.addr.toNat % 8 = 0 → ∀ k : RegKey, keyOf p.addr.toNat = some k →
      ∃ t, exec (.mgmtWrite p) s = .next t ∧ When.answered t p (t.fg F.FAB_ID.TERM) 0 0 ∧
        (k.name = .FAB_CTL → k.i = 0 → t.fg F.FAB_CTL.HOP_LIMIT = bitsOf (mgmtValue p) 0 5 ∧ t.fg F.FAB_ID.TERM = p.tag.toNat)) ∧
    (When.mgmtHere s p 1 → ∀ why, s.mgmtRefused p = some why →
      ∃ t, exec (.mgmtWrite p) s = .next t ∧ When.answered t p (s.fg F.FAB_ID.TERM) why 0) ∧
    (When.mgmtHere s p 2 → ∃ t, exec (.mgmtResponse p) s = .next t ∧ t.termSeen = max s.termSeen p.tag.toNat ∧
      t.fg F.FAB_SPIRE.ACTIVE = if mgmtStatus p ≠ 0 ∧ s.spireTerm < p.tag.toNat then 0 else s.fg F.FAB_SPIRE.ACTIVE) ∧
    (When.mgmtHere s p 3 → (p.src.toNat = s.fg F.FAB_SPIRE.PRIMARY ∨ p.src.toNat = s.fg F.FAB_SPIRE.STANDBY) →
      ∃ t, exec (.heartbeat p) s = .next t ∧ t.hbMissed = 0 ∧ t.hbSeen = true ∧ t.termSeen = max s.termSeen p.tag.toNat)

/-- A source-routed packet goes out of the next link of its list; one at the end of its list is taken, and its answer travels the list
back. An active spire sends heartbeats to the other spire, in its term; a standby that misses HB_MISS of them takes over, in a term above every one
it has seen, and asks each device for its FAB_EPOCH (R353, R354). -/
def Obligations.SourceRoutesAndSpires : Prop :=
  ∀ (s : State) (p : Pkt) (epochs : List EpochAt) (overwrite : Bool),
    (s.live = true → p.ptype = 13 → 1 ≤ routeLen p → routeLen p ≤ 30 → p.payload.length = 48 → routePos p < routeLen p →
      (p.hops ≠ 0 ∨ (s.arrivedAs p).src = none) → ∀ l : Fin 40, routePort p = l.val → s.linkUp l.val = true → s.srReach p = true →
      ∃ t, exec (.mgmtSr p) s = .next t ∧
        When.onLink t l.val
          { p with hops := (if (s.arrivedAs p).src = none then p.hops else p.hops - 1), payload := BitVec.ofNat 8 (routePos p + 1) :: p.payload.drop 1 }) ∧
    (s.live = true → p.ptype = 13 → 1 ≤ routeLen p → routeLen p ≤ 30 → p.payload.length = 48 → routeLen p ≤ routePos p → mgmtOp p = 0 →
      s.mgmtRefused p = none → p.addr.toNat % 8 = 0 → ∀ k : RegKey, keyOf p.addr.toNat = some k →
      ∃ t, exec (.mgmtSr p) s = .next t ∧ When.answered t p p.tag.toNat 0 ((s.fs F.FAB_ID.TERM p.tag.toNat).readWord k).toNat ∧
        ∃ n ∈ t.net, n.p.dst = p.src ∧ routePos n.p = 0 ∧ routePorts n.p = (routePorts p).reverse) ∧
    (s.live = true → s.fb F.FAB_SPIRE.ACTIVE = true → ∃ t, exec .heartbeatSend s = .next t ∧ ∃ n ∈ t.net, mgmtOp n.p = 3 ∧ n.p.ptype = 12 ∧
      n.p.tag = BitVec.ofNat 16 s.spireTerm ∧
      n.p.dst.toNat = (if s.devId = s.fg F.FAB_SPIRE.STANDBY then s.fg F.FAB_SPIRE.PRIMARY else s.fg F.FAB_SPIRE.STANDBY)) ∧
    (s.live = true → s.fg F.FAB_ID.ROLE = 2 → s.fb F.FAB_SPIRE.ACTIVE = false → s.fg F.FAB_SPIRE.HB_MISS ≤ s.hbMissed →
      ∃ t, exec (.spireTakeover epochs overwrite) s = .next t ∧ t.fg F.FAB_SPIRE.ACTIVE = 1 ∧ t.termSeen = s.newTerm ∧ t.spireTerm = s.newTerm ∧
        ∀ e ∈ epochs, ∃ n ∈ t.net, n.p.dst = e.dev ∧ n.p.ptype = 12 ∧ mgmtOp n.p = 0 ∧ n.p.addr.toNat = epochAddr ∧
          n.p.tag = BitVec.ofNat 16 s.newTerm)


/-! ### Host sessions (R404 to R411) -/

/-- A port's handshakes are within their rate and number (R407). -/
abbrev Sys2Proof.When.mayShake (s : State) (p : Nat) : Prop := s.portTakes p = true ∧ s.hsFull p = false

/-- A sealed session-control message of the host has its header (R404) and passes the checks of R409 under the current phase. -/
abbrev Sys2Proof.When.sealedOk (s : State) (n : Nat) (m : CtlMsg) (len : Nat) (tagOk : Bool) : Prop :=
  s.portTakes (n / 512) = true ∧ m.version = 1 ∧ m.length.toNat = len ∧ s.sessOpen n = true ∧ tagOk = true ∧
    (s.ses n).rx.refuses m.ctr.toNat = false

/-- A message to a host is sent: on a port, of a session, with its fields and bytes, in a frame to a MAC address with ECT(0) (R403, R404). -/
abbrev Sys2Proof.When.sent (t : State) (mac port sess kind : Nat) (fields : List Nat) (bytes : List Byte) : Prop :=
  ∃ fr : EthTx, fr.dstMac = mac ∧ fr.ecn = 2 ∧ Msg.host port sess kind fields bytes fr ∈ t.out

/-- A slot that holds no session (R404, R405, R411). -/
abbrev Sys2Proof.When.slotFree (t : State) (n : Nat) : Prop := t.sg F.ETH_SESS.STATE n = 0 ∧ t.sg F.ETH_SESS.IDENTITY n = 0

/-- INIT takes the lowest free slot and is answered, or rejected with its reason, or dropped and counted; FINISH opens the session under
the identity of its key, at the port's full rate and with the keys derived, its handshake erased, or frees the slot; a handshake that takes
too long ends; certificates are sent (R404 to R407). -/
def Obligations.HandshakesOpenSessions : Prop :=
  ∀ (s : State) (p : Fin 8) (m : InitMsg) (n : BitVec 12) (f : FinishMsg) (ok : Bool) (c : CertAsk) (len : BitVec 16) (mac : BitVec 48),
    (When.mayShake s p.val → s.inHandshake p.val < 8 → s.initFault m = none → s.freeSess p.val = some n.toNat →
      ∃ t, exec (.init p m) s = .next t ∧ t.sg F.ETH_SESS.STATE n.toNat = 1 ∧ t.sg F.ETH_SESS.REMOTE_QPN n.toNat = m.hqpn.toNat ∧
        t.sg F.ETH_SESS.PMTU n.toNat = min m.mtu.toNat (s.fg F.ETH_CTL.MTU p.val) ∧ (t.ses n.toNat).ePsn = m.hpsn.toNat ∧
        (∃ hs, (t.ses n.toNat).hs = some hs ∧ hs.qh = beBytes 97 m.qh.toNat) ∧
        ∃ bs, When.sent t m.srcMac.toNat p.val n.toNat kReply [0x100 + n.toNat, (t.ses n.toNat).dPsn, (t.ses n.toNat).rkey] bs) ∧
    (When.mayShake s p.val → s.inHandshake p.val < 8 → ∀ why, s.initFault m = some why →
      ∃ t, exec (.init p m) s = .next t ∧ When.sent t m.srcMac.toNat p.val 0xFFFF kReject [why] [] ∧ t.regs = s.regs) ∧
    (When.mayShake s p.val → s.inHandshake p.val < 8 → s.initFault m = none → s.freeSess p.val = none →
      ∃ t, exec (.init p m) s = .next t ∧ When.sent t m.srcMac.toNat p.val 0xFFFF kReject [3] [] ∧ t.regs = s.regs) ∧
    (s.portTakes p.val = true → (s.hsFull p.val = true ∨ 8 ≤ s.inHandshake p.val) →
      ∃ t, exec (.init p m) s = .next t ∧ t.fg F.ETH_SEAL.HS_LIMITED p.val = satAdd F.ETH_SEAL.HS_LIMITED.w (s.fg F.ETH_SEAL.HS_LIMITED p.val) 1) ∧
    (s.sg F.ETH_SESS.STATE n.toNat = 1 → s.portTakes (n.toNat / 512) = true → f.version = 1 → f.length = 120 →
      s.finishOk n.toNat f ok = true → ∃ t, exec (.finish n f ok) s = .next t ∧ t.sg F.ETH_SESS.STATE n.toNat = 2 ∧
        t.sg F.ETH_SESS.IDENTITY n.toNat = s.fg F.MGT_HOSTKEY.IDENTITY (s.ses n.toNat).keyidx ∧
        t.sg F.ETH_SESS.RATE n.toNat = ethCeiling (s.fg F.ETH_STATUS.RATE (n.toNat / 512)) ∧
        (t.ses n.toNat).hs = none ∧ ∀ hs, (s.ses n.toNat).hs = some hs → (t.ses n.toNat).keys = hs.keys n.toNat f) ∧
    (s.sg F.ETH_SESS.STATE n.toNat = 1 → s.portTakes (n.toNat / 512) = true → f.version = 1 → f.length = 120 →
      s.finishOk n.toNat f ok = false → ∃ t, exec (.finish n f ok) s = .next t ∧ When.slotFree t n.toNat ∧
        (s.hsFull (n.toNat / 512) = false → When.sent t (s.ses n.toNat).srcMac (n.toNat / 512) n.toNat kReject [2] [])) ∧
    (s.sg F.ETH_SESS.STATE n.toNat = 1 → s.portTakes (n.toNat / 512) = true → (f.version ≠ 1 ∨ f.length ≠ 120) →
      ∃ t, exec (.finish n f ok) s = .next t ∧ When.slotFree t n.toNat ∧
        (s.hsFull (n.toNat / 512) = false → When.sent t (s.ses n.toNat).srcMac (n.toNat / 512) n.toNat kReject [4] [])) ∧
    (s.sg F.ETH_SESS.STATE n.toNat = 1 → ∃ t, exec (.handshakeTimeout n) s = .next t ∧ When.slotFree t n.toNat) ∧
    (When.mayShake s p.val → c.version = 1 → c.length = 14 → len.toNat ≤ 1024 → c.offset.toNat + len.toNat ≤ s.mg.flash.chain.length →
      ∃ t, exec (.certReq p c len mac) s = .next t ∧
        When.sent t mac.toNat p.val 0xFFFF kCert [c.offset.toNat, len.toNat] ((s.mg.flash.chain.drop c.offset.toNat).take len.toNat)) ∧
    (When.mayShake s p.val → (c.version ≠ 1 ∨ c.length ≠ 14 ∨ 1024 < len.toNat) → ∃ t, exec (.certReq p c len mac) s = .next t ∧
      When.sent t mac.toNat p.val 0xFFFF kReject [4] [])

/-- REKEY is acknowledged under the old phase; then the phase turns, the next keys are derived, CTR restarts in each direction, and the old
phase's keys and window are kept until they expire; CLOSE, and a register's CLOSE, free the slot (R410, R411, R427). -/
def Obligations.SessionsRekeyAndClose : Prop :=
  ∀ (s : State) (who : Req) (n : BitVec 12) (m : CtlMsg) (tagOk : Bool) (v : Word),
    (When.sealedOk s n.toNat m 30 tagOk → s.sg F.ETH_SESS.TX_CTR n.toNat + 2 < 2 ^ 48 →
      ∃ t, exec (.rekey n m tagOk) s = .next t ∧ t.sg F.ETH_SESS.KPHASE n.toNat = 1 - s.sg F.ETH_SESS.KPHASE n.toNat ∧
        t.sg F.ETH_SESS.TX_CTR n.toNat = 0 ∧ t.sg F.ETH_SESS.REKEY_DUE n.toNat = 0 ∧ (t.ses n.toNat).rx = {} ∧
        (t.ses n.toNat).old = some ((s.ses n.toNat).rx.mark m.ctr.toNat) ∧ (t.ses n.toNat).keys = (s.ses n.toNat).keys.next ∧
        (t.ses n.toNat).oldKeys = some (s.ses n.toNat).keys ∧
        When.sent t (s.ses n.toNat).srcMac (n.toNat / 512) n.toNat kRekeyAck
          [s.sg F.ETH_SESS.TX_CTR n.toNat + 1, s.sg F.ETH_SESS.KPHASE n.toNat, 1] []) ∧
    ((s.ses n.toNat).newSeen = true → ∃ t, exec (.oldPhaseExpiry n) s = .next t ∧ (t.ses n.toNat).old = none ∧
      (t.ses n.toNat).oldKeys = none) ∧
    (When.sealedOk s n.toNat m 31 tagOk → ∃ t, exec (.close n m tagOk) s = .next t ∧ When.slotFree t n.toNat) ∧
    (When.taken s who (sessAddr n.toNat) → s.inReset (sessKey n.toNat) = false → bitOf v.toNat 36 = true → s.sessOpen n.toNat = true →
      ∃ t, exec (.sessionClose who n v) s = .next t ∧ When.slotFree t n.toNat)


/-! ### RDMA of host sessions (R412 to R419) -/

/-- A RoCEv2 packet passes the checks of R409 under the current phase of session k of its port, and carries no congestion mark. -/
abbrev Sys2Proof.When.roceOk (s : State) (port : Nat) (p : Roce) (k : Nat) : Prop :=
  s.portTakes port = true ∧ qpnSess p.destqp.toNat = some k ∧ k / 512 = port ∧ s.sessOpen k = true ∧ s.sg F.ETH_SESS.KPHASE k = b2n p.kphase ∧
    p.icrcOk = true ∧ p.tagOk = true ∧ (s.ses k).rx.refuses p.ctr.toNat = false ∧ p.ce = false ∧ p.pkey = 0xFFFF

/-- It is the request the session expects next, and no message is in progress (R413). -/
abbrev Sys2Proof.When.expected (s : State) (p : Roce) (k : Nat) : Prop := (s.ses k).ePsn = p.psn.toNat ∧ (s.ses k).msg = none

/-- The session's counter is far from its end, so that what it sends does not close it (R410). -/
abbrev Sys2Proof.When.ctrLow (s : State) (k : Nat) : Prop := s.sg F.ETH_SESS.TX_CTR k + 2 ^ 25 < 2 ^ 48

/-- A range of HBM4 that the session of the owner reaches: no bridge is down on the way and no repair holds it (R18, R270, R414). -/
abbrev Sys2Proof.When.ownBytes (s : State) (port k a n : Nat) : Prop :=
  s.ownerSess k = true ∧ 0 < n ∧ a + n ≤ fwBase ∧ s.hostWay port a n = true

/-- A SEND from the owner writes commands into their ring and counts as applied; a WRITE of one packet stores its bytes; a READ answers
with the bytes there; an acknowledgement releases what it covers, and a NAK that ends the session frees it; a timeout sends again; a CNP
cuts the rate (R412 to R417, R419). -/
def Obligations.HostRequestsAreApplied : Prop :=
  ∀ (s : State) (port : Fin 8) (p : Roce) (k : Nat) (n : BitVec 12) (land : LandErr),
    (p.opcode = 4 → When.roceOk s port.val p k → When.expected s p k → When.ctrLow s k → s.ownerSess k = true → ∀ q : BitVec 16,
      s.qOn q.toNat qCommand = true → 0 < s.ringSize q.toNat - s.ringHeld q.toNat → 72 ≤ s.pmtu k →
      s.hostWay port.val (s.ringAddr q.toNat (s.fg F.QM_QDESC.TAIL q.toNat)) 64 = true →
      ∀ cmd : List Byte, cmd.length = 64 → p.payload = leBytes 2 q.toNat ++ leBytes 2 1 ++ leBytes 4 0 ++ cmd →
      ∃ t, exec (.sendOnly port ⟨p, .none⟩) s = .next t ∧ t.fg F.QM_QDESC.TAIL q.toNat = (s.fg F.QM_QDESC.TAIL q.toNat + 1) % 2 ^ 32 ∧
        (t.ses k).ePsn = (p.psn.toNat + 1) % 2 ^ 24 ∧
        ∀ i b, cmd[i]? = some b → t.byte (s.ringAddr q.toNat (s.fg F.QM_QDESC.TAIL q.toNat) + i) = b) ∧
    (p.opcode = 4 → When.roceOk s port.val p k → When.expected s p k → When.ctrLow s k → s.ownerSess k = false →
      ∃ t, exec (.sendOnly port ⟨p, land⟩) s = .next t ∧ (t.ses k).ePsn = (p.psn.toNat + 1) % 2 ^ 24 ∧ ∀ a, t.byte a = s.byte a) ∧
    (p.opcode = 0x0A → When.roceOk s port.val p k → When.expected s p k → When.ctrLow s k → When.ownBytes s port.val k p.va.toNat p.payload.length →
      p.payload.length = p.dmalen.toNat → p.payload.length ≤ s.pmtu k → p.rkey.toNat = (s.ses k).rkey → p.poison = 0 →
      ∃ t, exec (.rdmaWrite port ⟨p, .none⟩) s = .next t ∧ (∀ i b, p.payload[i]? = some b → t.byte (p.va.toNat + i) = b) ∧
        (t.ses k).ePsn = (p.psn.toNat + 1) % 2 ^ 24 ∧ (∀ a, a < p.va.toNat ∨ p.va.toNat + p.payload.length ≤ a → t.byte a = s.byte a)) ∧
    (p.opcode = 0x0C → When.roceOk s port.val p k → When.expected s p k → When.ctrLow s k → s.fb F.ETH_STATUS.PAUSED port.val = false →
      When.ownBytes s port.val k p.va.toNat p.dmalen.toNat → p.dmalen.toNat ≤ s.pmtu k → p.rkey.toNat = (s.ses k).rkey → p.payload = [] →
        s.readsOut k < 16 →
      ∃ t, exec (.rdmaRead port ⟨p, []⟩) s = .next t ∧ (t.ses k).ePsn = (p.psn.toNat + 1) % 2 ^ 24 ∧
        ∃ fields, When.sent t (s.ses k).srcMac port.val k 0x110 fields (s.bytes p.va.toNat p.dmalen.toNat)) ∧
    (p.opcode = 0x11 → When.roceOk s port.val p k → p.syndrome.toNat < 32 → ∃ t, exec (.acknowledge port p) s = .next t ∧
      (t.ses k).tx = (s.ses k).tx.filter (fun x => 2 ^ 23 ≤ (p.psn.toNat + 2 ^ 24 - x.psn) % 2 ^ 24)) ∧
    (p.opcode = 0x11 → When.roceOk s port.val p k → p.syndrome.toNat / 32 = 3 → p.syndrome.toNat ≠ synSeq →
      ∃ t, exec (.acknowledge port p) s = .next t ∧ t.sg F.ETH_SESS.STATE k = 0) ∧
    (p.opcode = 0x81 → When.roceOk s port.val p k → s.ccField port.val F.FAB_CC.CC_EN ≠ 0 → (s.ses k).cutAt = none →
      ∃ t, exec (.roceCnp port p) s = .next t ∧ (t.ses k).cutAt = some s.us ∧ (t.ses k).rt = s.sg F.ETH_SESS.RATE k ∧
        t.sg F.ETH_SESS.RATE k = min (max (s.ccField port.val F.FAB_CC.RATE_MIN)
          (s.sg F.ETH_SESS.RATE k - s.sg F.ETH_SESS.RATE k * s.ccField port.val F.FAB_CC.BETA / 256))
          (ethCeiling (s.fg F.ETH_STATUS.RATE port.val))) ∧
    (s.sessOpen n.toNat = true → s.portUp (n.toNat / 512) = true → (∃ x ∈ (s.ses n.toNat).tx, 7 ≤ x.tries) →
      ∃ t, exec (.ackTimeout n) s = .next t ∧ t.sg F.ETH_SESS.STATE n.toNat = 0) ∧
    (s.sessOpen n.toNat = true → s.portUp (n.toNat / 512) = true → (∀ x ∈ (s.ses n.toNat).tx, x.tries < 7) → ∀ x ∈ (s.ses n.toNat).tx,
      (s.ses n.toNat).tx = [x] → When.ctrLow s n.toNat → s.fb F.ETH_STATUS.PAUSED (n.toNat / 512) = false →
      ∃ t, exec (.ackTimeout n) s = .next t ∧ (t.ses n.toNat).tx = [{ x with tries := x.tries + 1 }] ∧
        ∃ c, When.sent t (s.ses n.toNat).srcMac (n.toNat / 512) n.toNat 0x10A
          [c, s.sg F.ETH_SESS.KPHASE n.toNat, x.psn, x.va, x.bytes.length] x.bytes)


/-! ### Frames and links of the host ports (R401 to R403, R420 to R422) -/

/-- A frame passes the first checks of a port (R403). -/
abbrev Sys2Proof.When.frameOk (s : State) (p : Nat) (h : FrameHdr) : Prop :=
  s.portTakes p = true ∧ h.fcsOk = true ∧ h.length ≤ 4352 ∧
    (match h.vid with
    | some v => if s.fb F.ETH_CTL.VLAN_EN p then v.toNat = s.fg F.ETH_CTL.VID p else v = 0
    | none => s.fb F.ETH_CTL.VLAN_EN p = false)

/-- ARP, neighbour and echo requests for the port's own addresses are answered; a PFC pause is counted and pauses the port's priority until
it expires, when what it held back goes out; other frames are dropped and counted by their reason (R403, R420). -/
def Obligations.FramesAreAnsweredOrCounted : Prop :=
  ∀ (s : State) (p : Fin 8) (h : FrameHdr) (a4 : BitVec 32) (a6 : BitVec 128) (v6 : Bool) (prios : BitVec 8) (k : FrameKind),
    (When.frameOk s p.val h → a4 ≠ 0 → a4.toNat = s.fg F.ETH_IP4.ADDR p.val → ∃ t, exec (.arpRequest p h a4) s = .next t ∧
      Msg.net p.val 1 (leBytes 6 (s.fg F.ETH_MAC.MAC p.val) ++ leBytes 4 a4.toNat) ∈ t.out) ∧
    (When.frameOk s p.val h → a4.toNat ≠ s.fg F.ETH_IP4.ADDR p.val → ∃ t, exec (.arpRequest p h a4) s = .next t ∧ t.out = s.out ∧
      t.fg F.ETH_DROP.NOT_MINE p.val = satAdd F.ETH_DROP.NOT_MINE.w (s.fg F.ETH_DROP.NOT_MINE p.val) 1) ∧
    (When.frameOk s p.val h → a6 ≠ 0 → a6.toNat = s.ip6 p.val → ∃ t, exec (.neighbourSolicitation p h a6) s = .next t ∧
      Msg.net p.val 2 (leBytes 6 (s.fg F.ETH_MAC.MAC p.val) ++ leBytes 16 a6.toNat) ∈ t.out) ∧
    (When.frameOk s p.val h → s.macMine p.val h = true → s.ipMine p.val v6 a6.toNat = true → s.echoWin = [] →
      ∃ t, exec (.echoRequest p h v6 a6) s = .next t ∧
        Msg.net p.val (if v6 then 4 else 3) (leBytes 6 (s.fg F.ETH_MAC.MAC p.val) ++ leBytes (if v6 then 16 else 4) a6.toNat) ∈ t.out) ∧
    (When.frameOk s p.val h → s.fb F.ETH_CTL.PFC_EN p.val = true → ∃ t, exec (.pfcPause p h prios) s = .next t ∧
      t.fg F.ETH_ROCE.PAUSE_RX p.val = satAdd F.ETH_ROCE.PAUSE_RX.w (s.fg F.ETH_ROCE.PAUSE_RX p.val) 1 ∧
      (bitOf prios.toNat (s.fg F.ETH_CTL.PFC_PRIO p.val) = true → t.fg F.ETH_STATUS.PAUSED p.val = 1)) ∧
    (s.fb F.ETH_STATUS.PAUSED p.val = true → ∃ t, exec (.pauseExpiry p) s = .next t ∧ t.fg F.ETH_STATUS.PAUSED p.val = 0 ∧
      ∀ m ∈ s.ethHold, msgPort m = some p.val → m ∈ t.out) ∧
    (When.frameOk s p.val h → k ≠ .notAddressed → ∃ t, exec (.frameDropped p h k) s = .next t ∧
      t.fg F.ETH_DROP.UNSUPPORTED p.val = satAdd F.ETH_DROP.UNSUPPORTED.w (s.fg F.ETH_DROP.UNSUPPORTED p.val) 1) ∧
    (s.portTakes p.val = true → h.fcsOk = false → ∃ t, exec (.frameDropped p h k) s = .next t ∧
      t.fg F.ETH_DROP.FCS p.val = satAdd F.ETH_DROP.FCS.w (s.fg F.ETH_DROP.FCS p.val) 1) ∧
    (s.portTakes p.val = true → h.fcsOk = true → 4352 < h.length → ∃ t, exec (.frameDropped p h k) s = .next t ∧
      t.fg F.ETH_DROP.OVERSIZE p.val = satAdd F.ETH_DROP.OVERSIZE.w (s.fg F.ETH_DROP.OVERSIZE p.val) 1)

/-- A port that trains comes up at the first rate of its list that trains, or stays down; a link that fails goes down; a disabled port, once
quiet, takes EN = 0, and another refuses it (R401, R421, R422). -/
def Obligations.PortsTrainAndGoDown : Prop :=
  ∀ (s : State) (who : Req) (p : Fin 8) (adv trains : BitVec 4) (v : Word),
    (∀ r, s.live = true → s.fb F.ETH_CTL.EN p.val = true → s.fg F.ETH_STATUS.LINK p.val < 2 →
      (s.rates p.val adv.toNat).find? (bitOf trains.toNat) = some r →
      ∃ t, exec (.portTraining p adv trains) s = .next t ∧ t.fg F.ETH_STATUS.LINK p.val = 2 ∧ t.fg F.ETH_STATUS.RATE p.val = r % 4) ∧
    (s.live = true → s.fb F.ETH_CTL.EN p.val = true → s.fg F.ETH_STATUS.LINK p.val < 2 → (s.rates p.val adv.toNat).find? (bitOf trains.toNat) = none →
      ∃ t, exec (.portTraining p adv trains) s = .next t ∧ t.fg F.ETH_STATUS.LINK p.val = 0) ∧
    (s.portUp p.val = true → ∃ t, exec (.portLinkDown p) s = .next t ∧ t.fg F.ETH_STATUS.LINK p.val = 0 ∧ t.fg F.ETH_STATUS.PAUSED p.val = 0 ∧
      t.sess = s.sess ∧ (∀ m ∈ t.ethHold, msgPort m ≠ some p.val) ∧ t.out = s.out) ∧
    (When.taken s who (ethCtlAddr p.val) → s.inReset (ethCtlKey p.val) = false → s.fb F.ETH_CTL.EN p.val = true →
      s.fb { F.QM_PORT_DIS.PORTS with lo := p.val, w := 1 } = true →
      s.quiescing (.port p) = none → ∃ t, exec (.portLinkDisable who p v) s = .next t ∧ t.fg F.ETH_CTL.EN p.val = 0 ∧
        t.fg F.ETH_STATUS.LINK p.val = 3) ∧
    (When.taken s who (ethCtlAddr p.val) → s.inReset (ethCtlKey p.val) = false → s.fb F.ETH_CTL.EN p.val = true →
      s.fb { F.QM_PORT_DIS.PORTS with lo := p.val, w := 1 } = false →
      ∃ t, exec (.portLinkDisable who p v) s = .next t ∧ t.fg F.ETH_CTL.EN p.val = 1 ∧ t.fg F.ETH_CTL.REFUSED p.val = 1)


/-! ### Memory controllers, bridges and reliability (R18, R260, R268 to R278, R470 to R484) -/

/-- A counter has stepped, and stops at all ones. -/
abbrev Sys2Proof.When.counted (s t : State) (f : Fld) (i j : Nat) : Prop := t.fg f i j = satAdd f.w (s.fg f i j) 1

/-- Scrub counts what it finds; a repair begins with a hold, or says why not, and its end tells the result; a new LOCAL_GIB is
pending; a bridge that fails stays failed until it is restored (R18, R260, R269, R270, R278). -/
def Obligations.MemoryIsScrubbedRepairedAndPlaced : Prop :=
  ∀ (s : State) (who : Req) (c : MemCtl) (unit : BitVec 42) (loc : DramLoc) (h : Fin 8) (v : Word) (spare : Bool)
    (row : List (BitVec 42 × Ecc)) (b : Fin 12),
    (s.scrubs c = true → s.dramAddr (unit.toNat * 64) = true → (s.dramOf (unit.toNat * 64)).1 = ctlNo c → s.memHeld (unit.toNat * 64) = false →
      (∀ k : Fin 32, c = .stack k →
        (∃ t, exec (.patrolScrub c unit .uncorrectable loc) s = .next t ∧ When.counted s t F.MEM_STACK_ECC.SCRUB_UNC (k.val / 4) (k.val % 4) ∧
          When.counted s t F.MEM_STACK_ECC.UNCORRECTED (k.val / 4) (k.val % 4)) ∧
        (∃ t, exec (.patrolScrub c unit .corrected loc) s = .next t ∧ When.counted s t F.MEM_STACK_ECC.CORRECTED (k.val / 4) (k.val % 4))) ∧
      (∀ k : Fin 16, c = .channel k → ∃ t, exec (.patrolScrub c unit .uncorrectable loc) s = .next t ∧
        When.counted s t F.MEM_DDR_ECC.SCRUB_UNC (k.val / 2) (k.val % 2)) ∧
      ∃ t, exec (.patrolScrub c unit .ok loc) s = .next t ∧ t = s) ∧
    (When.taken s who (⟨.MEM_REPAIR_CMD, h.val, 0, 0⟩ : RegKey).addr → s.fb F.MEM_REPAIR_STATUS.BUSY h.val = false → bitsOf v.toNat 0 3 ≤ 3 →
      (∃ t, exec (.rowRepair who h v) s = .next t ∧ t.fg F.MEM_REPAIR_STATUS.BUSY h.val = 1 ∧ t.fg F.MEM_STACK.HELD h.val (bitsOf v.toNat 0 3) = 1 ∧
        t.fg F.MEM_STACK.HELD_PC h.val (bitsOf v.toNat 0 3) = bitsOf v.toNat 3 5) ∧
      ∃ t, exec (.laneRepair who h v) s = .next t ∧ t.fg F.MEM_REPAIR_STATUS.BUSY h.val = 1 ∧ t.fg F.MEM_STACK.HELD h.val (bitsOf v.toNat 0 3) = 1) ∧
    (When.taken s who (⟨.MEM_REPAIR_CMD, h.val, 0, 0⟩ : RegKey).addr → s.fb F.MEM_REPAIR_STATUS.BUSY h.val = true →
      (∃ t, exec (.rowRepair who h v) s = .next t ∧ t.fg F.MEM_REPAIR_STATUS.REFUSED h.val = 1) ∧
      ∃ t, exec (.laneRepair who h v) s = .next t ∧ t.fg F.MEM_REPAIR_STATUS.REFUSED h.val = 1) ∧
    (When.taken s who (⟨.MEM_REPAIR_CMD, h.val, 0, 0⟩ : RegKey).addr → s.fb F.MEM_REPAIR_STATUS.BUSY h.val = false → 4 ≤ bitsOf v.toNat 0 3 →
      ∃ t, exec (.laneRepair who h v) s = .next t ∧ t.fg F.MEM_REPAIR_STATUS.RESULT h.val = 3 ∧ t.fg F.MEM_REPAIR_STATUS.BUSY h.val = 0 ∧
        s.repairs = t.repairs ∧ t.rd ⟨.MEM_REPAIR_CMD, h.val, 0, 0⟩ = BitVec.ofNat 64 (setBits v.toNat 8 2 1)) ∧
    (When.settled s → s.fb F.MEM_REPAIR_STATUS.BUSY h.val = true → ∃ t, exec (.repairHoldEnd h ⟨spare, row⟩) s = .next t ∧
      t.fg F.MEM_REPAIR_STATUS.BUSY h.val = 0 ∧ t.fg F.MEM_REPAIR_STATUS.RESULT h.val = (if spare then 1 else 2) ∧
      t.repairs = (if spare then s.repairs ++ [(h.val, (s.rd ⟨.MEM_REPAIR_CMD, h.val, 0, 0⟩).toNat)] else s.repairs)) ∧
    (When.taken s who (⟨.MEM_PLACE, 0, 0, 0⟩ : RegKey).addr → ∃ t, exec (.localGib who v) s = .next t ∧
      t.fg F.MEM_PLACE.NEXT_GIB = min 384 (bitsOf v.toNat 0 9) ∧ t.fg F.MEM_PLACE.PENDING = 1 ∧
      t.fg F.MEM_PLACE.LOCAL_GIB = s.fg F.MEM_PLACE.LOCAL_GIB) ∧
    (∃ t, exec (.bridgeFailure b) s = .next t ∧ b.val ∈ t.bridges) ∧
    (∃ t, exec (.bridgeRestored b) s = .next t ∧ b.val ∉ t.bridges)

/-- A comparison of the sieve, once the engine chosen can compute the tile, counts that engine's sweeps and lets the held outputs go, or waits for
an arbitration by a third; a pass of the known-answer tests counts, and a core
that fails both attempts leaves the pool until its bit is cleared (R473, R475 to R477, R490). -/
def Obligations.SievesAndTestsJudgeCores : Prop :=
  ∀ (s : State) (who : Req) (c : Fin 96) (e : SieveAt) (d : SieveDiff) (v : SieveVerdict) (f g : KatFail) (w : Word) (j : SieveJob) (n : Nat),
    (s.sieve.find? (fun x => x.core == c.val && x.e == e.e.val && x.mismatch.isNone) = some j → s.canCheck (s.liveEngine j).1 j = true →
      (∃ t, exec (.sieveCompare c e none) s = .next t ∧ When.counted s t F.TOP_SIEVE_STATUS.SAMPLED 0 0 ∧
        t.sieve.length + 1 = s.sieve.length ∧
        t.fg F.MTX_DECANT.SWEEPS ((s.liveEngine j).1 / 4) ((s.liveEngine j).1 % 4) = satAdd F.MTX_DECANT.SWEEPS.w
          (s.fg F.MTX_DECANT.SWEEPS ((s.liveEngine j).1 / 4) ((s.liveEngine j).1 % 4)) (j.raise + 1) ∧
            ((t.core c.val).context 0).staged = ((s.core c.val).context 0).staged ++ j.held) ∧
      (∃ t, exec (.sieveCompare c e (some d)) s = .next t ∧ When.counted s t F.TOP_SIEVE_STATUS.SAMPLED 0 0 ∧
        When.counted s t F.TOP_SIEVE_STATUS.MISMATCHES 0 0 ∧ t.cores = s.cores ∧
        ∃ k ∈ t.sieve, k.core = c.val ∧ k.e = e.e.val ∧ k.held = j.held ∧ k.mismatch = some (d.offset.toNat, d.bits.toNat, d.xor.toNat))) ∧
    (s.sieve.find? (fun x => x.core == c.val && x.e == e.e.val && x.mismatch.isSome) = some j → s.canCheck (s.third j) j = true →
      ∃ t, exec (.sieveArbitration c e v) s = .next t ∧ t.sieve = s.sieve.erase j ∧
        ((t.core c.val).context 0).staged = ((s.core c.val).context 0).staged ++ j.held ∧
        (v = .partnerRight → When.counted s t F.TOP_SIEVE_STATUS.REWRITTEN 0 0) ∧
        (v = .noTwoAgree → When.counted s t F.TOP_SIEVE_STATUS.UNRESOLVED 0 0)) ∧
    (s.live = true → s.fb F.TOP_KAT_CTL.EN = true → s.multicasting = false → s.diesDown = false → s.mg.testing = none → s.katNext = some n →
      (s.core n).held = [] → 2 ^ 20 ≤ s.fg F.TOP_CHECK_REGION.SIZE →
      (∃ t, exec (.katPass none none) s = .next t ∧ When.counted s t F.TOP_KAT_STATUS.PASSES 0 0 ∧
        t.fg F.TOP_KAT_STATUS.NEXT = (n + 1) % max 1 (s.fg F.TOP_UNIT_COUNT.CORES)) ∧
      (∃ t, exec (.katPass (some f) none) s = .next t ∧ When.counted s t F.TOP_KAT_STATUS.PASSES 0 0 ∧ When.counted s t F.TOP_KAT_STATUS.FAILS 0 0) ∧
      (∃ t, exec (.katPass (some f) (some g)) s = .next t ∧ t.katHeld n = true ∧ t.inPool n = false)) ∧
    (s.live = true → s.fb F.TOP_KAT_CTL.EN = true → s.multicasting = false → s.diesDown = false → s.mg.testing = none → s.katNext = some n →
      (s.core n).held ≠ [] → 2 ^ 20 ≤ s.fg F.TOP_CHECK_REGION.SIZE →
      ∃ t, exec (.katPass (some f) (some g)) s = .next t ∧ t.mg.testing = some n ∧ t.inPool n = false ∧ t.fg F.TOP_KAT_STATUS.RUNNING = 1 ∧
        t.fg F.TOP_KAT_STATUS.PASSES = s.fg F.TOP_KAT_STATUS.PASSES) ∧
    (s.live = true → s.diesDown = false → s.mg.testing = some n → s.present n = true → (s.core n).held = [] →
      ∃ t, exec (.katPass none none) s = .next t ∧ t.mg.testing = none ∧ 0 ∉ (t.core n).out ∧ t.fg F.TOP_KAT_STATUS.RUNNING = 0 ∧
        When.counted s t F.TOP_KAT_STATUS.PASSES 0 0) ∧
    (s.live = true → s.fb F.TOP_KAT_CTL.EN = true → s.multicasting = false → s.diesDown = false → s.mg.testing = none → s.katNext = some n →
      (s.core n).held = [] → s.fg F.TOP_CHECK_REGION.SIZE < 2 ^ 20 →
      ∃ t, exec (.katPass (some f) (some g)) s = .next t ∧ When.counted s t F.TOP_KAT_STATUS.SKIPPED 0 0) ∧
    (When.taken s who (⟨if 64 ≤ c.val then .TOP_KAT_HELD_HI else .TOP_KAT_HELD_LO, 0, 0, 0⟩ : RegKey).addr → bitOf w.toNat (c.val % 64) = true →
      s.katHeld c.val = true →
      ∃ t, exec (.katHeldClear who (decide (64 ≤ c.val)) w) s = .next t ∧ t.katHeld c.val = false ∧ 4 ∉ (t.core c.val).out)

/-- The median of the rates of a window judges each core that may be judged; a core that is not judged starts its windows anew; a lantern token starts
at every unit, is taken by the queue manager first (the model's choice, log entry 41), and is done when it has reached the last; the first core chosen
for retirement takes the first spare that passes its test, or becomes absent (R478, R479, R482 to R484). -/
def Obligations.LaggardsLanternAndRetirement : Prop :=
  ∀ (s : State) (who : Req) (ms : List LagMeasure) (v : Word) (u : UnitId) (c : Fin 96) (tests : List Bool) (bad : List (BitVec 18)),
    (s.live = true → s.fb F.TOP_LAG_CTL.EN = true → 8 ≤ (ms.filter s.judged).length → ((ms.filter s.judged).map (·.core)).Nodup →
      let med := medianOf ((ms.filter s.judged).map lagRate)
      ∃ t, exec (.laggardWindow ms) s = .next t ∧ t.fg F.TOP_LAG_CTL.MEDIAN = min 1023 (med * 1000).floor.toNat ∧
        (∀ x, (∀ m ∈ ms.filter s.judged, m.core.val ≠ x) → smGet (fun _ => 0) t.mg.lagRuns x = 0) ∧
        ∀ m ∈ ms.filter s.judged,
          (¬ lagRate m * 100 < med * (s.fg F.TOP_LAG_CTL.PCT : Rat) →
            t.coreBit F.TOP_LAG_LO.CORES_LO F.TOP_LAG_HI.CORES_HI m.core.val = false) ∧
          (lagRate m * 100 < med * (s.fg F.TOP_LAG_CTL.PCT : Rat) → s.fg F.TOP_LAG_CTL.WINDOWS ≤ smGet (fun _ => 0) s.mg.lagRuns m.core.val + 1 →
            t.coreBit F.TOP_LAG_LO.CORES_LO F.TOP_LAG_HI.CORES_HI m.core.val = true)) ∧
    (When.taken s who (⟨.TOP_LANTERN, 0, 0, 0⟩ : RegKey).addr → bitsOf v.toNat 0 15 ≠ 0 → s.fb F.TOP_LANTERN.DONE = true →
      ∃ t, exec (.fire who v) s = .next t ∧ t.fg F.TOP_LANTERN.LAST_ID = bitsOf v.toNat 0 15 ∧ t.fg F.TOP_LANTERN.DONE = 0 ∧
        t.lantern = s.latchUnits) ∧
    (When.taken s who (⟨.TOP_LANTERN, 0, 0, 0⟩ : RegKey).addr → bitsOf v.toNat 0 15 ≠ 0 → s.fb F.TOP_LANTERN.DONE = false →
      ∃ t, exec (.fire who v) s = .next t ∧ t.fg F.TOP_LANTERN.REFUSED = 1 ∧ t.lantern = s.lantern) ∧
    (u.toNat ∈ s.lantern → u.toNat ≠ uid 7 0 → uid 7 0 ∈ s.lantern → ∃ t, exec (.lanternToken u) s = .next t ∧ t = s) ∧
    (u.toNat ∈ s.lantern → (u.toNat = uid 7 0 ∨ uid 7 0 ∉ s.lantern) → ∃ t, exec (.lanternToken u) s = .next t ∧ u.toNat ∉ t.lantern ∧
      (t.lantern = [] → t.fg F.TOP_LANTERN.DONE = 1)) ∧
    (When.settled s → s.live = true → s.retirable c.val = true → ∀ cls rest, s.mg.chosen = (c.val, cls) :: rest →
      (∀ x, (tryTests (s.spares (s.fg F.TOP_CORE_MAP.SITE c.val / 26)) tests).2 = some x →
        ∃ t, exec (.retirement c tests bad) s = .next t ∧ t.mg.chosen = rest ∧ t.fg F.TOP_RETIRE_STATUS.RESULT = 1 ∧
          t.fg F.TOP_CORE_MAP.SITE c.val = x ∧ When.counted s t F.TOP_KAT_STATUS.PASSES 0 0) ∧
      ((tryTests (s.spares (s.fg F.TOP_CORE_MAP.SITE c.val / 26)) tests).2 = none →
        ∃ t, exec (.retirement c tests bad) s = .next t ∧ t.mg.chosen = rest ∧ t.fg F.TOP_RETIRE_STATUS.RESULT = 2 ∧
          t.fg F.TOP_CORE_MAP.STATE c.val = 2))


/-! ### The management complex (R428 to R460, R504) -/

/-- The slot of a class that start-up looks at first (R428, R439). -/
abbrev Sys2Proof.When.firstSlot (s : State) (cls : Nat) : Nat := if bitOf s.mg.fuse.boot (cls - 1) then 1 else 0

/-- The image that start-up looks at first is there and passes its checks (R428, R436). -/
abbrev Sys2Proof.When.imageGood (s : State) (env : StartEnv) (cls : Nat) : Prop :=
  ∃ i, smFind (s.mg.flash.found env).imgs (imgKey cls (When.firstSlot s cls)) = some i ∧ (s.mg.fuse.found env).fails cls i = none

/-- The head of the store queue may take a step now (R434, R444). -/
abbrev Sys2Proof.When.stepReady (s : State) (j : StoreJob) (js : List StoreJob) : Prop :=
  s.powered = true ∧ s.mg.stores = j :: js ∧ s.fb F.MGT_STORE_STATUS.DEFERRED = false ∧ s.stepAllowed j = true

/-- The results of a job: in the register of updates or of stores (R458, R459). -/
abbrev Sys2Proof.When.jobResult (t : State) (j : StoreJob) : Nat := if j.upd then t.fg F.MGT_UPD_STATUS.RESULT else t.fg F.MGT_STORE_STATUS.RESULT

/-- A policy acts: the device is READY and the policy is in mode ACT (R451). -/
abbrev Sys2Proof.When.acting (s : State) (f : Fld) : Prop := s.live = true ∧ s.fg f = 2

/-- Start-up reaches READY with good images, RECOVERY without any, and stops at a fuse error; stores queue, run a step at a time and land;
the hold-up energy is sampled and checked (R428, R433, R434, R439, R444). -/
def Obligations.StartUpAndStores : Prop :=
  ∀ (s : State) (env : StartEnv) (who : Req) (v : Word) (ok : Bool) (code : BitVec 12) (j : StoreJob) (js : List StoreJob),
    (s.canStart = true → env.fuseParityOk = true → env.flashPresent = true → When.imageGood s env 1 → When.imageGood s env 2 →
      ∃ t, exec (.startUp env) s = .next t ∧ t.fg F.MGT_STATUS.STAGE = 8 ∧ t.activeSlot 1 = When.firstSlot s 1) ∧
    (s.canStart = true → env.fuseParityOk = true → env.flashPresent = false →
      ∃ t, exec (.startUp env) s = .next t ∧ t.fg F.MGT_STATUS.STAGE = 4 ∧ t.fg F.MGT_STATUS.RECOVERY = 1) ∧
    (s.canStart = true → env.fuseParityOk = true → s.mg.fuse ≠ {} → ∃ t, exec (.startUp env) s = .next t ∧ t.mg.fuse = s.mg.fuse) ∧
    (s.canStart = true → env.fuseParityOk = false →
      ∃ t, exec (.startUp env) s = .next t ∧ t.fg F.MGT_STATUS.STAGE = 2 ∧ t.fg F.MGT_STATUS.FUSE_ERR = 1) ∧
    (When.taken s who (⟨.MGT_STORE_CMD, 0, 0, 0⟩ : RegKey).addr → s.mg.stores.length < 5 → bitsOf v.toNat 0 48 + 65536 ≤ hbmEnd →
      s.le (bitsOf v.toNat 0 48 + 8) 4 ≤ 65536 → s.marked (bitsOf v.toNat 0 48) (s.le (bitsOf v.toNat 0 48 + 8) 4) = false →
      ∀ b, cfgParse (s.bytes (bitsOf v.toNat 0 48) (s.le (bitsOf v.toNat 0 48 + 8) 4)) = some b →
      (s.newBlock b.recs (bitOf v.toNat 49)).length ≤ 65536 →
      ∃ t, exec (.store who v) s = .next t ∧ ∃ k, t.mg.stores = s.mg.stores ++ [k] ∧
        k.what = .cfg (1 - s.fg F.CFG_STATUS.SLOT) (s.newBlock b.recs (bitOf v.toNat 49))) ∧
    (When.taken s who (⟨.MGT_STORE_CMD, 0, 0, 0⟩ : RegKey).addr → 5 ≤ s.mg.stores.length →
      ∃ t, exec (.store who v) s = .next t ∧ t.mg = s.mg ∧ t.fg F.MGT_STORE_STATUS.REFUSED = 1) ∧
    (When.stepReady s j js →
      (j.done + 1 < j.steps → ∃ t, exec (.storeSector true) s = .next t ∧ t.mg.stores = { j with done := j.done + 1, tries := 0 } :: js) ∧
      (j.steps ≤ j.done + 1 → j.recovery = false → ∃ t, exec (.storeSector true) s = .next t ∧ t.mg.stores = js ∧ When.jobResult t j = 1 ∧
        (∀ block, j.what = .cfg 0 block → t.mg.flash.cfg0 = block) ∧ (∀ cls slot info, j.what = .img cls slot info → t.image cls slot = some info) ∧
        (∀ k, j.what = .revoke k → k ∈ t.mg.fuse.revoked) ∧
        (∀ cls slot, j.what = .boot cls slot → t.mg.fuse.boot = setBits s.mg.fuse.boot (cls - 1) 1 slot)) ∧
      (j.tries < 2 → ∃ t, exec (.storeSector false) s = .next t ∧ t.mg.stores = { j with tries := j.tries + 1 } :: js) ∧
      (2 ≤ j.tries → ∃ t, exec (.storeSector false) s = .next t ∧ t.mg.stores = js ∧ When.jobResult t j = 3)) ∧
    (s.powered = true → ∃ t, exec (.holdupSample code) s = .next t ∧ t.mg.sense = code.toNat ∧
      ∀ h, s.mg.holdup = some h → t.fg F.MGT_STORE_STATUS.HOLDUP_MJ = min 65535 (h.avail code.toNat * 1000).floor.toNat) ∧
    (s.powered = true → s.mg.stores = j :: js → ∃ t, exec .holdupRecheck s = .next t ∧ t.fg F.MGT_STORE_STATUS.BUSY = 1 ∧
      t.fg F.MGT_STORE_STATUS.DEFERRED = b2n (!s.stepAllowed j))

/-- An update command that is taken: it names its class, and none runs (R450, R459). -/
abbrev Sys2Proof.When.updTaken (s : State) (who : Req) : Prop := When.taken s who updAddr ∧ s.fb F.MGT_UPD_STATUS.BUSY = false

/-- A class's slots have swapped, and the store that records it goes on (R444, R450). -/
abbrev Sys2Proof.When.bootStored (s t : State) (cls : Nat) : Prop :=
  t.fg F.MGT_UPD_STATUS.BUSY = 1 ∧ ∃ j, t.mg.stores = s.mg.stores ++ [j] ∧ j.what = .boot cls (1 - s.activeSlot cls)

/-- STAGE queues the store of an image that passes its checks into the slot that is not active; ACTIVATE swaps the slots of a staged image and
stores which is active, for management firmware once the standby has taken over, for the core microcode once every core has loaded it;
COMMIT_SVN and REVOKE queue a fuse step; a host key is enabled if its point is valid; the watchdog is kicked, and when it expires the
standby takes over if its image passes, or as the handover that goes on, and the second time the system is reset (R437, R438, R449, R450, R460,
R504). -/
def Obligations.UpdatesKeysAndWatchdog : Prop :=
  ∀ (s : State) (who : Req) (v : Word) (chk : ImageCheck) (n : Fin 16) (cls k : Nat) (i : ImgInfo),
    (When.updTaken s who → cls = bitsOf v.toNat 51 2 → cls ≠ 0 →
      (∀ size, s.imageHead (bitsOf v.toNat 0 48) cls = some size →
       i = { bytes := s.bytes (bitsOf v.toNat 0 48) (256 + size), signer := chk.read.bind (fun (x : ImgInfo) => x.signer) } →
       (s.mg.fuse.fails cls i = none → s.mg.stores.length < 5 → ∃ t, exec (.stage who v chk) s = .next t ∧ t.fg F.MGT_UPD_STATUS.BUSY = 1 ∧
          ∃ j, t.mg.stores = s.mg.stores ++ [j] ∧ j.what = .img cls (1 - s.activeSlot cls) i) ∧
        (s.mg.fuse.fails cls i ≠ none → ∃ t, exec (.stage who v chk) s = .next t ∧ t.fg F.MGT_UPD_STATUS.RESULT = 5 ∧
          t.mg.stores = s.mg.stores)) ∧
      (s.image cls (1 - s.activeSlot cls) = some i → s.mg.flash.staged.contains (imgKey cls (1 - s.activeSlot cls)) = true →
        s.mg.stores.length < 5 →
        (cls = 1 → s.mg.fuse.fails 1 (chk.read.getD i) = none → ∃ t, exec (.activate who v chk) s = .next t ∧
          t.mg.handover = some (1 - s.activeSlot 1, true) ∧ t.activeSlot 1 = s.activeSlot 1 ∧
          t.fg F.MGT_STATUS.ACTIVE_CORE = s.fg F.MGT_STATUS.ACTIVE_CORE ∧ t.fg F.MGT_UPD_STATUS.BUSY = 1) ∧
        (cls = 2 → When.settled s →
          (s.diesDown = true → ∃ t, exec (.activate who v chk) s = .next t ∧ t.activeSlot 2 = 1 - s.activeSlot 2 ∧
            When.bootStored s t 2 ∧ t.fg F.MGT_STATUS.MIXED_UCODE = 0) ∧
          (s.diesDown = false → (∃ c : Fin 96, s.present c.val = true) → ∃ t, exec (.activate who v chk) s = .next t ∧
            t.activeSlot 2 = s.activeSlot 2 ∧ t.fg F.MGT_UPD_STATUS.BUSY = 1 ∧ t.fg F.MGT_STATUS.MIXED_UCODE = 1)) ∧
        (cls = 3 → When.settled s → ∃ t, exec (.activate who v chk) s = .next t ∧ t.activeSlot 3 = 1 - s.activeSlot 3 ∧
          When.bootStored s t 3)) ∧
      (s.mg.flash.staged.contains (imgKey cls (1 - s.activeSlot cls)) = false →
        ∃ t, exec (.activate who v chk) s = .next t ∧ t.fg F.MGT_UPD_STATUS.RESULT = 5 ∧ t.mg = s.mg) ∧
      (s.image cls (s.activeSlot cls) = some i → imgSvn i ≤ 63 → s.mg.stores.length < 5 →
        ∃ t, exec (.commitSvn who v) s = .next t ∧ ∃ j, t.mg.stores = s.mg.stores ++ [j] ∧ j.what = .svn cls (imgSvn i))) ∧
    (When.updTaken s who → k = bitsOf v.toNat 53 2 → s.image 1 (s.activeSlot 1) = some i →
      ((∃ m : Fin 4, m.val ≠ k ∧ m.val ∈ s.mg.fuse.keySlots i ∧ m.val ∉ s.mg.fuse.revoked) → s.mg.stores.length < 5 →
        ∃ t, exec (.revoke who v) s = .next t ∧ ∃ j, t.mg.stores = s.mg.stores ++ [j] ∧ j.what = .revoke k) ∧
      ((∀ m : Fin 4, m.val ≠ k → m.val ∈ s.mg.fuse.keySlots i → m.val ∈ s.mg.fuse.revoked) →
        ∃ t, exec (.revoke who v) s = .next t ∧ t.mg = s.mg ∧ t.fg F.MGT_UPD_STATUS.REFUSED = 1)) ∧
    (When.taken s who (⟨.MGT_HOSTKEY_W0, n.val, 0, 0⟩ : RegKey).addr →
      (pointOk (s.hostKey n.val) = true → ∃ t, exec (.hostkeyEnable who n v) s = .next t ∧ t.fg F.MGT_HOSTKEY.EN n.val = 1 ∧
        t.fg F.MGT_HOSTKEY.IDENTITY n.val = bitsOf v.toNat 32 32) ∧
      (pointOk (s.hostKey n.val) = false → ∃ t, exec (.hostkeyEnable who n v) s = .next t ∧ t = s)) ∧
    (When.taken s who (⟨.RST_WDOG, 0, 0, 0⟩ : RegKey).addr → ∃ t, exec (.kick who v) s = .next t ∧ t.mg.wdPending = false ∧
      t.fg F.RST_WDOG.EN = bitsOf v.toNat 0 1 ∧ t.fg F.RST_WDOG.TIMEOUT_MS = max 100 (min 60000 (bitsOf v.toNat 1 16))) ∧
    (s.live = true → s.fb F.RST_WDOG.EN = true → s.mg.wdPending = false →
      (s.mg.handover = none → s.image 1 (s.activeSlot 1) = some i → s.mg.fuse.fails 1 (chk.read.getD i) = none →
        ∃ t, exec (.watchdogExpiry chk) s = .next t ∧ t.mg.wdPending = true ∧ t.mg.handover = some (s.activeSlot 1, false) ∧
          When.counted s t F.RST_WDOG.EXPIRIES 0 0) ∧
      (s.mg.handover ≠ none → ∃ t, exec (.watchdogExpiry chk) s = .next t ∧ t.mg.wdPending = true ∧ t.mg.handover = s.mg.handover ∧
        When.counted s t F.RST_WDOG.EXPIRIES 0 0)) ∧
    (s.pending = [] → s.powered = true → When.settled s → ∀ slot asked, s.mg.handover = some (slot, asked) → ∃ t, step s = .next t ∧
      t.mg.handover = none ∧ t.fg F.MGT_STATUS.ACTIVE_CORE = (1 - s.fg F.MGT_STATUS.ACTIVE_CORE) % 2 ∧
      (asked = true → slot < 2 → t.activeSlot 1 = slot)) ∧
    (s.live = true → s.fb F.RST_WDOG.EN = true → s.mg.wdPending = true → ∃ t, exec (.watchdogExpiry chk) s = .next t ∧
      t.fg F.RST_CAUSE.WDOG = 1 ∧ t.fg F.RST_CAUSE.LAST = 1 ∧ t.fg F.MGT_STATUS.STAGE = 2)

/-- What the policies do in mode ACT: POWER and THERMAL move clocks by 25 MHz within the limits, VOLTAGE a core's supply by 5 mV, LINKS
retunes, RETIRE chooses a core, and REPAIR begins a repair (R451 to R453, R468, R469, R483). -/
def Obligations.PoliciesAct : Prop :=
  ∀ (s : State) (w : BitVec 13) (d : Fin 4) (c : Fin 96) (up : Bool) (l : Fin 40) (why : RetireWhy) (k : MemCtl) (rw : RepairWhy) (loc : DramLoc),
    (s.live = true → ∃ t, exec (.powerPolicy w) s = .next t ∧ t.fg F.MGT_PWR.MEASURED_W = w.toNat) ∧
    (When.acting s F.MGT_POLICY.POWER → s.fg F.MGT_PWR.CAP_W < w.toNat → (∃ e : Fin 4, 1000 < s.dieClk e.val) →
      ∃ t, exec (.powerPolicy w) s = .next t ∧ t.dieClk d.val = min (min s.codeMax (max 1000 (s.dieClk d.val - 25))) (asked s.codeMax s.mg.thermClk d.val)) ∧
    (When.acting s F.MGT_POLICY.THERMAL → ∀ x, s.hottest d.val = some x → ((s.fg F.MGT_THERM.THROTTLE_C * 8 : Nat) : Int) < x →
      1000 < s.dieClk d.val →
      ∃ t, exec (.thermalPolicy d) s = .next t ∧ t.dieClk d.val = min (asked s.codeMax s.mg.powClk d.val) (min s.codeMax (max 1000 (s.dieClk d.val - 25)))) ∧
    (When.acting s F.MGT_POLICY.VOLTAGE → s.present c.val = true →
      ∀ new : Int, new = smGet (fun _ => (0 : Int)) s.mg.vOff c.val + (if up then 5 else -5) → -50 ≤ new → new ≤ 50 →
      ∃ t, exec (.voltagePolicy c up) s = .next t ∧ smGet (fun _ => (0 : Int)) t.mg.vOff c.val = new) ∧
    (When.acting s F.MGT_POLICY.LINKS → smFind s.mg.retunedAt l.val = none → s.linkUp l.val = true → s.tuning = false → (s.link l.val).outq = [] →
      s.resetting (uid 0xA l.val) = false →
      ∃ t, exec (.linksPolicy (.link l)) s = .next t ∧ t.lg F.FAB_LINK_STATUS.STATE l.val = 4 ∧ smFind t.mg.retunedAt l.val = some s.us) ∧
    (When.acting s F.MGT_POLICY.RETIRE → ∀ cls, s.retireDue c.val why = some cls → s.present c.val = true → 0 ∉ (s.core c.val).out →
      1 ∉ (s.core c.val).out →
      (∀ x ∈ s.mg.chosen, x.1 ≠ c.val) → ∃ t, exec (.retirePolicy c why) s = .next t ∧ t.mg.chosen = s.mg.chosen ++ [(c.val, cls)] ∧
        t.inPool c.val = false ∧ t.fg F.TOP_RETIRE_STATUS.BUSY = 1) ∧
    (When.acting s F.MGT_POLICY.REPAIR → s.repairDue (ctlNo k) rw loc = true →
      ∀ h : Fin 8, h.val = (if ctlNo k < 32 then ctlNo k / 4 else (ctlNo k - 32) / 2) → s.fb F.MEM_REPAIR_STATUS.BUSY h.val = false →
      ∃ t, exec (.repairPolicy k rw loc) s = .next t ∧ t.fg F.MEM_REPAIR_STATUS.BUSY h.val = 1)


/-! ### The side-band (R439, R442 to R447) -/

/-- An answer of the side-band: a message type, a code and its fields (R442, R445 to R447); it was announced by an in-band interrupt (R443). -/
abbrev Sys2Proof.When.answers (t : State) (proto code : Nat) (fields : List Nat) : Prop :=
  ∃ before after : List Msg, ∃ b : Nat, b < 256 ∧ t.out = before ++ [.side ibiCode b [], .side proto code fields] ++ after

/-- The I3C target takes its addresses; MCTP control, PLDM queries and SPDM requests are answered with what the device holds, and a SPDM
request it does not support with an error (R442, R443, R445, R446). -/
def Obligations.SideBandQueriesAreAnswered : Prop :=
  ∀ (s : State) (a d : BitVec 7) (e ty slot i code : Byte) (sn : PldmSensor) (h : BitVec 32) (o n : BitVec 16),
    (s.i3cUp = true → s.mg.i3cDynamic = none → ∃ t, exec (.entdaa a) s = .next t ∧ t.mg.i3cDynamic = some a.toNat) ∧
    (s.i3cUp = true → s.mg.i3cDynamic = none → a.toNat = s.mg.i3cStatic → ∃ t, exec (.setdasa a d) s = .next t ∧ t.mg.i3cDynamic = some d.toNat) ∧
    (s.mctpCtl = true →
      (∃ t, exec (.setEndpointId e) s = .next t ∧ t.mg.eid = e.toNat ∧ When.answers t 0 1 [0, e.toNat]) ∧
      (∃ t, exec .getEndpointId s = .next t ∧ When.answers t 0 2 [0, s.mg.eid]) ∧
      (∃ t, exec .getMctpVersionSupport s = .next t ∧ ∃ fs, When.answers t 0 4 (0 :: fs)) ∧
      (∃ t, exec .getMessageTypeSupport s = .next t ∧ When.answers t 0 5 [0, 0x00, 0x01, 0x05, 0x7F])) ∧
    (s.mctpMsg = true →
      (∃ t, exec .getTid s = .next t ∧ ∃ x, When.answers t 1 0x02 [0, x]) ∧
      (∃ t, exec .getPldmVersion s = .next t ∧ ∃ fs, When.answers t 1 0x03 (0 :: fs)) ∧
      (∃ t, exec .getPldmTypes s = .next t ∧ When.answers t 1 0x04 (if s.fb F.MGT_STATUS.RECOVERY then [0, 0, 5] else [0, 0, 2, 5])) ∧
      (ty = 0 → ∃ t, exec (.getPldmCommands ty) s = .next t ∧ When.answers t 1 0x05 [0, 0x02, 0x03, 0x04, 0x05])) ∧
    (s.mctpFull = true →
      (∀ v, s.reading sn = some v → ∃ t, exec (.getSensorReading sn) s = .next t ∧ When.answers t 1 0x211 [0, v]) ∧
      (s.reading sn = none → ∃ t, exec (.getSensorReading sn) s = .next t ∧ When.answers t 1 0x211 [1]) ∧
      (∃ t, exec (.getPdr h) s = .next t ∧ ∃ fs, When.answers t 1 0x251 (0 :: fs)) ∧
      (∃ t, exec .getVersion s = .next t ∧ When.answers t 5 0x04 [0x12]) ∧
      (∃ t, exec .getCapabilities s = .next t ∧ ∃ fs, When.answers t 5 0x61 fs) ∧
      (∃ t, exec .negotiateAlgorithms s = .next t ∧ When.answers t 5 0x63 algorithms) ∧
      (∃ t, exec .getDigests s = .next t ∧ When.answers t 5 0x01 (1 :: byteFields (digestBytes (Config.sha384 s.mg.flash.chain)))) ∧
      (slot = 0 → ∃ t, exec (.getCertificate slot o n) s = .next t ∧ When.answers t 5 0x02
        (0 :: o.toNat :: byteFields ((s.mg.flash.chain.drop o.toNat).take n.toNat))) ∧
      (slot = 0 → ∃ t, exec (.challenge slot) s = .next t ∧ ∃ fs,
        When.answers t 5 0x03 (0 :: byteFields (digestBytes (Config.sha384 s.mg.flash.chain)) ++ fs) ∧
        fs.length = 48 + 96) ∧
      (i = 0 → ∃ t, exec (.getMeasurements ⟨i, false⟩) s = .next t ∧ When.answers t 5 0x60 [0, 6]) ∧
      (1 ≤ i.toNat → i.toNat ≤ 6 →
        (∃ t, exec (.getMeasurements ⟨i, false⟩) s = .next t ∧ When.answers t 5 0x60 (i.toNat :: byteFields (digestBytes (s.measured i.toNat)))) ∧
        ∃ t, exec (.getMeasurements ⟨i, true⟩) s = .next t ∧ ∃ sig, sig.length = 96 ∧
          When.answers t 5 0x60 (i.toNat :: byteFields (digestBytes (s.measured i.toNat)) ++ sig)) ∧
      (∃ t, exec (.unsupportedRequest code) s = .next t ∧ When.answers t 5 0x7F [7]))

/-- PLDM carries an image in, checks it, stores it in the slot that is not active and makes it active, or cancels; a vendor message reads
or writes one register word, and says what is wrong with another address (R439, R446, R447). -/
def Obligations.SideBandUpdatesAndRegisters : Prop :=
  ∀ (s : State) (cls : BitVec 2) (size off : Nat) (data : List Byte) (chk : ImageCheck) (i : ImgInfo) (a v : Word) (k : RegKey),
    (s.mctpMsg = true →
      (s.mg.pldm.stage = 0 → s.fb F.MGT_UPD_STATUS.BUSY = false →
        ∃ t, exec .requestUpdate s = .next t ∧ t.mg.pldm.stage = 1 ∧ When.answers t 1 0x510 [0] ∧ t.fg F.MGT_UPD_STATUS.BUSY = 1) ∧
      (s.mg.pldm.stage = 1 ∨ s.mg.pldm.stage = 2 → cls ≠ 0 →
        ∃ t, exec (.passComponentTable cls) s = .next t ∧ t.mg.pldm.stage = 2 ∧ When.answers t 1 0x513 [0]) ∧
      (s.mg.pldm.stage = 2 ∨ s.mg.pldm.stage = 6 → cls ≠ 0 → 256 ≤ size → size ≤ slotBytes cls.toNat →
        ∃ t, exec (.updateComponent cls size) s = .next t ∧ t.mg.pldm.stage = 3 ∧ t.mg.pldm.cls = cls.toNat ∧ t.mg.pldm.size = size ∧
          t.mg.pldm.image = []) ∧
      (s.mg.pldm.stage = 3 → off = s.mg.pldm.image.length → off + data.length ≤ s.mg.pldm.size →
        ∃ t, exec (.requestFirmwareData off data) s = .next t ∧ t.mg.pldm.image = s.mg.pldm.image ++ data ∧ t.mg.pldm.stage = 3) ∧
      (s.mg.pldm.stage = 3 → s.mg.pldm.image.length = s.mg.pldm.size →
        ∃ t, exec .transferComplete s = .next t ∧ t.mg.pldm.stage = 4 ∧ t.mg.pldm.image = s.mg.pldm.image) ∧
      (s.mg.pldm.stage = 4 → s.mg.pldm.info chk = some i → s.mg.fuse.fails s.mg.pldm.cls i = none → s.fb F.MGT_STATUS.RECOVERY = false →
        s.mg.stores.length < 5 → ∃ t, exec (.verifyComplete chk) s = .next t ∧ t.mg.pldm.stage = 5 ∧
          ∃ j, t.mg.stores = s.mg.stores ++ [j] ∧ j.what = .img s.mg.pldm.cls (1 - s.activeSlot s.mg.pldm.cls) i) ∧
      (s.mg.pldm.stage = 4 → s.mg.pldm.info chk = some i → s.mg.fuse.fails s.mg.pldm.cls i ≠ none →
        ∃ t, exec (.verifyComplete chk) s = .next t ∧ t.mg.pldm.stage = 0 ∧ When.answers t 1 0x517 [1]) ∧
      (s.mg.pldm.stage = 5 → s.fb F.MGT_STATUS.RECOVERY = false → s.mg.stores.any (fun j => j.upd) = false →
        s.mg.flash.staged.contains (imgKey s.mg.pldm.cls (1 - s.activeSlot s.mg.pldm.cls)) = true →
        ∃ t, exec .applyComplete s = .next t ∧ t.mg.pldm.stage = 6 ∧ When.answers t 1 0x518 [0]) ∧
      (s.mg.pldm.stage = 6 → s.fb F.MGT_STATUS.RECOVERY = true → s.mg.pldmInfo = some i → s.mg.stores.length < 5 →
        ∃ t, exec .activateFirmware s = .next t ∧ ∃ j, t.mg.stores = s.mg.stores ++ [j] ∧ j.what = .img s.mg.pldm.cls 0 i ∧ j.recovery = true) ∧
      (s.mg.pldm.stage = 6 → s.fb F.MGT_STATUS.RECOVERY = false → s.mg.pldm.cls = 1 → s.image 1 (1 - s.activeSlot 1) = some i →
        s.mg.flash.staged.contains (imgKey 1 (1 - s.activeSlot 1)) = true → s.mg.fuse.fails 1 i = none → s.mg.stores.length < 5 →
        ∃ t, exec .activateFirmware s = .next t ∧ t.mg.handover = some (1 - s.activeSlot 1, true) ∧ t.mg.pldm.stage = 0 ∧
          t.fg F.MGT_UPD_STATUS.BUSY = 1) ∧
      (∃ t, exec .cancelUpdate s = .next t ∧ t.mg.pldm = {} ∧ When.answers t 1 0x51D [0])) ∧
    (s.mctpFull = true →
      (vendorStatus a.toNat = 0 → a.toNat < regBase + shadowOff → keyOf a.toNat = some k →
        (∃ t, exec (.vendorRegisterRead a) s = .next t ∧ When.answers t 0x7F 0 [0, (s.readWord k).toNat]) ∧
        (∃ t, exec (.vendorRegisterWrite a v) s = .next t ∧ When.answers t 0x7F 1 [0] ∧
          (k = ⟨.FAB_CTL, 0, 0, 0⟩ → t.fg F.FAB_CTL.HOP_LIMIT = bitsOf v.toNat 0 5))) ∧
      (vendorStatus a.toNat ≠ 0 →
        (∃ t, exec (.vendorRegisterRead a) s = .next t ∧ When.answers t 0x7F 0 [vendorStatus a.toNat, 0]) ∧
        (∃ t, exec (.vendorRegisterWrite a v) s = .next t ∧ When.answers t 0x7F 1 [vendorStatus a.toNat])))


/-! ### Resets, power and the package (R428, R496 to R518, R530 to R538, R554 to R560) -/

/-- After a system reset the device stands at FUSES, with nothing in flight and no memory kept (R496, R498, R500). -/
abbrev Sys2Proof.When.atFuses (s t : State) (cause : Fld) : Prop :=
  t.fg cause = 1 ∧ t.fg F.RST_CAUSE.LAST = 1 ∧ t.fg F.MGT_STATUS.STAGE = 2 ∧ t.mem = [] ∧ t.cores = [] ∧ t.runs = [] ∧ t.sess = [] ∧
    t.mg.fuse = s.mg.fuse ∧ t.mg.flash = s.mg.flash

/-- A power-on reset returns every register to its reset value; a system reset, from a pin or a register, leads to FUSES; a core reset empties
the units of the compute dies, whose microcode a tick loads again (the model's choice of when, log entry 105); a block reset of an idle block ends at
once, of a missing one is refused, and of a busy one ends by force at
its timeout (R496 to R503, R519 to R521). -/
def Obligations.ResetsClearWhatTheyReset : Prop :=
  ∀ (s : State) (src : PorSource) (who : Req) (v : Word) (k : Fin 32) (l : Fin 40) (b : BlockRst),
    (∃ t, exec (.powerOnReset src) s = .next t ∧ (∀ r : RegKey, t.rd r = State.reset.rd r) ∧ t.mem = [] ∧ t.mg.fuse = s.mg.fuse ∧
      t.mg.flash = s.mg.flash) ∧
    (s.pw.tripped = false → ∃ t, exec .sysResetN s = .next t ∧ When.atFuses s t F.RST_CAUSE.PIN ∧ t.pw.pinLow = true) ∧
    (∃ t, exec .sysResetRelease s = .next t ∧ t.pw.pinLow = false ∧ t.regs = s.regs) ∧
    (When.taken s who rstCtlAddr → bitsOf v.toNat 0 8 = 0x5A →
      (∃ t, exec (.system who v) s = .next t ∧ When.atFuses s t F.RST_CAUSE.SOFT) ∧
      ∃ t, exec (.coreReset who v) s = .next t ∧ t.fg F.RST_CAUSE.CORE = 1 ∧ t.fg F.RST_CAUSE.LAST = 2 ∧
        (s.inShelf = false → t.acc = [] ∧ t.fg F.CLK_STATUS.CCLK_LOCK = 0 ∧ t.fg F.RST_CTL.CORE_BUSY = 1)) ∧
    (s.pending = [] → s.powered = true → When.settled s → s.fb F.RST_CTL.CORE_BUSY = true → s.pw.copyStale = false → s.copyOk = true →
      ∃ t, step s = .next t ∧ t.fg F.RST_CTL.CORE_BUSY = 0 ∧ t.fg F.CLK_STATUS.CCLK_LOCK = 0xF) ∧
    (When.taken s who rstCtlAddr → bitsOf v.toNat 0 8 ≠ 0x5A →
      (∃ t, exec (.system who v) s = .next t ∧ t = s) ∧ ∃ t, exec (.coreReset who v) s = .next t ∧ t = s) ∧
    (When.taken s who blockCmdAddr → s.fb F.RST_BLOCK_STATUS.BUSY = false → bitsOf v.toNat 0 16 = uid 8 k.val →
      s.blockThere (uid 8 k.val) = true → s.transition = false → s.blockIdle (uid 8 k.val) = true →
      ∃ t, exec (.blockReset who v) s = .next t ∧ t.fg F.RST_BLOCK_STATUS.BUSY = 0 ∧ t.fg F.RST_BLOCK_STATUS.RESULT = 1 ∧
        t.fg F.RST_BLOCK_STATUS.UNIT = uid 8 k.val ∧ t.fg F.MEM_STACK.TRAINED (k.val / 4) (k.val % 4) = 1) ∧
    (When.taken s who blockCmdAddr → s.fb F.RST_BLOCK_STATUS.BUSY = false → s.blockThere (bitsOf v.toNat 0 16) = false →
      ∃ t, exec (.blockReset who v) s = .next t ∧ t.fg F.RST_BLOCK_STATUS.REFUSED = 1 ∧ t.fg F.RST_BLOCK_STATUS.RESULT = 3) ∧
    (s.pw.block = some b → b.unit = uid 0xA l.val → s.pw.domeStep = 0 → s.fg F.PWR_STATUS.STATE ≠ 3 → s.mg.retunes = [] →
      ∃ t, exec .blockResetTimeout s = .next t ∧ t.fg F.RST_BLOCK_STATUS.BUSY = 0 ∧ t.fg F.RST_BLOCK_STATUS.RESULT = 2 ∧ t.pw.block = none)

/-- IDLE, SHELF and DOME are entered when nothing runs and left by a request or a wake; the pads are released once the PHYs are back; REFCLK
is watched, and a long loss resets the device (R506 to R518, R523 to R526). -/
def Obligations.PowerStatesAndClocks : Prop :=
  ∀ (s : State) (who : Req) (v : Word) (env : WakeEnv) (i : ImgInfo),
    (s.live = true → s.fb F.PWR_CTL.AUTO_IDLE = true → s.fg F.PWR_STATUS.STATE = 0 → s.transition = false → s.coreRuns = false →
      s.queues.any s.coreReady = false → s.sieve = [] → s.mg.chosen = [] → s.mg.testing = none → s.fb F.RST_CTL.CORE_BUSY = false →
      ∃ t, exec .idleEntry s = .next t ∧ t.fg F.PWR_STATUS.STATE = 1) ∧
    (s.fg F.PWR_STATUS.STATE = 1 → (s.coreJobs = true ∨ s.queues.any s.coreReady = true) →
      ∃ t, exec .idleExit s = .next t ∧ t.fg F.PWR_STATUS.STATE = 0) ∧
    (s.fg F.PWR_STATUS.STATE = 1 → s.coreJobs = false → s.queues.any s.coreReady = false → ∃ t, exec .idleExit s = .next t ∧ t = s) ∧
    (When.taken s who pwrCtlAddr → s.transition = false → s.fg F.PWR_STATUS.STATE ≠ 2 → s.pw.block = none → s.mg.retunes = [] →
      s.mg.chosen = [] → s.fb F.RST_CTL.CORE_BUSY = false →
      (s.coreRuns = false → s.mg.testing = none → ∃ t, exec (.shelf who v) s = .next t ∧ t.fg F.PWR_STATUS.STATE = 2 ∧
        t.fg F.CLK_STATUS.CCLK_LOCK = 0 ∧ t.acc = []) ∧
      (s.coreRuns = true → ∃ t, exec (.shelf who v) s = .next t ∧ t.fg F.PWR_STATUS.STATE = 3)) ∧
    (s.fg F.PWR_STATUS.STATE = 3 → ∃ t, exec .shelfQuiesceTimeout s = .next t ∧ t.fg F.PWR_STATUS.STATE = 0 ∧
      t.fg F.PWR_STATUS.REFUSED = 1 ∧ t.fg F.PWR_STATUS.REFUSE_WHY = 1) ∧
    (s.fg F.PWR_STATUS.STATE = 2 → s.pw.domeStep = 0 → s.fb F.MGT_STATUS.RECOVERY = false →
      (When.taken s who pwrCtlAddr → ∃ t, exec (.shelfExit (.req who v)) s = .next t ∧ t.fg F.PWR_STATUS.STATE = 4) ∧
      (s.live = true → s.fb F.PWR_CTL.AUTO_WAKE = true → s.queues.any s.coreReady = true →
        ∃ t, exec (.shelfExit .auto) s = .next t ∧ t.fg F.PWR_STATUS.STATE = 4)) ∧
    (s.pending = [] → s.powered = true → When.settled s → s.fb F.RST_CTL.CORE_BUSY = false → s.fg F.PWR_STATUS.STATE = 4 →
      s.pw.copyStale = false → s.copyOk = true →
      ∃ t, step s = .next t ∧ t.fg F.PWR_STATUS.STATE = 0 ∧ t.fg F.CLK_STATUS.CCLK_LOCK = 0xF) ∧
    (When.taken s who pwrCtlAddr → s.transition = false → s.fb F.MGT_STORE_STATUS.BUSY = false → s.fb F.MGT_UPD_STATUS.BUSY = false →
      s.mg.retunes = [] → s.runs = [] → s.queues = [] → s.pw.block = none →
      ∃ t, exec (.domeEntry who v) s = .next t ∧ t.pw.dome = true ∧ t.fg F.DOME_PADS.HELD = 1) ∧
    (When.taken s who pwrCtlAddr → s.transition = false → s.fb F.MGT_STORE_STATUS.BUSY = true →
      ∃ t, exec (.domeEntry who v) s = .next t ∧ t.fg F.PWR_STATUS.REFUSED = 1 ∧ t.fg F.PWR_STATUS.REFUSE_WHY = 2 ∧ t.pw = s.pw) ∧
    (s.wakes = true → s.pw.wake = none →
      (s.fb F.DOME_WAKE.EN_PIN = true → ∃ t, exec .wakeN s = .next t ∧ t.pw.wake = some 1 ∧ t.fg F.PWR_STATUS.LAST_WAKE = 1) ∧
      (s.fb F.DOME_WAKE.EN_I3C = true → ∃ t, exec .i3cWake s = .next t ∧ t.pw.wake = some 2 ∧ t.fg F.PWR_STATUS.LAST_WAKE = 2) ∧
      (s.fb F.DOME_WAKE.EN_TIMER = true → s.pw.dome = true → ∃ t, exec .timerWake s = .next t ∧ t.pw.wake = some 3 ∧
        t.fg F.PWR_STATUS.LAST_WAKE = 3)) ∧
    (s.pw.dome = true → s.pw.wake ≠ none → s.pw.holdover = false → s.pw.refMissing = false → s.pw.tripped = false →
      (env.saveOk = false → ∃ t, exec (.domeExit env) s = .next t ∧ When.atFuses s t F.RST_CAUSE.DOME_LOST) ∧
      (env.saveOk = true → smFind (s.mg.flash.checked env.mgmtA env.mgmtB).imgs (imgKey 1 (When.firstSlot s 1)) = some i →
        s.mg.fuse.fails 1 i = none →
        s.fb F.MGT_STATUS.RECOVERY = false → s.pw.copyStale = false → s.copyOk = true → ∃ t, exec (.domeExit env) s = .next t ∧ t.pw.dome = false ∧
          t.fg F.PWR_STATUS.STATE = 0 ∧
          t.fg F.MGT_STATUS.STAGE = 8 ∧ t.fg F.DOME_PADS.HELD = 0)) ∧
    (When.taken s who (⟨.DOME_PADS, 0, 0, 0⟩ : RegKey).addr →
      (s.pw.physDue = false → ∃ t, exec (.padRelease who v) s = .next t ∧ t.fg F.DOME_PADS.HELD = 0) ∧
      (s.pw.physDue = true → ∃ t, exec (.padRelease who v) s = .next t ∧ t.fg F.DOME_PADS.REFUSED = 1)) ∧
    (s.pw.dome = false →
      (s.pw.holdover = false → s.pw.refMissing = false → ∃ t, exec .refclkLoss s = .next t ∧ t.pw.holdover = true ∧ t.fg F.CLK_STATUS.REFCLK_OK = 0) ∧
      (s.pw.holdover = true → s.pw.refMissing = false → ∃ t, exec .refclkReturn s = .next t ∧ t.pw.holdover = false ∧
        t.fg F.CLK_STATUS.REFCLK_OK = 1 ∧ When.counted s t F.CLK_STATUS.LOSSES 0 0) ∧
      (s.pw.holdover = true → s.pw.tripped = false → ∃ t, exec .holdoverExpiry s = .next t ∧ When.atFuses s t F.RST_CAUSE.REFCLK ∧
        t.pw.refMissing = true))

/-- Register words that a write changes by their access types alone (R12, R533). -/
abbrev Sys2Proof.When.plainWords : List RegName :=
  [.TOP_LAG_CTL, .TOP_KAT_CTL, .QM_CTL, .MEM_SCRUB_CTL, .FAB_CTL, .FAB_E2E, .FAB_CC, .FAB_SPIRE, .ETH_CC, .ETH_HS, .MGT_ERR_CTL, .PWR_RETAIN,
    .DOME_WAKE]

/-- A requester other than a session reaches a register word that stands (R530, R531, R538). -/
abbrev Sys2Proof.When.reached (s : State) (who : Req) (k : RegKey) : Prop :=
  s.live = true ∧ (∀ n, who ≠ .session n) ∧ s.reaches who k.addr = true ∧ k.valid = true ∧ s.deadWord k = false

/-- A register write sets each field by its access type, and waits while the block of its register is being reset; another shape than one
aligned word is refused and counted; a read clears the RC fields of its word alone. Sensors are sampled; a thermal trip stops everything
and loses the stores; JTAG instructions reach the TAP (R10, R12, R457, R533, R536, R538, R554, R557, R559, R560). -/
def Obligations.RegistersSensorsAndJtag : Prop :=
  ∀ (s : State) (who : Req) (k : RegKey) (v : Word) (a : Word) (w : Nat) (sn : Sensor) (x : BitVec 16) (r : Fin 14) (y : BitVec 16) (code : Nat),
    (When.reached s who k → s.inReset k = true → a.toNat = k.addr → ∃ t, exec (.registerWrite who a 8 v) s = .next t ∧ t.regs = s.regs ∧
      ∃ b, t.pw.block = some b ∧ (k.addr, v) ∈ b.writes) ∧
    (When.reached s who k → s.inReset k = false → a.toNat = k.addr → k.name ∈ When.plainWords →
      ∃ t, exec (.registerWrite who a 8 v) s = .next t ∧ ∀ f ∈ fieldsOf k.name,
        (f.acc = .ro → bitsOf (t.rd k).toNat f.lo f.w = bitsOf (s.rd k).toNat f.lo f.w) ∧
        (f.acc = .rw → bitsOf (t.rd k).toNat f.lo f.w = stored k.name f.lo (bitsOf v.toNat f.lo f.w)) ∧
        (f.acc = .w1c → bitsOf (t.rd k).toNat f.lo f.w =
          bitsOf (s.rd k).toNat f.lo f.w - Nat.land (bitsOf (s.rd k).toNat f.lo f.w) (bitsOf v.toNat f.lo f.w))) ∧
    (When.reached s who k → a.toNat = k.addr → w ≠ 8 → ∃ t, exec (.registerWrite who a w v) s = .next t ∧
      When.counted s t F.MEM_DECODE_ERR.COUNT 0 0) ∧
    (When.reached s who k → a.toNat = k.addr → k.name ≠ .MGT_ERR_CTL →
      ∃ t, exec (.readClear who ⟨a, .ok⟩) s = .next t ∧ ∀ f ∈ fieldsOf k.name, bitsOf (t.rd k).toNat f.lo f.w =
        (if f.acc = .rc then 0 else bitsOf (s.rd k).toNat f.lo f.w)) ∧
    (s.pw.tripped = false → s.samples sn = true → ∃ t, exec (.sensorSample [(sn, x)] [(r, y)]) s = .next t ∧
      smGet (fun _ => 0x8000) t.temps (sensorNo sn) = x.toNat ∧ smGet (fun _ => 0) t.volts r.val = y.toNat) ∧
    (s.pw.tripped = false → s.pw.dome = false → s.temps = [] → ∀ (n : Fin 104) (c : Nat), c ≤ 255 →
      ∃ t, exec (.sensorSample [(.site n, BitVec.ofNat 16 (8 * c))] []) s = .next t ∧ t.fg F.MGT_THERM.HOTTEST_C = c) ∧
    (s.pw.tripped = false → s.samples sn = true → ∃ t, exec (.thermalTrip sn) s = .next t ∧ t.pw.tripped = true ∧ t.mg.stores = [] ∧
      Msg.pin pinTherm false ∈ t.out) ∧
    (∃ t, exec (.jtagInstruction .idcode) s = .next t ∧ t.pw.tap = some 1 ∧ Msg.side 0x90 1 [0x7200] ∈ t.out) ∧
    (∃ t, exec (.jtagInstruction .bypass) s = .next t ∧ t.pw.tap = some 0) ∧
    (∃ t, exec (.jtagInstruction .samplePreload) s = .next t ∧ t.pw.tap = some 2) ∧
    (∃ t, exec (.jtagInstruction .extest) s = .next t ∧ t.pw.tap = some (if s.pw.pinLow then 3 else 0)) ∧
    (s.mg.fuse.debug = false → ∃ t, exec (.jtagInstruction (.other code)) s = .next t ∧ t.pw.tap = some 0) ∧
    (∃ t, exec .trstN s = .next t ∧ t.pw.tap = none)


/-! ### Control structures whose code fails (R461, R462) -/

/-- An error record has been written: the next of the log, of class SRAM_UE, naming the structure and the index (R463, R465, R466). -/
abbrev Sys2Proof.When.sramLogged (s t : State) (structure_ index : Nat) : Prop :=
  t.fg F.MGT_ERR_LOG.HEAD = (s.fg F.MGT_ERR_LOG.HEAD + 1) % 2 ^ 32 ∧
  bitsOf (t.rd ⟨.MGT_ERR_REC, s.fg F.MGT_ERR_LOG.HEAD % 256, 0, 0⟩).toNat 0 8 = 1 ∧
  bitsOf (t.rd ⟨.MGT_ERR_REC, s.fg F.MGT_ERR_LOG.HEAD % 256, 5, 0⟩).toNat 0 8 = structure_ ∧
  (t.rd ⟨.MGT_ERR_REC, s.fg F.MGT_ERR_LOG.HEAD % 256, 6, 0⟩).toNat = index

/-- The log takes a record of the class now (R466, R467). -/
abbrev Sys2Proof.When.logRoom (s : State) : Prop :=
  s.errSoFar 1 < 100 ∧ (s.fg F.MGT_ERR_LOG.HEAD + 2 ^ 32 - s.fg F.MGT_ERR_LOG.TAIL) % 2 ^ 32 ≠ 256

/-- An uncorrectable error in a control structure is recorded with the structure and its index and has its outcome: a queue is disabled,
a routing-table entry acts as FALLBACK 63, a connection enters ERROR, a scaling record's CUR is poisoned and its push skipped, a deviation
record reads 0, a TOP control register returns to its reset value (R462). -/
def Obligations.ControlStructuresFail : Prop :=
  ∀ (s : State) (who : Req) (q : BitVec 16) (v : Word) (p : Pkt) (l : Option (Fin 40)) (np : NetPkt) (k : RegKey) (a : Word) (c : Fin 96)
    (d : Nat) (tag : BitVec 12) (land : LandErr) (met : List (BitVec 42 × Ecc)),
    When.logRoom s →
    (s.live = true → s.qmAllows who = true → s.fg F.QM_QDESC.STATE q.toNat = 1 → s.fg F.QM_QDESC.TYPE q.toNat = qCommand →
      ∃ t, exec (.doorbell who ⟨q, .uncorrectable⟩ 8 v) s = .next t ∧ When.sramLogged s t 6 q.toNat ∧
        t.fg F.QM_QDESC.STATE q.toNat = 2 ∧ t.fg F.QM_QDESC.EN q.toNat = 0) ∧
    (When.inRouter s p l np → s.readsEntry np = true →
      ∃ t, exec (.route p l .entryUncorrectable) s = .next t ∧ (t.entry p.epoch p.dst.toNat).2 = 63 ∧ t.arrived = s.arrived ∧
        t.fg F.FAB_DROP.NOROUTE = satAdd F.FAB_DROP.NOROUTE.w (s.fg F.FAB_DROP.NOROUTE) 1) ∧
    (p.ptype = 1 → p.dst.toNat = s.devId → s.connOpen p.dconn.toNat = true →
      ∃ t, exec (.write ⟨p, .uncorrectable, land⟩) s = .next t ∧ t.fg F.FAB_CONN.STATE 0 p.dconn.toNat = 2 ∧ ∀ b : Nat, ¬ s.inEventRing b →
        t.byte b = s.byte b) ∧
    (When.vecSole s c d 0x0E → (Vod.ofWords (s.run d).desc).tags = [tag.toNat] → (s.scaleRec tag.toNat).track = true →
      bitOf (Vod.ofWords (s.run d).desc).func 0 = false →
      ∃ t, exec (.amaxPush ⟨c, tag, .uncorrectable, met⟩) s = .next t ∧ (t.scaleRec tag.toNat).cur = 0 ∧
        (t.scaleRec tag.toNat).hist = (s.scaleRec tag.toNat).hist ∧ (t.scaleRec tag.toNat).scale = (s.scaleRec tag.toNat).scale ∧
        t.fg F.TOP_SCALE_STATUS.POISON_SKIPS = satAdd F.TOP_SCALE_STATUS.POISON_SKIPS.w (s.fg F.TOP_SCALE_STATUS.POISON_SKIPS) 1) ∧
    (When.vecSole s c d 0x11 → tag.toNat ∈ (Vod.ofWords (s.run d).desc).tags →
      ∃ t, exec (.devSave ⟨c, tag, .uncorrectable, met⟩) s = .next t ∧ t.devRec tag.toNat = {}) ∧
    (s.live = true → (∀ n, who ≠ .session n) → s.reaches who k.addr = true → a.toNat = k.addr → k.valid = true → k.name ∈ topControls →
      ∃ t, exec (.readClear who ⟨a, .uncorrectable⟩) s = .next t ∧ ∀ f ∈ fieldsOf k.name, f.acc = .rw →
        bitsOf (t.rd k).toNat f.lo f.w = k.resetField f % 2 ^ f.w)


/-! ### The whole device -/

/-- A step keeps the addressed memories in their canonical form (R74, R255, R257). -/
def Obligations.EveryStepKeepsTheCanonicalForm : Prop :=
  ∀ s t : State, s.canonical = true → step s = .next t → t.canonical = true

/-- After a power-on reset nothing waits, no memory is listed, and registers hold the values their tables give (R14, R160, R357, R422, R423,
R523). -/
def Obligations.ResetLeavesTheStatedValues : Prop :=
  State.reset.canonical = true ∧ State.reset.pending = [] ∧ (∀ a, State.reset.byte a = 0) ∧
  State.reset.fg F.TOP_GROUP_LO.CORES_LO = 2 ^ 64 - 1 ∧ State.reset.fg F.TOP_GROUP_LO.CORES_LO 1 = 0 ∧
  State.reset.fg F.FAB_CTL.HOP_LIMIT = 31 ∧ State.reset.fg F.FAB_EPOCH.CUR = 0 ∧
  (∀ p : Fin 8, State.reset.fg F.ETH_CTL.EN p.val = 1 ∧ State.reset.fg F.ETH_CTL.ADV p.val = 15 ∧ State.reset.fg F.ETH_CTL.MTU p.val = 5 ∧
    State.reset.fg F.ETH_STATUS.NETWORK p.val = p.val / 4) ∧
  (∀ l : Fin 40, State.reset.lg F.FAB_LINK_STATUS.STATE l.val = 0) ∧ State.reset.fg F.QM_OWNER.OWNED = 0 ∧ State.reset.live = false

/-- The command at the front of the queue runs on the state with the queue's rest; with no command waiting a microsecond passes (the
model's choice, log entry 2). -/
def Obligations.StepRunsTheFrontCommand : Prop :=
  (∀ (s : State) (c : Instr), step { s with pending := c :: s.pending } = exec c s) ∧
  (∀ (s : State) (c : Instr) (cs : List Instr), s.pending = c :: cs → step s = exec c { s with pending := cs }) ∧
  (∀ s : State, s.pending = [] → ∃ t, step s = .next t ∧ t.pending = [])

/-- Every command completes from every state, but for a JTAG instruction that reaches the debug logic of a part whose debug fuse is blown
(R496, R554); and none touches the queue of those that wait. -/
def Obligations.CommandsCompleteAndLeaveTheQueue : Prop :=
  ∀ (i : Instr) (s : State),
    ((∃ t, exec i s = .next t ∧ t.pending = s.pending) ↔ ¬ ∃ code, i = .jtagInstruction (.other code) ∧ s.mg.fuse.debug = true) ∧
    (∀ code, s.mg.fuse.debug = true → exec (.jtagInstruction (.other code)) s = .refused .debugLogic)

/-- A store to memory reads back byte for byte, marks only the units it names, and leaves every other byte and mark alone (R9, R257). -/
def Obligations.MemoryReadsWhatWasStored : Prop :=
  ∀ (s : State) (a : Nat) (bs : List Byte) (pz : List Nat),
    (∀ i b, bs[i]? = some b → (s.store a bs pz).byte (a + i) = b) ∧
    (∀ c, c < a ∨ a + bs.length ≤ c → (s.store a bs pz).byte c = s.byte c) ∧
    (∀ u, (∀ i, i < bs.length → (a + i) / 64 ≠ u) → (s.store a bs pz).mark u = s.mark u) ∧
    (∀ u, u ∈ pz → (∃ i, i < bs.length ∧ (a + i) / 64 = u) → (s.store a bs pz).mark u = true) ∧
    (s.store a bs pz).regs = s.regs ∧ (s.canonical = true → (s.store a bs pz).canonical = true)

/-- Where a command may change bytes of memory. -/
inductive Sys2Proof.Changes.Extent where
  | nothing
  | eventRings
  | anywhere
  deriving DecidableEq, Repr

/-- What a command may change: parts of the state, register words by name, and bytes of memory. -/
structure Sys2Proof.Changes where
  parts : List StatePart
  words : List RegName
  memory : Changes.Extent
  deriving DecidableEq, Repr

/-- What each command may change; everything else stays as it was. -/
def Sys2Proof.Changes.ofCommand (i : Instr) : Changes :=
  match i with
  | .doorbell _ ⟨_, .ok⟩ _ _ =>
    ⟨[.regs, .mem, .marks],
      [.QM_QDESC_W0, .QM_QDESC_W2, .QM_QDESC_W7, .QM_STATS, .PWR_STATUS], .eventRings⟩
  | .matrix _ [] | .decant _ [] =>
    ⟨[.regs, .runs],
      [.CORE_FMT_STICKY, .ACC_STICKY, .VEC_STICKY, .MEM_DECODE_ERR], .nothing⟩
  | .indexTake ⟨_, []⟩ =>
    ⟨[.regs, .runs, .cores, .nextTag],
      [.TOP_TCOUNT, .CORE_CP_STATUS, .CORE_CP_FAULT, .CORE_CP_FAULT_DESC, .CORE_CP_INDICES, .VEC_STATUS, .MEM_DECODE_ERR], .nothing⟩
  | .strided _ _ | .convert _ ⟨_, []⟩ | .gather _ _ | .scatter _ _ =>
    ⟨[.regs, .runs, .cores, .freeCtr],
      [.STR_BYTES_RD, .STR_ERR_COUNT, .MEM_DECODE_ERR], .nothing⟩
  | .accred ⟨_, []⟩ | .amaxSave ⟨_, []⟩ | .amaxPush ⟨_, _, .ok, []⟩ | .scaleSave ⟨_, []⟩ | .scaleLoad ⟨_, []⟩ | .devSave ⟨_, _, .ok, []⟩ =>
    ⟨[.regs, .mem, .marks, .runs, .cores, .scales, .devs, .nextTag, .freeCtr],
      [.TOP_SCALE_STATUS, .STR_ERR_COUNT, .VEC_STATUS, .VEC_CYCLES, .CORE_FMT_STICKY, .ACC_STICKY, .VEC_STICKY, .MEM_DECODE_ERR],
        .anywhere⟩
  | .readClear _ ⟨_, .ok⟩ =>
    ⟨[.regs, .sess, .ethHold, .out],
      RegName.all, .nothing⟩
  | .doorbell _ _ _ _ =>
    ⟨[.regs, .mem, .marks, .runs, .quiesce, .errWin, .mg],
      [.QM_QDESC_W0, .QM_QDESC_W2, .QM_QDESC_W3, .QM_QDESC_W4, .QM_QDESC_W7, .QM_STATS, .COL_LAYOUT, .MGT_ERR_LOG, .MGT_ERR_CTL,
        .MGT_ERR_REC, .PWR_STATUS], .eventRings⟩
  | .queueEnable _ _ _ | .queueDisable _ _ _ =>
    ⟨[.regs, .mem, .marks, .runs, .quiesce],
      [.QM_QDESC_W0, .QM_QDESC_W2, .QM_QDESC_W3, .QM_QDESC_W4, .QM_QDESC_W7, .QM_STATS, .COL_LAYOUT], .eventRings⟩
  | .coreDisable _ _ | .coreDisableClear _ _ =>
    ⟨[.regs, .cores, .quiesce],
      [.TOP_CORE_MAP, .QM_STATS, .QM_CORE_DIS_LO, .QM_CORE_DIS_HI], .nothing⟩
  | .portDisable _ _ | .portDisableClear _ _ =>
    ⟨[.regs, .quiesce],
      [.QM_STATS, .QM_PORT_DIS], .nothing⟩
  | .quiesceEnd _ | .quiesceTimeout _ | .commandComplete _ | .flitGroup _ _ | .mgmtRead _ | .mgmtWrite _ | .mgmtSr _ | .rdmaWrite _ _ |
    .repairHoldEnd _ _ | .retirement _ _ _ | .activate _ _ _ | .activateFirmware | .vendorRegisterWrite _ _ | .system _ _ | .coreReset _ _
    | .blockResetTimeout | .shelf _ _ | .shelfExit _ | .domeEntry _ _ | .domeExit _ | .registerWrite _ _ _ _ =>
    ⟨[.regs, .shadow, .mem, .marks, .acc, .runs, .cores, .units, .scales, .devs, .sieve, .quiesce, .groupPend, .lastServed, .errWin,
      .temps, .volts, .links, .conns, .net, .arrived, .drain, .notices, .colls, .sess, .hsWin, .echoWin, .ethHold, .mg, .pw, .nakAt,
      .hbMissed, .termSeen, .bridges, .lantern, .lanternFabric, .ceRings, .repairs, .nextTag, .out, .freeCtr, .pauseTx, .hbSeen,
      .spireTerm],
      RegName.all, .anywhere⟩
  | .claim _ _ =>
    ⟨[.regs, .mem, .marks],
      [.QM_QDESC_W2, .QM_QDESC_W7, .QM_OWNER, .QM_STATS], .eventRings⟩
  | .release _ | .forcedRelease _ =>
    ⟨[.regs, .mem, .marks, .runs, .quiesce],
      [.QM_QDESC_W0, .QM_QDESC_W2, .QM_QDESC_W3, .QM_QDESC_W4, .QM_QDESC_W7, .QM_OWNER, .QM_STATS, .COL_LAYOUT], .eventRings⟩
  | .commandStart _ _ =>
    ⟨[.regs, .mem, .marks, .runs, .cores, .quiesce, .lastServed, .errWin, .colls, .mg, .ceRings, .freeCtr],
      [.TOP_GROUP_LO, .TOP_TCOUNT, .QM_QDESC_W0, .QM_QDESC_W2, .QM_QDESC_W3, .QM_QDESC_W4, .QM_QDESC_W7, .QM_STATS, .MEM_STACK_ECC,
        .MEM_DDR_ECC, .COL_LAYOUT, .MGT_ERR_LOG, .MGT_ERR_CTL, .MGT_ERR_REC], .anywhere⟩
  | .matrix _ _ | .decant _ _ =>
    ⟨[.regs, .mem, .marks, .runs, .errWin, .mg, .ceRings, .freeCtr],
      [.CORE_FMT_STICKY, .ACC_STICKY, .VEC_STICKY, .QM_QDESC_W2, .QM_QDESC_W7, .QM_STATS, .MEM_DECODE_ERR, .MEM_STACK_ECC,
        .MEM_DDR_ECC, .MGT_ERR_LOG, .MGT_ERR_CTL, .MGT_ERR_REC], .anywhere⟩
  | .nop _ =>
    ⟨[.runs],
      [], .nothing⟩
  | .stream _ =>
    ⟨[.regs, .mem, .marks, .runs, .cores],
      [.QM_QDESC_W0, .QM_QDESC_W2, .QM_QDESC_W7, .QM_STATS], .anywhere⟩
  | .cqRecordWrite _ =>
    ⟨[.regs, .mem, .marks, .runs, .cores, .quiesce, .groupPend, .errWin, .sess, .ethHold, .mg, .ceRings, .out, .freeCtr],
      [.TOP_GROUP_LO, .TOP_GROUP_HI, .CORE_CP_STATUS, .QM_QDESC_W0, .QM_QDESC_W2, .QM_QDESC_W4, .QM_QDESC_W5, .QM_QDESC_W6,
        .QM_QDESC_W7, .QM_STATS, .MEM_STACK_ECC, .MEM_DDR_ECC, .ETH_STATUS, .ETH_SESS_W0, .ETH_SESS_W1, .ETH_SESS_W2, .ETH_SESS_W3,
        .MGT_ERR_LOG, .MGT_ERR_CTL, .MGT_ERR_REC], .anywhere⟩
  | .groupWrite _ _ _ _ =>
    ⟨[.regs, .groupPend],
      [.TOP_GROUP_LO, .TOP_GROUP_HI], .nothing⟩
  | .indexTake _ =>
    ⟨[.regs, .mem, .marks, .runs, .cores, .errWin, .mg, .ceRings, .nextTag, .freeCtr],
      [.TOP_TCOUNT, .CORE_CP_STATUS, .CORE_CP_FAULT, .CORE_CP_FAULT_DESC, .CORE_CP_INDICES, .VEC_STATUS, .QM_QDESC_W2, .QM_QDESC_W7,
        .QM_STATS, .MEM_DECODE_ERR, .MEM_STACK_ECC, .MEM_DDR_ECC, .MGT_ERR_LOG, .MGT_ERR_CTL, .MGT_ERR_REC], .anywhere⟩
  | .multicastFetch _ _ =>
    ⟨[.regs, .runs, .cores, .nextTag],
      [.TOP_TCOUNT, .CORE_CP_STATUS, .CORE_CP_FAULT, .CORE_CP_FAULT_DESC], .nothing⟩
  | .slotAllocation _ _ =>
    ⟨[.regs, .runs, .cores],
      [.TOP_TCOUNT, .CORE_CP_STATUS, .CORE_CP_FAULT, .CORE_CP_FAULT_DESC], .nothing⟩
  | .segmentIssue _ _ _ =>
    ⟨[.regs, .mem, .marks, .acc, .runs, .cores, .errWin, .mg],
      [.MTX_ACTIVE, .CORE_FMT_STICKY, .ACC_STICKY, .VEC_STICKY, .QM_QDESC_W2, .QM_QDESC_W7, .QM_STATS, .MGT_ERR_LOG, .MGT_ERR_CTL,
        .MGT_ERR_REC], .eventRings⟩
  | .segmentComplete _ _ _ =>
    ⟨[.regs, .mem, .marks, .cores, .errWin, .mg],
      [.MTX_ECC, .QM_QDESC_W2, .QM_QDESC_W7, .QM_STATS, .MGT_ERR_LOG, .MGT_ERR_CTL, .MGT_ERR_REC], .eventRings⟩
  | .int32Repeat _ _ _ =>
    ⟨[.regs, .mem, .marks, .acc, .runs, .cores, .errWin, .mg, .ceRings, .freeCtr],
      [.MTX_ACTIVE, .MTX_DECANT, .MTX_ECC, .STR_BYTES_RD, .STR_ERR_COUNT, .CORE_FMT_STICKY, .ACC_STICKY, .VEC_STICKY, .QM_QDESC_W2,
        .QM_QDESC_W7, .QM_STATS, .MEM_STACK_ECC, .MEM_DDR_ECC, .MGT_ERR_LOG, .MGT_ERR_CTL, .MGT_ERR_REC], .anywhere⟩
  | .decantSweep _ _ _ _ =>
    ⟨[.regs, .mem, .marks, .runs, .cores, .errWin, .mg, .nextTag],
      [.TOP_TCOUNT, .CORE_CP_STATUS, .CORE_CP_FAULT, .CORE_CP_FAULT_DESC, .MTX_DECANT, .MTX_ECC, .QM_QDESC_W2, .QM_QDESC_W7,
        .QM_STATS, .MGT_ERR_LOG, .MGT_ERR_CTL, .MGT_ERR_REC], .anywhere⟩
  | .decantVerdict _ _ =>
    ⟨[.regs, .mem, .marks, .runs, .cores, .scales, .sieve, .errWin, .mg],
      [.CORE_FMT_STICKY, .ACC_STICKY, .VEC_STICKY, .QM_QDESC_W2, .QM_QDESC_W7, .QM_STATS, .MGT_ERR_LOG, .MGT_ERR_CTL, .MGT_ERR_REC],
        .eventRings⟩
  | .descriptorBatchRead _ _ _ =>
    ⟨[.regs, .mem, .marks, .cores, .errWin, .mg, .ceRings, .freeCtr],
      [.STR_BYTES_RD, .STR_ERR_COUNT, .QM_QDESC_W2, .QM_QDESC_W7, .QM_STATS, .MEM_DECODE_ERR, .MEM_STACK_ECC, .MEM_DDR_ECC,
        .MGT_ERR_LOG, .MGT_ERR_CTL, .MGT_ERR_REC], .anywhere⟩
  | .convert _ _ =>
    ⟨[.regs, .mem, .marks, .runs, .cores, .errWin, .mg, .ceRings, .freeCtr],
      [.STR_BYTES_RD, .STR_ERR_COUNT, .QM_QDESC_W2, .QM_QDESC_W7, .QM_STATS, .MEM_DECODE_ERR, .MEM_STACK_ECC, .MEM_DDR_ECC,
        .MGT_ERR_LOG, .MGT_ERR_CTL, .MGT_ERR_REC], .anywhere⟩
  | .transferIssue _ _ _ =>
    ⟨[.regs, .mem, .marks, .runs, .cores, .units, .scales, .errWin, .conns, .net, .mg, .ceRings, .nextTag, .freeCtr],
      [.STR_BYTES_RD, .STR_POISON_FIRST, .STR_POISON_ADDR, .STR_ERR_COUNT, .CORE_FMT_STICKY, .ACC_STICKY, .VEC_STICKY, .QM_QDESC_W2,
        .QM_QDESC_W7, .QM_STATS, .MEM_DECODE_ERR, .MEM_STACK_ECC, .MEM_DDR_ECC, .FAB_CTL, .FAB_CONN_W1, .FAB_CONN_W2, .MGT_ERR_LOG,
        .MGT_ERR_CTL, .MGT_ERR_REC], .anywhere⟩
  | .transferLanded _ _ _ =>
    ⟨[.regs, .mem, .marks, .runs, .cores, .units, .errWin, .conns, .net, .notices, .mg, .lantern, .lanternFabric, .ceRings, .nextTag,
      .freeCtr],
      [.TOP_LANTERN, .STR_BYTES_RD, .STR_BYTES_WR, .STR_POISON_FIRST, .STR_POISON_ADDR, .CORE_FMT_STICKY, .ACC_STICKY, .VEC_STICKY,
        .QM_QDESC_W0, .QM_QDESC_W2, .QM_QDESC_W7, .QM_STATS, .MEM_DECODE_ERR, .MEM_STACK_ECC, .MEM_DDR_ECC, .FAB_CTL, .FAB_CONN_W1,
        .FAB_CONN_W2, .COL_STAGE_HWM, .MGT_ERR_LOG, .MGT_ERR_CTL, .MGT_ERR_REC], .anywhere⟩
  | .streamEnd _ _ =>
    ⟨[.regs, .mem, .marks, .runs, .cores, .errWin, .mg, .ceRings, .freeCtr],
      [.STR_ERR_COUNT, .QM_QDESC_W0, .QM_QDESC_W2, .QM_QDESC_W7, .QM_STATS, .MEM_STACK_ECC, .MEM_DDR_ECC, .MGT_ERR_LOG, .MGT_ERR_CTL,
        .MGT_ERR_REC], .anywhere⟩
  | .handlePost _ _ =>
    ⟨[.regs, .mem, .marks, .runs, .cores, .errWin, .mg, .ceRings, .freeCtr],
      [.QM_QDESC_W0, .QM_QDESC_W2, .QM_QDESC_W7, .QM_STATS, .MEM_STACK_ECC, .MEM_DDR_ECC, .MGT_ERR_LOG, .MGT_ERR_CTL, .MGT_ERR_REC],
        .anywhere⟩
  | .add256 _ _ | .add32s _ _ | .max32 _ _ | .min32 _ _ | .maxf _ _ | .minf _ _ | .topk _ _ | .addf _ _ =>
    ⟨[.regs, .mem, .marks, .runs, .cores, .units, .errWin, .conns, .net, .notices, .mg, .lantern, .lanternFabric, .ceRings, .out,
      .freeCtr],
      [.TOP_LANTERN, .STR_BYTES_RD, .STR_POISON_FIRST, .STR_POISON_ADDR, .CORE_FMT_STICKY, .ACC_STICKY, .VEC_STICKY, .QM_QDESC_W0,
        .QM_QDESC_W2, .QM_QDESC_W7, .QM_STATS, .MEM_DECODE_ERR, .MEM_STACK_ECC, .MEM_DDR_ECC, .MEM_ATOM, .FAB_CTL, .FAB_CONN_W1,
        .FAB_CONN_W2, .MGT_ERR_LOG, .MGT_ERR_CTL, .MGT_ERR_REC], .anywhere⟩
  | .map _ | .fma _ | .rsum _ | .rdot _ | .lnorm _ | .rmsnorm _ | .softmax _ | .xent _ | .sumsq _ | .adamw _ | .topkm _ =>
    ⟨[.regs, .mem, .marks, .runs, .cores, .scales, .freeCtr],
      [.STR_ERR_COUNT, .VEC_STATUS, .VEC_CYCLES, .CORE_FMT_STICKY, .ACC_STICKY, .VEC_STICKY], .anywhere⟩
  | .accred _ | .amaxSave _ | .amaxPush _ | .scaleSave _ | .scaleLoad _ | .devSave _ =>
    ⟨[.regs, .mem, .marks, .runs, .cores, .scales, .devs, .errWin, .mg, .ceRings, .nextTag, .freeCtr],
      [.TOP_SCALE_STATUS, .STR_ERR_COUNT, .VEC_STATUS, .VEC_CYCLES, .CORE_FMT_STICKY, .ACC_STICKY, .VEC_STICKY, .QM_QDESC_W2,
        .QM_QDESC_W7, .QM_STATS, .MEM_DECODE_ERR, .MEM_STACK_ECC, .MEM_DDR_ECC, .MGT_ERR_LOG, .MGT_ERR_CTL, .MGT_ERR_REC], .anywhere⟩
  | .allreduceX _ | .allreduceR _ | .reduceScatter _ | .allgather _ | .broadcast _ | .barrier _ | .allreduceMax _ | .permute _ | .whisk
    _ | .alltoall _ =>
    ⟨[.regs, .mem, .marks, .runs, .scales, .errWin, .conns, .net, .notices, .colls, .mg, .ceRings, .freeCtr],
      [.QM_QDESC_W2, .QM_QDESC_W7, .QM_STATS, .MEM_DECODE_ERR, .MEM_STACK_ECC, .MEM_DDR_ECC, .FAB_CTL, .FAB_CONN_W1, .FAB_CONN_W2,
        .COL_COUNT, .COL_ERR, .COL_LAYOUT, .MGT_ERR_LOG, .MGT_ERR_CTL, .MGT_ERR_REC], .anywhere⟩
  | .pieceAdd _ _ _ =>
    ⟨[.regs, .mem, .marks, .runs, .errWin, .conns, .net, .notices, .colls, .mg, .ceRings, .freeCtr],
      [.QM_QDESC_W2, .QM_QDESC_W7, .QM_STATS, .MEM_STACK_ECC, .MEM_DDR_ECC, .FAB_CTL, .FAB_CONN_W1, .FAB_CONN_W2, .COL_COUNT,
        .COL_ERR, .MGT_ERR_LOG, .MGT_ERR_CTL, .MGT_ERR_REC], .anywhere⟩
  | .collectiveStall _ =>
    ⟨[.regs, .mem, .marks, .runs, .notices, .colls, .freeCtr],
      [.COL_ERR, .COL_LAYOUT], .anywhere⟩
  | .hello _ _ _ _ =>
    ⟨[.regs],
      [.FAB_LINK_STATUS], .nothing⟩
  | .drain _ _ _ =>
    ⟨[.regs, .links, .net, .drain, .out],
      [.FAB_EPOCH, .FAB_CMAP], .nothing⟩
  | .laneDegrade _ _ _ =>
    ⟨[.regs, .mem, .marks, .errWin, .links, .net, .drain, .mg, .out],
      [.QM_QDESC_W2, .QM_QDESC_W7, .QM_STATS, .FAB_EPOCH, .FAB_DROP, .FAB_LINK_STATUS, .FAB_LINK_ERR, .FAB_CMAP, .MGT_ERR_LOG,
        .MGT_ERR_CTL, .MGT_ERR_REC], .eventRings⟩
  | .linkTrainRetry _ =>
    ⟨[.regs, .links],
      [.FAB_LINK_STATUS, .FAB_LINK_CTL], .nothing⟩
  | .linkDown _ =>
    ⟨[.regs, .mem, .marks, .errWin, .links, .net, .drain, .mg, .out],
      [.QM_QDESC_W2, .QM_QDESC_W7, .QM_STATS, .FAB_EPOCH, .FAB_DROP, .FAB_LINK_STATUS, .FAB_CMAP, .MGT_ERR_LOG, .MGT_ERR_CTL,
        .MGT_ERR_REC], .eventRings⟩
  | .retune _ _ _ | .linkEnable _ _ _ =>
    ⟨[.regs, .links, .net, .drain, .pw, .out],
      [.FAB_EPOCH, .FAB_DROP, .FAB_LINK_STATUS, .FAB_LINK_CTL, .FAB_CMAP], .nothing⟩
  | .retuneDone _ _ | .linkTrained _ _ _ =>
    ⟨[.regs, .mem, .marks, .errWin, .links, .net, .drain, .mg, .out],
      [.QM_QDESC_W2, .QM_QDESC_W7, .QM_STATS, .FAB_ID, .FAB_EPOCH, .FAB_DROP, .FAB_LINK_STATUS, .FAB_LINK_ERR, .FAB_CMAP,
        .MGT_ERR_LOG, .MGT_ERR_CTL, .MGT_ERR_REC], .eventRings⟩
  | .route _ _ _ =>
    ⟨[.regs, .mem, .marks, .errWin, .links, .net, .arrived, .drain, .mg, .out],
      [.QM_QDESC_W2, .QM_QDESC_W7, .QM_STATS, .FAB_EPOCH, .FAB_DROP, .FAB_CMAP, .FAB_ROUTE_GROUP, .FAB_ROUTE_MEMBER, .MGT_ERR_LOG,
        .MGT_ERR_CTL, .MGT_ERR_REC], .eventRings⟩
  | .escape _ =>
    ⟨[.regs, .links, .net, .arrived, .out],
      [.FAB_DROP, .FAB_CMAP], .nothing⟩
  | .write _ | .combine _ | .readReq _ | .readResp _ | .signal _ | .doorbellPacket _ =>
    ⟨[.regs, .mem, .marks, .runs, .cores, .units, .errWin, .conns, .net, .arrived, .notices, .mg, .nakAt, .lantern, .lanternFabric,
      .ceRings, .freeCtr],
      [.TOP_LANTERN, .STR_BYTES_RD, .STR_POISON_FIRST, .STR_POISON_ADDR, .QM_QDESC_W0, .QM_QDESC_W2, .QM_QDESC_W7, .QM_STATS,
        .MEM_DECODE_ERR, .MEM_STACK_ECC, .MEM_DDR_ECC, .FAB_CTL, .FAB_RX, .FAB_CONN_W0, .FAB_CONN_W1, .FAB_CONN_W2, .FAB_CONN_W3,
        .MGT_ERR_LOG, .MGT_ERR_CTL, .MGT_ERR_REC], .anywhere⟩
  | .ack _ =>
    ⟨[.regs, .mem, .marks, .runs, .cores, .errWin, .conns, .net, .arrived, .mg, .freeCtr],
      [.CORE_FMT_STICKY, .ACC_STICKY, .VEC_STICKY, .QM_QDESC_W2, .QM_QDESC_W7, .QM_STATS, .FAB_CTL, .FAB_CONN_W0, .FAB_CONN_W1,
        .FAB_CONN_W2, .FAB_CONN_W3, .MGT_ERR_LOG, .MGT_ERR_CTL, .MGT_ERR_REC], .anywhere⟩
  | .nak _ =>
    ⟨[.regs, .mem, .marks, .runs, .cores, .errWin, .conns, .net, .arrived, .mg, .ceRings, .freeCtr],
      [.QM_QDESC_W2, .QM_QDESC_W7, .QM_STATS, .MEM_STACK_ECC, .MEM_DDR_ECC, .FAB_CTL, .FAB_CONN_W0, .FAB_CONN_W1, .FAB_CONN_W2,
        .FAB_CONN_W3, .MGT_ERR_LOG, .MGT_ERR_CTL, .MGT_ERR_REC], .anywhere⟩
  | .cnp _ =>
    ⟨[.regs, .mem, .marks, .runs, .cores, .errWin, .conns, .arrived, .mg, .freeCtr],
      [.QM_QDESC_W2, .QM_QDESC_W7, .QM_STATS, .FAB_CONN_W0, .FAB_CONN_W2, .FAB_CONN_W3, .MGT_ERR_LOG, .MGT_ERR_CTL, .MGT_ERR_REC],
        .anywhere⟩
  | .ackDelayUs _ =>
    ⟨[.regs, .conns, .net],
      [.FAB_CTL, .FAB_CONN_W1], .nothing⟩
  | .gapUs _ =>
    ⟨[.regs, .net],
      [.FAB_CTL, .FAB_CONN_W1], .nothing⟩
  | .rtoUs _ =>
    ⟨[.regs, .mem, .marks, .runs, .cores, .errWin, .conns, .net, .mg, .ceRings, .freeCtr],
      [.QM_QDESC_W2, .QM_QDESC_W7, .QM_STATS, .MEM_STACK_ECC, .MEM_DDR_ECC, .FAB_CTL, .FAB_CONN_W0, .FAB_CONN_W2, .FAB_CONN_W3,
        .MGT_ERR_LOG, .MGT_ERR_CTL, .MGT_ERR_REC], .anywhere⟩
  | .incUs _ =>
    ⟨[.regs, .conns],
      [.FAB_CONN_W2], .nothing⟩
  | .mgmtResponse _ =>
    ⟨[.regs, .arrived, .termSeen],
      [.FAB_SPIRE], .nothing⟩
  | .heartbeat _ =>
    ⟨[.arrived, .hbMissed, .termSeen, .hbSeen],
      [], .nothing⟩
  | .heartbeatSend =>
    ⟨[.regs, .net],
      [.FAB_CTL, .FAB_SPIRE], .nothing⟩
  | .spireTakeover _ _ =>
    ⟨[.regs, .links, .net, .drain, .hbMissed, .termSeen, .out, .hbSeen, .spireTerm],
      [.FAB_CTL, .FAB_EPOCH, .FAB_BANK_CRC, .FAB_SPIRE, .FAB_CMAP], .nothing⟩
  | .seal _ _ | .switch _ _ | .clear _ _ =>
    ⟨[.regs, .links, .net, .drain, .out],
      [.FAB_EPOCH, .FAB_BANK_CRC, .FAB_CMAP], .nothing⟩
  | .routeTableWrite _ _ _ _ _ =>
    ⟨[.regs],
      [.FAB_EPOCH, .FAB_ROUTE_GROUP, .FAB_ROUTE_MEMBER], .nothing⟩
  | .connectionOpen _ _ _ | .connectionClose _ _ _ =>
    ⟨[.regs, .mem, .marks, .runs, .cores, .conns, .freeCtr],
      [.FAB_CONN_W0, .FAB_CONN_W1, .FAB_CONN_W2, .FAB_CONN_W3], .anywhere⟩
  | .cmapUpdate =>
    ⟨[.regs],
      [.FAB_CMAP], .nothing⟩
  | .init _ _ =>
    ⟨[.regs, .sess, .hsWin, .out, .freeCtr],
      [.ETH_CTL, .ETH_SEAL, .ETH_SESS_W0, .ETH_SESS_W1], .nothing⟩
  | .finish _ _ _ =>
    ⟨[.regs, .sess, .hsWin, .ethHold, .out],
      [.QM_STATS, .ETH_STATUS, .ETH_SESS_W0, .ETH_SESS_W1, .ETH_SESS_W2, .ETH_SESS_W3, .MGT_HOSTKEY_W0], .nothing⟩
  | .handshakeTimeout _ =>
    ⟨[.regs, .sess, .ethHold],
      [.QM_STATS, .ETH_STATUS, .ETH_SESS_W0, .ETH_SESS_W1, .ETH_SESS_W2, .ETH_SESS_W3], .nothing⟩
  | .certReq _ _ _ _ =>
    ⟨[.hsWin, .out],
      [], .nothing⟩
  | .rekey _ _ _ =>
    ⟨[.regs, .mem, .marks, .errWin, .sess, .ethHold, .mg, .out],
      [.QM_QDESC_W2, .QM_QDESC_W7, .QM_STATS, .ETH_STATUS, .ETH_SEAL, .ETH_SESS_W0, .ETH_SESS_W1, .ETH_SESS_W2, .ETH_SESS_W3,
        .MGT_ERR_LOG, .MGT_ERR_CTL, .MGT_ERR_REC], .eventRings⟩
  | .oldPhaseExpiry _ =>
    ⟨[.sess],
      [], .nothing⟩
  | .close _ _ _ =>
    ⟨[.regs, .mem, .marks, .errWin, .sess, .ethHold, .mg],
      [.QM_QDESC_W2, .QM_QDESC_W7, .QM_STATS, .ETH_STATUS, .ETH_SEAL, .ETH_SESS_W0, .ETH_SESS_W1, .ETH_SESS_W2, .ETH_SESS_W3,
        .MGT_ERR_LOG, .MGT_ERR_CTL, .MGT_ERR_REC], .eventRings⟩
  | .sessionClose _ _ _ =>
    ⟨[.regs, .sess, .ethHold, .pw, .out],
      [.QM_STATS, .ETH_STATUS, .ETH_SESS_W0, .ETH_SESS_W1, .ETH_SESS_W2, .ETH_SESS_W3], .nothing⟩
  | .sendOnly _ _ =>
    ⟨[.regs, .mem, .marks, .errWin, .sess, .ethHold, .mg, .ceRings, .out, .freeCtr, .pauseTx],
      [.QM_QDESC_W0, .QM_QDESC_W2, .QM_QDESC_W7, .QM_STATS, .MEM_STACK_ECC, .MEM_DDR_ECC, .ETH_STATUS, .ETH_SEAL, .ETH_ROCE,
        .ETH_SESS_W0, .ETH_SESS_W1, .ETH_SESS_W2, .ETH_SESS_W3, .MGT_ERR_LOG, .MGT_ERR_CTL, .MGT_ERR_REC], .anywhere⟩
  | .rdmaRead _ _ =>
    ⟨[.regs, .mem, .marks, .errWin, .sess, .ethHold, .mg, .ceRings, .out, .freeCtr, .pauseTx],
      RegName.all, .anywhere⟩
  | .acknowledge _ _ | .roceCnp _ _ =>
    ⟨[.regs, .mem, .marks, .errWin, .sess, .ethHold, .mg, .out, .pauseTx],
      [.QM_QDESC_W2, .QM_QDESC_W7, .QM_STATS, .ETH_STATUS, .ETH_SEAL, .ETH_ROCE, .ETH_SESS_W0, .ETH_SESS_W1, .ETH_SESS_W2,
        .ETH_SESS_W3, .MGT_ERR_LOG, .MGT_ERR_CTL, .MGT_ERR_REC], .eventRings⟩
  | .ackTimeout _ =>
    ⟨[.regs, .sess, .ethHold, .out],
      [.QM_STATS, .ETH_STATUS, .ETH_ROCE, .ETH_SESS_W0, .ETH_SESS_W1, .ETH_SESS_W2, .ETH_SESS_W3], .nothing⟩
  | .arpRequest _ _ _ | .neighbourSolicitation _ _ _ =>
    ⟨[.regs, .out],
      [.ETH_MAC, .ETH_DROP], .nothing⟩
  | .echoRequest _ _ _ _ =>
    ⟨[.regs, .echoWin, .out],
      [.ETH_MAC, .ETH_DROP], .nothing⟩
  | .pfcPause _ _ _ =>
    ⟨[.regs],
      [.ETH_STATUS, .ETH_DROP, .ETH_ROCE], .nothing⟩
  | .portLinkDown _ =>
    ⟨[.regs, .ethHold, .pauseTx],
      [.ETH_STATUS], .nothing⟩
  | .portTraining _ _ _ =>
    ⟨[.regs],
      [.FAB_CC, .ETH_STATUS, .ETH_SESS_W3], .nothing⟩
  | .portLinkDisable _ _ _ =>
    ⟨[.regs, .pw],
      [.ETH_CTL, .ETH_STATUS], .nothing⟩
  | .patrolScrub _ _ _ _ =>
    ⟨[.regs, .mem, .marks, .errWin, .mg, .ceRings],
      [.QM_QDESC_W2, .QM_QDESC_W7, .QM_STATS, .MEM_STACK_ECC, .MEM_DDR_ECC, .MGT_ERR_LOG, .MGT_ERR_CTL, .MGT_ERR_REC], .anywhere⟩
  | .rowRepair _ _ _ | .laneRepair _ _ _ =>
    ⟨[.regs],
      [.MEM_STACK, .MEM_DDR_CH, .MEM_REPAIR_CMD, .MEM_REPAIR_STATUS], .nothing⟩
  | .localGib _ _ =>
    ⟨[.regs],
      [.MEM_PLACE], .nothing⟩
  | .bridgeFailure _ =>
    ⟨[.regs, .mem, .marks, .errWin, .mg, .bridges],
      [.QM_QDESC_W2, .QM_QDESC_W7, .QM_STATS, .MGT_ERR_LOG, .MGT_ERR_CTL, .MGT_ERR_REC], .eventRings⟩
  | .sieveCompare _ _ _ =>
    ⟨[.regs, .mem, .marks, .cores, .devs, .sieve, .errWin, .mg, .ceRings, .freeCtr],
      [.TOP_CHECK_REGION, .TOP_SIEVE_STATUS, .MTX_DECANT, .MTX_ECC, .STR_BYTES_RD, .STR_BYTES_WR, .STR_ERR_COUNT, .QM_QDESC_W2,
        .QM_QDESC_W7, .QM_STATS, .MEM_STACK_ECC, .MEM_DDR_ECC, .MGT_ERR_LOG, .MGT_ERR_CTL, .MGT_ERR_REC], .anywhere⟩
  | .sieveArbitration _ _ _ =>
    ⟨[.regs, .mem, .marks, .cores, .sieve, .errWin, .mg, .ceRings, .freeCtr],
      [.TOP_CORE_MAP, .TOP_CHECK_REGION, .TOP_SIEVE_STATUS, .MTX_DECANT, .MTX_ECC, .STR_BYTES_RD, .STR_BYTES_WR, .STR_ERR_COUNT,
        .QM_QDESC_W2, .QM_QDESC_W7, .QM_STATS, .MEM_STACK_ECC, .MEM_DDR_ECC, .MGT_ERR_LOG, .MGT_ERR_CTL, .MGT_ERR_REC], .anywhere⟩
  | .katPass _ _ =>
    ⟨[.regs, .mem, .marks, .cores, .errWin, .mg, .freeCtr],
      [.TOP_UNIT_COUNT, .TOP_CORE_MAP, .TOP_CHECK_REGION, .TOP_KAT_STATUS, .TOP_KAT_HELD_LO, .TOP_KAT_HELD_HI, .QM_QDESC_W2,
        .QM_QDESC_W7, .QM_STATS, .MGT_ERR_LOG, .MGT_ERR_CTL, .MGT_ERR_REC, .PWR_STATUS], .anywhere⟩
  | .katHeldClear _ _ _ =>
    ⟨[.regs, .cores],
      [.TOP_CORE_MAP, .TOP_KAT_HELD_LO, .TOP_KAT_HELD_HI], .nothing⟩
  | .laggardWindow _ =>
    ⟨[.regs, .mem, .marks, .errWin, .mg],
      [.TOP_LAG_CTL, .TOP_LAG_LO, .TOP_LAG_HI, .QM_QDESC_W2, .QM_QDESC_W7, .QM_STATS, .MGT_ERR_LOG, .MGT_ERR_CTL, .MGT_ERR_REC],
        .eventRings⟩
  | .fire _ _ =>
    ⟨[.regs, .conns, .net, .lantern, .lanternFabric],
      [.TOP_LANTERN, .FAB_CTL, .FAB_CONN_W1, .FAB_CONN_W2], .nothing⟩
  | .lanternToken _ =>
    ⟨[.regs, .shadow, .lantern],
      [.TOP_LANTERN], .nothing⟩
  | .startUp _ =>
    ⟨[.regs, .mem, .marks, .errWin, .links, .mg, .repairs, .out, .freeCtr],
      [.TOP_DEVICE_ID, .TOP_UNIT_COUNT, .TOP_CCLK_STATUS, .TOP_CORE_MAP, .TOP_KAT_SUITE, .QM_QDESC_W2, .QM_QDESC_W7, .QM_STATS,
        .MEM_DDR_SIZE, .MEM_PLACE, .MEM_STACK, .MEM_DDR_CH, .FAB_ID, .FAB_SPIRE, .FAB_LINK_STATUS, .FAB_LINK_ERR, .FAB_CMAP,
        .ETH_STATUS, .ETH_MAC, .ETH_IP4, .ETH_IP6_HI, .ETH_IP6_LO, .MGT_STATUS, .CFG_STATUS, .MGT_POLICY, .MGT_PWR, .MGT_THERM,
        .MGT_ERR_LOG, .MGT_ERR_CTL, .MGT_HOSTKEY_W0, .MGT_HOSTKEY_KEY, .MGT_ERR_REC, .PWR_STATUS, .CLK_STATUS], .anywhere⟩
  | .store _ _ =>
    ⟨[.regs, .mg],
      [.CFG_STATUS, .MGT_STORE_STATUS], .nothing⟩
  | .storeSector _ | .powerOnReset _ =>
    ⟨[.regs, .shadow, .mem, .marks, .acc, .runs, .cores, .units, .scales, .devs, .sieve, .quiesce, .groupPend, .lastServed, .errWin,
      .temps, .volts, .links, .conns, .net, .arrived, .drain, .notices, .colls, .sess, .hsWin, .echoWin, .ethHold, .mg, .pw, .nakAt,
      .hbMissed, .termSeen, .bridges, .lantern, .lanternFabric, .ceRings, .repairs, .nextTag, .out, .pauseTx, .hbSeen, .spireTerm],
      RegName.all, .anywhere⟩
  | .holdupSample _ =>
    ⟨[.regs, .mg],
      [.MGT_STORE_STATUS], .nothing⟩
  | .holdupRecheck =>
    ⟨[.regs],
      [.MGT_STORE_STATUS], .nothing⟩
  | .stage _ _ _ =>
    ⟨[.regs, .mem, .marks, .errWin, .mg],
      [.QM_QDESC_W2, .QM_QDESC_W7, .QM_STATS, .MGT_STATUS, .MGT_STORE_STATUS, .MGT_UPD_STATUS, .MGT_ERR_LOG, .MGT_ERR_CTL,
        .MGT_ERR_REC], .eventRings⟩
  | .commitSvn _ _ | .revoke _ _ =>
    ⟨[.regs, .mg],
      [.MGT_STORE_STATUS, .MGT_UPD_STATUS], .nothing⟩
  | .hostkeyEnable _ _ _ =>
    ⟨[.regs],
      [.MGT_HOSTKEY_W0], .nothing⟩
  | .powerPolicy _ =>
    ⟨[.regs, .mem, .marks, .errWin, .mg],
      [.TOP_CCLK_STATUS, .QM_QDESC_W2, .QM_QDESC_W7, .QM_STATS, .MGT_STATUS, .MGT_PWR, .MGT_ERR_LOG, .MGT_ERR_CTL, .MGT_ERR_REC],
        .eventRings⟩
  | .thermalPolicy _ =>
    ⟨[.regs, .mem, .marks, .errWin, .mg],
      [.TOP_CCLK_STATUS, .QM_QDESC_W2, .QM_QDESC_W7, .QM_STATS, .MGT_ERR_LOG, .MGT_ERR_CTL, .MGT_ERR_REC], .eventRings⟩
  | .voltagePolicy _ _ =>
    ⟨[.regs, .mem, .marks, .errWin, .mg],
      [.QM_QDESC_W2, .QM_QDESC_W7, .QM_STATS, .MGT_ERR_LOG, .MGT_ERR_CTL, .MGT_ERR_REC], .eventRings⟩
  | .linksPolicy _ =>
    ⟨[.regs, .mem, .marks, .errWin, .links, .mg, .out],
      [.QM_QDESC_W2, .QM_QDESC_W7, .QM_STATS, .FAB_LINK_STATUS, .FAB_CMAP, .ETH_STATUS, .MGT_ERR_LOG, .MGT_ERR_CTL, .MGT_ERR_REC],
        .eventRings⟩
  | .retirePolicy _ _ =>
    ⟨[.regs, .mem, .marks, .cores, .errWin, .mg],
      [.TOP_CORE_MAP, .TOP_RETIRE_STATUS, .QM_QDESC_W2, .QM_QDESC_W7, .QM_STATS, .MGT_ERR_LOG, .MGT_ERR_CTL, .MGT_ERR_REC,
        .PWR_STATUS], .eventRings⟩
  | .repairPolicy _ _ _ =>
    ⟨[.regs, .mem, .marks, .errWin, .mg],
      [.QM_QDESC_W2, .QM_QDESC_W7, .QM_STATS, .MEM_STACK, .MEM_DDR_CH, .MEM_REPAIR_CMD, .MEM_REPAIR_STATUS, .MGT_ERR_LOG,
        .MGT_ERR_CTL, .MGT_ERR_REC], .eventRings⟩
  | .sensorSample _ _ =>
    ⟨[.regs, .temps, .volts, .freeCtr],
      [.MGT_THERM], .nothing⟩
  | .thermalTrip _ =>
    ⟨[.regs, .mg, .pw, .out],
      [.MGT_STORE_STATUS, .MGT_UPD_STATUS], .nothing⟩
  | .kick _ _ =>
    ⟨[.regs, .mg],
      [.RST_WDOG], .nothing⟩
  | .watchdogExpiry _ | .sysResetN | .holdoverExpiry =>
    ⟨[.regs, .shadow, .mem, .marks, .acc, .runs, .cores, .units, .scales, .devs, .sieve, .quiesce, .groupPend, .lastServed, .errWin,
      .temps, .volts, .links, .conns, .net, .arrived, .drain, .notices, .colls, .sess, .hsWin, .echoWin, .ethHold, .mg, .pw, .nakAt,
      .hbMissed, .termSeen, .bridges, .lantern, .lanternFabric, .ceRings, .repairs, .nextTag, .pauseTx, .hbSeen, .spireTerm],
      RegName.all, .anywhere⟩
  | .entdaa _ | .setdasa _ _ =>
    ⟨[.mg],
      [], .nothing⟩
  | .setEndpointId _ =>
    ⟨[.mg, .out],
      [], .nothing⟩
  | .getEndpointId | .getMctpVersionSupport | .getMessageTypeSupport | .getTid | .getPldmVersion | .getPldmTypes | .getPldmCommands _ |
    .getSensorReading _ | .getPdr _ | .getVersion | .getCapabilities | .negotiateAlgorithms | .getDigests | .getCertificate _ _ _ |
    .unsupportedRequest _ =>
    ⟨[.out],
      [], .nothing⟩
  | .requestUpdate | .passComponentTable _ | .updateComponent _ _ | .requestFirmwareData _ _ | .transferComplete | .applyComplete |
    .cancelUpdate =>
    ⟨[.regs, .mg, .out],
      [.MGT_UPD_STATUS], .nothing⟩
  | .verifyComplete _ =>
    ⟨[.regs, .mem, .marks, .errWin, .mg, .out],
      [.QM_QDESC_W2, .QM_QDESC_W7, .QM_STATS, .MGT_STATUS, .MGT_STORE_STATUS, .MGT_UPD_STATUS, .MGT_ERR_LOG, .MGT_ERR_CTL,
        .MGT_ERR_REC], .eventRings⟩
  | .challenge _ | .getMeasurements _ =>
    ⟨[.out, .freeCtr],
      [], .nothing⟩
  | .vendorRegisterRead _ =>
    ⟨[.regs, .out],
      RegName.all, .nothing⟩
  | .sysResetRelease | .trstN =>
    ⟨[.pw],
      [], .nothing⟩
  | .blockReset _ _ =>
    ⟨[.regs, .mem, .marks, .acc, .runs, .cores, .units, .quiesce, .errWin, .links, .conns, .net, .drain, .notices, .sess, .ethHold,
      .mg, .pw, .lantern, .lanternFabric, .ceRings, .out, .freeCtr, .pauseTx],
      RegName.all, .anywhere⟩
  | .idleEntry | .idleExit | .shelfQuiesceTimeout =>
    ⟨[.regs],
      [.PWR_STATUS], .nothing⟩
  | .wakeN | .i3cWake | .timerWake =>
    ⟨[.regs, .pw],
      [.PWR_STATUS, .DOME_WAKE], .nothing⟩
  | .padRelease _ _ =>
    ⟨[.regs],
      [.DOME_PADS], .nothing⟩
  | .refclkLoss | .refclkReturn =>
    ⟨[.regs, .pw],
      [.CLK_STATUS], .nothing⟩
  | .jtagInstruction _ =>
    ⟨[.pw, .out],
      [], .nothing⟩
  | .readClear _ _ =>
    ⟨[.regs, .mem, .marks, .errWin, .sess, .ethHold, .mg, .out],
      RegName.all, .eventRings⟩
  | .frameDropped _ _ _ =>
    ⟨[.regs],
      [.ETH_DROP], .nothing⟩
  | .pauseExpiry _ =>
    ⟨[.regs, .ethHold, .out],
      [.ETH_STATUS], .nothing⟩
  | .retuneHandshake _ =>
    ⟨[.regs, .links, .out],
      [.FAB_LINK_STATUS, .FAB_CMAP], .nothing⟩
  | .bridgeRestored _ =>
    ⟨[.regs, .mem, .marks, .runs, .cores, .units, .errWin, .conns, .net, .notices, .mg, .bridges, .lantern, .lanternFabric, .ceRings,
      .freeCtr],
      [.TOP_LANTERN, .STR_BYTES_RD, .STR_POISON_FIRST, .STR_POISON_ADDR, .QM_QDESC_W0, .QM_QDESC_W2, .QM_QDESC_W7, .QM_STATS,
        .MEM_DECODE_ERR, .MEM_STACK_ECC, .MEM_DDR_ECC, .FAB_CTL, .FAB_CONN_W1, .FAB_CONN_W2, .MGT_ERR_LOG, .MGT_ERR_CTL,
        .MGT_ERR_REC], .anywhere⟩

/-- A command that completes changes nothing but what its frame names: parts of the state, register words, and bytes of memory; those whose
frame names event rings write records of events there and nowhere else (R304). -/
def Obligations.NothingElseChanges : Prop :=
  ∀ (i : Instr) (s t : State), exec i s = .next t →
    onlyChanges (Changes.ofCommand i).parts s t ∧ onlyRegs (Changes.ofCommand i).words s t ∧
    ((Changes.ofCommand i).memory = .nothing → ∀ a, t.byte a = s.byte a) ∧
    ((Changes.ofCommand i).memory = .eventRings → onlyEventRings s t)

/-- A write of one instance of a word changes no other word: a plain word, a host key, a routing table entry; and what happens to a port
or link leaves the words of the others, but for the rates of connections and sessions that a congestion-control word or a port's rate bounds (R12,
R350, R361, R401, R419, R460, R533). -/
def Obligations.OtherInstancesStay : Prop :=
  ∀ (s t : State) (who : Req) (k r : RegKey) (a v : Word) (n : Fin 16) (p : Fin 8) (l : Fin 40) (m : BitVec 8) (bank member : Bool)
    (adv trains good : BitVec 4),
    r.valid = true →
    (k.valid = true → (∀ x, who ≠ .session x) → a.toNat = k.addr → k.name ∈ When.plainWords → r ≠ k →
      (k.name = .FAB_CC → r.name ≠ .FAB_CONN_W2) → (k.name = .ETH_CC → r.name ≠ .ETH_SESS_W3) →
      exec (.registerWrite who a 8 v) s = .next t → t.rd r = s.rd r ∧ onlyChanges [.regs, .pw] s t) ∧
    (r ≠ ⟨.MGT_HOSTKEY_W0, n.val, 0, 0⟩ → exec (.hostkeyEnable who n v) s = .next t → t.rd r = s.rd r ∧ onlyChanges [.regs] s t) ∧
    (r ≠ ⟨.ETH_STATUS, p.val, 0, 0⟩ → r.name ≠ .ETH_SESS_W3 → exec (.portTraining p adv trains) s = .next t → t.rd r = s.rd r ∧
      onlyChanges [.regs] s t) ∧
    (r ≠ ⟨.FAB_EPOCH, 0, 0, 0⟩ → r ≠ ⟨if member then .FAB_ROUTE_MEMBER else .FAB_ROUTE_GROUP, 0, b2n bank, m.toNat⟩ →
      exec (.routeTableWrite who member bank m v) s = .next t → t.rd r = s.rd r ∧ onlyChanges [.regs] s t) ∧
    (r ≠ ⟨.FAB_LINK_STATUS, l.val / 5, l.val % 5, 0⟩ → exec (.linkTrainRetry l) s = .next t → t.rd r = s.rd r)

/-- A JTAG instruction is in the TAP: BYPASS, IDCODE with part field 0x7200 and SAMPLE/PRELOAD always; EXTEST only while SYS_RESET_N is low, and
else as BYPASS; every other instruction reaches the debug logic where the debug fuse is blown, and else acts as BYPASS; TRST_N and a
power-on reset reset the TAP (R554). -/
def Obligations.JtagInstructionsReachTheTap : Prop :=
  ∀ (s : State) (code : Nat) (src : PorSource),
    (∃ t, exec (.jtagInstruction .bypass) s = .next t ∧ t.pw.tap = some tapBypass) ∧
    (∃ t, exec (.jtagInstruction .idcode) s = .next t ∧ t.pw.tap = some tapIdcode ∧ Msg.side 0x90 tapIdcode [0x7200] ∈ t.out) ∧
    (∃ t, exec (.jtagInstruction .samplePreload) s = .next t ∧ t.pw.tap = some tapSample) ∧
    (s.pw.pinLow = true → ∃ t, exec (.jtagInstruction .extest) s = .next t ∧ t.pw.tap = some tapExtest) ∧
    (s.pw.pinLow = false → exec (.jtagInstruction .extest) s = exec (.jtagInstruction .bypass) s) ∧
    (s.mg.fuse.debug = true → exec (.jtagInstruction (.other code)) s = .refused .debugLogic) ∧
    (s.mg.fuse.debug = false → exec (.jtagInstruction (.other code)) s = exec (.jtagInstruction .bypass) s) ∧
    (∃ t, exec .trstN s = .next t ∧ t.pw.tap = none) ∧
    (∃ t, exec (.powerOnReset src) s = .next t ∧ t.pw.tap = none)

/-- A real value goes into INT4 or INT8 as q = round(x / 2^S) under CRND, clamped to the range and then counted as saturated, and decodes to
q × 2^S; the roundings are those of R37: to the nearest integer with ties to even, or towards zero (R37, R41). -/
def Obligations.ValuesAreWrittenToIntegerFormats : Prop :=
  (∀ (f : Fmt) (crnd : Rnd) (S : Int) (subn : Bool) (x : Rat), f = .int4 ∨ f = .int8 → crnd = .near ∨ crnd = .zero →
    let q := roundQ crnd (x / pow2 S)
    let lo : Int := -(2 ^ (f.bits - 1))
    let hi : Int := 2 ^ (f.bits - 1) - 1
    let w := encodeElem f S subn (roundQ crnd) (.num x)
    (readElem f S subn w.1).v = .num (((max lo (min hi q) : Int) : Rat) * pow2 S) ∧ w.1 < 2 ^ f.bits ∧
      w.2.ev.saturated = (if lo ≤ q ∧ q ≤ hi then 0 else 1)) ∧
  (∀ (crnd : Rnd) (x : Rat), crnd = .near →
    ratAbs (x - roundQ crnd x) ≤ mkRat 1 2 ∧ (ratAbs (x - roundQ crnd x) = mkRat 1 2 → roundQ crnd x % 2 = 0)) ∧
  (∀ x : Rat, ratAbs (roundQ .zero x) ≤ ratAbs x ∧ ratAbs (x - roundQ .zero x) < 1 ∧ 0 ≤ x * roundQ .zero x)

/-- A poisoned value goes into FP32 and BF16 as their NaN with the cause code in bits [5:0], and reads back as poison of cause 0x08 (R57). -/
def Obligations.PoisonedValuesAreWritten : Prop :=
  ∀ (S : Int) (subn : Bool) (rnd : Rat → Int) (cause : Nat), cause < 64 →
    (encodeElem .fp32 S subn rnd (.bad cause)).1 = 0x7FC00000 + cause ∧ (readElem .fp32 S subn (0x7FC00000 + cause)).v = .bad 0x08 ∧
    (encodeElem .bf16 S subn rnd (.bad cause)).1 = 0x7FC0 + cause ∧ (readElem .bf16 S subn (0x7FC0 + cause)).v = .bad 0x08
end

