-- ==== Sys2Proof/Laws/SMap.lean ====
section
/-! SUPPORT. The laws of sparse maps: reading after writing, and that every operation keeps the canonical form. -/

namespace Sys2Proof.Laws

open Sys2Proof.Machine

variable {α : Type}

/-! ### Reading -/

@[simp] theorem smFind_nil (k : Nat) : smFind ([] : SMap α) k = none := rfl

@[simp] theorem smGet_nil (d : Nat → α) (k : Nat) : smGet d [] k = d k := rfl

theorem smFind_del_same (m : SMap α) (k : Nat) : smFind (smDel m k) k = none := by
  induction m with
  | nil => rfl
  | cons p m ih =>
    by_cases h : p.1 = k
    · simpa [smDel, h] using ih
    · simpa [smDel, smFind, h] using ih

theorem smFind_del_other (m : SMap α) {k j : Nat} (h : j ≠ k) : smFind (smDel m k) j = smFind m j := by
  induction m with
  | nil => rfl
  | cons p m ih =>
    by_cases hk : p.1 = k
    · have : ¬ p.1 = j := fun e => h (e ▸ hk)
      simpa [smDel, smFind, hk, this, Ne.symm h] using ih
    · by_cases hj : p.1 = j
      · simp [smDel, smFind, hj, h]
      · simpa [smDel, smFind, hk, hj] using ih

theorem smFind_ins_same (m : SMap α) (k : Nat) (v : α) (h : smFind m k = none) : smFind (smIns m k v) k = some v := by
  induction m with
  | nil => simp [smIns, smFind]
  | cons p m ih =>
    have hp : ¬ p.1 = k := fun e => by simp [smFind, e] at h
    simp only [smFind, hp, if_false] at h
    by_cases hk : k < p.1
    · simp [smIns, hk, smFind]
    · simp [smIns, hk, smFind, hp, ih h]

theorem smFind_ins_other (m : SMap α) {k j : Nat} (v : α) (h : j ≠ k) : smFind (smIns m k v) j = smFind m j := by
  induction m with
  | nil => simp [smIns, smFind, Ne.symm h]
  | cons p m ih =>
    obtain ⟨a, w⟩ := p
    by_cases hk : k < a
    · simp [smIns, hk, smFind, Ne.symm h]
    · by_cases hj : a = j
      · subst hj; simp [smIns, hk, smFind]
      · simp [smIns, hk, smFind, hj, ih]

variable [DecidableEq α]

/-- A key reads what was last written to it. -/
@[simp] theorem smGet_put_same (d : Nat → α) (m : SMap α) (k : Nat) (v : α) : smGet d (smPut d m k v) k = v := by
  by_cases h : v = d k
  · simp [smPut, smGet, h, smFind_del_same]
  · simp [smPut, smGet, h, smFind_ins_same _ _ _ (smFind_del_same m k)]

/-- Writing a key leaves every other key alone, whatever the two defaults. -/
theorem smGet_put_other (d e : Nat → α) (m : SMap α) {k j : Nat} (v : α) (h : j ≠ k) : smGet e (smPut d m k v) j = smGet e m j := by
  by_cases hv : v = d k
  · simp [smPut, smGet, hv, smFind_del_other m h]
  · simp [smPut, smGet, hv, smFind_ins_other _ v h, smFind_del_other m h]

/-! ### The canonical form -/

theorem smWfFrom_mono (d : Nat → α) {b c : Nat} (h : c ≤ b) : ∀ m : SMap α, smWfFrom d b m = true → smWfFrom d c m = true
  | [], _ => rfl
  | (a, v) :: m, hm => by
    simp only [smWfFrom, Bool.and_eq_true, decide_eq_true_eq] at hm ⊢
    exact ⟨⟨h.trans hm.1.1, hm.1.2⟩, hm.2⟩

theorem smWfFrom_filter (d : Nat → α) (f : Nat × α → Bool) : ∀ (b : Nat) (m : SMap α), smWfFrom d b m = true → smWfFrom d b (m.filter f) = true
  | _, [], _ => rfl
  | b, (a, v) :: m, hm => by
    simp only [smWfFrom, Bool.and_eq_true, decide_eq_true_eq] at hm
    have ih := smWfFrom_filter d f (a + 1) m hm.2
    by_cases hf : f (a, v) = true
    · simp only [List.filter, hf, smWfFrom, Bool.and_eq_true, decide_eq_true_eq]
      exact ⟨hm.1, ih⟩
    · simp only [List.filter, hf]
      exact smWfFrom_mono d (by omega) _ ih

theorem smWfFrom_ins (d : Nat → α) {k : Nat} {v : α} (hv : v ≠ d k) : ∀ (b : Nat) (m : SMap α), b ≤ k → smFind m k = none →
    smWfFrom d b m = true → smWfFrom d b (smIns m k v) = true
  | b, [], hb, _, _ => by simp [smIns, smWfFrom, hb, hv]
  | b, (a, w) :: m, hb, hf, hm => by
    simp only [smWfFrom, Bool.and_eq_true, decide_eq_true_eq] at hm
    have ha : ¬ a = k := fun e => by simp [smFind, e] at hf
    simp only [smFind, ha, if_false] at hf
    by_cases hk : k < a
    · simp only [smIns, hk, if_true, smWfFrom, Bool.and_eq_true, decide_eq_true_eq]
      exact ⟨⟨hb, hv⟩, ⟨by omega, hm.1.2⟩, hm.2⟩
    · simp only [smIns, hk, if_false, smWfFrom, Bool.and_eq_true, decide_eq_true_eq]
      exact ⟨hm.1, smWfFrom_ins d hv (a + 1) m (by omega) hf hm.2⟩

/-- Filtering keeps the canonical form. -/
theorem smWf_filter (d : Nat → α) (f : Nat × α → Bool) {m : SMap α} (h : smWf d m = true) : smWf d (m.filter f) = true :=
  smWfFrom_filter d f 0 m h

/-- Removing a key keeps the canonical form. -/
theorem smWf_del (d : Nat → α) {m : SMap α} (k : Nat) (h : smWf d m = true) : smWf d (smDel m k) = true := smWf_filter d _ h

/-- Writing a key keeps the canonical form. -/
theorem smWf_put (d : Nat → α) {m : SMap α} (k : Nat) (v : α) (h : smWf d m = true) : smWf d (smPut d m k v) = true := by
  by_cases hv : v = d k
  · simpa [smPut, hv] using smWf_del d k h
  · have := smWfFrom_ins d hv 0 _ (Nat.zero_le k) (smFind_del_same m k) (smWf_del d k h)
    simpa [smPut, hv, smWf] using this

/-- A fold of steps that each keep the canonical form keeps it. -/
theorem smWf_foldl {β : Type} (d : Nat → α) {f : SMap α → β → SMap α} (hf : ∀ m b, smWf d m = true → smWf d (f m b) = true)
    (l : List β) {m : SMap α} (h : smWf d m = true) : smWf d (l.foldl f m) = true := by
  induction l generalizing m with
  | nil => exact h
  | cons b l ih => exact ih (hf m b h)

end Sys2Proof.Laws
end

