-- ==== Sys2Proof/Laws/State.lean ====
section
/-! SUPPORT. What each update of the state leaves in each field: one lemma per field per update, so that no proof unfolds an update. -/

namespace Sys2Proof.Laws

open Sys2Proof.Machine

variable (s : State)

/-! ### wr -/

@[simp] theorem wr_shadow (k : RegKey) (v : Word) : (s.wr k v).shadow = s.shadow := rfl
@[simp] theorem wr_mem (k : RegKey) (v : Word) : (s.wr k v).mem = s.mem := rfl
@[simp] theorem wr_marks (k : RegKey) (v : Word) : (s.wr k v).marks = s.marks := rfl
@[simp] theorem wr_acc (k : RegKey) (v : Word) : (s.wr k v).acc = s.acc := rfl
@[simp] theorem wr_runs (k : RegKey) (v : Word) : (s.wr k v).runs = s.runs := rfl
@[simp] theorem wr_cores (k : RegKey) (v : Word) : (s.wr k v).cores = s.cores := rfl
@[simp] theorem wr_units (k : RegKey) (v : Word) : (s.wr k v).units = s.units := rfl
@[simp] theorem wr_scales (k : RegKey) (v : Word) : (s.wr k v).scales = s.scales := rfl
@[simp] theorem wr_devs (k : RegKey) (v : Word) : (s.wr k v).devs = s.devs := rfl
@[simp] theorem wr_sieve (k : RegKey) (v : Word) : (s.wr k v).sieve = s.sieve := rfl
@[simp] theorem wr_quiesce (k : RegKey) (v : Word) : (s.wr k v).quiesce = s.quiesce := rfl
@[simp] theorem wr_groupPend (k : RegKey) (v : Word) : (s.wr k v).groupPend = s.groupPend := rfl
@[simp] theorem wr_lastServed (k : RegKey) (v : Word) : (s.wr k v).lastServed = s.lastServed := rfl
@[simp] theorem wr_errWin (k : RegKey) (v : Word) : (s.wr k v).errWin = s.errWin := rfl
@[simp] theorem wr_temps (k : RegKey) (v : Word) : (s.wr k v).temps = s.temps := rfl
@[simp] theorem wr_volts (k : RegKey) (v : Word) : (s.wr k v).volts = s.volts := rfl
@[simp] theorem wr_links (k : RegKey) (v : Word) : (s.wr k v).links = s.links := rfl
@[simp] theorem wr_conns (k : RegKey) (v : Word) : (s.wr k v).conns = s.conns := rfl
@[simp] theorem wr_net (k : RegKey) (v : Word) : (s.wr k v).net = s.net := rfl
@[simp] theorem wr_arrived (k : RegKey) (v : Word) : (s.wr k v).arrived = s.arrived := rfl
@[simp] theorem wr_drain (k : RegKey) (v : Word) : (s.wr k v).drain = s.drain := rfl
@[simp] theorem wr_notices (k : RegKey) (v : Word) : (s.wr k v).notices = s.notices := rfl
@[simp] theorem wr_colls (k : RegKey) (v : Word) : (s.wr k v).colls = s.colls := rfl
@[simp] theorem wr_sess (k : RegKey) (v : Word) : (s.wr k v).sess = s.sess := rfl
@[simp] theorem wr_hsWin (k : RegKey) (v : Word) : (s.wr k v).hsWin = s.hsWin := rfl
@[simp] theorem wr_echoWin (k : RegKey) (v : Word) : (s.wr k v).echoWin = s.echoWin := rfl
@[simp] theorem wr_ethHold (k : RegKey) (v : Word) : (s.wr k v).ethHold = s.ethHold := rfl
@[simp] theorem wr_mg (k : RegKey) (v : Word) : (s.wr k v).mg = s.mg := rfl
@[simp] theorem wr_pw (k : RegKey) (v : Word) : (s.wr k v).pw = s.pw := rfl
@[simp] theorem wr_nakAt (k : RegKey) (v : Word) : (s.wr k v).nakAt = s.nakAt := rfl
@[simp] theorem wr_hbMissed (k : RegKey) (v : Word) : (s.wr k v).hbMissed = s.hbMissed := rfl
@[simp] theorem wr_termSeen (k : RegKey) (v : Word) : (s.wr k v).termSeen = s.termSeen := rfl
@[simp] theorem wr_us (k : RegKey) (v : Word) : (s.wr k v).us = s.us := rfl
@[simp] theorem wr_pauseTx (k : RegKey) (v : Word) : (s.wr k v).pauseTx = s.pauseTx := rfl
@[simp] theorem wr_hbSeen (k : RegKey) (v : Word) : (s.wr k v).hbSeen = s.hbSeen := rfl
@[simp] theorem wr_spireTerm (k : RegKey) (v : Word) : (s.wr k v).spireTerm = s.spireTerm := rfl
@[simp] theorem wr_bridges (k : RegKey) (v : Word) : (s.wr k v).bridges = s.bridges := rfl
@[simp] theorem wr_lantern (k : RegKey) (v : Word) : (s.wr k v).lantern = s.lantern := rfl
@[simp] theorem wr_lanternFabric (k : RegKey) (v : Word) : (s.wr k v).lanternFabric = s.lanternFabric := rfl
@[simp] theorem wr_ceRings (k : RegKey) (v : Word) : (s.wr k v).ceRings = s.ceRings := rfl
@[simp] theorem wr_repairs (k : RegKey) (v : Word) : (s.wr k v).repairs = s.repairs := rfl
@[simp] theorem wr_nextTag (k : RegKey) (v : Word) : (s.wr k v).nextTag = s.nextTag := rfl
@[simp] theorem wr_out (k : RegKey) (v : Word) : (s.wr k v).out = s.out := rfl
@[simp] theorem wr_freeCtr (k : RegKey) (v : Word) : (s.wr k v).freeCtr = s.freeCtr := rfl
@[simp] theorem wr_pending (k : RegKey) (v : Word) : (s.wr k v).pending = s.pending := rfl

/-! ### fs -/

@[simp] theorem fs_shadow (f : Fld) (v i j t : Nat) : (s.fs f v i j t).shadow = s.shadow := rfl
@[simp] theorem fs_mem (f : Fld) (v i j t : Nat) : (s.fs f v i j t).mem = s.mem := rfl
@[simp] theorem fs_marks (f : Fld) (v i j t : Nat) : (s.fs f v i j t).marks = s.marks := rfl
@[simp] theorem fs_acc (f : Fld) (v i j t : Nat) : (s.fs f v i j t).acc = s.acc := rfl
@[simp] theorem fs_runs (f : Fld) (v i j t : Nat) : (s.fs f v i j t).runs = s.runs := rfl
@[simp] theorem fs_cores (f : Fld) (v i j t : Nat) : (s.fs f v i j t).cores = s.cores := rfl
@[simp] theorem fs_units (f : Fld) (v i j t : Nat) : (s.fs f v i j t).units = s.units := rfl
@[simp] theorem fs_scales (f : Fld) (v i j t : Nat) : (s.fs f v i j t).scales = s.scales := rfl
@[simp] theorem fs_devs (f : Fld) (v i j t : Nat) : (s.fs f v i j t).devs = s.devs := rfl
@[simp] theorem fs_sieve (f : Fld) (v i j t : Nat) : (s.fs f v i j t).sieve = s.sieve := rfl
@[simp] theorem fs_quiesce (f : Fld) (v i j t : Nat) : (s.fs f v i j t).quiesce = s.quiesce := rfl
@[simp] theorem fs_groupPend (f : Fld) (v i j t : Nat) : (s.fs f v i j t).groupPend = s.groupPend := rfl
@[simp] theorem fs_lastServed (f : Fld) (v i j t : Nat) : (s.fs f v i j t).lastServed = s.lastServed := rfl
@[simp] theorem fs_errWin (f : Fld) (v i j t : Nat) : (s.fs f v i j t).errWin = s.errWin := rfl
@[simp] theorem fs_temps (f : Fld) (v i j t : Nat) : (s.fs f v i j t).temps = s.temps := rfl
@[simp] theorem fs_volts (f : Fld) (v i j t : Nat) : (s.fs f v i j t).volts = s.volts := rfl
@[simp] theorem fs_links (f : Fld) (v i j t : Nat) : (s.fs f v i j t).links = s.links := rfl
@[simp] theorem fs_conns (f : Fld) (v i j t : Nat) : (s.fs f v i j t).conns = s.conns := rfl
@[simp] theorem fs_net (f : Fld) (v i j t : Nat) : (s.fs f v i j t).net = s.net := rfl
@[simp] theorem fs_arrived (f : Fld) (v i j t : Nat) : (s.fs f v i j t).arrived = s.arrived := rfl
@[simp] theorem fs_drain (f : Fld) (v i j t : Nat) : (s.fs f v i j t).drain = s.drain := rfl
@[simp] theorem fs_notices (f : Fld) (v i j t : Nat) : (s.fs f v i j t).notices = s.notices := rfl
@[simp] theorem fs_colls (f : Fld) (v i j t : Nat) : (s.fs f v i j t).colls = s.colls := rfl
@[simp] theorem fs_sess (f : Fld) (v i j t : Nat) : (s.fs f v i j t).sess = s.sess := rfl
@[simp] theorem fs_hsWin (f : Fld) (v i j t : Nat) : (s.fs f v i j t).hsWin = s.hsWin := rfl
@[simp] theorem fs_echoWin (f : Fld) (v i j t : Nat) : (s.fs f v i j t).echoWin = s.echoWin := rfl
@[simp] theorem fs_ethHold (f : Fld) (v i j t : Nat) : (s.fs f v i j t).ethHold = s.ethHold := rfl
@[simp] theorem fs_mg (f : Fld) (v i j t : Nat) : (s.fs f v i j t).mg = s.mg := rfl
@[simp] theorem fs_pw (f : Fld) (v i j t : Nat) : (s.fs f v i j t).pw = s.pw := rfl
@[simp] theorem fs_nakAt (f : Fld) (v i j t : Nat) : (s.fs f v i j t).nakAt = s.nakAt := rfl
@[simp] theorem fs_hbMissed (f : Fld) (v i j t : Nat) : (s.fs f v i j t).hbMissed = s.hbMissed := rfl
@[simp] theorem fs_termSeen (f : Fld) (v i j t : Nat) : (s.fs f v i j t).termSeen = s.termSeen := rfl
@[simp] theorem fs_us (f : Fld) (v i j t : Nat) : (s.fs f v i j t).us = s.us := rfl
@[simp] theorem fs_pauseTx (f : Fld) (v i j t : Nat) : (s.fs f v i j t).pauseTx = s.pauseTx := rfl
@[simp] theorem fs_hbSeen (f : Fld) (v i j t : Nat) : (s.fs f v i j t).hbSeen = s.hbSeen := rfl
@[simp] theorem fs_spireTerm (f : Fld) (v i j t : Nat) : (s.fs f v i j t).spireTerm = s.spireTerm := rfl
@[simp] theorem fs_bridges (f : Fld) (v i j t : Nat) : (s.fs f v i j t).bridges = s.bridges := rfl
@[simp] theorem fs_lantern (f : Fld) (v i j t : Nat) : (s.fs f v i j t).lantern = s.lantern := rfl
@[simp] theorem fs_lanternFabric (f : Fld) (v i j t : Nat) : (s.fs f v i j t).lanternFabric = s.lanternFabric := rfl
@[simp] theorem fs_ceRings (f : Fld) (v i j t : Nat) : (s.fs f v i j t).ceRings = s.ceRings := rfl
@[simp] theorem fs_repairs (f : Fld) (v i j t : Nat) : (s.fs f v i j t).repairs = s.repairs := rfl
@[simp] theorem fs_nextTag (f : Fld) (v i j t : Nat) : (s.fs f v i j t).nextTag = s.nextTag := rfl
@[simp] theorem fs_out (f : Fld) (v i j t : Nat) : (s.fs f v i j t).out = s.out := rfl
@[simp] theorem fs_freeCtr (f : Fld) (v i j t : Nat) : (s.fs f v i j t).freeCtr = s.freeCtr := rfl
@[simp] theorem fs_pending (f : Fld) (v i j t : Nat) : (s.fs f v i j t).pending = s.pending := rfl

/-! ### fc -/

@[simp] theorem fc_shadow (f : Fld) (n i j t : Nat) : (s.fc f n i j t).shadow = s.shadow := rfl
@[simp] theorem fc_mem (f : Fld) (n i j t : Nat) : (s.fc f n i j t).mem = s.mem := rfl
@[simp] theorem fc_marks (f : Fld) (n i j t : Nat) : (s.fc f n i j t).marks = s.marks := rfl
@[simp] theorem fc_acc (f : Fld) (n i j t : Nat) : (s.fc f n i j t).acc = s.acc := rfl
@[simp] theorem fc_runs (f : Fld) (n i j t : Nat) : (s.fc f n i j t).runs = s.runs := rfl
@[simp] theorem fc_cores (f : Fld) (n i j t : Nat) : (s.fc f n i j t).cores = s.cores := rfl
@[simp] theorem fc_units (f : Fld) (n i j t : Nat) : (s.fc f n i j t).units = s.units := rfl
@[simp] theorem fc_scales (f : Fld) (n i j t : Nat) : (s.fc f n i j t).scales = s.scales := rfl
@[simp] theorem fc_devs (f : Fld) (n i j t : Nat) : (s.fc f n i j t).devs = s.devs := rfl
@[simp] theorem fc_sieve (f : Fld) (n i j t : Nat) : (s.fc f n i j t).sieve = s.sieve := rfl
@[simp] theorem fc_quiesce (f : Fld) (n i j t : Nat) : (s.fc f n i j t).quiesce = s.quiesce := rfl
@[simp] theorem fc_groupPend (f : Fld) (n i j t : Nat) : (s.fc f n i j t).groupPend = s.groupPend := rfl
@[simp] theorem fc_lastServed (f : Fld) (n i j t : Nat) : (s.fc f n i j t).lastServed = s.lastServed := rfl
@[simp] theorem fc_errWin (f : Fld) (n i j t : Nat) : (s.fc f n i j t).errWin = s.errWin := rfl
@[simp] theorem fc_temps (f : Fld) (n i j t : Nat) : (s.fc f n i j t).temps = s.temps := rfl
@[simp] theorem fc_volts (f : Fld) (n i j t : Nat) : (s.fc f n i j t).volts = s.volts := rfl
@[simp] theorem fc_links (f : Fld) (n i j t : Nat) : (s.fc f n i j t).links = s.links := rfl
@[simp] theorem fc_conns (f : Fld) (n i j t : Nat) : (s.fc f n i j t).conns = s.conns := rfl
@[simp] theorem fc_net (f : Fld) (n i j t : Nat) : (s.fc f n i j t).net = s.net := rfl
@[simp] theorem fc_arrived (f : Fld) (n i j t : Nat) : (s.fc f n i j t).arrived = s.arrived := rfl
@[simp] theorem fc_drain (f : Fld) (n i j t : Nat) : (s.fc f n i j t).drain = s.drain := rfl
@[simp] theorem fc_notices (f : Fld) (n i j t : Nat) : (s.fc f n i j t).notices = s.notices := rfl
@[simp] theorem fc_colls (f : Fld) (n i j t : Nat) : (s.fc f n i j t).colls = s.colls := rfl
@[simp] theorem fc_sess (f : Fld) (n i j t : Nat) : (s.fc f n i j t).sess = s.sess := rfl
@[simp] theorem fc_hsWin (f : Fld) (n i j t : Nat) : (s.fc f n i j t).hsWin = s.hsWin := rfl
@[simp] theorem fc_echoWin (f : Fld) (n i j t : Nat) : (s.fc f n i j t).echoWin = s.echoWin := rfl
@[simp] theorem fc_ethHold (f : Fld) (n i j t : Nat) : (s.fc f n i j t).ethHold = s.ethHold := rfl
@[simp] theorem fc_mg (f : Fld) (n i j t : Nat) : (s.fc f n i j t).mg = s.mg := rfl
@[simp] theorem fc_pw (f : Fld) (n i j t : Nat) : (s.fc f n i j t).pw = s.pw := rfl
@[simp] theorem fc_nakAt (f : Fld) (n i j t : Nat) : (s.fc f n i j t).nakAt = s.nakAt := rfl
@[simp] theorem fc_hbMissed (f : Fld) (n i j t : Nat) : (s.fc f n i j t).hbMissed = s.hbMissed := rfl
@[simp] theorem fc_termSeen (f : Fld) (n i j t : Nat) : (s.fc f n i j t).termSeen = s.termSeen := rfl
@[simp] theorem fc_us (f : Fld) (n i j t : Nat) : (s.fc f n i j t).us = s.us := rfl
@[simp] theorem fc_pauseTx (f : Fld) (n i j t : Nat) : (s.fc f n i j t).pauseTx = s.pauseTx := rfl
@[simp] theorem fc_hbSeen (f : Fld) (n i j t : Nat) : (s.fc f n i j t).hbSeen = s.hbSeen := rfl
@[simp] theorem fc_spireTerm (f : Fld) (n i j t : Nat) : (s.fc f n i j t).spireTerm = s.spireTerm := rfl
@[simp] theorem fc_bridges (f : Fld) (n i j t : Nat) : (s.fc f n i j t).bridges = s.bridges := rfl
@[simp] theorem fc_lantern (f : Fld) (n i j t : Nat) : (s.fc f n i j t).lantern = s.lantern := rfl
@[simp] theorem fc_lanternFabric (f : Fld) (n i j t : Nat) : (s.fc f n i j t).lanternFabric = s.lanternFabric := rfl
@[simp] theorem fc_ceRings (f : Fld) (n i j t : Nat) : (s.fc f n i j t).ceRings = s.ceRings := rfl
@[simp] theorem fc_repairs (f : Fld) (n i j t : Nat) : (s.fc f n i j t).repairs = s.repairs := rfl
@[simp] theorem fc_nextTag (f : Fld) (n i j t : Nat) : (s.fc f n i j t).nextTag = s.nextTag := rfl
@[simp] theorem fc_out (f : Fld) (n i j t : Nat) : (s.fc f n i j t).out = s.out := rfl
@[simp] theorem fc_freeCtr (f : Fld) (n i j t : Nat) : (s.fc f n i j t).freeCtr = s.freeCtr := rfl
@[simp] theorem fc_pending (f : Fld) (n i j t : Nat) : (s.fc f n i j t).pending = s.pending := rfl

/-! ### setRun -/

@[simp] theorem setRun_regs (q : Nat) (r : QRun) : (s.setRun q r).regs = s.regs := rfl
@[simp] theorem setRun_shadow (q : Nat) (r : QRun) : (s.setRun q r).shadow = s.shadow := rfl
@[simp] theorem setRun_mem (q : Nat) (r : QRun) : (s.setRun q r).mem = s.mem := rfl
@[simp] theorem setRun_marks (q : Nat) (r : QRun) : (s.setRun q r).marks = s.marks := rfl
@[simp] theorem setRun_acc (q : Nat) (r : QRun) : (s.setRun q r).acc = s.acc := rfl
@[simp] theorem setRun_cores (q : Nat) (r : QRun) : (s.setRun q r).cores = s.cores := rfl
@[simp] theorem setRun_units (q : Nat) (r : QRun) : (s.setRun q r).units = s.units := rfl
@[simp] theorem setRun_scales (q : Nat) (r : QRun) : (s.setRun q r).scales = s.scales := rfl
@[simp] theorem setRun_devs (q : Nat) (r : QRun) : (s.setRun q r).devs = s.devs := rfl
@[simp] theorem setRun_sieve (q : Nat) (r : QRun) : (s.setRun q r).sieve = s.sieve := rfl
@[simp] theorem setRun_quiesce (q : Nat) (r : QRun) : (s.setRun q r).quiesce = s.quiesce := rfl
@[simp] theorem setRun_groupPend (q : Nat) (r : QRun) : (s.setRun q r).groupPend = s.groupPend := rfl
@[simp] theorem setRun_lastServed (q : Nat) (r : QRun) : (s.setRun q r).lastServed = s.lastServed := rfl
@[simp] theorem setRun_errWin (q : Nat) (r : QRun) : (s.setRun q r).errWin = s.errWin := rfl
@[simp] theorem setRun_temps (q : Nat) (r : QRun) : (s.setRun q r).temps = s.temps := rfl
@[simp] theorem setRun_volts (q : Nat) (r : QRun) : (s.setRun q r).volts = s.volts := rfl
@[simp] theorem setRun_links (q : Nat) (r : QRun) : (s.setRun q r).links = s.links := rfl
@[simp] theorem setRun_conns (q : Nat) (r : QRun) : (s.setRun q r).conns = s.conns := rfl
@[simp] theorem setRun_net (q : Nat) (r : QRun) : (s.setRun q r).net = s.net := rfl
@[simp] theorem setRun_arrived (q : Nat) (r : QRun) : (s.setRun q r).arrived = s.arrived := rfl
@[simp] theorem setRun_drain (q : Nat) (r : QRun) : (s.setRun q r).drain = s.drain := rfl
@[simp] theorem setRun_notices (q : Nat) (r : QRun) : (s.setRun q r).notices = s.notices := rfl
@[simp] theorem setRun_colls (q : Nat) (r : QRun) : (s.setRun q r).colls = s.colls := rfl
@[simp] theorem setRun_sess (q : Nat) (r : QRun) : (s.setRun q r).sess = s.sess := rfl
@[simp] theorem setRun_hsWin (q : Nat) (r : QRun) : (s.setRun q r).hsWin = s.hsWin := rfl
@[simp] theorem setRun_echoWin (q : Nat) (r : QRun) : (s.setRun q r).echoWin = s.echoWin := rfl
@[simp] theorem setRun_ethHold (q : Nat) (r : QRun) : (s.setRun q r).ethHold = s.ethHold := rfl
@[simp] theorem setRun_mg (q : Nat) (r : QRun) : (s.setRun q r).mg = s.mg := rfl
@[simp] theorem setRun_pw (q : Nat) (r : QRun) : (s.setRun q r).pw = s.pw := rfl
@[simp] theorem setRun_nakAt (q : Nat) (r : QRun) : (s.setRun q r).nakAt = s.nakAt := rfl
@[simp] theorem setRun_hbMissed (q : Nat) (r : QRun) : (s.setRun q r).hbMissed = s.hbMissed := rfl
@[simp] theorem setRun_termSeen (q : Nat) (r : QRun) : (s.setRun q r).termSeen = s.termSeen := rfl
@[simp] theorem setRun_us (q : Nat) (r : QRun) : (s.setRun q r).us = s.us := rfl
@[simp] theorem setRun_pauseTx (q : Nat) (r : QRun) : (s.setRun q r).pauseTx = s.pauseTx := rfl
@[simp] theorem setRun_hbSeen (q : Nat) (r : QRun) : (s.setRun q r).hbSeen = s.hbSeen := rfl
@[simp] theorem setRun_spireTerm (q : Nat) (r : QRun) : (s.setRun q r).spireTerm = s.spireTerm := rfl
@[simp] theorem setRun_bridges (q : Nat) (r : QRun) : (s.setRun q r).bridges = s.bridges := rfl
@[simp] theorem setRun_lantern (q : Nat) (r : QRun) : (s.setRun q r).lantern = s.lantern := rfl
@[simp] theorem setRun_lanternFabric (q : Nat) (r : QRun) : (s.setRun q r).lanternFabric = s.lanternFabric := rfl
@[simp] theorem setRun_ceRings (q : Nat) (r : QRun) : (s.setRun q r).ceRings = s.ceRings := rfl
@[simp] theorem setRun_repairs (q : Nat) (r : QRun) : (s.setRun q r).repairs = s.repairs := rfl
@[simp] theorem setRun_nextTag (q : Nat) (r : QRun) : (s.setRun q r).nextTag = s.nextTag := rfl
@[simp] theorem setRun_out (q : Nat) (r : QRun) : (s.setRun q r).out = s.out := rfl
@[simp] theorem setRun_freeCtr (q : Nat) (r : QRun) : (s.setRun q r).freeCtr = s.freeCtr := rfl
@[simp] theorem setRun_pending (q : Nat) (r : QRun) : (s.setRun q r).pending = s.pending := rfl

/-! ### modRun -/

@[simp] theorem modRun_regs (q : Nat) (f : QRun → QRun) : (s.modRun q f).regs = s.regs := rfl
@[simp] theorem modRun_shadow (q : Nat) (f : QRun → QRun) : (s.modRun q f).shadow = s.shadow := rfl
@[simp] theorem modRun_mem (q : Nat) (f : QRun → QRun) : (s.modRun q f).mem = s.mem := rfl
@[simp] theorem modRun_marks (q : Nat) (f : QRun → QRun) : (s.modRun q f).marks = s.marks := rfl
@[simp] theorem modRun_acc (q : Nat) (f : QRun → QRun) : (s.modRun q f).acc = s.acc := rfl
@[simp] theorem modRun_cores (q : Nat) (f : QRun → QRun) : (s.modRun q f).cores = s.cores := rfl
@[simp] theorem modRun_units (q : Nat) (f : QRun → QRun) : (s.modRun q f).units = s.units := rfl
@[simp] theorem modRun_scales (q : Nat) (f : QRun → QRun) : (s.modRun q f).scales = s.scales := rfl
@[simp] theorem modRun_devs (q : Nat) (f : QRun → QRun) : (s.modRun q f).devs = s.devs := rfl
@[simp] theorem modRun_sieve (q : Nat) (f : QRun → QRun) : (s.modRun q f).sieve = s.sieve := rfl
@[simp] theorem modRun_quiesce (q : Nat) (f : QRun → QRun) : (s.modRun q f).quiesce = s.quiesce := rfl
@[simp] theorem modRun_groupPend (q : Nat) (f : QRun → QRun) : (s.modRun q f).groupPend = s.groupPend := rfl
@[simp] theorem modRun_lastServed (q : Nat) (f : QRun → QRun) : (s.modRun q f).lastServed = s.lastServed := rfl
@[simp] theorem modRun_errWin (q : Nat) (f : QRun → QRun) : (s.modRun q f).errWin = s.errWin := rfl
@[simp] theorem modRun_temps (q : Nat) (f : QRun → QRun) : (s.modRun q f).temps = s.temps := rfl
@[simp] theorem modRun_volts (q : Nat) (f : QRun → QRun) : (s.modRun q f).volts = s.volts := rfl
@[simp] theorem modRun_links (q : Nat) (f : QRun → QRun) : (s.modRun q f).links = s.links := rfl
@[simp] theorem modRun_conns (q : Nat) (f : QRun → QRun) : (s.modRun q f).conns = s.conns := rfl
@[simp] theorem modRun_net (q : Nat) (f : QRun → QRun) : (s.modRun q f).net = s.net := rfl
@[simp] theorem modRun_arrived (q : Nat) (f : QRun → QRun) : (s.modRun q f).arrived = s.arrived := rfl
@[simp] theorem modRun_drain (q : Nat) (f : QRun → QRun) : (s.modRun q f).drain = s.drain := rfl
@[simp] theorem modRun_notices (q : Nat) (f : QRun → QRun) : (s.modRun q f).notices = s.notices := rfl
@[simp] theorem modRun_colls (q : Nat) (f : QRun → QRun) : (s.modRun q f).colls = s.colls := rfl
@[simp] theorem modRun_sess (q : Nat) (f : QRun → QRun) : (s.modRun q f).sess = s.sess := rfl
@[simp] theorem modRun_hsWin (q : Nat) (f : QRun → QRun) : (s.modRun q f).hsWin = s.hsWin := rfl
@[simp] theorem modRun_echoWin (q : Nat) (f : QRun → QRun) : (s.modRun q f).echoWin = s.echoWin := rfl
@[simp] theorem modRun_ethHold (q : Nat) (f : QRun → QRun) : (s.modRun q f).ethHold = s.ethHold := rfl
@[simp] theorem modRun_mg (q : Nat) (f : QRun → QRun) : (s.modRun q f).mg = s.mg := rfl
@[simp] theorem modRun_pw (q : Nat) (f : QRun → QRun) : (s.modRun q f).pw = s.pw := rfl
@[simp] theorem modRun_nakAt (q : Nat) (f : QRun → QRun) : (s.modRun q f).nakAt = s.nakAt := rfl
@[simp] theorem modRun_hbMissed (q : Nat) (f : QRun → QRun) : (s.modRun q f).hbMissed = s.hbMissed := rfl
@[simp] theorem modRun_termSeen (q : Nat) (f : QRun → QRun) : (s.modRun q f).termSeen = s.termSeen := rfl
@[simp] theorem modRun_us (q : Nat) (f : QRun → QRun) : (s.modRun q f).us = s.us := rfl
@[simp] theorem modRun_pauseTx (q : Nat) (f : QRun → QRun) : (s.modRun q f).pauseTx = s.pauseTx := rfl
@[simp] theorem modRun_hbSeen (q : Nat) (f : QRun → QRun) : (s.modRun q f).hbSeen = s.hbSeen := rfl
@[simp] theorem modRun_spireTerm (q : Nat) (f : QRun → QRun) : (s.modRun q f).spireTerm = s.spireTerm := rfl
@[simp] theorem modRun_bridges (q : Nat) (f : QRun → QRun) : (s.modRun q f).bridges = s.bridges := rfl
@[simp] theorem modRun_lantern (q : Nat) (f : QRun → QRun) : (s.modRun q f).lantern = s.lantern := rfl
@[simp] theorem modRun_lanternFabric (q : Nat) (f : QRun → QRun) : (s.modRun q f).lanternFabric = s.lanternFabric := rfl
@[simp] theorem modRun_ceRings (q : Nat) (f : QRun → QRun) : (s.modRun q f).ceRings = s.ceRings := rfl
@[simp] theorem modRun_repairs (q : Nat) (f : QRun → QRun) : (s.modRun q f).repairs = s.repairs := rfl
@[simp] theorem modRun_nextTag (q : Nat) (f : QRun → QRun) : (s.modRun q f).nextTag = s.nextTag := rfl
@[simp] theorem modRun_out (q : Nat) (f : QRun → QRun) : (s.modRun q f).out = s.out := rfl
@[simp] theorem modRun_freeCtr (q : Nat) (f : QRun → QRun) : (s.modRun q f).freeCtr = s.freeCtr := rfl
@[simp] theorem modRun_pending (q : Nat) (f : QRun → QRun) : (s.modRun q f).pending = s.pending := rfl

/-! ### setCore -/

@[simp] theorem setCore_regs (c : Nat) (x : CoreSt) : (s.setCore c x).regs = s.regs := rfl
@[simp] theorem setCore_shadow (c : Nat) (x : CoreSt) : (s.setCore c x).shadow = s.shadow := rfl
@[simp] theorem setCore_mem (c : Nat) (x : CoreSt) : (s.setCore c x).mem = s.mem := rfl
@[simp] theorem setCore_marks (c : Nat) (x : CoreSt) : (s.setCore c x).marks = s.marks := rfl
@[simp] theorem setCore_acc (c : Nat) (x : CoreSt) : (s.setCore c x).acc = s.acc := rfl
@[simp] theorem setCore_runs (c : Nat) (x : CoreSt) : (s.setCore c x).runs = s.runs := rfl
@[simp] theorem setCore_units (c : Nat) (x : CoreSt) : (s.setCore c x).units = s.units := rfl
@[simp] theorem setCore_scales (c : Nat) (x : CoreSt) : (s.setCore c x).scales = s.scales := rfl
@[simp] theorem setCore_devs (c : Nat) (x : CoreSt) : (s.setCore c x).devs = s.devs := rfl
@[simp] theorem setCore_sieve (c : Nat) (x : CoreSt) : (s.setCore c x).sieve = s.sieve := rfl
@[simp] theorem setCore_quiesce (c : Nat) (x : CoreSt) : (s.setCore c x).quiesce = s.quiesce := rfl
@[simp] theorem setCore_groupPend (c : Nat) (x : CoreSt) : (s.setCore c x).groupPend = s.groupPend := rfl
@[simp] theorem setCore_lastServed (c : Nat) (x : CoreSt) : (s.setCore c x).lastServed = s.lastServed := rfl
@[simp] theorem setCore_errWin (c : Nat) (x : CoreSt) : (s.setCore c x).errWin = s.errWin := rfl
@[simp] theorem setCore_temps (c : Nat) (x : CoreSt) : (s.setCore c x).temps = s.temps := rfl
@[simp] theorem setCore_volts (c : Nat) (x : CoreSt) : (s.setCore c x).volts = s.volts := rfl
@[simp] theorem setCore_links (c : Nat) (x : CoreSt) : (s.setCore c x).links = s.links := rfl
@[simp] theorem setCore_conns (c : Nat) (x : CoreSt) : (s.setCore c x).conns = s.conns := rfl
@[simp] theorem setCore_net (c : Nat) (x : CoreSt) : (s.setCore c x).net = s.net := rfl
@[simp] theorem setCore_arrived (c : Nat) (x : CoreSt) : (s.setCore c x).arrived = s.arrived := rfl
@[simp] theorem setCore_drain (c : Nat) (x : CoreSt) : (s.setCore c x).drain = s.drain := rfl
@[simp] theorem setCore_notices (c : Nat) (x : CoreSt) : (s.setCore c x).notices = s.notices := rfl
@[simp] theorem setCore_colls (c : Nat) (x : CoreSt) : (s.setCore c x).colls = s.colls := rfl
@[simp] theorem setCore_sess (c : Nat) (x : CoreSt) : (s.setCore c x).sess = s.sess := rfl
@[simp] theorem setCore_hsWin (c : Nat) (x : CoreSt) : (s.setCore c x).hsWin = s.hsWin := rfl
@[simp] theorem setCore_echoWin (c : Nat) (x : CoreSt) : (s.setCore c x).echoWin = s.echoWin := rfl
@[simp] theorem setCore_ethHold (c : Nat) (x : CoreSt) : (s.setCore c x).ethHold = s.ethHold := rfl
@[simp] theorem setCore_mg (c : Nat) (x : CoreSt) : (s.setCore c x).mg = s.mg := rfl
@[simp] theorem setCore_pw (c : Nat) (x : CoreSt) : (s.setCore c x).pw = s.pw := rfl
@[simp] theorem setCore_nakAt (c : Nat) (x : CoreSt) : (s.setCore c x).nakAt = s.nakAt := rfl
@[simp] theorem setCore_hbMissed (c : Nat) (x : CoreSt) : (s.setCore c x).hbMissed = s.hbMissed := rfl
@[simp] theorem setCore_termSeen (c : Nat) (x : CoreSt) : (s.setCore c x).termSeen = s.termSeen := rfl
@[simp] theorem setCore_us (c : Nat) (x : CoreSt) : (s.setCore c x).us = s.us := rfl
@[simp] theorem setCore_pauseTx (c : Nat) (x : CoreSt) : (s.setCore c x).pauseTx = s.pauseTx := rfl
@[simp] theorem setCore_hbSeen (c : Nat) (x : CoreSt) : (s.setCore c x).hbSeen = s.hbSeen := rfl
@[simp] theorem setCore_spireTerm (c : Nat) (x : CoreSt) : (s.setCore c x).spireTerm = s.spireTerm := rfl
@[simp] theorem setCore_bridges (c : Nat) (x : CoreSt) : (s.setCore c x).bridges = s.bridges := rfl
@[simp] theorem setCore_lantern (c : Nat) (x : CoreSt) : (s.setCore c x).lantern = s.lantern := rfl
@[simp] theorem setCore_lanternFabric (c : Nat) (x : CoreSt) : (s.setCore c x).lanternFabric = s.lanternFabric := rfl
@[simp] theorem setCore_ceRings (c : Nat) (x : CoreSt) : (s.setCore c x).ceRings = s.ceRings := rfl
@[simp] theorem setCore_repairs (c : Nat) (x : CoreSt) : (s.setCore c x).repairs = s.repairs := rfl
@[simp] theorem setCore_nextTag (c : Nat) (x : CoreSt) : (s.setCore c x).nextTag = s.nextTag := rfl
@[simp] theorem setCore_out (c : Nat) (x : CoreSt) : (s.setCore c x).out = s.out := rfl
@[simp] theorem setCore_freeCtr (c : Nat) (x : CoreSt) : (s.setCore c x).freeCtr = s.freeCtr := rfl
@[simp] theorem setCore_pending (c : Nat) (x : CoreSt) : (s.setCore c x).pending = s.pending := rfl

/-! ### modCore -/

@[simp] theorem modCore_regs (c : Nat) (f : CoreSt → CoreSt) : (s.modCore c f).regs = s.regs := rfl
@[simp] theorem modCore_shadow (c : Nat) (f : CoreSt → CoreSt) : (s.modCore c f).shadow = s.shadow := rfl
@[simp] theorem modCore_mem (c : Nat) (f : CoreSt → CoreSt) : (s.modCore c f).mem = s.mem := rfl
@[simp] theorem modCore_marks (c : Nat) (f : CoreSt → CoreSt) : (s.modCore c f).marks = s.marks := rfl
@[simp] theorem modCore_acc (c : Nat) (f : CoreSt → CoreSt) : (s.modCore c f).acc = s.acc := rfl
@[simp] theorem modCore_runs (c : Nat) (f : CoreSt → CoreSt) : (s.modCore c f).runs = s.runs := rfl
@[simp] theorem modCore_units (c : Nat) (f : CoreSt → CoreSt) : (s.modCore c f).units = s.units := rfl
@[simp] theorem modCore_scales (c : Nat) (f : CoreSt → CoreSt) : (s.modCore c f).scales = s.scales := rfl
@[simp] theorem modCore_devs (c : Nat) (f : CoreSt → CoreSt) : (s.modCore c f).devs = s.devs := rfl
@[simp] theorem modCore_sieve (c : Nat) (f : CoreSt → CoreSt) : (s.modCore c f).sieve = s.sieve := rfl
@[simp] theorem modCore_quiesce (c : Nat) (f : CoreSt → CoreSt) : (s.modCore c f).quiesce = s.quiesce := rfl
@[simp] theorem modCore_groupPend (c : Nat) (f : CoreSt → CoreSt) : (s.modCore c f).groupPend = s.groupPend := rfl
@[simp] theorem modCore_lastServed (c : Nat) (f : CoreSt → CoreSt) : (s.modCore c f).lastServed = s.lastServed := rfl
@[simp] theorem modCore_errWin (c : Nat) (f : CoreSt → CoreSt) : (s.modCore c f).errWin = s.errWin := rfl
@[simp] theorem modCore_temps (c : Nat) (f : CoreSt → CoreSt) : (s.modCore c f).temps = s.temps := rfl
@[simp] theorem modCore_volts (c : Nat) (f : CoreSt → CoreSt) : (s.modCore c f).volts = s.volts := rfl
@[simp] theorem modCore_links (c : Nat) (f : CoreSt → CoreSt) : (s.modCore c f).links = s.links := rfl
@[simp] theorem modCore_conns (c : Nat) (f : CoreSt → CoreSt) : (s.modCore c f).conns = s.conns := rfl
@[simp] theorem modCore_net (c : Nat) (f : CoreSt → CoreSt) : (s.modCore c f).net = s.net := rfl
@[simp] theorem modCore_arrived (c : Nat) (f : CoreSt → CoreSt) : (s.modCore c f).arrived = s.arrived := rfl
@[simp] theorem modCore_drain (c : Nat) (f : CoreSt → CoreSt) : (s.modCore c f).drain = s.drain := rfl
@[simp] theorem modCore_notices (c : Nat) (f : CoreSt → CoreSt) : (s.modCore c f).notices = s.notices := rfl
@[simp] theorem modCore_colls (c : Nat) (f : CoreSt → CoreSt) : (s.modCore c f).colls = s.colls := rfl
@[simp] theorem modCore_sess (c : Nat) (f : CoreSt → CoreSt) : (s.modCore c f).sess = s.sess := rfl
@[simp] theorem modCore_hsWin (c : Nat) (f : CoreSt → CoreSt) : (s.modCore c f).hsWin = s.hsWin := rfl
@[simp] theorem modCore_echoWin (c : Nat) (f : CoreSt → CoreSt) : (s.modCore c f).echoWin = s.echoWin := rfl
@[simp] theorem modCore_ethHold (c : Nat) (f : CoreSt → CoreSt) : (s.modCore c f).ethHold = s.ethHold := rfl
@[simp] theorem modCore_mg (c : Nat) (f : CoreSt → CoreSt) : (s.modCore c f).mg = s.mg := rfl
@[simp] theorem modCore_pw (c : Nat) (f : CoreSt → CoreSt) : (s.modCore c f).pw = s.pw := rfl
@[simp] theorem modCore_nakAt (c : Nat) (f : CoreSt → CoreSt) : (s.modCore c f).nakAt = s.nakAt := rfl
@[simp] theorem modCore_hbMissed (c : Nat) (f : CoreSt → CoreSt) : (s.modCore c f).hbMissed = s.hbMissed := rfl
@[simp] theorem modCore_termSeen (c : Nat) (f : CoreSt → CoreSt) : (s.modCore c f).termSeen = s.termSeen := rfl
@[simp] theorem modCore_us (c : Nat) (f : CoreSt → CoreSt) : (s.modCore c f).us = s.us := rfl
@[simp] theorem modCore_pauseTx (c : Nat) (f : CoreSt → CoreSt) : (s.modCore c f).pauseTx = s.pauseTx := rfl
@[simp] theorem modCore_hbSeen (c : Nat) (f : CoreSt → CoreSt) : (s.modCore c f).hbSeen = s.hbSeen := rfl
@[simp] theorem modCore_spireTerm (c : Nat) (f : CoreSt → CoreSt) : (s.modCore c f).spireTerm = s.spireTerm := rfl
@[simp] theorem modCore_bridges (c : Nat) (f : CoreSt → CoreSt) : (s.modCore c f).bridges = s.bridges := rfl
@[simp] theorem modCore_lantern (c : Nat) (f : CoreSt → CoreSt) : (s.modCore c f).lantern = s.lantern := rfl
@[simp] theorem modCore_lanternFabric (c : Nat) (f : CoreSt → CoreSt) : (s.modCore c f).lanternFabric = s.lanternFabric := rfl
@[simp] theorem modCore_ceRings (c : Nat) (f : CoreSt → CoreSt) : (s.modCore c f).ceRings = s.ceRings := rfl
@[simp] theorem modCore_repairs (c : Nat) (f : CoreSt → CoreSt) : (s.modCore c f).repairs = s.repairs := rfl
@[simp] theorem modCore_nextTag (c : Nat) (f : CoreSt → CoreSt) : (s.modCore c f).nextTag = s.nextTag := rfl
@[simp] theorem modCore_out (c : Nat) (f : CoreSt → CoreSt) : (s.modCore c f).out = s.out := rfl
@[simp] theorem modCore_freeCtr (c : Nat) (f : CoreSt → CoreSt) : (s.modCore c f).freeCtr = s.freeCtr := rfl
@[simp] theorem modCore_pending (c : Nat) (f : CoreSt → CoreSt) : (s.modCore c f).pending = s.pending := rfl

/-! ### setUnitQ -/

@[simp] theorem setUnitQ_regs (u : Nat) (l : List CombReq) : (s.setUnitQ u l).regs = s.regs := rfl
@[simp] theorem setUnitQ_shadow (u : Nat) (l : List CombReq) : (s.setUnitQ u l).shadow = s.shadow := rfl
@[simp] theorem setUnitQ_mem (u : Nat) (l : List CombReq) : (s.setUnitQ u l).mem = s.mem := rfl
@[simp] theorem setUnitQ_marks (u : Nat) (l : List CombReq) : (s.setUnitQ u l).marks = s.marks := rfl
@[simp] theorem setUnitQ_acc (u : Nat) (l : List CombReq) : (s.setUnitQ u l).acc = s.acc := rfl
@[simp] theorem setUnitQ_runs (u : Nat) (l : List CombReq) : (s.setUnitQ u l).runs = s.runs := rfl
@[simp] theorem setUnitQ_cores (u : Nat) (l : List CombReq) : (s.setUnitQ u l).cores = s.cores := rfl
@[simp] theorem setUnitQ_scales (u : Nat) (l : List CombReq) : (s.setUnitQ u l).scales = s.scales := rfl
@[simp] theorem setUnitQ_devs (u : Nat) (l : List CombReq) : (s.setUnitQ u l).devs = s.devs := rfl
@[simp] theorem setUnitQ_sieve (u : Nat) (l : List CombReq) : (s.setUnitQ u l).sieve = s.sieve := rfl
@[simp] theorem setUnitQ_quiesce (u : Nat) (l : List CombReq) : (s.setUnitQ u l).quiesce = s.quiesce := rfl
@[simp] theorem setUnitQ_groupPend (u : Nat) (l : List CombReq) : (s.setUnitQ u l).groupPend = s.groupPend := rfl
@[simp] theorem setUnitQ_lastServed (u : Nat) (l : List CombReq) : (s.setUnitQ u l).lastServed = s.lastServed := rfl
@[simp] theorem setUnitQ_errWin (u : Nat) (l : List CombReq) : (s.setUnitQ u l).errWin = s.errWin := rfl
@[simp] theorem setUnitQ_temps (u : Nat) (l : List CombReq) : (s.setUnitQ u l).temps = s.temps := rfl
@[simp] theorem setUnitQ_volts (u : Nat) (l : List CombReq) : (s.setUnitQ u l).volts = s.volts := rfl
@[simp] theorem setUnitQ_links (u : Nat) (l : List CombReq) : (s.setUnitQ u l).links = s.links := rfl
@[simp] theorem setUnitQ_conns (u : Nat) (l : List CombReq) : (s.setUnitQ u l).conns = s.conns := rfl
@[simp] theorem setUnitQ_net (u : Nat) (l : List CombReq) : (s.setUnitQ u l).net = s.net := rfl
@[simp] theorem setUnitQ_arrived (u : Nat) (l : List CombReq) : (s.setUnitQ u l).arrived = s.arrived := rfl
@[simp] theorem setUnitQ_drain (u : Nat) (l : List CombReq) : (s.setUnitQ u l).drain = s.drain := rfl
@[simp] theorem setUnitQ_notices (u : Nat) (l : List CombReq) : (s.setUnitQ u l).notices = s.notices := rfl
@[simp] theorem setUnitQ_colls (u : Nat) (l : List CombReq) : (s.setUnitQ u l).colls = s.colls := rfl
@[simp] theorem setUnitQ_sess (u : Nat) (l : List CombReq) : (s.setUnitQ u l).sess = s.sess := rfl
@[simp] theorem setUnitQ_hsWin (u : Nat) (l : List CombReq) : (s.setUnitQ u l).hsWin = s.hsWin := rfl
@[simp] theorem setUnitQ_echoWin (u : Nat) (l : List CombReq) : (s.setUnitQ u l).echoWin = s.echoWin := rfl
@[simp] theorem setUnitQ_ethHold (u : Nat) (l : List CombReq) : (s.setUnitQ u l).ethHold = s.ethHold := rfl
@[simp] theorem setUnitQ_mg (u : Nat) (l : List CombReq) : (s.setUnitQ u l).mg = s.mg := rfl
@[simp] theorem setUnitQ_pw (u : Nat) (l : List CombReq) : (s.setUnitQ u l).pw = s.pw := rfl
@[simp] theorem setUnitQ_nakAt (u : Nat) (l : List CombReq) : (s.setUnitQ u l).nakAt = s.nakAt := rfl
@[simp] theorem setUnitQ_hbMissed (u : Nat) (l : List CombReq) : (s.setUnitQ u l).hbMissed = s.hbMissed := rfl
@[simp] theorem setUnitQ_termSeen (u : Nat) (l : List CombReq) : (s.setUnitQ u l).termSeen = s.termSeen := rfl
@[simp] theorem setUnitQ_us (u : Nat) (l : List CombReq) : (s.setUnitQ u l).us = s.us := rfl
@[simp] theorem setUnitQ_pauseTx (u : Nat) (l : List CombReq) : (s.setUnitQ u l).pauseTx = s.pauseTx := rfl
@[simp] theorem setUnitQ_hbSeen (u : Nat) (l : List CombReq) : (s.setUnitQ u l).hbSeen = s.hbSeen := rfl
@[simp] theorem setUnitQ_spireTerm (u : Nat) (l : List CombReq) : (s.setUnitQ u l).spireTerm = s.spireTerm := rfl
@[simp] theorem setUnitQ_bridges (u : Nat) (l : List CombReq) : (s.setUnitQ u l).bridges = s.bridges := rfl
@[simp] theorem setUnitQ_lantern (u : Nat) (l : List CombReq) : (s.setUnitQ u l).lantern = s.lantern := rfl
@[simp] theorem setUnitQ_lanternFabric (u : Nat) (l : List CombReq) : (s.setUnitQ u l).lanternFabric = s.lanternFabric := rfl
@[simp] theorem setUnitQ_ceRings (u : Nat) (l : List CombReq) : (s.setUnitQ u l).ceRings = s.ceRings := rfl
@[simp] theorem setUnitQ_repairs (u : Nat) (l : List CombReq) : (s.setUnitQ u l).repairs = s.repairs := rfl
@[simp] theorem setUnitQ_nextTag (u : Nat) (l : List CombReq) : (s.setUnitQ u l).nextTag = s.nextTag := rfl
@[simp] theorem setUnitQ_out (u : Nat) (l : List CombReq) : (s.setUnitQ u l).out = s.out := rfl
@[simp] theorem setUnitQ_freeCtr (u : Nat) (l : List CombReq) : (s.setUnitQ u l).freeCtr = s.freeCtr := rfl
@[simp] theorem setUnitQ_pending (u : Nat) (l : List CombReq) : (s.setUnitQ u l).pending = s.pending := rfl

/-! ### emit -/

@[simp] theorem emit_regs (m : Msg) : (s.emit m).regs = s.regs := rfl
@[simp] theorem emit_shadow (m : Msg) : (s.emit m).shadow = s.shadow := rfl
@[simp] theorem emit_mem (m : Msg) : (s.emit m).mem = s.mem := rfl
@[simp] theorem emit_marks (m : Msg) : (s.emit m).marks = s.marks := rfl
@[simp] theorem emit_acc (m : Msg) : (s.emit m).acc = s.acc := rfl
@[simp] theorem emit_runs (m : Msg) : (s.emit m).runs = s.runs := rfl
@[simp] theorem emit_cores (m : Msg) : (s.emit m).cores = s.cores := rfl
@[simp] theorem emit_units (m : Msg) : (s.emit m).units = s.units := rfl
@[simp] theorem emit_scales (m : Msg) : (s.emit m).scales = s.scales := rfl
@[simp] theorem emit_devs (m : Msg) : (s.emit m).devs = s.devs := rfl
@[simp] theorem emit_sieve (m : Msg) : (s.emit m).sieve = s.sieve := rfl
@[simp] theorem emit_quiesce (m : Msg) : (s.emit m).quiesce = s.quiesce := rfl
@[simp] theorem emit_groupPend (m : Msg) : (s.emit m).groupPend = s.groupPend := rfl
@[simp] theorem emit_lastServed (m : Msg) : (s.emit m).lastServed = s.lastServed := rfl
@[simp] theorem emit_errWin (m : Msg) : (s.emit m).errWin = s.errWin := rfl
@[simp] theorem emit_temps (m : Msg) : (s.emit m).temps = s.temps := rfl
@[simp] theorem emit_volts (m : Msg) : (s.emit m).volts = s.volts := rfl
@[simp] theorem emit_links (m : Msg) : (s.emit m).links = s.links := rfl
@[simp] theorem emit_conns (m : Msg) : (s.emit m).conns = s.conns := rfl
@[simp] theorem emit_net (m : Msg) : (s.emit m).net = s.net := rfl
@[simp] theorem emit_arrived (m : Msg) : (s.emit m).arrived = s.arrived := rfl
@[simp] theorem emit_drain (m : Msg) : (s.emit m).drain = s.drain := rfl
@[simp] theorem emit_notices (m : Msg) : (s.emit m).notices = s.notices := rfl
@[simp] theorem emit_colls (m : Msg) : (s.emit m).colls = s.colls := rfl
@[simp] theorem emit_sess (m : Msg) : (s.emit m).sess = s.sess := rfl
@[simp] theorem emit_hsWin (m : Msg) : (s.emit m).hsWin = s.hsWin := rfl
@[simp] theorem emit_echoWin (m : Msg) : (s.emit m).echoWin = s.echoWin := rfl
@[simp] theorem emit_ethHold (m : Msg) : (s.emit m).ethHold = s.ethHold := rfl
@[simp] theorem emit_mg (m : Msg) : (s.emit m).mg = s.mg := rfl
@[simp] theorem emit_pw (m : Msg) : (s.emit m).pw = s.pw := rfl
@[simp] theorem emit_nakAt (m : Msg) : (s.emit m).nakAt = s.nakAt := rfl
@[simp] theorem emit_hbMissed (m : Msg) : (s.emit m).hbMissed = s.hbMissed := rfl
@[simp] theorem emit_termSeen (m : Msg) : (s.emit m).termSeen = s.termSeen := rfl
@[simp] theorem emit_us (m : Msg) : (s.emit m).us = s.us := rfl
@[simp] theorem emit_pauseTx (m : Msg) : (s.emit m).pauseTx = s.pauseTx := rfl
@[simp] theorem emit_hbSeen (m : Msg) : (s.emit m).hbSeen = s.hbSeen := rfl
@[simp] theorem emit_spireTerm (m : Msg) : (s.emit m).spireTerm = s.spireTerm := rfl
@[simp] theorem emit_bridges (m : Msg) : (s.emit m).bridges = s.bridges := rfl
@[simp] theorem emit_lantern (m : Msg) : (s.emit m).lantern = s.lantern := rfl
@[simp] theorem emit_lanternFabric (m : Msg) : (s.emit m).lanternFabric = s.lanternFabric := rfl
@[simp] theorem emit_ceRings (m : Msg) : (s.emit m).ceRings = s.ceRings := rfl
@[simp] theorem emit_repairs (m : Msg) : (s.emit m).repairs = s.repairs := rfl
@[simp] theorem emit_nextTag (m : Msg) : (s.emit m).nextTag = s.nextTag := rfl
@[simp] theorem emit_freeCtr (m : Msg) : (s.emit m).freeCtr = s.freeCtr := rfl
@[simp] theorem emit_pending (m : Msg) : (s.emit m).pending = s.pending := rfl

/-! ### store -/

@[simp] theorem store_regs (a : Nat) (bs : List Byte) (pz : List Nat) : (s.store a bs pz).regs = s.regs := rfl
@[simp] theorem store_shadow (a : Nat) (bs : List Byte) (pz : List Nat) : (s.store a bs pz).shadow = s.shadow := rfl
@[simp] theorem store_acc (a : Nat) (bs : List Byte) (pz : List Nat) : (s.store a bs pz).acc = s.acc := rfl
@[simp] theorem store_runs (a : Nat) (bs : List Byte) (pz : List Nat) : (s.store a bs pz).runs = s.runs := rfl
@[simp] theorem store_cores (a : Nat) (bs : List Byte) (pz : List Nat) : (s.store a bs pz).cores = s.cores := rfl
@[simp] theorem store_units (a : Nat) (bs : List Byte) (pz : List Nat) : (s.store a bs pz).units = s.units := rfl
@[simp] theorem store_scales (a : Nat) (bs : List Byte) (pz : List Nat) : (s.store a bs pz).scales = s.scales := rfl
@[simp] theorem store_devs (a : Nat) (bs : List Byte) (pz : List Nat) : (s.store a bs pz).devs = s.devs := rfl
@[simp] theorem store_sieve (a : Nat) (bs : List Byte) (pz : List Nat) : (s.store a bs pz).sieve = s.sieve := rfl
@[simp] theorem store_quiesce (a : Nat) (bs : List Byte) (pz : List Nat) : (s.store a bs pz).quiesce = s.quiesce := rfl
@[simp] theorem store_groupPend (a : Nat) (bs : List Byte) (pz : List Nat) : (s.store a bs pz).groupPend = s.groupPend := rfl
@[simp] theorem store_lastServed (a : Nat) (bs : List Byte) (pz : List Nat) : (s.store a bs pz).lastServed = s.lastServed := rfl
@[simp] theorem store_errWin (a : Nat) (bs : List Byte) (pz : List Nat) : (s.store a bs pz).errWin = s.errWin := rfl
@[simp] theorem store_temps (a : Nat) (bs : List Byte) (pz : List Nat) : (s.store a bs pz).temps = s.temps := rfl
@[simp] theorem store_volts (a : Nat) (bs : List Byte) (pz : List Nat) : (s.store a bs pz).volts = s.volts := rfl
@[simp] theorem store_links (a : Nat) (bs : List Byte) (pz : List Nat) : (s.store a bs pz).links = s.links := rfl
@[simp] theorem store_conns (a : Nat) (bs : List Byte) (pz : List Nat) : (s.store a bs pz).conns = s.conns := rfl
@[simp] theorem store_net (a : Nat) (bs : List Byte) (pz : List Nat) : (s.store a bs pz).net = s.net := rfl
@[simp] theorem store_arrived (a : Nat) (bs : List Byte) (pz : List Nat) : (s.store a bs pz).arrived = s.arrived := rfl
@[simp] theorem store_drain (a : Nat) (bs : List Byte) (pz : List Nat) : (s.store a bs pz).drain = s.drain := rfl
@[simp] theorem store_notices (a : Nat) (bs : List Byte) (pz : List Nat) : (s.store a bs pz).notices = s.notices := rfl
@[simp] theorem store_colls (a : Nat) (bs : List Byte) (pz : List Nat) : (s.store a bs pz).colls = s.colls := rfl
@[simp] theorem store_sess (a : Nat) (bs : List Byte) (pz : List Nat) : (s.store a bs pz).sess = s.sess := rfl
@[simp] theorem store_hsWin (a : Nat) (bs : List Byte) (pz : List Nat) : (s.store a bs pz).hsWin = s.hsWin := rfl
@[simp] theorem store_echoWin (a : Nat) (bs : List Byte) (pz : List Nat) : (s.store a bs pz).echoWin = s.echoWin := rfl
@[simp] theorem store_ethHold (a : Nat) (bs : List Byte) (pz : List Nat) : (s.store a bs pz).ethHold = s.ethHold := rfl
@[simp] theorem store_mg (a : Nat) (bs : List Byte) (pz : List Nat) : (s.store a bs pz).mg = s.mg := rfl
@[simp] theorem store_pw (a : Nat) (bs : List Byte) (pz : List Nat) : (s.store a bs pz).pw = s.pw := rfl
@[simp] theorem store_nakAt (a : Nat) (bs : List Byte) (pz : List Nat) : (s.store a bs pz).nakAt = s.nakAt := rfl
@[simp] theorem store_hbMissed (a : Nat) (bs : List Byte) (pz : List Nat) : (s.store a bs pz).hbMissed = s.hbMissed := rfl
@[simp] theorem store_termSeen (a : Nat) (bs : List Byte) (pz : List Nat) : (s.store a bs pz).termSeen = s.termSeen := rfl
@[simp] theorem store_us (a : Nat) (bs : List Byte) (pz : List Nat) : (s.store a bs pz).us = s.us := rfl
@[simp] theorem store_pauseTx (a : Nat) (bs : List Byte) (pz : List Nat) : (s.store a bs pz).pauseTx = s.pauseTx := rfl
@[simp] theorem store_hbSeen (a : Nat) (bs : List Byte) (pz : List Nat) : (s.store a bs pz).hbSeen = s.hbSeen := rfl
@[simp] theorem store_spireTerm (a : Nat) (bs : List Byte) (pz : List Nat) : (s.store a bs pz).spireTerm = s.spireTerm := rfl
@[simp] theorem store_bridges (a : Nat) (bs : List Byte) (pz : List Nat) : (s.store a bs pz).bridges = s.bridges := rfl
@[simp] theorem store_lantern (a : Nat) (bs : List Byte) (pz : List Nat) : (s.store a bs pz).lantern = s.lantern := rfl
@[simp] theorem store_lanternFabric (a : Nat) (bs : List Byte) (pz : List Nat) : (s.store a bs pz).lanternFabric = s.lanternFabric := rfl
@[simp] theorem store_ceRings (a : Nat) (bs : List Byte) (pz : List Nat) : (s.store a bs pz).ceRings = s.ceRings := rfl
@[simp] theorem store_repairs (a : Nat) (bs : List Byte) (pz : List Nat) : (s.store a bs pz).repairs = s.repairs := rfl
@[simp] theorem store_nextTag (a : Nat) (bs : List Byte) (pz : List Nat) : (s.store a bs pz).nextTag = s.nextTag := rfl
@[simp] theorem store_out (a : Nat) (bs : List Byte) (pz : List Nat) : (s.store a bs pz).out = s.out := rfl
@[simp] theorem store_freeCtr (a : Nat) (bs : List Byte) (pz : List Nat) : (s.store a bs pz).freeCtr = s.freeCtr := rfl
@[simp] theorem store_pending (a : Nat) (bs : List Byte) (pz : List Nat) : (s.store a bs pz).pending = s.pending := rfl

end Sys2Proof.Laws
end

