-- ==== Sys2Proof/Laws/Regs.lean ====
section
/-! SUPPORT. Registers and memory read after they are written: words, fields, bytes and the tables of the state. -/

namespace Sys2Proof.Laws

open Sys2Proof.Machine

variable (s : State)

/-! ### Bit fields -/

/-- The parts of a number after a field of it is replaced. -/
theorem setBits_eq (x lo w v : Nat) :
    setBits x lo w v = 2 ^ lo * (2 ^ w * (x / 2 ^ lo / 2 ^ w) + v % 2 ^ w) + x % 2 ^ lo := by
  have h1 := Nat.div_add_mod x (2 ^ lo)
  have h2 := Nat.div_add_mod (x / 2 ^ lo) (2 ^ w)
  have h3 : x = 2 ^ lo * (2 ^ w * (x / 2 ^ lo / 2 ^ w)) + x / 2 ^ lo % 2 ^ w * 2 ^ lo + x % 2 ^ lo := by
    conv_lhs => rw [← h1, ← h2]
    ring
  have h4 : x - x / 2 ^ lo % 2 ^ w * 2 ^ lo = 2 ^ lo * (2 ^ w * (x / 2 ^ lo / 2 ^ w)) + x % 2 ^ lo := by omega
  unfold setBits bitsOf
  rw [h4]
  ring

theorem testBit_bitsOf (x lo w i : Nat) : (bitsOf x lo w).testBit i = (decide (i < w) && x.testBit (lo + i)) := by
  rw [bitsOf, Nat.testBit_mod_two_pow, Nat.testBit_div_two_pow, Nat.add_comm]

theorem testBit_setBits (x lo w v i : Nat) :
    (setBits x lo w v).testBit i = if lo ≤ i ∧ i < lo + w then v.testBit (i - lo) else x.testBit i := by
  rw [setBits_eq, Nat.testBit_two_pow_mul_add _ (Nat.mod_lt _ (Nat.two_pow_pos lo)),
    Nat.testBit_mod_two_pow, Nat.testBit_two_pow_mul_add _ (Nat.mod_lt _ (Nat.two_pow_pos w)),
    Nat.testBit_mod_two_pow, Nat.testBit_div_two_pow, Nat.testBit_div_two_pow]
  by_cases h : i < lo
  · simp [h]
  · by_cases h2 : i < lo + w
    · have : i - lo < w := by omega
      have : lo ≤ i := by omega
      simp [*]
    · have h3 : ¬ i - lo < w := by omega
      have : i - lo - w + w + lo = i := by omega
      simp [*]

/-- A field reads what was put into it, cut to its width. -/
theorem bitsOf_setBits_same (x lo w v : Nat) : bitsOf (setBits x lo w v) lo w = v % 2 ^ w := by
  refine Nat.eq_of_testBit_eq (fun i => ?_)
  rw [testBit_bitsOf, testBit_setBits, Nat.testBit_mod_two_pow]
  by_cases h : i < w <;> simp [h]

/-- A field keeps its value when a field beside it is written. -/
theorem bitsOf_setBits_other (x lo w v l u : Nat) (h : l + u ≤ lo ∨ lo + w ≤ l) :
    bitsOf (setBits x lo w v) l u = bitsOf x l u := by
  refine Nat.eq_of_testBit_eq (fun i => ?_)
  rw [testBit_bitsOf, testBit_setBits, testBit_bitsOf]
  by_cases h : i < u
  · rw [if_neg (by omega)]
  · simp [h]

/-- A field that ends within 64 bits is the same in the 64-bit word. -/
theorem bitsOf_word (x lo w : Nat) (h : lo + w ≤ 64) : bitsOf (BitVec.ofNat 64 x).toNat lo w = bitsOf x lo w := by
  refine Nat.eq_of_testBit_eq (fun i => ?_)
  rw [testBit_bitsOf, testBit_bitsOf, BitVec.toNat_ofNat, Nat.testBit_mod_two_pow]
  by_cases h : i < w
  · have : lo + i < 64 := by omega
    simp [*]
  · simp [h]

/-! ### Register words and fields -/

theorem rd_wr_same {k : RegKey} (v : Word) (h : k.valid = true) : (s.wr k v).rd k = v := by
  unfold State.rd State.wr
  rw [if_pos h, smGet_put_same]

theorem rd_wr_other {k j : RegKey} (v : Word) (h : j.addr ≠ k.addr) : (s.wr k v).rd j = s.rd j := by
  unfold State.rd State.wr
  split
  · rw [smGet_put_other _ _ _ _ h]
  · rfl

/-- A field reads what was put into it, cut to its width. -/
theorem fg_fs_same (f : Fld) (v i j t : Nat) (hv : (⟨f.reg, i, j, t⟩ : RegKey).valid = true) (h : f.lo + f.w ≤ 64) :
    (s.fs f v i j t).fg f i j t = v % 2 ^ f.w := by
  rw [State.fg, State.fs, rd_wr_same _ _ hv, bitsOf_word _ _ _ h, bitsOf_setBits_same]

theorem satAdd_lt (w a b : Nat) : satAdd w a b < 2 ^ w := by
  unfold satAdd
  have := Nat.two_pow_pos w
  omega

/-- A counter counts, and stops at all ones (R535). -/
theorem fg_fc_same (f : Fld) (n i j t : Nat) (hv : (⟨f.reg, i, j, t⟩ : RegKey).valid = true) (h : f.lo + f.w ≤ 64) :
    (s.fc f n i j t).fg f i j t = satAdd f.w (s.fg f i j t) n := by
  unfold State.fc
  rw [fg_fs_same _ _ _ _ _ _ hv h, Nat.mod_eq_of_lt (satAdd_lt _ _ _)]

/-- A field of another word keeps its value. -/
theorem fg_fs_word (f g : Fld) (v i j t a b c : Nat)
    (h : (⟨g.reg, a, b, c⟩ : RegKey).addr ≠ (⟨f.reg, i, j, t⟩ : RegKey).addr) :
    (s.fs f v i j t).fg g a b c = s.fg g a b c := by
  rw [State.fg, State.fs, rd_wr_other _ _ h, State.fg]

/-- A field beside it in the same word keeps its value. -/
theorem fg_fs_beside (f g : Fld) (v i j t : Nat) (hr : g.reg = f.reg) (hf : g.lo + g.w ≤ 64)
    (h : g.lo + g.w ≤ f.lo ∨ f.lo + f.w ≤ g.lo) : (s.fs f v i j t).fg g i j t = s.fg g i j t := by
  by_cases hv : (⟨f.reg, i, j, t⟩ : RegKey).valid = true
  · rw [State.fg, State.fs, hr, rd_wr_same _ _ hv, bitsOf_word _ _ _ hf, bitsOf_setBits_other _ _ _ _ _ _ h, State.fg, hr]
  · have : s.fs f v i j t = s := by
      unfold State.fs State.wr
      rw [if_neg hv]
    rw [this]

/-- Reading a field sees only the register words. -/
theorem fg_congr {s t : State} (h : t.regs = s.regs) (f : Fld) (i j k : Nat) : t.fg f i j k = s.fg f i j k := by
  rw [State.fg, State.rd, h, State.fg, State.rd]

theorem fg_lt (f : Fld) (i j t : Nat) : s.fg f i j t < 2 ^ f.w := Nat.mod_lt _ (Nat.two_pow_pos _)

/-! ### The tables -/

@[simp] theorem run_setRun (q : Nat) (r : QRun) : (s.setRun q r).run q = r := smGet_put_same _ _ _ _
theorem run_setRun_other {q p : Nat} (r : QRun) (h : p ≠ q) : (s.setRun q r).run p = s.run p := by
  unfold State.run State.setRun
  rw [smGet_put_other _ _ _ _ h]
@[simp] theorem core_setCore (c : Nat) (x : CoreSt) : (s.setCore c x).core c = x := smGet_put_same _ _ _ _
theorem core_setCore_other {c d : Nat} (x : CoreSt) (h : d ≠ c) : (s.setCore c x).core d = s.core d := by
  unfold State.core State.setCore
  rw [smGet_put_other _ _ _ _ h]
@[simp] theorem unitQ_setUnitQ (u : Nat) (l : List CombReq) : (s.setUnitQ u l).unitQ u = l := smGet_put_same _ _ _ _
theorem unitQ_setUnitQ_other {u v : Nat} (l : List CombReq) (h : v ≠ u) : (s.setUnitQ u l).unitQ v = s.unitQ v := by
  unfold State.unitQ State.setUnitQ
  rw [smGet_put_other _ _ _ _ h]

/-! ### Memory -/

theorem putBytes_get (m : SMap Byte) (a : Nat) (bs : List Byte) (x : Nat) :
    smGet (fun _ => 0) (putBytes m a bs) x = if a ≤ x ∧ x < a + bs.length then bs.getD (x - a) 0 else smGet (fun _ => 0) m x := by
  induction bs generalizing m a with
  | nil => simp [putBytes]
  | cons b bs ih =>
    rw [putBytes, ih]
    by_cases hx : x = a
    · subst hx; simp
    · rw [smGet_put_other _ _ _ _ hx]
      by_cases h : a + 1 ≤ x ∧ x < a + 1 + bs.length
      · have h2 : a ≤ x ∧ x < a + (b :: bs).length := by simp; omega
        rw [if_pos h, if_pos h2, show x - a = (x - (a + 1)) + 1 by omega]
        simp
      · rw [if_neg h, if_neg (by simp; omega)]

/-- A byte after a store: the byte stored inside it, the old byte outside. -/
theorem byte_store (a : Nat) (bs : List Byte) (pz : List Nat) (x : Nat) :
    (s.store a bs pz).byte x = if a ≤ x ∧ x < a + bs.length then bs.getD (x - a) 0 else s.byte x := putBytes_get _ _ _ _

end Sys2Proof.Laws
end

