-- ==== Sys2Proof/Laws/Separate.lean ====
section
/-! SUPPORT. The register words of two names never lie at one address (R528, R540), so that a write of one leaves every other alone. -/

namespace Sys2Proof.Laws

open Sys2Proof.Machine

/-- From the first to the last address of a word's instances. -/
def Geo.span (g : Geo) : Nat := (g.n1 - 1) * g.s1 + (g.n2 - 1) * g.s2 + (g.n3 - 1) * g.s3

/-- The address of an instance. -/
def Geo.at' (g : Geo) (i j t : Nat) : Nat := g.base + i * g.s1 + j * g.s2 + t * g.s3

/-- A divisor of every stride that counts. -/
def Geo.step (g : Geo) : Nat :=
  Nat.gcd (if g.n1 ≤ 1 then 0 else g.s1) (Nat.gcd (if g.n2 ≤ 1 then 0 else g.s2) (if g.n3 ≤ 1 then 0 else g.s3))

/-- Addresses that differ because the instances span different ranges, or differ by less than every stride. -/
def apart (a b : Geo) : Bool :=
  decide (a.base + Geo.span a < b.base) || decide (b.base + Geo.span b < a.base) ||
  decide (a.base % Nat.gcd (Geo.step a) (Geo.step b) ≠ b.base % Nat.gcd (Geo.step a) (Geo.step b))

/-- The instances within a block of h bytes: numbers whose stride is whole blocks fall away. -/
def Geo.within (g : Geo) (h : Nat) : Geo :=
  { g with base := g.base % h, n1 := if g.s1 % h = 0 then 1 else g.n1, n2 := if g.s2 % h = 0 then 1 else g.n2,
           n3 := if g.s3 % h = 0 then 1 else g.n3 }

/-- Addresses that differ as a whole or within a block of one of the strides. -/
def separate (a b : Geo) : Bool :=
  apart a b || [a.s1, b.s1, a.s2, b.s2].any (fun h => decide ((Geo.within a h).base + Geo.span (Geo.within a h) < h) &&
    decide ((Geo.within b h).base + Geo.span (Geo.within b h) < h) && apart (Geo.within a h) (Geo.within b h))

theorem mul_pred_le {i n s : Nat} (h : i < n) : i * s ≤ (n - 1) * s := Nat.mul_le_mul_right s (by omega)

theorem at_le (g : Geo) {i j t : Nat} (hi : i < g.n1) (hj : j < g.n2) (ht : t < g.n3) : Geo.at' g i j t ≤ g.base + Geo.span g := by
  have a := mul_pred_le (s := g.s1) hi
  have b := mul_pred_le (s := g.s2) hj
  have c := mul_pred_le (s := g.s3) ht
  unfold Geo.at' Geo.span
  omega

theorem stride_dvd {n s i : Nat} (h : i < n) : (if n ≤ 1 then 0 else s) ∣ i * s := by
  split
  · rw [show i = 0 by omega]; simp
  · exact Nat.dvd_mul_left s i

theorem at_mod (g : Geo) {i j t d : Nat} (hi : i < g.n1) (hj : j < g.n2) (ht : t < g.n3) (hd : d ∣ Geo.step g) :
    Geo.at' g i j t % d = g.base % d := by
  have a : d ∣ i * g.s1 := (hd.trans (Nat.gcd_dvd_left _ _)).trans (stride_dvd hi)
  have b : d ∣ j * g.s2 := (hd.trans ((Nat.gcd_dvd_right _ _).trans (Nat.gcd_dvd_left _ _))).trans (stride_dvd hj)
  have c : d ∣ t * g.s3 := (hd.trans ((Nat.gcd_dvd_right _ _).trans (Nat.gcd_dvd_right _ _))).trans (stride_dvd ht)
  obtain ⟨x, hx⟩ := a
  obtain ⟨y, hy⟩ := b
  obtain ⟨z, hz⟩ := c
  unfold Geo.at'
  rw [hx, hy, hz, Nat.add_mul_mod_self_left, Nat.add_mul_mod_self_left, Nat.add_mul_mod_self_left]

theorem apart_ne {a b : Geo} (h : apart a b = true) {i j t x y z : Nat} (hi : i < a.n1) (hj : j < a.n2) (ht : t < a.n3)
    (hx : x < b.n1) (hy : y < b.n2) (hz : z < b.n3) : Geo.at' a i j t ≠ Geo.at' b x y z := by
  intro e
  have la := at_le a hi hj ht
  have lb := at_le b hx hy hz
  have ga : a.base ≤ Geo.at' a i j t := by unfold Geo.at'; omega
  have gb : b.base ≤ Geo.at' b x y z := by unfold Geo.at'; omega
  simp only [apart, Bool.or_eq_true, decide_eq_true_eq] at h
  rcases h with (h | h) | h
  · omega
  · omega
  · exact h (by rw [← at_mod a hi hj ht (Nat.gcd_dvd_left _ _), e, at_mod b hx hy hz (Nat.gcd_dvd_right _ _)])

theorem within_one {h n s i : Nat} (hi : i < n) : ∃ k, k < (if s % h = 0 then 1 else n) ∧ i * s ≡ k * s [MOD h] := by
  split
  · rename_i e
    refine ⟨0, Nat.zero_lt_one, ?_⟩
    rw [Nat.ModEq, Nat.mul_mod, e]
    simp
  · exact ⟨i, hi, rfl⟩

theorem within_mod (g : Geo) {h i j t : Nat} (hi : i < g.n1) (hj : j < g.n2) (ht : t < g.n3)
    (hs : (Geo.within g h).base + Geo.span (Geo.within g h) < h) :
    ∃ x y z, x < (Geo.within g h).n1 ∧ y < (Geo.within g h).n2 ∧ z < (Geo.within g h).n3 ∧
      Geo.at' g i j t % h = Geo.at' (Geo.within g h) x y z := by
  obtain ⟨x, hx, ex⟩ := within_one (h := h) (s := g.s1) hi
  obtain ⟨y, hy, ey⟩ := within_one (h := h) (s := g.s2) hj
  obtain ⟨z, hz, ez⟩ := within_one (h := h) (s := g.s3) ht
  refine ⟨x, y, z, hx, hy, hz, ?_⟩
  have l := at_le (Geo.within g h) (i := x) (j := y) (t := z) hx hy hz
  rw [← Nat.mod_eq_of_lt (Nat.lt_of_le_of_lt l hs)]
  exact (((Nat.mod_modEq g.base h).symm.add ex).add ey).add ez

theorem separate_ne {a b : Geo} (h : separate a b = true) {i j t x y z : Nat} (hi : i < a.n1) (hj : j < a.n2) (ht : t < a.n3)
    (hx : x < b.n1) (hy : y < b.n2) (hz : z < b.n3) : Geo.at' a i j t ≠ Geo.at' b x y z := by
  rw [separate, Bool.or_eq_true, List.any_eq_true] at h
  rcases h with h | ⟨w, -, h⟩
  · exact apart_ne h hi hj ht hx hy hz
  · simp only [Bool.and_eq_true, decide_eq_true_eq] at h
    obtain ⟨_, _, _, h1, h2, h3, ek⟩ := within_mod a hi hj ht h.1.1
    obtain ⟨_, _, _, h4, h5, h6, el⟩ := within_mod b hx hy hz h.1.2
    intro e
    rw [e] at ek
    exact apart_ne h.2 h1 h2 h3 h4 h5 h6 (ek.symm.trans el)

theorem separate_all :
    RegName.all.all (fun m => RegName.all.all (fun n => decide (m = n) || separate (geo m) (geo n))) = true := by
  decide +kernel

theorem mem_all (n : RegName) : n ∈ RegName.all := by cases n <;> decide +kernel

/-- Words of two names lie at two addresses. -/
theorem addr_ne {k l : RegKey} (hk : k.valid = true) (hl : l.valid = true) (h : k.name ≠ l.name) : k.addr ≠ l.addr := by
  simp only [RegKey.valid, Bool.and_eq_true, decide_eq_true_eq] at hk hl
  have a := List.all_eq_true.1 (List.all_eq_true.1 separate_all _ (mem_all k.name)) _ (mem_all l.name)
  rw [Bool.or_eq_true, decide_eq_true_eq] at a
  rcases a with a | a
  · exact absurd a h
  · exact separate_ne a hk.1.1 hk.1.2 hk.2 hl.1.1 hl.1.2 hl.2

/-- Two words of one name lie at two addresses. -/
def ownStep (g : Geo) : Bool :=
  (decide (g.n3 = 1) || decide (0 < g.s3)) && (decide (g.n2 = 1) || decide ((g.n3 - 1) * g.s3 < g.s2)) &&
  (decide (g.n1 = 1) || decide ((g.n2 - 1) * g.s2 + (g.n3 - 1) * g.s3 < g.s1))

theorem ownStep_all : RegName.all.all (fun m => ownStep (geo m)) = true := by decide +kernel

theorem digit_eq {a b s x y : Nat} (hx : x < s) (hy : y < s) (e : a * s + x = b * s + y) : a = b := by
  rcases Nat.lt_trichotomy a b with h | h | h
  · have := Nat.mul_le_mul_right s (show a + 1 ≤ b from h); rw [Nat.add_mul] at this; omega
  · exact h
  · have := Nat.mul_le_mul_right s (show b + 1 ≤ a from h); rw [Nat.add_mul] at this; omega

theorem addr_inj {k l : RegKey} (hk : k.valid = true) (hl : l.valid = true) (h : k.addr = l.addr) : k = l := by
  by_cases hn : k.name = l.name
  · obtain ⟨n, i, j, t⟩ := k
    obtain ⟨n', x, y, z⟩ := l
    simp only at hn
    subst hn
    simp only [RegKey.valid, Bool.and_eq_true, decide_eq_true_eq] at hk hl
    have o := List.all_eq_true.1 ownStep_all _ (mem_all n)
    simp only [ownStep, Bool.and_eq_true, Bool.or_eq_true, decide_eq_true_eq] at o
    obtain ⟨⟨hi, hj⟩, ht⟩ := hk
    obtain ⟨⟨hx, hy⟩, hz⟩ := hl
    obtain ⟨⟨o3, o2⟩, o1⟩ := o
    simp only [RegKey.addr] at h
    have bt := mul_pred_le (s := (geo n).s3) ht
    have bz := mul_pred_le (s := (geo n).s3) hz
    have bj := mul_pred_le (s := (geo n).s2) hj
    have by' := mul_pred_le (s := (geo n).s2) hy
    have e1 : i = x := by
      rcases o1 with o1 | o1
      · omega
      · exact digit_eq (s := (geo n).s1) (x := j * (geo n).s2 + t * (geo n).s3) (y := y * (geo n).s2 + z * (geo n).s3)
          (by omega) (by omega) (by omega)
    subst e1
    have e2 : j = y := by
      rcases o2 with o2 | o2
      · omega
      · exact digit_eq (s := (geo n).s2) (x := t * (geo n).s3) (y := z * (geo n).s3) (by omega) (by omega) (by omega)
    subst e2
    have e3 : t = z := by
      rcases o3 with o3 | o3
      · omega
      · exact digit_eq (s := (geo n).s3) (x := 0) (y := 0) o3 o3 (by omega)
    subst e3
    rfl
  · exact absurd h (addr_ne hk hl hn)

end Sys2Proof.Laws
end

