-- ==== Sys2Proof/Laws/Frame.lean ====
section
/-! SUPPORT. The frame relation: what a function of the state may change, as a mask of the parts it touches (bits 0 to 45) and the register names
it writes (bits from 64 on; bit 60: memory outside the rings of event queues), with the canonical form of the addressed memories carried along. Each function of the state has one lemma of this shape; the frames and the invariant follow. -/

namespace Sys2Proof.Laws

open Sys2Proof.Machine

/-- The number of a part, in the order in which StatePart names them. -/
def partNo (p : StatePart) : Nat := p.ctorIdx

/-- A mask that covers another. -/
def Cov (a m : Nat) : Prop := Nat.land m a = a

/-- From s to t only parts and registers of the mask change, and the addressed memories stay in canonical form. -/
def Fr (m : Nat) (s t : State) : Prop :=
  (∀ p : StatePart, m.testBit (partNo p) = false → sameIn p s t) ∧ (s.canonical = true → t.canonical = true) ∧
  (∀ k : RegKey, k.valid = true → m.testBit (64 + k.name.ctorIdx) = false → t.rd k = s.rd k) ∧
  (m.testBit 60 = false → m.testBit (64 + RegName.QM_QDESC_W0.ctorIdx) = false → m.testBit (64 + RegName.QM_QDESC_W1.ctorIdx) = false →
    ∀ a : Nat, ¬ s.inEventRing a → t.byte a = s.byte a)

theorem Cov.bit {a m i : Nat} (h : Cov a m) (hi : a.testBit i = true) : m.testBit i = true := by
  have : (Nat.land m a).testBit i = true := by rw [h]; exact hi
  have e := Nat.testBit_and m a i
  rw [show (m &&& a) = Nat.land m a from rfl, this] at e
  revert e; cases m.testBit i <;> simp

/-- A mask that covers a mask covers what that one covers. -/
theorem Cov.sub {a b m : Nat} (h : Cov a m) (e : Nat.land a b = b) : Cov b m := by
  refine Nat.eq_of_testBit_eq (fun i => ?_)
  have l : (Nat.land m b).testBit i = (m.testBit i && b.testBit i) := Nat.testBit_and m b i
  have e2 : (Nat.land a b).testBit i = (a.testBit i && b.testBit i) := Nat.testBit_and a b i
  rw [l]
  cases hb : b.testBit i
  · simp
  · rw [e, hb] at e2
    have ha : a.testBit i = true := by revert e2; cases a.testBit i <;> simp
    simp [h.bit ha]

/-- A register name's part of a mask: its own bit and that of the register map. -/
def regMask (n : RegName) : Nat := 1 + 2 ^ (64 + n.ctorIdx)

theorem regMask_bit (n : RegName) : (regMask n).testBit (64 + n.ctorIdx) = true := by cases n <;> decide

/-- The mask of every register name. -/
def allRegs : Nat := 25711008708143844408671393477458601640355229453780611655270401

theorem Cov.all {m : Nat} (h : Cov allRegs m) (n : RegName) : Cov (regMask n) m := h.sub (by cases n <;> decide)

theorem Fr.refl (m : Nat) (s : State) : Fr m s s := ⟨fun p _ => by cases p <;> rfl, id, fun _ _ _ => rfl, fun _ _ _ _ _ => rfl⟩

theorem bit_false {a m i : Nat} (h : Cov a m) (hm : m.testBit i = false) : a.testBit i = false := by
  cases ha : a.testBit i
  · rfl
  · rw [h.bit ha] at hm; exact hm

/-- The words that place the event rings decide what lies in them. -/
theorem inEventRing_of {s t : State} {a : Nat}
    (h0 : ∀ q, q < 65536 → t.rd ⟨.QM_QDESC_W0, q, 0, 0⟩ = s.rd ⟨.QM_QDESC_W0, q, 0, 0⟩)
    (h1 : ∀ q, q < 65536 → t.rd ⟨.QM_QDESC_W1, q, 0, 0⟩ = s.rd ⟨.QM_QDESC_W1, q, 0, 0⟩) (h : t.inEventRing a) : s.inEventRing a := by
  obtain ⟨e, he, hq, ha, hb⟩ := h
  have f0 : ∀ f : Fld, f.reg = .QM_QDESC_W0 → t.fg f e = s.fg f e := fun f hf => by
    rw [State.fg, State.fg, hf, h0 e he]
  have f1 : t.fg F.QM_QDESC.RING e = s.fg F.QM_QDESC.RING e := by
    unfold State.fg
    rw [show F.QM_QDESC.RING.reg = .QM_QDESC_W1 from rfl, h1 e he]
  refine ⟨e, he, ?_, ?_, ?_⟩
  · unfold State.qOn at hq ⊢
    rw [← f0 _ rfl, ← f0 _ rfl]; exact hq
  · rw [← f1]; exact ha
  · unfold State.ringSize at hb ⊢
    rw [← f1, ← f0 _ rfl]; exact hb

theorem valid_qdesc {n : RegName} {q : Nat} (hn : n = .QM_QDESC_W0 ∨ n = .QM_QDESC_W1) (hq : q < 65536) :
    (⟨n, q, 0, 0⟩ : RegKey).valid = true := by
  rcases hn with rfl | rfl <;> simp [RegKey.valid, geo, Geo.of1, hq]

theorem Fr.rings {m : Nat} {s t : State} (h : Fr m s t) (b0 : m.testBit (64 + RegName.QM_QDESC_W0.ctorIdx) = false)
    (b1 : m.testBit (64 + RegName.QM_QDESC_W1.ctorIdx) = false) {a : Nat} (k : t.inEventRing a) : s.inEventRing a :=
  inEventRing_of (fun _ hq => h.2.2.1 _ (valid_qdesc (.inl rfl) hq) b0) (fun _ hq => h.2.2.1 _ (valid_qdesc (.inr rfl) hq) b1) k

theorem Fr.mono {a m : Nat} {s t : State} (h : Fr a s t) (hm : Cov a m) : Fr m s t :=
  ⟨fun p hp => h.1 p (by
    cases ha : a.testBit (partNo p)
    · rfl
    · rw [hm.bit ha] at hp; exact hp), h.2.1, fun k kv hk => h.2.2.1 k kv (bit_false hm hk),
  fun c c0 c1 => h.2.2.2 (bit_false hm c) (bit_false hm c0) (bit_false hm c1)⟩

theorem Fr.trans {m : Nat} {s t u : State} (h : Fr m s t) (k : Fr m t u) : Fr m s u :=
  ⟨fun p hp => by
    have a := h.1 p hp
    have b := k.1 p hp
    cases p <;> exact b.trans a, fun hs => k.2.1 (h.2.1 hs), fun j jv hj => (k.2.2.1 j jv hj).trans (h.2.2.1 j jv hj),
  fun c c0 c1 a ha => (k.2.2.2 c c0 c1 a (fun x => ha (h.rings c0 c1 x))).trans (h.2.2.2 c c0 c1 a ha)⟩

/-- The frame of a function in the terms of the statements. -/
theorem Fr.only {m : Nat} {s t : State} (h : Fr m s t) (ps : List StatePart) (hm : ∀ p, m.testBit (partNo p) = true → p ∈ ps) :
    onlyChanges ps s t := fun p hp => h.1 p (by
  cases e : m.testBit (partNo p)
  · rfl
  · exact absurd (hm p e) hp)

/-- The register frame of a function in the terms of the statements. -/
theorem Fr.regs {m : Nat} {s t : State} (h : Fr m s t) (ns : List RegName)
    (hm : ∀ n : RegName, m.testBit (64 + n.ctorIdx) = true → n ∈ ns) : onlyRegs ns s t := fun k kv hk => h.2.2.1 k kv (by
  cases e : m.testBit (64 + k.name.ctorIdx)
  · rfl
  · exact absurd (hm _ e) hk)

/-- The memory frame of a function in the terms of the statements. -/
theorem Fr.rings_only {m : Nat} {s t : State} (h : Fr m s t) (c : m.testBit 60 = false)
    (c0 : m.testBit (64 + RegName.QM_QDESC_W0.ctorIdx) = false) (c1 : m.testBit (64 + RegName.QM_QDESC_W1.ctorIdx) = false) :
    onlyEventRings s t := h.2.2.2 c c0 c1

theorem fr_ite {m : Nat} {s t u : State} {c : Prop} [Decidable c] (h : Fr m s t) (k : Fr m s u) : Fr m s (if c then t else u) := by
  split <;> assumption

theorem fr_foldl {m : Nat} {s t : State} {β : Type} {f : State → β → State} {l : List β} (h : Fr m s t)
    (hf : ∀ u b, Fr m s u → Fr m s (f u b)) : Fr m s (l.foldl f t) := by
  induction l generalizing t with
  | nil => exact h
  | cons b l ih => exact ih (hf t b h)

theorem fr_foldl_mem {m : Nat} {s t : State} {β : Type} {f : State → β → State} {l : List β} (h : Fr m s t)
    (hf : ∀ u b, b ∈ l → Fr m s u → Fr m s (f u b)) : Fr m s (l.foldl f t) := by
  induction l generalizing t with
  | nil => exact h
  | cons b l ih => exact ih (hf t b (by simp) h) (fun u c hc => hf u c (by simp [hc]))

theorem fr_foldl_fst {m : Nat} {s : State} {α β : Type} {x : State × α} {f : State × α → β → State × α} {l : List β} (h : Fr m s x.1)
    (hf : ∀ u b, Fr m s u.1 → Fr m s (f u b).1) : Fr m s (l.foldl f x).1 := by
  induction l generalizing x with
  | nil => exact h
  | cons b l ih => exact ih (hf x b h)

theorem fr_foldl_snd {m : Nat} {s : State} {α β : Type} {x : α × State} {f : α × State → β → α × State} {l : List β} (h : Fr m s x.2)
    (hf : ∀ u b, Fr m s u.2 → Fr m s (f u b).2) : Fr m s (l.foldl f x).2 := by
  induction l generalizing x with
  | nil => exact h
  | cons b l ih => exact ih (hf x b h)

theorem canonical_iff (s : State) : s.canonical = true ↔
    smWf (fun _ => (0 : Byte)) s.mem = true ∧ smWf (fun _ => false) s.marks = true ∧ smWf (fun _ => (0 : BitVec 192)) s.acc = true := by
  simp [State.canonical, Memory.wf, and_assoc]

/-! ### One field, or a few, replaced -/

theorem fr_set_shadow {m : Nat} {s t : State} {v0} (hM : Cov 2 m) (h : Fr m s t) : Fr m s { t with shadow := v0 } := by
  refine ⟨fun p hp => ?_, fun hs => ?_, fun k kv hk => h.2.2.1 k kv hk, fun c c0 c1 => h.2.2.2 c c0 c1⟩
  · cases p
    case shadow => exact absurd (hM.bit (i := 1) rfl) (by rw [show m.testBit 1 = false from hp]; simp)
    all_goals exact h.1 _ hp
  · exact h.2.1 hs

theorem fr_set_marks {m : Nat} {s t : State} {v0} (hM : Cov 8 m) (h : Fr m s t)
    (wmarks : smWf (fun _ => false) t.marks = true → smWf (fun _ => false) v0 = true) : Fr m s { t with marks := v0 } := by
  refine ⟨fun p hp => ?_, fun hs => ?_, fun k kv hk => h.2.2.1 k kv hk, fun c c0 c1 => h.2.2.2 c c0 c1⟩
  · cases p
    case marks => exact absurd (hM.bit (i := 3) rfl) (by rw [show m.testBit 3 = false from hp]; simp)
    all_goals exact h.1 _ hp
  · have k := (canonical_iff _).1 (h.2.1 hs)
    exact (canonical_iff _).2 ⟨k.1, wmarks k.2.1, k.2.2⟩

/-- The marks of one state beside the rest of another. -/
theorem fr_marks_of {m : Nat} {s t u : State} (hM : Cov 8 m) (h : Fr m s t) (k : Fr m s u) : Fr m s { u with marks := t.marks } := by
  refine ⟨fun p hp => ?_, fun hs => ?_, fun j jv hj => k.2.2.1 j jv hj, fun c c0 c1 => k.2.2.2 c c0 c1⟩
  · cases p
    case marks => exact absurd (hM.bit (i := 3) rfl) (by rw [show m.testBit 3 = false from hp]; simp)
    all_goals exact k.1 _ hp
  · have a := (canonical_iff _).1 (h.2.1 hs)
    have b := (canonical_iff _).1 (k.2.1 hs)
    exact (canonical_iff _).2 ⟨b.1, a.2.1, b.2.2⟩

theorem fr_set_acc {m : Nat} {s t : State} {v0} (hM : Cov 16 m) (h : Fr m s t)
    (wacc : smWf (fun _ => (0 : BitVec 192)) t.acc = true → smWf (fun _ => (0 : BitVec 192)) v0 = true) : Fr m s { t with acc := v0 } := by
  refine ⟨fun p hp => ?_, fun hs => ?_, fun k kv hk => h.2.2.1 k kv hk, fun c c0 c1 => h.2.2.2 c c0 c1⟩
  · cases p
    case acc => exact absurd (hM.bit (i := 4) rfl) (by rw [show m.testBit 4 = false from hp]; simp)
    all_goals exact h.1 _ hp
  · have k := (canonical_iff _).1 (h.2.1 hs)
    exact (canonical_iff _).2 ⟨k.1, k.2.1, wacc k.2.2⟩

/-- The accumulators of one state beside the rest of another. -/
theorem fr_acc_of {m : Nat} {s t u : State} (hM : Cov 16 m) (h : Fr m s t) (k : Fr m s u) : Fr m s { u with acc := t.acc } := by
  refine ⟨fun p hp => ?_, fun hs => ?_, fun j jv hj => k.2.2.1 j jv hj, fun c c0 c1 => k.2.2.2 c c0 c1⟩
  · cases p
    case acc => exact absurd (hM.bit (i := 4) rfl) (by rw [show m.testBit 4 = false from hp]; simp)
    all_goals exact k.1 _ hp
  · have a := (canonical_iff _).1 (h.2.1 hs)
    have b := (canonical_iff _).1 (k.2.1 hs)
    exact (canonical_iff _).2 ⟨b.1, b.2.1, a.2.2⟩

/-- The mask of a view of memory and marks: the two parts, and memory outside the rings of event queues. -/
def viewMask : Nat := 1152921504606846988

theorem or_view_bit (m n : Nat) : (Nat.lor m viewMask).testBit (64 + n) = m.testBit (64 + n) := by
  have e : viewMask.testBit (64 + n) = false :=
    Nat.testBit_lt_two_pow (Nat.lt_of_lt_of_le (show viewMask < 2 ^ 64 by decide) (Nat.pow_le_pow_right (by decide) (by omega)))
  rw [show Nat.lor m viewMask = m ||| viewMask from rfl, Nat.testBit_or, e, Bool.or_false]

theorem Cov.view {a m : Nat} (h : Cov a m) : Cov (Nat.lor a viewMask) (Nat.lor m viewMask) := by
  refine Nat.eq_of_testBit_eq (fun i => ?_)
  have e : Nat.land (Nat.lor m viewMask) (Nat.lor a viewMask) = (m ||| viewMask) &&& (a ||| viewMask) := rfl
  have f : Nat.lor a viewMask = a ||| viewMask := rfl
  rw [e, f, Nat.testBit_and, Nat.testBit_or, Nat.testBit_or]
  cases ha : a.testBit i
  · cases viewMask.testBit i <;> simp
  · simp [h.bit ha]

theorem cov_view (m : Nat) : Cov m (Nat.lor m viewMask) := by
  refine Nat.eq_of_testBit_eq (fun i => ?_)
  rw [show Nat.land (Nat.lor m viewMask) m = (m ||| viewMask) &&& m from rfl, Nat.testBit_and, Nat.testBit_or]
  cases m.testBit i <;> simp

/-- What a function makes of a view, with the memory and the marks of the state that it is a view of. -/
theorem fr_view {m : Nat} {s t u : State} (h : Fr m s t) (k : Fr (Nat.lor m viewMask) s u) :
    Fr m s { u with marks := t.marks, mem := t.mem } := by
  have b : ∀ i, i ≠ 2 → i ≠ 3 → i < 60 → m.testBit i = false → (Nat.lor m viewMask).testBit i = false := fun i h2 h3 h6 hi => by
    rw [show Nat.lor m viewMask = m ||| viewMask from rfl, Nat.testBit_or, hi, Bool.false_or]
    have : ∀ j : Fin 60, j.val ≠ 2 → j.val ≠ 3 → viewMask.testBit j.val = false := by decide
    exact this ⟨i, h6⟩ h2 h3
  refine ⟨fun p hp => ?_, fun hs => ?_, fun j jv hj => k.2.2.1 j jv ((or_view_bit m _).trans hj), fun c c0 c1 => h.2.2.2 c c0 c1⟩
  · cases p
    case mem => exact h.1 .mem hp
    case marks => exact h.1 .marks hp
    all_goals exact k.1 _ (b _ (by decide) (by decide) (by decide) hp)
  · have x := (canonical_iff _).1 (h.2.1 hs)
    have y := (canonical_iff _).1 (k.2.1 hs)
    exact (canonical_iff _).2 ⟨x.1, x.2.1, y.2.2⟩

theorem fr_set_runs {m : Nat} {s t : State} {v0} (hM : Cov 32 m) (h : Fr m s t) : Fr m s { t with runs := v0 } := by
  refine ⟨fun p hp => ?_, fun hs => ?_, fun k kv hk => h.2.2.1 k kv hk, fun c c0 c1 => h.2.2.2 c c0 c1⟩
  · cases p
    case runs => exact absurd (hM.bit (i := 5) rfl) (by rw [show m.testBit 5 = false from hp]; simp)
    all_goals exact h.1 _ hp
  · exact h.2.1 hs

theorem fr_set_cores {m : Nat} {s t : State} {v0} (hM : Cov 64 m) (h : Fr m s t) : Fr m s { t with cores := v0 } := by
  refine ⟨fun p hp => ?_, fun hs => ?_, fun k kv hk => h.2.2.1 k kv hk, fun c c0 c1 => h.2.2.2 c c0 c1⟩
  · cases p
    case cores => exact absurd (hM.bit (i := 6) rfl) (by rw [show m.testBit 6 = false from hp]; simp)
    all_goals exact h.1 _ hp
  · exact h.2.1 hs

theorem fr_set_units {m : Nat} {s t : State} {v0} (hM : Cov 128 m) (h : Fr m s t) : Fr m s { t with units := v0 } := by
  refine ⟨fun p hp => ?_, fun hs => ?_, fun k kv hk => h.2.2.1 k kv hk, fun c c0 c1 => h.2.2.2 c c0 c1⟩
  · cases p
    case units => exact absurd (hM.bit (i := 7) rfl) (by rw [show m.testBit 7 = false from hp]; simp)
    all_goals exact h.1 _ hp
  · exact h.2.1 hs

theorem fr_set_scales {m : Nat} {s t : State} {v0} (hM : Cov 256 m) (h : Fr m s t) : Fr m s { t with scales := v0 } := by
  refine ⟨fun p hp => ?_, fun hs => ?_, fun k kv hk => h.2.2.1 k kv hk, fun c c0 c1 => h.2.2.2 c c0 c1⟩
  · cases p
    case scales => exact absurd (hM.bit (i := 8) rfl) (by rw [show m.testBit 8 = false from hp]; simp)
    all_goals exact h.1 _ hp
  · exact h.2.1 hs

theorem fr_set_devs {m : Nat} {s t : State} {v0} (hM : Cov 512 m) (h : Fr m s t) : Fr m s { t with devs := v0 } := by
  refine ⟨fun p hp => ?_, fun hs => ?_, fun k kv hk => h.2.2.1 k kv hk, fun c c0 c1 => h.2.2.2 c c0 c1⟩
  · cases p
    case devs => exact absurd (hM.bit (i := 9) rfl) (by rw [show m.testBit 9 = false from hp]; simp)
    all_goals exact h.1 _ hp
  · exact h.2.1 hs

theorem fr_set_sieve {m : Nat} {s t : State} {v0} (hM : Cov 1024 m) (h : Fr m s t) : Fr m s { t with sieve := v0 } := by
  refine ⟨fun p hp => ?_, fun hs => ?_, fun k kv hk => h.2.2.1 k kv hk, fun c c0 c1 => h.2.2.2 c c0 c1⟩
  · cases p
    case sieve => exact absurd (hM.bit (i := 10) rfl) (by rw [show m.testBit 10 = false from hp]; simp)
    all_goals exact h.1 _ hp
  · exact h.2.1 hs

theorem fr_set_quiesce {m : Nat} {s t : State} {v0} (hM : Cov 2048 m) (h : Fr m s t) : Fr m s { t with quiesce := v0 } := by
  refine ⟨fun p hp => ?_, fun hs => ?_, fun k kv hk => h.2.2.1 k kv hk, fun c c0 c1 => h.2.2.2 c c0 c1⟩
  · cases p
    case quiesce => exact absurd (hM.bit (i := 11) rfl) (by rw [show m.testBit 11 = false from hp]; simp)
    all_goals exact h.1 _ hp
  · exact h.2.1 hs

theorem fr_set_groupPend {m : Nat} {s t : State} {v0} (hM : Cov 4096 m) (h : Fr m s t) : Fr m s { t with groupPend := v0 } := by
  refine ⟨fun p hp => ?_, fun hs => ?_, fun k kv hk => h.2.2.1 k kv hk, fun c c0 c1 => h.2.2.2 c c0 c1⟩
  · cases p
    case groupPend => exact absurd (hM.bit (i := 12) rfl) (by rw [show m.testBit 12 = false from hp]; simp)
    all_goals exact h.1 _ hp
  · exact h.2.1 hs

theorem fr_set_lastServed {m : Nat} {s t : State} {v0} (hM : Cov 8192 m) (h : Fr m s t) : Fr m s { t with lastServed := v0 } := by
  refine ⟨fun p hp => ?_, fun hs => ?_, fun k kv hk => h.2.2.1 k kv hk, fun c c0 c1 => h.2.2.2 c c0 c1⟩
  · cases p
    case lastServed => exact absurd (hM.bit (i := 13) rfl) (by rw [show m.testBit 13 = false from hp]; simp)
    all_goals exact h.1 _ hp
  · exact h.2.1 hs

theorem fr_set_errWin {m : Nat} {s t : State} {v0} (hM : Cov 16384 m) (h : Fr m s t) : Fr m s { t with errWin := v0 } := by
  refine ⟨fun p hp => ?_, fun hs => ?_, fun k kv hk => h.2.2.1 k kv hk, fun c c0 c1 => h.2.2.2 c c0 c1⟩
  · cases p
    case errWin => exact absurd (hM.bit (i := 14) rfl) (by rw [show m.testBit 14 = false from hp]; simp)
    all_goals exact h.1 _ hp
  · exact h.2.1 hs

theorem fr_set_links {m : Nat} {s t : State} {v0} (hM : Cov 131072 m) (h : Fr m s t) : Fr m s { t with links := v0 } := by
  refine ⟨fun p hp => ?_, fun hs => ?_, fun k kv hk => h.2.2.1 k kv hk, fun c c0 c1 => h.2.2.2 c c0 c1⟩
  · cases p
    case links => exact absurd (hM.bit (i := 17) rfl) (by rw [show m.testBit 17 = false from hp]; simp)
    all_goals exact h.1 _ hp
  · exact h.2.1 hs

theorem fr_set_conns {m : Nat} {s t : State} {v0} (hM : Cov 262144 m) (h : Fr m s t) : Fr m s { t with conns := v0 } := by
  refine ⟨fun p hp => ?_, fun hs => ?_, fun k kv hk => h.2.2.1 k kv hk, fun c c0 c1 => h.2.2.2 c c0 c1⟩
  · cases p
    case conns => exact absurd (hM.bit (i := 18) rfl) (by rw [show m.testBit 18 = false from hp]; simp)
    all_goals exact h.1 _ hp
  · exact h.2.1 hs

theorem fr_set_net {m : Nat} {s t : State} {v0} (hM : Cov 524288 m) (h : Fr m s t) : Fr m s { t with net := v0 } := by
  refine ⟨fun p hp => ?_, fun hs => ?_, fun k kv hk => h.2.2.1 k kv hk, fun c c0 c1 => h.2.2.2 c c0 c1⟩
  · cases p
    case net => exact absurd (hM.bit (i := 19) rfl) (by rw [show m.testBit 19 = false from hp]; simp)
    all_goals exact h.1 _ hp
  · exact h.2.1 hs

theorem fr_set_arrived {m : Nat} {s t : State} {v0} (hM : Cov 1048576 m) (h : Fr m s t) : Fr m s { t with arrived := v0 } := by
  refine ⟨fun p hp => ?_, fun hs => ?_, fun k kv hk => h.2.2.1 k kv hk, fun c c0 c1 => h.2.2.2 c c0 c1⟩
  · cases p
    case arrived => exact absurd (hM.bit (i := 20) rfl) (by rw [show m.testBit 20 = false from hp]; simp)
    all_goals exact h.1 _ hp
  · exact h.2.1 hs

theorem fr_set_drain {m : Nat} {s t : State} {v0} (hM : Cov 2097152 m) (h : Fr m s t) : Fr m s { t with drain := v0 } := by
  refine ⟨fun p hp => ?_, fun hs => ?_, fun k kv hk => h.2.2.1 k kv hk, fun c c0 c1 => h.2.2.2 c c0 c1⟩
  · cases p
    case drain => exact absurd (hM.bit (i := 21) rfl) (by rw [show m.testBit 21 = false from hp]; simp)
    all_goals exact h.1 _ hp
  · exact h.2.1 hs

theorem fr_set_notices {m : Nat} {s t : State} {v0} (hM : Cov 4194304 m) (h : Fr m s t) : Fr m s { t with notices := v0 } := by
  refine ⟨fun p hp => ?_, fun hs => ?_, fun k kv hk => h.2.2.1 k kv hk, fun c c0 c1 => h.2.2.2 c c0 c1⟩
  · cases p
    case notices => exact absurd (hM.bit (i := 22) rfl) (by rw [show m.testBit 22 = false from hp]; simp)
    all_goals exact h.1 _ hp
  · exact h.2.1 hs

theorem fr_set_colls {m : Nat} {s t : State} {v0} (hM : Cov 8388608 m) (h : Fr m s t) : Fr m s { t with colls := v0 } := by
  refine ⟨fun p hp => ?_, fun hs => ?_, fun k kv hk => h.2.2.1 k kv hk, fun c c0 c1 => h.2.2.2 c c0 c1⟩
  · cases p
    case colls => exact absurd (hM.bit (i := 23) rfl) (by rw [show m.testBit 23 = false from hp]; simp)
    all_goals exact h.1 _ hp
  · exact h.2.1 hs

theorem fr_set_sess {m : Nat} {s t : State} {v0} (hM : Cov 16777216 m) (h : Fr m s t) : Fr m s { t with sess := v0 } := by
  refine ⟨fun p hp => ?_, fun hs => ?_, fun k kv hk => h.2.2.1 k kv hk, fun c c0 c1 => h.2.2.2 c c0 c1⟩
  · cases p
    case sess => exact absurd (hM.bit (i := 24) rfl) (by rw [show m.testBit 24 = false from hp]; simp)
    all_goals exact h.1 _ hp
  · exact h.2.1 hs

theorem fr_set_hsWin {m : Nat} {s t : State} {v0} (hM : Cov 33554432 m) (h : Fr m s t) : Fr m s { t with hsWin := v0 } := by
  refine ⟨fun p hp => ?_, fun hs => ?_, fun k kv hk => h.2.2.1 k kv hk, fun c c0 c1 => h.2.2.2 c c0 c1⟩
  · cases p
    case hsWin => exact absurd (hM.bit (i := 25) rfl) (by rw [show m.testBit 25 = false from hp]; simp)
    all_goals exact h.1 _ hp
  · exact h.2.1 hs

theorem fr_set_echoWin {m : Nat} {s t : State} {v0} (hM : Cov 67108864 m) (h : Fr m s t) : Fr m s { t with echoWin := v0 } := by
  refine ⟨fun p hp => ?_, fun hs => ?_, fun k kv hk => h.2.2.1 k kv hk, fun c c0 c1 => h.2.2.2 c c0 c1⟩
  · cases p
    case echoWin => exact absurd (hM.bit (i := 26) rfl) (by rw [show m.testBit 26 = false from hp]; simp)
    all_goals exact h.1 _ hp
  · exact h.2.1 hs

theorem fr_set_ethHold {m : Nat} {s t : State} {v0} (hM : Cov 134217728 m) (h : Fr m s t) : Fr m s { t with ethHold := v0 } := by
  refine ⟨fun p hp => ?_, fun hs => ?_, fun k kv hk => h.2.2.1 k kv hk, fun c c0 c1 => h.2.2.2 c c0 c1⟩
  · cases p
    case ethHold => exact absurd (hM.bit (i := 27) rfl) (by rw [show m.testBit 27 = false from hp]; simp)
    all_goals exact h.1 _ hp
  · exact h.2.1 hs

theorem fr_set_mg {m : Nat} {s t : State} {v0} (hM : Cov 268435456 m) (h : Fr m s t) : Fr m s { t with mg := v0 } := by
  refine ⟨fun p hp => ?_, fun hs => ?_, fun k kv hk => h.2.2.1 k kv hk, fun c c0 c1 => h.2.2.2 c c0 c1⟩
  · cases p
    case mg => exact absurd (hM.bit (i := 28) rfl) (by rw [show m.testBit 28 = false from hp]; simp)
    all_goals exact h.1 _ hp
  · exact h.2.1 hs

theorem fr_set_pw {m : Nat} {s t : State} {v0} (hM : Cov 536870912 m) (h : Fr m s t) : Fr m s { t with pw := v0 } := by
  refine ⟨fun p hp => ?_, fun hs => ?_, fun k kv hk => h.2.2.1 k kv hk, fun c c0 c1 => h.2.2.2 c c0 c1⟩
  · cases p
    case pw => exact absurd (hM.bit (i := 29) rfl) (by rw [show m.testBit 29 = false from hp]; simp)
    all_goals exact h.1 _ hp
  · exact h.2.1 hs

theorem fr_set_nakAt {m : Nat} {s t : State} {v0} (hM : Cov 1073741824 m) (h : Fr m s t) : Fr m s { t with nakAt := v0 } := by
  refine ⟨fun p hp => ?_, fun hs => ?_, fun k kv hk => h.2.2.1 k kv hk, fun c c0 c1 => h.2.2.2 c c0 c1⟩
  · cases p
    case nakAt => exact absurd (hM.bit (i := 30) rfl) (by rw [show m.testBit 30 = false from hp]; simp)
    all_goals exact h.1 _ hp
  · exact h.2.1 hs

theorem fr_set_hbMissed {m : Nat} {s t : State} {v0} (hM : Cov 2147483648 m) (h : Fr m s t) : Fr m s { t with hbMissed := v0 } := by
  refine ⟨fun p hp => ?_, fun hs => ?_, fun k kv hk => h.2.2.1 k kv hk, fun c c0 c1 => h.2.2.2 c c0 c1⟩
  · cases p
    case hbMissed => exact absurd (hM.bit (i := 31) rfl) (by rw [show m.testBit 31 = false from hp]; simp)
    all_goals exact h.1 _ hp
  · exact h.2.1 hs

theorem fr_set_termSeen {m : Nat} {s t : State} {v0} (hM : Cov 4294967296 m) (h : Fr m s t) : Fr m s { t with termSeen := v0 } := by
  refine ⟨fun p hp => ?_, fun hs => ?_, fun k kv hk => h.2.2.1 k kv hk, fun c c0 c1 => h.2.2.2 c c0 c1⟩
  · cases p
    case termSeen => exact absurd (hM.bit (i := 32) rfl) (by rw [show m.testBit 32 = false from hp]; simp)
    all_goals exact h.1 _ hp
  · exact h.2.1 hs

theorem fr_set_bridges {m : Nat} {s t : State} {v0} (hM : Cov 8589934592 m) (h : Fr m s t) : Fr m s { t with bridges := v0 } := by
  refine ⟨fun p hp => ?_, fun hs => ?_, fun k kv hk => h.2.2.1 k kv hk, fun c c0 c1 => h.2.2.2 c c0 c1⟩
  · cases p
    case bridges => exact absurd (hM.bit (i := 33) rfl) (by rw [show m.testBit 33 = false from hp]; simp)
    all_goals exact h.1 _ hp
  · exact h.2.1 hs

theorem fr_set_lantern {m : Nat} {s t : State} {v0} (hM : Cov 17179869184 m) (h : Fr m s t) : Fr m s { t with lantern := v0 } := by
  refine ⟨fun p hp => ?_, fun hs => ?_, fun k kv hk => h.2.2.1 k kv hk, fun c c0 c1 => h.2.2.2 c c0 c1⟩
  · cases p
    case lantern => exact absurd (hM.bit (i := 34) rfl) (by rw [show m.testBit 34 = false from hp]; simp)
    all_goals exact h.1 _ hp
  · exact h.2.1 hs

theorem fr_set_ceRings {m : Nat} {s t : State} {v0} (hM : Cov 68719476736 m) (h : Fr m s t) : Fr m s { t with ceRings := v0 } := by
  refine ⟨fun p hp => ?_, fun hs => ?_, fun k kv hk => h.2.2.1 k kv hk, fun c c0 c1 => h.2.2.2 c c0 c1⟩
  · cases p
    case ceRings => exact absurd (hM.bit (i := 36) rfl) (by rw [show m.testBit 36 = false from hp]; simp)
    all_goals exact h.1 _ hp
  · exact h.2.1 hs

theorem fr_set_repairs {m : Nat} {s t : State} {v0} (hM : Cov 137438953472 m) (h : Fr m s t) : Fr m s { t with repairs := v0 } := by
  refine ⟨fun p hp => ?_, fun hs => ?_, fun k kv hk => h.2.2.1 k kv hk, fun c c0 c1 => h.2.2.2 c c0 c1⟩
  · cases p
    case repairs => exact absurd (hM.bit (i := 37) rfl) (by rw [show m.testBit 37 = false from hp]; simp)
    all_goals exact h.1 _ hp
  · exact h.2.1 hs

theorem fr_set_nextTag {m : Nat} {s t : State} {v0} (hM : Cov 274877906944 m) (h : Fr m s t) : Fr m s { t with nextTag := v0 } := by
  refine ⟨fun p hp => ?_, fun hs => ?_, fun k kv hk => h.2.2.1 k kv hk, fun c c0 c1 => h.2.2.2 c c0 c1⟩
  · cases p
    case nextTag => exact absurd (hM.bit (i := 38) rfl) (by rw [show m.testBit 38 = false from hp]; simp)
    all_goals exact h.1 _ hp
  · exact h.2.1 hs

theorem fr_set_out {m : Nat} {s t : State} {v0} (hM : Cov 549755813888 m) (h : Fr m s t) : Fr m s { t with out := v0 } := by
  refine ⟨fun p hp => ?_, fun hs => ?_, fun k kv hk => h.2.2.1 k kv hk, fun c c0 c1 => h.2.2.2 c c0 c1⟩
  · cases p
    case out => exact absurd (hM.bit (i := 39) rfl) (by rw [show m.testBit 39 = false from hp]; simp)
    all_goals exact h.1 _ hp
  · exact h.2.1 hs

theorem fr_set_freeCtr {m : Nat} {s t : State} {v0} (hM : Cov 1099511627776 m) (h : Fr m s t) : Fr m s { t with freeCtr := v0 } := by
  refine ⟨fun p hp => ?_, fun hs => ?_, fun k kv hk => h.2.2.1 k kv hk, fun c c0 c1 => h.2.2.2 c c0 c1⟩
  · cases p
    case freeCtr => exact absurd (hM.bit (i := 40) rfl) (by rw [show m.testBit 40 = false from hp]; simp)
    all_goals exact h.1 _ hp
  · exact h.2.1 hs

theorem fr_set_pending {m : Nat} {s t : State} {v0} (hM : Cov 2199023255552 m) (h : Fr m s t) : Fr m s { t with pending := v0 } := by
  refine ⟨fun p hp => ?_, fun hs => ?_, fun k kv hk => h.2.2.1 k kv hk, fun c c0 c1 => h.2.2.2 c c0 c1⟩
  · cases p
    case pending => exact absurd (hM.bit (i := 41) rfl) (by rw [show m.testBit 41 = false from hp]; simp)
    all_goals exact h.1 _ hp
  · exact h.2.1 hs

theorem fr_set_mem_marks {m : Nat} {s t : State} {v0 v1} (hM : Cov 1152921504606846988 m) (h : Fr m s t)
    (wmem : smWf (fun _ => (0 : Byte)) t.mem = true → smWf (fun _ => (0 : Byte)) v0 = true)
    (wmarks : smWf (fun _ => false) t.marks = true → smWf (fun _ => false) v1 = true) : Fr m s { t with mem := v0, marks := v1 } := by
  refine ⟨fun p hp => ?_, fun hs => ?_, fun k kv hk => h.2.2.1 k kv hk, fun c => absurd (hM.bit (i := 60) rfl) (by rw [c]; simp)⟩
  · cases p
    case mem => exact absurd (hM.bit (i := 2) rfl) (by rw [show m.testBit 2 = false from hp]; simp)
    case marks => exact absurd (hM.bit (i := 3) rfl) (by rw [show m.testBit 3 = false from hp]; simp)
    all_goals exact h.1 _ hp
  · have k := (canonical_iff _).1 (h.2.1 hs)
    exact (canonical_iff _).2 ⟨wmem k.1, wmarks k.2.1, k.2.2⟩

theorem fr_set_temps_volts {m : Nat} {s t : State} {v0 v1} (hM : Cov 98304 m) (h : Fr m s t) : Fr m s { t with temps := v0, volts := v1 } := by
  refine ⟨fun p hp => ?_, fun hs => ?_, fun k kv hk => h.2.2.1 k kv hk, fun c c0 c1 => h.2.2.2 c c0 c1⟩
  · cases p
    case temps => exact absurd (hM.bit (i := 15) rfl) (by rw [show m.testBit 15 = false from hp]; simp)
    case volts => exact absurd (hM.bit (i := 16) rfl) (by rw [show m.testBit 16 = false from hp]; simp)
    all_goals exact h.1 _ hp
  · exact h.2.1 hs

theorem fr_set_links_net {m : Nat} {s t : State} {v0 v1} (hM : Cov 655360 m) (h : Fr m s t) : Fr m s { t with links := v0, net := v1 } := by
  refine ⟨fun p hp => ?_, fun hs => ?_, fun k kv hk => h.2.2.1 k kv hk, fun c c0 c1 => h.2.2.2 c c0 c1⟩
  · cases p
    case links => exact absurd (hM.bit (i := 17) rfl) (by rw [show m.testBit 17 = false from hp]; simp)
    case net => exact absurd (hM.bit (i := 19) rfl) (by rw [show m.testBit 19 = false from hp]; simp)
    all_goals exact h.1 _ hp
  · exact h.2.1 hs

theorem fr_set_links_drain {m : Nat} {s t : State} {v0 v1} (hM : Cov 2228224 m) (h : Fr m s t) : Fr m s { t with links := v0, drain := v1 } := by
  refine ⟨fun p hp => ?_, fun hs => ?_, fun k kv hk => h.2.2.1 k kv hk, fun c c0 c1 => h.2.2.2 c c0 c1⟩
  · cases p
    case links => exact absurd (hM.bit (i := 17) rfl) (by rw [show m.testBit 17 = false from hp]; simp)
    case drain => exact absurd (hM.bit (i := 21) rfl) (by rw [show m.testBit 21 = false from hp]; simp)
    all_goals exact h.1 _ hp
  · exact h.2.1 hs

theorem fr_set_net_arrived {m : Nat} {s t : State} {v0 v1} (hM : Cov 1572864 m) (h : Fr m s t) : Fr m s { t with net := v0, arrived := v1 } := by
  refine ⟨fun p hp => ?_, fun hs => ?_, fun k kv hk => h.2.2.1 k kv hk, fun c c0 c1 => h.2.2.2 c c0 c1⟩
  · cases p
    case net => exact absurd (hM.bit (i := 19) rfl) (by rw [show m.testBit 19 = false from hp]; simp)
    case arrived => exact absurd (hM.bit (i := 20) rfl) (by rw [show m.testBit 20 = false from hp]; simp)
    all_goals exact h.1 _ hp
  · exact h.2.1 hs

theorem fr_set_notices_colls {m : Nat} {s t : State} {v0 v1} (hM : Cov 12582912 m) (h : Fr m s t) : Fr m s { t with notices := v0, colls := v1 } := by
  refine ⟨fun p hp => ?_, fun hs => ?_, fun k kv hk => h.2.2.1 k kv hk, fun c c0 c1 => h.2.2.2 c c0 c1⟩
  · cases p
    case notices => exact absurd (hM.bit (i := 22) rfl) (by rw [show m.testBit 22 = false from hp]; simp)
    case colls => exact absurd (hM.bit (i := 23) rfl) (by rw [show m.testBit 23 = false from hp]; simp)
    all_goals exact h.1 _ hp
  · exact h.2.1 hs

theorem fr_set_ethHold_out {m : Nat} {s t : State} {v0 v1} (hM : Cov 549890031616 m) (h : Fr m s t) : Fr m s { t with ethHold := v0, out := v1 } := by
  refine ⟨fun p hp => ?_, fun hs => ?_, fun k kv hk => h.2.2.1 k kv hk, fun c c0 c1 => h.2.2.2 c c0 c1⟩
  · cases p
    case ethHold => exact absurd (hM.bit (i := 27) rfl) (by rw [show m.testBit 27 = false from hp]; simp)
    case out => exact absurd (hM.bit (i := 39) rfl) (by rw [show m.testBit 39 = false from hp]; simp)
    all_goals exact h.1 _ hp
  · exact h.2.1 hs

theorem fr_set_hbMissed_termSeen {m : Nat} {s t : State} {v0 v1} (hM : Cov 6442450944 m) (h : Fr m s t) : Fr m s { t with hbMissed := v0, termSeen := v1 } := by
  refine ⟨fun p hp => ?_, fun hs => ?_, fun k kv hk => h.2.2.1 k kv hk, fun c c0 c1 => h.2.2.2 c c0 c1⟩
  · cases p
    case hbMissed => exact absurd (hM.bit (i := 31) rfl) (by rw [show m.testBit 31 = false from hp]; simp)
    case termSeen => exact absurd (hM.bit (i := 32) rfl) (by rw [show m.testBit 32 = false from hp]; simp)
    all_goals exact h.1 _ hp
  · exact h.2.1 hs

theorem fr_set_lantern_lanternFabric {m : Nat} {s t : State} {v0 v1} (hM : Cov 51539607552 m) (h : Fr m s t) : Fr m s { t with lantern := v0, lanternFabric := v1 } := by
  refine ⟨fun p hp => ?_, fun hs => ?_, fun k kv hk => h.2.2.1 k kv hk, fun c c0 c1 => h.2.2.2 c c0 c1⟩
  · cases p
    case lantern => exact absurd (hM.bit (i := 34) rfl) (by rw [show m.testBit 34 = false from hp]; simp)
    case lanternFabric => exact absurd (hM.bit (i := 35) rfl) (by rw [show m.testBit 35 = false from hp]; simp)
    all_goals exact h.1 _ hp
  · exact h.2.1 hs

theorem fr_set_sess_ethHold {m : Nat} {s t : State} {v0 v1} (hM : Cov 150994944 m) (h : Fr m s t) :
    Fr m s { t with sess := v0, ethHold := v1 } := by
  refine ⟨fun p hp => ?_, fun hs => ?_, fun k kv hk => h.2.2.1 k kv hk, fun c c0 c1 => h.2.2.2 c c0 c1⟩
  · cases p
    case sess => exact absurd (hM.bit (i := 24) rfl) (by rw [show m.testBit 24 = false from hp]; simp)
    case ethHold => exact absurd (hM.bit (i := 27) rfl) (by rw [show m.testBit 27 = false from hp]; simp)
    all_goals exact h.1 _ hp
  · exact h.2.1 hs

theorem fr_set_us {m : Nat} {s t : State} {v0} (hM : Cov 8796093022208 m) (h : Fr m s t) :
    Fr m s { t with us := v0 } := by
  refine ⟨fun p hp => ?_, fun hs => ?_, fun k kv hk => h.2.2.1 k kv hk, fun c c0 c1 => h.2.2.2 c c0 c1⟩
  · cases p
    case us => exact absurd (hM.bit (i := 43) rfl) (by rw [show m.testBit 43 = false from hp]; simp)
    all_goals exact h.1 _ hp
  · exact h.2.1 hs

theorem fr_set_pauseTx {m : Nat} {s t : State} {v0} (hM : Cov 4398046511104 m) (h : Fr m s t) :
    Fr m s { t with pauseTx := v0 } := by
  refine ⟨fun p hp => ?_, fun hs => ?_, fun k kv hk => h.2.2.1 k kv hk, fun c c0 c1 => h.2.2.2 c c0 c1⟩
  · cases p
    case pauseTx => exact absurd (hM.bit (i := 42) rfl) (by rw [show m.testBit 42 = false from hp]; simp)
    all_goals exact h.1 _ hp
  · exact h.2.1 hs

theorem fr_set_hbMissed_termSeen_hbSeen_spireTerm {m : Nat} {s t : State} {v0 v1 v2 v3} (hM : Cov 52783000584192 m) (h : Fr m s t) :
    Fr m s { t with hbMissed := v0, termSeen := v1, hbSeen := v2, spireTerm := v3 } := by
  refine ⟨fun p hp => ?_, fun hs => ?_, fun k kv hk => h.2.2.1 k kv hk, fun c c0 c1 => h.2.2.2 c c0 c1⟩
  · cases p
    case hbMissed => exact absurd (hM.bit (i := 31) rfl) (by rw [show m.testBit 31 = false from hp]; simp)
    case termSeen => exact absurd (hM.bit (i := 32) rfl) (by rw [show m.testBit 32 = false from hp]; simp)
    case hbSeen => exact absurd (hM.bit (i := 44) rfl) (by rw [show m.testBit 44 = false from hp]; simp)
    case spireTerm => exact absurd (hM.bit (i := 45) rfl) (by rw [show m.testBit 45 = false from hp]; simp)
    all_goals exact h.1 _ hp
  · exact h.2.1 hs

theorem fr_set_hbMissed_hbSeen {m : Nat} {s t : State} {v0 v1} (hM : Cov 17594333528064 m) (h : Fr m s t) :
    Fr m s { t with hbMissed := v0, hbSeen := v1 } := by
  refine ⟨fun p hp => ?_, fun hs => ?_, fun k kv hk => h.2.2.1 k kv hk, fun c c0 c1 => h.2.2.2 c c0 c1⟩
  · cases p
    case hbMissed => exact absurd (hM.bit (i := 31) rfl) (by rw [show m.testBit 31 = false from hp]; simp)
    case hbSeen => exact absurd (hM.bit (i := 44) rfl) (by rw [show m.testBit 44 = false from hp]; simp)
    all_goals exact h.1 _ hp
  · exact h.2.1 hs

theorem fr_set_hbMissed_termSeen_hbSeen {m : Nat} {s t : State} {v0 v1 v2} (hM : Cov 17598628495360 m) (h : Fr m s t) :
    Fr m s { t with hbMissed := v0, termSeen := v1, hbSeen := v2 } := by
  refine ⟨fun p hp => ?_, fun hs => ?_, fun k kv hk => h.2.2.1 k kv hk, fun c c0 c1 => h.2.2.2 c c0 c1⟩
  · cases p
    case hbMissed => exact absurd (hM.bit (i := 31) rfl) (by rw [show m.testBit 31 = false from hp]; simp)
    case termSeen => exact absurd (hM.bit (i := 32) rfl) (by rw [show m.testBit 32 = false from hp]; simp)
    case hbSeen => exact absurd (hM.bit (i := 44) rfl) (by rw [show m.testBit 44 = false from hp]; simp)
    all_goals exact h.1 _ hp
  · exact h.2.1 hs

theorem fr_set_ethHold_pauseTx {m : Nat} {s t : State} {v0 v1} (hM : Cov 4398180728832 m) (h : Fr m s t) :
    Fr m s { t with ethHold := v0, pauseTx := v1 } := by
  refine ⟨fun p hp => ?_, fun hs => ?_, fun k kv hk => h.2.2.1 k kv hk, fun c c0 c1 => h.2.2.2 c c0 c1⟩
  · cases p
    case ethHold => exact absurd (hM.bit (i := 27) rfl) (by rw [show m.testBit 27 = false from hp]; simp)
    case pauseTx => exact absurd (hM.bit (i := 42) rfl) (by rw [show m.testBit 42 = false from hp]; simp)
    all_goals exact h.1 _ hp
  · exact h.2.1 hs

theorem fr_set_regs {m : Nat} {s t : State} {v0} (hM : Cov allRegs m) (h : Fr m s t) : Fr m s { t with regs := v0 } := by
  refine ⟨fun p hp => ?_, fun hs => h.2.1 hs, fun k kv hk => ?_, fun c c0 c1 => h.2.2.2 c c0 c1⟩
  · cases p
    case regs => exact absurd (hM.bit (i := 0) rfl) (by rw [show m.testBit 0 = false from hp]; simp)
    all_goals exact h.1 _ hp
  · exact absurd ((hM.all k.name).bit (regMask_bit k.name)) (by rw [hk]; simp)

/-- Writing a register word. -/
theorem fr_State_wr {m : Nat} {s t : State} {k v} (hM : Cov (regMask k.name) m) (h : Fr m s t) : Fr m s (t.wr k v) := by
  refine ⟨fun p hp => ?_, fun hs => h.2.1 hs, fun j jv hj => ?_, fun c c0 c1 => h.2.2.2 c c0 c1⟩
  · cases p
    case regs =>
      exact absurd (hM.bit (i := 0) (by cases k.name <;> decide)) (by rw [show m.testBit 0 = false from hp]; simp)
    all_goals exact h.1 _ hp
  · by_cases kv : k.valid = true
    · refine Eq.trans (rd_wr_other t v (addr_ne jv kv (fun e => ?_))) (h.2.2.1 j jv hj)
      rw [e] at hj
      exact absurd (hM.bit (regMask_bit k.name)) (by rw [hj]; simp)
    · have e : t.wr k v = t := by
        unfold State.wr
        rw [if_neg kv]
      rw [e]
      exact h.2.2.1 j jv hj

theorem fr_State_fs {m : Nat} {s t : State} {f : Fld} {v i j x} (hM : Cov (regMask f.reg) m) (h : Fr m s t) :
    Fr m s (t.fs f v i j x) := fr_State_wr hM h

theorem fr_State_fc {m : Nat} {s t : State} {f : Fld} {v i j x} (hM : Cov (regMask f.reg) m) (h : Fr m s t) :
    Fr m s (t.fc f v i j x) := fr_State_fs hM h

theorem fr_State_fo {m : Nat} {s t : State} {f : Fld} {v i j x} (hM : Cov (regMask f.reg) m) (h : Fr m s t) :
    Fr m s (t.fo f v i j x) := fr_State_fs hM h

theorem fr_State_setCoreBit {m : Nat} {s t : State} {f g : Fld} {c v} (hM : Cov (regMask f.reg) m) (hN : Cov (regMask g.reg) m)
    (h : Fr m s t) : Fr m s (t.setCoreBit f g c v) := by
  unfold State.setCoreBit
  exact fr_ite (fr_State_fs hM h) (fr_State_fs hN h)

theorem fr_State_ls {m : Nat} {s t : State} {f : Fld} {v l x} (hM : Cov (regMask f.reg) m) (h : Fr m s t) :
    Fr m s (t.ls f v l x) := fr_State_fs hM h

theorem fr_State_lc {m : Nat} {s t : State} {f : Fld} {v l x} (hM : Cov (regMask f.reg) m) (h : Fr m s t) :
    Fr m s (t.lc f v l x) := fr_State_fc hM h

theorem fr_State_ss {m : Nat} {s t : State} {f : Fld} {v n} (hM : Cov (regMask f.reg) m) (h : Fr m s t) :
    Fr m s (t.ss f v n) := fr_State_fs hM h

/-! ### Operations on the memories keep the canonical form -/

theorem putBytes_wf (a : Nat) (bs : List Byte) {m : SMap Byte} (h : smWf (fun _ => 0) m = true) :
    smWf (fun _ => 0) (putBytes m a bs) = true := by
  induction bs generalizing m a with
  | nil => exact h
  | cons b bs ih => exact ih (a + 1) (smWf_put _ _ _ h)

theorem promoteTile_wf (l : Lnd) (aw bw : Bool) (n t : Nat) (first : Bool) (rows : List OpBlk × List OpBlk) {acc : SMap (BitVec 192)}
    (h : smWf (fun _ => 0) acc = true) : smWf (fun _ => 0) (promoteTile l aw bw n t first acc rows) = true :=
  smWf_foldl _ (fun _ _ k => smWf_foldl _ (fun _ _ k' => smWf_put _ _ _ k') _ k) _ h

theorem foldl_fst_wf {α β γ : Type} [DecidableEq α] (d : Nat → α) {f : SMap α × γ → β → SMap α × γ}
    (hf : ∀ x b, smWf d x.1 = true → smWf d (f x b).1 = true) (l : List β) {x : SMap α × γ} (h : smWf d x.1 = true) :
    smWf d (l.foldl f x).1 = true := by
  induction l generalizing x with
  | nil => exact h
  | cons b l ih => exact ih (hf x b h)

theorem promoteTile32_wf (n t : Nat) (first : Bool) (rows : List OpBlk × List OpBlk) {acc : SMap (BitVec 192)} {cl : List Nat}
    (h : smWf (fun _ => 0) acc = true) : smWf (fun _ => 0) (promoteTile32 n t first (acc, cl) rows).1 = true :=
  foldl_fst_wf _ (fun _ _ k => foldl_fst_wf _ (fun _ _ k' => smWf_put _ _ _ k') _ k) _ h

theorem remap_wf {α : Type} [DecidableEq α] (d : Nat → α) (old new scale : Nat) (m : SMap α) : smWf d (remap d old new scale m) = true :=
  smWf_foldl d (fun _ _ k => smWf_put _ _ _ k) m rfl

end Sys2Proof.Laws
end

