-- ==== Sys2Proof/Laws/FrameOps.lean ====
section
/-! SUPPORT. What the functions of Machine/Ops.lean may change. -/

namespace Sys2Proof.Laws

open Sys2Proof.Machine

theorem fr_State_free {m : Nat} {s t : State} (hM : Cov 1099511627776 m) (h : Fr m s t) :
    Fr m s (Sys2Proof.Machine.State.free t).2 := by
  unfold Sys2Proof.Machine.State.free
  repeat' first
    | with_reducible assumption
    | with_reducible refine fr_set_freeCtr (hM.sub (by decide)) ?_

theorem fr_State_emit {m : Nat} {s t : State} {a1} (hM : Cov 549755813888 m) (h : Fr m s t) :
    Fr m s (Sys2Proof.Machine.State.emit t a1) := by
  unfold Sys2Proof.Machine.State.emit
  repeat' first
    | with_reducible assumption
    | with_reducible refine fr_set_out (hM.sub (by decide)) ?_

theorem fr_State_setRun {m : Nat} {s t : State} {a1 a2} (hM : Cov 32 m) (h : Fr m s t) :
    Fr m s (Sys2Proof.Machine.State.setRun t a1 a2) := by
  unfold Sys2Proof.Machine.State.setRun
  repeat' first
    | with_reducible assumption
    | with_reducible refine fr_set_runs (hM.sub (by decide)) ?_

theorem fr_State_modRun {m : Nat} {s t : State} {a1 a2} (hM : Cov 32 m) (h : Fr m s t) :
    Fr m s (Sys2Proof.Machine.State.modRun t a1 a2) := by
  unfold Sys2Proof.Machine.State.modRun
  repeat' first
    | with_reducible assumption
    | with_reducible refine fr_State_setRun (hM.sub (by decide)) ?_

theorem fr_State_setCore {m : Nat} {s t : State} {a1 a2} (hM : Cov 64 m) (h : Fr m s t) :
    Fr m s (Sys2Proof.Machine.State.setCore t a1 a2) := by
  unfold Sys2Proof.Machine.State.setCore
  repeat' first
    | with_reducible assumption
    | with_reducible refine fr_set_cores (hM.sub (by decide)) ?_

theorem fr_State_modCore {m : Nat} {s t : State} {a1 a2} (hM : Cov 64 m) (h : Fr m s t) :
    Fr m s (Sys2Proof.Machine.State.modCore t a1 a2) := by
  unfold Sys2Proof.Machine.State.modCore
  repeat' first
    | with_reducible assumption
    | with_reducible refine fr_State_setCore (hM.sub (by decide)) ?_

theorem fr_State_modEng {m : Nat} {s t : State} {a1 a2 a3} (hM : Cov 64 m) (h : Fr m s t) :
    Fr m s (Sys2Proof.Machine.State.modEng t a1 a2 a3) := by
  unfold Sys2Proof.Machine.State.modEng
  repeat' first
    | with_reducible assumption
    | with_reducible refine fr_State_modCore (hM.sub (by decide)) ?_

theorem fr_State_modCtx {m : Nat} {s t : State} {a1 a2 a3} (hM : Cov 64 m) (h : Fr m s t) :
    Fr m s (Sys2Proof.Machine.State.modCtx t a1 a2 a3) := by
  unfold Sys2Proof.Machine.State.modCtx
  repeat' first
    | with_reducible assumption
    | with_reducible refine fr_State_modCore (hM.sub (by decide)) ?_

theorem fr_State_setUnitQ {m : Nat} {s t : State} {a1 a2} (hM : Cov 128 m) (h : Fr m s t) :
    Fr m s (Sys2Proof.Machine.State.setUnitQ t a1 a2) := by
  unfold Sys2Proof.Machine.State.setUnitQ
  repeat' first
    | with_reducible assumption
    | with_reducible refine fr_set_units (hM.sub (by decide)) ?_

theorem fr_State_store {m : Nat} {s t : State} {a1 a2 a3} (hM : Cov 1152921504606846988 m) (h : Fr m s t) :
    Fr m s (Sys2Proof.Machine.State.store t a1 a2 a3) :=
  fr_set_mem_marks hM h (putBytes_wf a1 a2) (smWf_foldl _ (fun _ _ k => smWf_put _ _ _ k) _)

theorem fr_State_storeLe {m : Nat} {s t : State} {a1 a2 a3} (hM : Cov 1152921504606846988 m) (h : Fr m s t) :
    Fr m s (Sys2Proof.Machine.State.storeLe t a1 a2 a3) := by
  unfold Sys2Proof.Machine.State.storeLe
  repeat' first
    | with_reducible assumption
    | with_reducible refine fr_State_store (hM.sub (by decide)) ?_

theorem fr_State_poisonUnit {m : Nat} {s t : State} {a1} (hM : Cov 1152921504606846988 m) (h : Fr m s t) :
    Fr m s (Sys2Proof.Machine.State.poisonUnit t a1) := by
  unfold Sys2Proof.Machine.State.poisonUnit
  repeat' first
    | with_reducible assumption
    | with_reducible refine fr_State_store (hM.sub (by decide)) ?_

theorem fr_State_freeFill {m : Nat} {s t : State} {a1 a2} (hM : Cov 1152922604118474764 m) (h : Fr m s t) :
    Fr m s (Sys2Proof.Machine.State.freeFill t a1 a2) := by
  unfold Sys2Proof.Machine.State.freeFill
  repeat' first
    | with_reducible assumption
    | with_reducible refine fr_State_store (hM.sub (by decide)) ?_
    | dsimp only
    | with_reducible refine fr_set_freeCtr (hM.sub (by decide)) ?_

theorem fr_State_decodeErr {m : Nat} {s t : State} {a1} (hM : Cov 85070591730234615865843651857942052865 m) (h : Fr m s t) :
    Fr m s (Sys2Proof.Machine.State.decodeErr t a1) := by
  unfold Sys2Proof.Machine.State.decodeErr
  repeat' first
    | with_reducible assumption
    | with_reducible refine fr_State_fc (hM.sub (by decide)) ?_

theorem fr_State_ringPut {m : Nat} {s t : State} {a1 a2} (hM : Cov 21418224541456165120609801964879885 m) (h : Fr m s t) :
    Fr m s (Sys2Proof.Machine.State.ringPut t a1 a2) := by
  unfold Sys2Proof.Machine.State.ringPut
  repeat' first
    | with_reducible assumption
    | with_reducible refine fr_State_fc (hM.sub (by decide)) ?_
    | with_reducible refine fr_State_fs (hM.sub (by decide)) ?_
    | with_reducible refine fr_State_store (hM.sub (by decide)) ?_
    | dsimp only

theorem fr_event_put {m : Nat} {s t : State} {e : Nat} {bs : List Byte} (hM : Cov 353725223487685132193640062428119053 m) (h : Fr m s t) (he : e < 65536)
    (hq : t.qOn e qEvent = true) (hb : bs.length = 32) : Fr m s (t.ringPut e bs) := by
  have hN : Cov 353725223487685133346561567034966029 (m ||| 2 ^ 60) := by
    refine Nat.eq_of_testBit_eq (fun i => ?_)
    rw [show Nat.land (m ||| 2 ^ 60) 353725223487685133346561567034966029 = (m ||| 2 ^ 60) &&& 353725223487685133346561567034966029 from rfl, Nat.testBit_and, Nat.testBit_or, Nat.testBit_two_pow]
    by_cases hi : i = 60
    · subst hi; simp
    · have hs : Nat.testBit 353725223487685133346561567034966029 i = Nat.testBit 353725223487685132193640062428119053 i := by
        rw [show 353725223487685133346561567034966029 = 353725223487685132193640062428119053 ||| 2 ^ 60 by decide, Nat.testBit_or, Nat.testBit_two_pow]
        simp [show ¬ 60 = i from fun x => hi x.symm]
      rw [hs]
      cases hx : Nat.testBit 353725223487685132193640062428119053 i
      · simp
      · simp [hM.bit hx]
  have k : Fr (m ||| 2 ^ 60) s (t.ringPut e bs) := fr_State_ringPut (hN.sub (by decide)) (h.mono (by
    refine Nat.eq_of_testBit_eq (fun i => ?_)
    rw [show Nat.land (m ||| 2 ^ 60) m = (m ||| 2 ^ 60) &&& m from rfl, Nat.testBit_and, Nat.testBit_or]
    cases m.testBit i <;> simp))
  have up : ∀ i, i ≠ 60 → m.testBit i = false → (m ||| 2 ^ 60).testBit i = false := fun i hi hm => by
    rw [Nat.testBit_or, hm, Nat.testBit_two_pow]; simp; omega
  refine ⟨fun p hp => k.1 p (up _ (by cases p <;> decide) hp), k.2.1, fun j jv hj => k.2.2.1 j jv (up _ (by omega) hj), ?_⟩
  intro c c0 c1 a ha
  rw [← h.2.2.2 c c0 c1 a ha]
  have hr : ¬ t.inEventRing a := fun x => ha (h.rings c0 c1 x)
  have e1 : (t.ringPut e bs).byte a = (t.store (t.ringAddr e (t.fg F.QM_QDESC.TAIL e)) bs).byte a := rfl
  rw [e1, byte_store, hb, if_neg]
  intro w
  refine hr ⟨e, he, hq, ?_, ?_⟩
  · have := w.1
    unfold State.ringAddr at this
    omega
  · have w2 := w.2
    unfold State.ringAddr at w2
    unfold State.qOn at hq
    rw [Bool.and_eq_true, beq_iff_eq, beq_iff_eq] at hq
    rw [hq.2, show entryBytes qEvent = 32 from rfl] at w2
    have := Nat.mod_lt (t.fg F.QM_QDESC.TAIL e) (show 0 < t.ringSize e from Nat.two_pow_pos _)
    omega

theorem fr_State_event {m : Nat} {s t : State} {a1 a2 a3 a4 a5} (hM : Cov 353725223487685132193640062428119053 m) (h : Fr m s t) :
    Fr m s (Sys2Proof.Machine.State.event t a1 a2 a3 a4 a5) := by
  unfold Sys2Proof.Machine.State.event
  extract_lets dflt dest
  have hd : ∀ e, dflt = some e → e < 65536 := fun e he => by
    simp only [dflt] at he
    split at he
    · cases he; exact fg_lt _ _ _ _ _
    · cases he
  have hl : ∀ e, dest = some e → e < 65536 := fun e he => by
    simp only [dest] at he
    split at he
    · split at he
      · cases he; exact fg_lt _ _ _ _ _
      · exact hd e he
    · exact hd e he
  clear_value dest
  cases dest with
  | none => exact h
  | some e =>
    dsimp only
    split
    · rename_i w
      exact fr_event_put hM h (hl e rfl) w.1 (by simp [leBytes])
    · exact fr_State_fc (hM.sub (by decide)) h

theorem fr_State_noteBlame {m : Nat} {s t : State} {a1 a2 a3} (hM : Cov 268435456 m) (h : Fr m s t) :
    Fr m s (Sys2Proof.Machine.State.noteBlame t a1 a2 a3) := by
  unfold Sys2Proof.Machine.State.noteBlame
  repeat' first
    | with_reducible assumption
    | with_reducible refine fr_ite ?_ ?_
    | split
    | dsimp only
    | with_reducible refine fr_set_mg (hM.sub (by decide)) ?_

theorem fr_State_errRec {m : Nat} {s t : State} {a1 a2 a3 a4 a5 a6} (hM : Cov 3432790011539591042723051066040180256438169273753965445133 m) (h : Fr m s t) :
    Fr m s (Sys2Proof.Machine.State.errRec t a1 a2 a3 a4 a5 a6) := by
  unfold Sys2Proof.Machine.State.errRec
  repeat' first
    | with_reducible assumption
    | with_reducible refine fr_State_fc (hM.sub (by first | decide | (dsimp only; decide) | (dsimp only [clkField]; decide) | (split <;> decide))) ?_
    | with_reducible refine fr_State_fs (hM.sub (by first | decide | (dsimp only; decide) | (dsimp only [clkField]; decide) | (split <;> decide))) ?_
    | with_reducible refine fr_State_wr (hM.sub (by first | decide | (dsimp only; decide) | (dsimp only [clkField]; decide) | (split <;> decide))) ?_
    | with_reducible refine fr_State_noteBlame (hM.sub (by decide)) ?_
    | with_reducible refine fr_State_event (hM.sub (by decide)) ?_
    | with_reducible refine fr_ite ?_ ?_
    | with_reducible refine fr_foldl ?_ (fun _ _ _ => ?_)
    | with_reducible refine fr_foldl_fst ?_ (fun _ _ _ => ?_)
    | with_reducible refine fr_foldl_snd ?_ (fun _ _ _ => ?_)
    | split
    | dsimp only
    | with_reducible refine fr_set_errWin (hM.sub (by decide)) ?_

theorem fr_State_sramRec {m : Nat} {s t : State} {a1 a2 a3 a4 a5} (hM : Cov 3432790011539591042723051066040180256438169273753965445133 m) (h : Fr m s t) :
    Fr m s (Sys2Proof.Machine.State.sramRec t a1 a2 a3 a4 a5) := by
  unfold Sys2Proof.Machine.State.sramRec
  repeat' first
    | with_reducible assumption
    | with_reducible refine fr_State_errRec (hM.sub (by decide)) ?_
    | with_reducible refine fr_ite ?_ ?_
    | split

theorem fr_State_ceCount {m : Nat} {s t : State} {a1} (hM : Cov 1701411834604692317316873037158841057281 m) (h : Fr m s t) :
    Fr m s (Sys2Proof.Machine.State.ceCount t a1) := by
  unfold Sys2Proof.Machine.State.ceCount
  repeat' first
    | with_reducible assumption
    | with_reducible refine fr_State_fc (hM.sub (by decide)) ?_
    | with_reducible refine fr_ite ?_ ?_
    | split

theorem fr_State_ceNote {m : Nat} {s t : State} {a1 a2 a3 a4} (hM : Cov 3432790011539591044424462900644872573755042310981525979149 m) (h : Fr m s t) :
    Fr m s (Sys2Proof.Machine.State.ceNote t a1 a2 a3 a4) := by
  unfold Sys2Proof.Machine.State.ceNote
  repeat' first
    | with_reducible assumption
    | with_reducible refine fr_State_ceCount (hM.sub (by decide)) ?_
    | with_reducible refine fr_State_errRec (hM.sub (by decide)) ?_
    | with_reducible refine fr_ite ?_ ?_
    | split
    | dsimp only
    | with_reducible refine fr_set_ceRings (hM.sub (by decide)) ?_

theorem fr_State_ueNote {m : Nat} {s t : State} {a1 a2 a3 a4 a5 a6} (hM : Cov 3432790011539591044424462900644872573756195232417413349389 m) (h : Fr m s t) :
    Fr m s (Sys2Proof.Machine.State.ueNote t a1 a2 a3 a4 a5 a6) := by
  unfold Sys2Proof.Machine.State.ueNote
  repeat' first
    | with_reducible assumption
    | with_reducible refine fr_State_poisonUnit (hM.sub (by decide)) ?_
    | with_reducible refine fr_State_fc (hM.sub (by decide)) ?_
    | with_reducible refine fr_State_errRec (hM.sub (by decide)) ?_
    | with_reducible refine fr_ite ?_ ?_
    | split
    | dsimp only
    | with_reducible refine fr_set_mg (hM.sub (by decide)) ?_

theorem fr_State_dramRead {m : Nat} {s t : State} {a1 a2 a3 a4} (hM : Cov 3432790011539591044424462900644872573756195233585644453901 m) (h : Fr m s t) :
    Fr m s (Sys2Proof.Machine.State.dramRead t a1 a2 a3 a4).1 := by
  unfold Sys2Proof.Machine.State.dramRead
  repeat' first
    | with_reducible assumption
    | with_reducible refine fr_State_ceNote (hM.sub (by decide)) ?_
    | with_reducible refine fr_State_free (hM.sub (by decide)) ?_
    | with_reducible refine fr_State_ueNote (hM.sub (by decide)) ?_
    | with_reducible refine fr_ite ?_ ?_
    | split
    | dsimp only

theorem fr_State_codeRead {m : Nat} {s t : State} {a1 a2 a3 a4} (hM : Cov 3432790011539591044424462900644872573756195233585644453901 m) (h : Fr m s t) :
    Fr m s (Sys2Proof.Machine.State.codeRead t a1 a2 a3 a4).1 := by
  unfold Sys2Proof.Machine.State.codeRead
  repeat' first
    | with_reducible assumption
    | with_reducible refine fr_State_fc (hM.sub (by decide)) ?_
    | with_reducible refine fr_State_sramRec (hM.sub (by decide)) ?_
    | with_reducible refine fr_State_dramRead (hM.sub (by decide)) ?_
    | with_reducible refine fr_ite ?_ ?_
    | split
    | dsimp only

theorem fr_State_holdWrite {m : Nat} {s t : State} {a1 a2} (hM : Cov 536870912 m) (h : Fr m s t) :
    Fr m s (Sys2Proof.Machine.State.holdWrite t a1 a2) := by
  unfold Sys2Proof.Machine.State.holdWrite
  repeat' first
    | with_reducible assumption
    | with_reducible refine fr_set_pw (hM.sub (by decide)) ?_

end Sys2Proof.Laws
end

