-- ==== Sys2Proof/Laws/FrameFlags.lean ====
section
/-! SUPPORT. What the functions of Machine/Flags.lean may change. -/

namespace Sys2Proof.Laws

open Sys2Proof.Machine

theorem fr_State_sticky {m : Nat} {s t : State} {a1 a2} (hM : Cov 141976867225561692967630759002113 m) (h : Fr m s t) :
    Fr m s (Sys2Proof.Machine.State.sticky t a1 a2) := by
  unfold Sys2Proof.Machine.State.sticky
  repeat' first
    | with_reducible assumption
    | with_reducible refine fr_State_fo (hM.sub (by first | decide | (dsimp only; decide) | (dsimp only [clkField]; decide) | (split <;> decide))) ?_

theorem fr_State_count {m : Nat} {s t : State} {a1 a2} (hM : Cov 32 m) (h : Fr m s t) :
    Fr m s (Sys2Proof.Machine.State.count t a1 a2) := by
  unfold Sys2Proof.Machine.State.count
  repeat' first
    | with_reducible assumption
    | with_reducible refine fr_State_modRun (hM.sub (by decide)) ?_

theorem fr_State_events {m : Nat} {s t : State} {a1 a2 a3} (hM : Cov 141976867225561692967630759002145 m) (h : Fr m s t) :
    Fr m s (Sys2Proof.Machine.State.events t a1 a2 a3) := by
  unfold Sys2Proof.Machine.State.events
  repeat' first
    | with_reducible assumption
    | with_reducible refine fr_State_count (hM.sub (by decide)) ?_
    | with_reducible refine fr_State_sticky (hM.sub (by decide)) ?_

theorem fr_State_fail {m : Nat} {s t : State} {a1 a2} (hM : Cov 32 m) (h : Fr m s t) :
    Fr m s (Sys2Proof.Machine.State.fail t a1 a2) := by
  unfold Sys2Proof.Machine.State.fail
  repeat' first
    | with_reducible assumption
    | with_reducible refine fr_State_modRun (hM.sub (by decide)) ?_
    | with_reducible refine fr_ite ?_ ?_
    | split

theorem fr_State_descError {m : Nat} {s t : State} {a1 a2 a3 a4} (hM : Cov 32 m) (h : Fr m s t) :
    Fr m s (Sys2Proof.Machine.State.descError t a1 a2 a3 a4) := by
  unfold Sys2Proof.Machine.State.descError
  repeat' first
    | with_reducible assumption
    | with_reducible refine fr_State_modRun (hM.sub (by decide)) ?_
    | with_reducible refine fr_State_fail (hM.sub (by decide)) ?_

theorem fr_State_undef {m : Nat} {s t : State} {a1 a2 a3} (hM : Cov 32 m) (h : Fr m s t) :
    Fr m s (Sys2Proof.Machine.State.undef t a1 a2 a3) := by
  unfold Sys2Proof.Machine.State.undef
  repeat' first
    | with_reducible assumption
    | with_reducible refine fr_State_modRun (hM.sub (by decide)) ?_
    | with_reducible refine fr_ite ?_ ?_
    | split

theorem fr_State_poisonEvent {m : Nat} {s t : State} {a1 a2 a3 a4 a5} (hM : Cov 1901475900342344102245054808097 m) (h : Fr m s t) :
    Fr m s (Sys2Proof.Machine.State.poisonEvent t a1 a2 a3 a4 a5) := by
  unfold Sys2Proof.Machine.State.poisonEvent
  repeat' first
    | with_reducible assumption
    | with_reducible refine fr_State_modRun (hM.sub (by decide)) ?_
    | with_reducible refine fr_State_fs (hM.sub (by decide)) ?_
    | with_reducible refine fr_ite ?_ ?_
    | split
    | dsimp only

theorem fr_State_indexFault {m : Nat} {s t : State} {a1 a2 a3 a4} (hM : Cov 2535301200456458802993406410785 m) (h : Fr m s t) :
    Fr m s (Sys2Proof.Machine.State.indexFault t a1 a2 a3 a4) := by
  unfold Sys2Proof.Machine.State.indexFault
  repeat' first
    | with_reducible assumption
    | with_reducible refine fr_State_modRun (hM.sub (by decide)) ?_
    | with_reducible refine fr_State_fc (hM.sub (by decide)) ?_
    | with_reducible refine fr_ite ?_ ?_
    | split
    | dsimp only

theorem fr_State_parityRec {m : Nat} {s t : State} {a1 a2 a3 a4 a5} (hM : Cov 3432790011539591042723051066040180256438169273753965445133 m) (h : Fr m s t) :
    Fr m s (Sys2Proof.Machine.State.parityRec t a1 a2 a3 a4 a5) := by
  unfold Sys2Proof.Machine.State.parityRec
  repeat' first
    | with_reducible assumption
    | with_reducible refine fr_State_errRec (hM.sub (by decide)) ?_
    | dsimp only

theorem fr_State_ctlMet {m : Nat} {s t : State} {a1 a2 a3 a4 f5} (hM : Cov 3432790011539591042723051066040180256438169273753965445133 m) (h : Fr m s t)
    (h5 : ∀ u, Fr m s u → Fr m s (f5 u)) : Fr m s (Sys2Proof.Machine.State.ctlMet t a1 a2 a3 a4 f5) := by
  unfold Sys2Proof.Machine.State.ctlMet
  split
  · exact h
  · exact fr_State_fc (hM.sub (by decide)) h
  · exact h5 _ (fr_State_sramRec (hM.sub (by decide)) h)

end Sys2Proof.Laws
end

