-- ==== Sys2Proof/Laws/FrameHostOps.lean ====
section
/-! SUPPORT. What the functions of Machine/HostOps.lean may change. -/

namespace Sys2Proof.Laws

open Sys2Proof.Machine

theorem fr_State_sendRoce {m : Nat} {s t : State} {a1 a2} (hM : Cov 549890031616 m) (h : Fr m s t) :
    Fr m s (Sys2Proof.Machine.State.sendRoce t a1 a2) := by
  unfold Sys2Proof.Machine.State.sendRoce
  repeat' first
    | with_reducible assumption
    | with_reducible refine fr_State_emit (hM.sub (by decide)) ?_
    | with_reducible refine fr_ite ?_ ?_
    | split
    | with_reducible refine fr_set_ethHold (hM.sub (by decide)) ?_

theorem fr_State_dropHeld {m : Nat} {s t : State} {a1} (hM : Cov 11692013098647223345629478661730264161645641072641 m) (h : Fr m s t) :
    Fr m s (Sys2Proof.Machine.State.dropHeld t a1) := by
  unfold Sys2Proof.Machine.State.dropHeld
  repeat' first
    | with_reducible assumption
    | with_reducible refine fr_State_fs (hM.sub (by decide)) ?_
    | dsimp only
    | with_reducible refine fr_set_ethHold_pauseTx (hM.sub (by decide)) ?_

theorem fr_State_unpause {m : Nat} {s t : State} {a1} (hM : Cov 11692013098647223345629478661730264157797350375425 m) (h : Fr m s t) :
    Fr m s (Sys2Proof.Machine.State.unpause t a1) := by
  unfold Sys2Proof.Machine.State.unpause
  repeat' first
    | with_reducible assumption
    | with_reducible refine fr_State_fs (hM.sub (by decide)) ?_
    | dsimp only
    | with_reducible refine fr_set_ethHold_out (hM.sub (by decide)) ?_

theorem fr_State_setSes {m : Nat} {s t : State} {a1 a2} (hM : Cov 16777216 m) (h : Fr m s t) :
    Fr m s (Sys2Proof.Machine.State.setSes t a1 a2) := by
  unfold Sys2Proof.Machine.State.setSes
  repeat' first
    | with_reducible assumption
    | with_reducible refine fr_set_sess (hM.sub (by decide)) ?_

theorem fr_State_modSes {m : Nat} {s t : State} {a1 a2} (hM : Cov 16777216 m) (h : Fr m s t) :
    Fr m s (Sys2Proof.Machine.State.modSes t a1 a2) := by
  unfold Sys2Proof.Machine.State.modSes
  repeat' first
    | with_reducible assumption
    | with_reducible refine fr_State_setSes (hM.sub (by decide)) ?_

theorem fr_State_showSess {m : Nat} {s t : State} {a1} (hM : Cov 11692013098647223345629478661730264157247460343809 m) (h : Fr m s t) :
    Fr m s (Sys2Proof.Machine.State.showSess t a1) := by
  unfold Sys2Proof.Machine.State.showSess
  repeat' first
    | with_reducible assumption
    | with_reducible refine fr_State_fs (hM.sub (by decide)) ?_
    | dsimp only

theorem fr_State_freeSlot {m : Nat} {s t : State} {a1} (hM : Cov 179601013208319998144521420669067555945430003562315777 m) (h : Fr m s t) :
    Fr m s (Sys2Proof.Machine.State.freeSlot t a1) := by
  unfold Sys2Proof.Machine.State.freeSlot
  refine fr_State_showSess (hM.sub (by decide)) (fr_State_fc (hM.sub (by decide)) (fr_set_sess_ethHold (hM.sub (by decide))
    (fr_foldl_mem h (fun u f hf w => fr_State_wr ?_ w))))
  simp only [List.mem_cons, List.not_mem_nil, or_false] at hf
  rcases hf with rfl | rfl | rfl | rfl <;> exact hM.sub (by dsimp only; decide)

theorem fr_State_nextCtr {m : Nat} {s t : State} {a1} (hM : Cov 59863107065073783529622930748058952485106996960296961 m) (h : Fr m s t) :
    Fr m s (Sys2Proof.Machine.State.nextCtr t a1) := by
  unfold Sys2Proof.Machine.State.nextCtr
  repeat' first
    | with_reducible assumption
    | with_reducible refine fr_State_ss (hM.sub (by decide)) ?_
    | with_reducible refine fr_ite ?_ ?_
    | split
    | dsimp only

theorem fr_State_seal {m : Nat} {s t : State} {a1 a2 a3 a4} (hM : Cov 179601013208319998144521420669067555945430553318129665 m) (h : Fr m s t) :
    Fr m s (Sys2Proof.Machine.State.seal t a1 a2 a3 a4) := by
  unfold Sys2Proof.Machine.State.seal
  repeat' first
    | with_reducible assumption
    | with_reducible refine fr_State_nextCtr (hM.sub (by decide)) ?_
    | with_reducible refine fr_State_sendRoce (hM.sub (by decide)) ?_
    | with_reducible refine fr_State_emit (hM.sub (by decide)) ?_
    | with_reducible refine fr_State_freeSlot (hM.sub (by decide)) ?_
    | with_reducible refine fr_ite ?_ ?_
    | split
    | dsimp only

theorem fr_State_closeSess {m : Nat} {s t : State} {a1 a2} (hM : Cov 179601013208319998144521420669067555945430553318129665 m) (h : Fr m s t) :
    Fr m s (Sys2Proof.Machine.State.closeSess t a1 a2) := by
  unfold Sys2Proof.Machine.State.closeSess
  repeat' first
    | with_reducible assumption
    | with_reducible refine fr_State_freeSlot (hM.sub (by decide)) ?_
    | with_reducible refine fr_State_seal (hM.sub (by decide)) ?_
    | with_reducible refine fr_ite ?_ ?_
    | split

theorem fr_State_closePort {m : Nat} {s t : State} {a1 a2} (hM : Cov 179601013208319998144521420669067555945434951364640769 m) (h : Fr m s t) :
    Fr m s (Sys2Proof.Machine.State.closePort t a1 a2).1 := by
  unfold Sys2Proof.Machine.State.closePort
  repeat' first
    | with_reducible assumption
    | with_reducible refine fr_State_closeSess (hM.sub (by decide)) ?_
    | with_reducible refine fr_foldl ?_ (fun _ _ _ => ?_)
    | with_reducible refine fr_foldl_fst ?_ (fun _ _ _ => ?_)
    | with_reducible refine fr_foldl_snd ?_ (fun _ _ _ => ?_)
    | dsimp only
    | with_reducible refine fr_set_ethHold_pauseTx (hM.sub (by decide)) ?_
    | with_reducible refine fr_set_ethHold (hM.sub (by decide)) ?_

theorem fr_State_mirrorSend {m : Nat} {s t : State} {a1 a2 a3} (hM : Cov 179601013208319998144521420669067555945430553318129665 m) (h : Fr m s t) :
    Fr m s (Sys2Proof.Machine.State.mirrorSend t a1 a2 a3) := by
  unfold Sys2Proof.Machine.State.mirrorSend
  repeat' first
    | with_reducible assumption
    | with_reducible refine fr_State_setSes (hM.sub (by decide)) ?_
    | with_reducible refine fr_State_seal (hM.sub (by decide)) ?_
    | with_reducible refine fr_State_fc (hM.sub (by decide)) ?_
    | with_reducible refine fr_ite ?_ ?_
    | split
    | dsimp only

theorem fr_State_hostDrop {m : Nat} {s t : State} {a1 a2 a3 a4} (hM : Cov 3432790011539591042723051066040180256438169273753965445133 m) (h : Fr m s t) :
    Fr m s (Sys2Proof.Machine.State.hostDrop t a1 a2 a3 a4) := by
  unfold Sys2Proof.Machine.State.hostDrop
  repeat' first
    | with_reducible assumption
    | with_reducible refine fr_State_errRec (hM.sub (by decide)) ?_
    | with_reducible refine fr_ite ?_ ?_
    | split
    | dsimp only
    | with_reducible refine fr_set_errWin (hM.sub (by decide)) ?_

theorem fr_State_opens {m : Nat} {s t : State} {a1 a2 a3 a4 a5 a6 a7} (hM : Cov 3432793004694944296412227547186717659385793529103830237197 m) (h : Fr m s t) :
    Fr m s (Sys2Proof.Machine.State.opens t a1 a2 a3 a4 a5 a6 a7).1 := by
  unfold Sys2Proof.Machine.State.opens
  repeat' first
    | with_reducible assumption
    | with_reducible refine fr_State_hostDrop (hM.sub (by decide)) ?_
    | with_reducible refine fr_State_fc (hM.sub (by decide)) ?_
    | with_reducible refine fr_State_modSes (hM.sub (by decide)) ?_
    | with_reducible refine fr_ite ?_ ?_
    | split

theorem fr_State_noteMark {m : Nat} {s t : State} {a1 a2} (hM : Cov 185587323914827376497483713743873451193941253014159361 m) (h : Fr m s t) :
    Fr m s (Sys2Proof.Machine.State.noteMark t a1 a2) := by
  unfold Sys2Proof.Machine.State.noteMark
  repeat' first
    | with_reducible assumption
    | with_reducible refine fr_State_fc (hM.sub (by decide)) ?_
    | with_reducible refine fr_State_seal (hM.sub (by decide)) ?_
    | with_reducible refine fr_State_modSes (hM.sub (by decide)) ?_
    | with_reducible refine fr_ite ?_ ?_
    | split
    | dsimp only

theorem fr_State_ownPause {m : Nat} {s t : State} {a1} (hM : Cov 4947802324992 m) (h : Fr m s t) :
    Fr m s (Sys2Proof.Machine.State.ownPause t a1) := by
  unfold Sys2Proof.Machine.State.ownPause
  repeat' first
    | with_reducible assumption
    | with_reducible refine fr_State_emit (hM.sub (by decide)) ?_
    | with_reducible refine fr_ite ?_ ?_
    | split
    | dsimp only
    | with_reducible refine fr_set_pauseTx (hM.sub (by decide)) ?_

theorem fr_State_openRoce {m : Nat} {s t : State} {a1 a2} (hM : Cov 3432978592018859123788392723901515303868761522989804044301 m) (h : Fr m s t) :
    Fr m s (Sys2Proof.Machine.State.openRoce t a1 a2).1 := by
  unfold Sys2Proof.Machine.State.openRoce
  repeat' first
    | with_reducible assumption
    | with_reducible refine fr_State_ownPause (hM.sub (by decide)) ?_
    | with_reducible refine fr_State_opens (hM.sub (by decide)) ?_
    | with_reducible refine fr_State_noteMark (hM.sub (by decide)) ?_
    | with_reducible refine fr_ite ?_ ?_
    | split
    | dsimp only

theorem fr_State_sendAeth {m : Nat} {s t : State} {a1 a2 a3} (hM : Cov 185587323914827376497483713743873451193941253014159361 m) (h : Fr m s t) :
    Fr m s (Sys2Proof.Machine.State.sendAeth t a1 a2 a3) := by
  unfold Sys2Proof.Machine.State.sendAeth
  repeat' first
    | with_reducible assumption
    | with_reducible refine fr_State_modSes (hM.sub (by decide)) ?_
    | with_reducible refine fr_State_fc (hM.sub (by decide)) ?_
    | with_reducible refine fr_State_seal (hM.sub (by decide)) ?_
    | with_reducible refine fr_ite ?_ ?_
    | split
    | dsimp only

theorem fr_State_nakClose {m : Nat} {s t : State} {a1 a2 a3} (hM : Cov 185587323914827376497483713743873451193941253014159361 m) (h : Fr m s t) :
    Fr m s (Sys2Proof.Machine.State.nakClose t a1 a2 a3) := by
  unfold Sys2Proof.Machine.State.nakClose
  repeat' first
    | with_reducible assumption
    | with_reducible refine fr_State_freeSlot (hM.sub (by decide)) ?_
    | with_reducible refine fr_State_sendAeth (hM.sub (by decide)) ?_

theorem fr_State_cutRate {m : Nat} {s t : State} {a1} (hM : Cov 95792663317216700870742318675556054240328442613596161 m) (h : Fr m s t) :
    Fr m s (Sys2Proof.Machine.State.cutRate t a1) := by
  unfold Sys2Proof.Machine.State.cutRate
  repeat' first
    | with_reducible assumption
    | with_reducible refine fr_State_ss (hM.sub (by first | decide | (dsimp only; decide) | (dsimp only [clkField]; decide) | (split <;> decide))) ?_
    | with_reducible refine fr_State_setSes (hM.sub (by decide)) ?_
    | with_reducible refine fr_ite ?_ ?_
    | split
    | dsimp only

theorem fr_State_raiseRate {m : Nat} {s t : State} {a1} (hM : Cov 95780971304118053647396689196894323976171195153252353 m) (h : Fr m s t) :
    Fr m s (Sys2Proof.Machine.State.raiseRate t a1) := by
  unfold Sys2Proof.Machine.State.raiseRate
  repeat' first
    | with_reducible assumption
    | with_reducible refine fr_State_ss (hM.sub (by decide)) ?_
    | with_reducible refine fr_State_setSes (hM.sub (by decide)) ?_
    | with_reducible refine fr_ite ?_ ?_
    | split
    | dsimp only

end Sys2Proof.Laws
end

