-- ==== Sys2Proof/Laws/FramePaths.lean ====
section
/-! SUPPORT. What the functions of Machine/Paths.lean may change. -/

namespace Sys2Proof.Laws

open Sys2Proof.Machine

theorem fr_State_seenBad {m : Nat} {s t : State} {a1} (hM : Cov 8 m) (h : Fr m s t) :
    Fr m s (Sys2Proof.Machine.State.seenBad t a1) := by
  unfold Sys2Proof.Machine.State.seenBad
  repeat' first
    | with_reducible assumption
    | with_reducible refine fr_foldl ?_ (fun _ _ _ => ?_)
    | with_reducible refine fr_foldl_fst ?_ (fun _ _ _ => ?_)
    | with_reducible refine fr_foldl_snd ?_ (fun _ _ _ => ?_)
    | with_reducible refine fr_set_marks (hM.sub (by decide)) ?_ ?_
    | exact fun k => k
    | exact fun k => smWf_filter _ _ k
    | exact fun _ => rfl
    | exact fun k => smWf_foldl _ (fun _ _ k' => smWf_put _ _ _ k') _ k

theorem fr_State_unitMet {m : Nat} {s t : State} {a1 a2 a3} (hM : Cov 3432790011539591044424462900644872573756195233585644453901 m) (h : Fr m s t) :
    Fr m s (Sys2Proof.Machine.State.unitMet t a1 a2 a3) := by
  unfold Sys2Proof.Machine.State.unitMet
  repeat' first
    | with_reducible assumption
    | with_reducible refine fr_State_fc (hM.sub (by decide)) ?_
    | with_reducible refine fr_State_sramRec (hM.sub (by decide)) ?_
    | with_reducible refine fr_State_dramRead (hM.sub (by decide)) ?_
    | split
    | dsimp only

theorem fr_State_hubMet {m : Nat} {s t : State} {a1 a2 a3 a4 a5} (hM : Cov 3432790011539591044424462900644872573756195233585644453901 m) (h : Fr m s t) :
    Fr m s (Sys2Proof.Machine.State.hubMet t a1 a2 a3 a4 a5) := by
  unfold Sys2Proof.Machine.State.hubMet
  repeat' first
    | with_reducible assumption
    | with_reducible refine fr_State_unitMet (hM.sub (by decide)) ?_
    | with_reducible refine fr_State_parityRec (hM.sub (by decide)) ?_
    | with_reducible refine fr_State_fc (hM.sub (by decide)) ?_
    | with_reducible refine fr_State_sramRec (hM.sub (by decide)) ?_
    | split

theorem fr_State_listMet {m : Nat} {s t : State} {a1 a2 a3} (hM : Cov 3432790011539591044424462900644872573756195233585644453901 m) (h : Fr m s t) :
    Fr m s (Sys2Proof.Machine.State.listMet t a1 a2 a3) := by
  unfold Sys2Proof.Machine.State.listMet
  repeat' first
    | with_reducible assumption
    | with_reducible refine fr_State_unitMet (hM.sub (by decide)) ?_
    | with_reducible refine fr_ite ?_ ?_
    | with_reducible refine fr_foldl ?_ (fun _ _ _ => ?_)
    | with_reducible refine fr_foldl_fst ?_ (fun _ _ _ => ?_)
    | with_reducible refine fr_foldl_snd ?_ (fun _ _ _ => ?_)
    | split
    | dsimp only

theorem fr_State_seenList {m : Nat} {s t : State} {a1} (hM : Cov 8 m) (h : Fr m s t) :
    Fr m s (Sys2Proof.Machine.State.seenList t a1) := by
  unfold Sys2Proof.Machine.State.seenList
  repeat' first
    | with_reducible assumption
    | with_reducible refine fr_State_seenBad (hM.sub (by decide)) ?_
    | dsimp only

theorem fr_State_rmwMet {m : Nat} {s t : State} {a1 a2 a3 a4} (hM : Cov 3432790011539591044424462900644872573756195233585644453901 m) (h : Fr m s t) :
    Fr m s (Sys2Proof.Machine.State.rmwMet t a1 a2 a3 a4) := by
  unfold Sys2Proof.Machine.State.rmwMet
  repeat' first
    | with_reducible assumption
    | with_reducible refine fr_State_poisonUnit (hM.sub (by decide)) ?_
    | with_reducible refine fr_State_unitMet (hM.sub (by decide)) ?_
    | with_reducible refine fr_ite ?_ ?_
    | split
    | dsimp only

theorem fr_State_rmwList {m : Nat} {s t : State} {a1 a2 a3} (hM : Cov 3432790011539591044424462900644872573756195233585644453901 m) (h : Fr m s t) :
    Fr m s (Sys2Proof.Machine.State.rmwList t a1 a2 a3) := by
  unfold Sys2Proof.Machine.State.rmwList
  repeat' first
    | with_reducible assumption
    | with_reducible refine fr_State_poisonUnit (hM.sub (by decide)) ?_
    | with_reducible refine fr_State_unitMet (hM.sub (by decide)) ?_
    | with_reducible refine fr_ite ?_ ?_
    | with_reducible refine fr_foldl ?_ (fun _ _ _ => ?_)
    | with_reducible refine fr_foldl_fst ?_ (fun _ _ _ => ?_)
    | with_reducible refine fr_foldl_snd ?_ (fun _ _ _ => ?_)
    | split
    | dsimp only

theorem fr_State_storeMet {m : Nat} {s t : State} {a1 a2 a3 a4 a5 a6} (hM : Cov 3432790011539591044424462900644872573756195233585644453901 m) (h : Fr m s t) :
    Fr m s (Sys2Proof.Machine.State.storeMet t a1 a2 a3 a4 a5 a6) := by
  unfold Sys2Proof.Machine.State.storeMet
  repeat' first
    | with_reducible assumption
    | with_reducible refine fr_State_rmwMet (hM.sub (by decide)) ?_
    | with_reducible refine fr_State_parityRec (hM.sub (by decide)) ?_
    | with_reducible refine fr_State_store (hM.sub (by decide)) ?_
    | split
    | dsimp only

end Sys2Proof.Laws
end

