-- ==== Sys2Proof/Laws/FrameStreamOps.lean ====
section
/-! SUPPORT. What the functions of Machine/StreamOps.lean may change. -/

namespace Sys2Proof.Laws

open Sys2Proof.Machine

theorem fr_State_endQuiesce {m : Nat} {s t : State} {a1} (hM : Cov 2048 m) (h : Fr m s t) :
    Fr m s (Sys2Proof.Machine.State.endQuiesce t a1) := by
  unfold Sys2Proof.Machine.State.endQuiesce
  repeat' first
    | with_reducible assumption
    | with_reducible refine fr_set_quiesce (hM.sub (by decide)) ?_

theorem fr_State_modQuiesce {m : Nat} {s t : State} {a1 a2} (hM : Cov 2048 m) (h : Fr m s t) :
    Fr m s (Sys2Proof.Machine.State.modQuiesce t a1 a2) := by
  unfold Sys2Proof.Machine.State.modQuiesce
  repeat' first
    | with_reducible assumption
    | with_reducible refine fr_ite ?_ ?_
    | split
    | with_reducible refine fr_set_quiesce (hM.sub (by decide)) ?_

theorem fr_State_streamOver {m : Nat} {s t : State} {a1 a2} (hM : Cov 96 m) (h : Fr m s t) :
    Fr m s (Sys2Proof.Machine.State.streamOver t a1 a2) := by
  unfold Sys2Proof.Machine.State.streamOver
  repeat' first
    | with_reducible assumption
    | with_reducible refine fr_State_modRun (hM.sub (by decide)) ?_
    | with_reducible refine fr_State_modCtx (hM.sub (by decide)) ?_
    | split

theorem fr_State_showWait {m : Nat} {s t : State} {a1} (hM : Cov 162259276829213363391578010288129 m) (h : Fr m s t) :
    Fr m s (Sys2Proof.Machine.State.showWait t a1) := by
  unfold Sys2Proof.Machine.State.showWait
  repeat' first
    | with_reducible assumption
    | with_reducible refine fr_State_fs (hM.sub (by decide)) ?_

theorem fr_State_postHandle {m : Nat} {s t : State} {a1 a2 a3 a4} (hM : Cov 353887482764514346709953145045254253 m) (h : Fr m s t) :
    Fr m s (Sys2Proof.Machine.State.postHandle t a1 a2 a3 a4) := by
  unfold Sys2Proof.Machine.State.postHandle
  repeat' first
    | with_reducible assumption
    | with_reducible refine fr_State_showWait (hM.sub (by decide)) ?_
    | with_reducible refine fr_State_streamOver (hM.sub (by decide)) ?_
    | with_reducible refine fr_State_fc (hM.sub (by decide)) ?_
    | with_reducible refine fr_State_ringPut (hM.sub (by decide)) ?_
    | with_reducible refine fr_State_modCtx (hM.sub (by decide)) ?_
    | with_reducible refine fr_State_event (hM.sub (by decide)) ?_
    | with_reducible refine fr_State_fs (hM.sub (by decide)) ?_
    | with_reducible refine fr_ite ?_ ?_
    | split
    | dsimp only

theorem fr_State_postMet {m : Nat} {s t : State} {a1 a2 a3} (hM : Cov 3432790011539591044424462900644872573756195233585644453901 m) (h : Fr m s t) :
    Fr m s (Sys2Proof.Machine.State.postMet t a1 a2 a3) := by
  unfold Sys2Proof.Machine.State.postMet
  repeat' first
    | with_reducible assumption
    | with_reducible refine fr_State_rmwList (hM.sub (by decide)) ?_
    | split
    | dsimp only

theorem fr_State_closeStream {m : Nat} {s t : State} {a1 a2} (hM : Cov 353887482764514346709953145045254253 m) (h : Fr m s t) :
    Fr m s (Sys2Proof.Machine.State.closeStream t a1 a2) := by
  unfold Sys2Proof.Machine.State.closeStream
  repeat' first
    | with_reducible assumption
    | with_reducible refine fr_State_postHandle (hM.sub (by decide)) ?_
    | with_reducible refine fr_State_streamOver (hM.sub (by decide)) ?_
    | split
    | dsimp only

end Sys2Proof.Laws
end

