-- ==== Sys2Proof/Laws/FrameQueue.lean ====
section
/-! SUPPORT. What the functions of Machine/Queue.lean may change. -/

namespace Sys2Proof.Laws

open Sys2Proof.Machine

theorem fr_State_foreign {m : Nat} {s t : State} (hM : Cov 332306998946228968225951765070086145 m) (h : Fr m s t) :
    Fr m s (Sys2Proof.Machine.State.foreign t) := by
  unfold Sys2Proof.Machine.State.foreign
  repeat' first
    | with_reducible assumption
    | with_reducible refine fr_State_fc (hM.sub (by decide)) ?_

theorem fr_State_qmWrite {m : Nat} {s t : State} {a1 f2} (hM : Cov 332306998946228968225951765070086145 m) (h : Fr m s t)
    (h2 : ∀ u, Fr m s u → Fr m s (f2 u)) :
    Fr m s (Sys2Proof.Machine.State.qmWrite t a1 f2) := by
  unfold Sys2Proof.Machine.State.qmWrite
  repeat' first
    | with_reducible assumption
    | with_reducible refine h2 _ ?_
    | with_reducible refine fr_State_foreign (hM.sub (by decide)) ?_
    | with_reducible refine fr_ite ?_ ?_
    | split

theorem fr_State_showPool {m : Nat} {s t : State} {a1} (hM : Cov 147573952589676412929 m) (h : Fr m s t) :
    Fr m s (Sys2Proof.Machine.State.showPool t a1) := by
  unfold Sys2Proof.Machine.State.showPool
  repeat' first
    | with_reducible assumption
    | with_reducible refine fr_State_fs (hM.sub (by decide)) ?_
    | with_reducible refine fr_ite ?_ ?_
    | split

theorem fr_State_handFetches {m : Nat} {s t : State} {a1 a2 a3} (hM : Cov 64 m) (h : Fr m s t) :
    Fr m s (Sys2Proof.Machine.State.handFetches t a1 a2 a3) := by
  unfold Sys2Proof.Machine.State.handFetches
  repeat' first
    | with_reducible assumption
    | with_reducible refine fr_State_modCore (hM.sub (by decide)) ?_
    | with_reducible refine fr_ite ?_ ?_
    | with_reducible refine fr_foldl ?_ (fun _ _ _ => ?_)
    | with_reducible refine fr_foldl_fst ?_ (fun _ _ _ => ?_)
    | with_reducible refine fr_foldl_snd ?_ (fun _ _ _ => ?_)
    | split
    | dsimp only

theorem fr_State_leavePool {m : Nat} {s t : State} {a1 a2} (hM : Cov 147573952589676412993 m) (h : Fr m s t) :
    Fr m s (Sys2Proof.Machine.State.leavePool t a1 a2) := by
  unfold Sys2Proof.Machine.State.leavePool
  repeat' first
    | with_reducible assumption
    | with_reducible refine fr_State_handFetches (hM.sub (by decide)) ?_
    | with_reducible refine fr_State_showPool (hM.sub (by decide)) ?_
    | with_reducible refine fr_State_modCore (hM.sub (by decide)) ?_
    | with_reducible refine fr_ite ?_ ?_
    | split

theorem fr_State_joinPool {m : Nat} {s t : State} {a1 a2} (hM : Cov 147573952589676412993 m) (h : Fr m s t) :
    Fr m s (Sys2Proof.Machine.State.joinPool t a1 a2) := by
  unfold Sys2Proof.Machine.State.joinPool
  repeat' first
    | with_reducible assumption
    | with_reducible refine fr_State_showPool (hM.sub (by decide)) ?_
    | with_reducible refine fr_State_modCore (hM.sub (by decide)) ?_

theorem fr_State_leaveIdle {m : Nat} {s t : State} (hM : Cov 401734511064747568885490523085290650630550748445698208825345 m) (h : Fr m s t) :
    Fr m s (Sys2Proof.Machine.State.leaveIdle t) := by
  unfold Sys2Proof.Machine.State.leaveIdle
  repeat' first
    | with_reducible assumption
    | with_reducible refine fr_State_fs (hM.sub (by decide)) ?_
    | with_reducible refine fr_ite ?_ ?_
    | split

theorem fr_State_idleGo {m : Nat} {s t : State} (hM : Cov 401734511064747568885490523085290650630550748445698208825345 m) (h : Fr m s t) :
    Fr m s (Sys2Proof.Machine.State.idleGo t) := by
  unfold Sys2Proof.Machine.State.idleGo
  repeat' first
    | with_reducible assumption
    | with_reducible refine fr_State_leaveIdle (hM.sub (by decide)) ?_
    | with_reducible refine fr_ite ?_ ?_
    | split

theorem fr_State_takeHandle {m : Nat} {s t : State} {a1 a2} (hM : Cov 3432790011539591044424462900644872573756195233585644453901 m) (h : Fr m s t) :
    Fr m s (Sys2Proof.Machine.State.takeHandle t a1 a2).1 := by
  unfold Sys2Proof.Machine.State.takeHandle
  repeat' first
    | with_reducible assumption
    | with_reducible refine fr_State_codeRead (hM.sub (by decide)) ?_
    | with_reducible refine fr_State_fc (hM.sub (by decide)) ?_
    | with_reducible refine fr_State_fs (hM.sub (by decide)) ?_
    | dsimp only

theorem fr_State_readHead {m : Nat} {s t : State} {a1} (hM : Cov 730750818665474337659875335442379722327416897569 m) (h : Fr m s t) :
    Fr m s (Sys2Proof.Machine.State.readHead t a1) := by
  unfold Sys2Proof.Machine.State.readHead
  repeat' first
    | with_reducible assumption
    | with_reducible refine fr_State_setRun (hM.sub (by decide)) ?_
    | with_reducible refine fr_State_fc (hM.sub (by decide)) ?_
    | with_reducible refine fr_State_fs (hM.sub (by decide)) ?_
    | with_reducible refine fr_ite ?_ ?_
    | split
    | dsimp only

theorem fr_State_endUnstarted {m : Nat} {s t : State} {a1 a2} (hM : Cov 32 m) (h : Fr m s t) :
    Fr m s (Sys2Proof.Machine.State.endUnstarted t a1 a2) := by
  unfold Sys2Proof.Machine.State.endUnstarted
  repeat' first
    | with_reducible assumption
    | with_reducible refine fr_State_modRun (hM.sub (by decide)) ?_
    | with_reducible refine fr_State_fail (hM.sub (by decide)) ?_

theorem fr_State_bind {m : Nat} {s t : State} {a1} (hM : Cov 1180591620717419692129 m) (h : Fr m s t) :
    Fr m s (Sys2Proof.Machine.State.bind t a1) := by
  unfold Sys2Proof.Machine.State.bind
  repeat' first
    | with_reducible assumption
    | with_reducible refine fr_State_modRun (hM.sub (by decide)) ?_
    | with_reducible refine fr_State_fs (hM.sub (by decide)) ?_
    | with_reducible refine fr_State_modCtx (hM.sub (by decide)) ?_
    | with_reducible refine fr_State_endUnstarted (hM.sub (by decide)) ?_
    | with_reducible refine fr_ite ?_ ?_
    | split
    | dsimp only
    | with_reducible refine fr_set_colls (hM.sub (by decide)) ?_

theorem fr_commandStart {m : Nat} {s t : State} {a1 a2} (hM : Cov 3432790012270341863089915820080206454215198888333123018861 m) (h : Fr m s t) :
    Fr m s (Sys2Proof.Machine.commandStart a1 a2 t) := by
  unfold Sys2Proof.Machine.commandStart
  repeat' first
    | with_reducible assumption
    | with_reducible refine fr_State_codeRead (hM.sub (by decide)) ?_
    | with_reducible refine fr_State_readHead (hM.sub (by decide)) ?_
    | with_reducible refine fr_State_endUnstarted (hM.sub (by decide)) ?_
    | with_reducible refine fr_State_modRun (hM.sub (by decide)) ?_
    | with_reducible refine fr_State_takeHandle (hM.sub (by decide)) ?_
    | with_reducible refine fr_State_bind (hM.sub (by decide)) ?_
    | with_reducible refine fr_ite ?_ ?_
    | with_reducible refine fr_foldl ?_ (fun _ _ _ => ?_)
    | with_reducible refine fr_foldl_fst ?_ (fun _ _ _ => ?_)
    | with_reducible refine fr_foldl_snd ?_ (fun _ _ _ => ?_)
    | split
    | dsimp only
    | with_reducible refine fr_set_lastServed (hM.sub (by decide)) ?_

theorem fr_State_collEnd {m : Nat} {s t : State} {a1} (hM : Cov 730750818665451459101842416359294432432097329197 m) (h : Fr m s t) :
    Fr m s (Sys2Proof.Machine.State.collEnd t a1) := by
  unfold Sys2Proof.Machine.State.collEnd
  repeat' first
    | with_reducible assumption
    | with_reducible refine fr_State_fs (hM.sub (by decide)) ?_
    | with_reducible refine fr_State_undef (hM.sub (by decide)) ?_
    | with_reducible refine fr_State_freeFill (hM.sub (by decide)) ?_
    | with_reducible refine fr_ite ?_ ?_
    | with_reducible refine fr_foldl ?_ (fun _ _ _ => ?_)
    | with_reducible refine fr_foldl_fst ?_ (fun _ _ _ => ?_)
    | with_reducible refine fr_foldl_snd ?_ (fun _ _ _ => ?_)
    | split
    | dsimp only
    | with_reducible refine fr_set_colls (hM.sub (by decide)) ?_
    | with_reducible refine fr_set_notices (hM.sub (by decide)) ?_
    | with_reducible refine fr_set_notices_colls (hM.sub (by decide)) ?_

theorem fr_State_applyGroup {m : Nat} {s t : State} {a1 a2 a3} (hM : Cov 885443715538058477569 m) (h : Fr m s t) :
    Fr m s (Sys2Proof.Machine.State.applyGroup t a1 a2 a3) := by
  unfold Sys2Proof.Machine.State.applyGroup
  repeat' first
    | with_reducible assumption
    | with_reducible refine fr_State_fs (hM.sub (by decide)) ?_
    | with_reducible refine fr_ite ?_ ?_
    | with_reducible refine fr_foldl ?_ (fun _ _ _ => ?_)
    | with_reducible refine fr_foldl_fst ?_ (fun _ _ _ => ?_)
    | with_reducible refine fr_foldl_snd ?_ (fun _ _ _ => ?_)
    | split
    | dsimp only

theorem fr_State_groupUpdate {m : Nat} {s t : State} {a1} (hM : Cov 885443715538058481665 m) (h : Fr m s t) :
    Fr m s (Sys2Proof.Machine.State.groupUpdate t a1) := by
  unfold Sys2Proof.Machine.State.groupUpdate
  repeat' first
    | with_reducible assumption
    | with_reducible refine fr_State_applyGroup (hM.sub (by decide)) ?_
    | with_reducible refine fr_State_fs (hM.sub (by decide)) ?_
    | with_reducible refine fr_ite ?_ ?_
    | with_reducible refine fr_foldl ?_ (fun _ _ _ => ?_)
    | with_reducible refine fr_foldl_fst ?_ (fun _ _ _ => ?_)
    | with_reducible refine fr_foldl_snd ?_ (fun _ _ _ => ?_)
    | split
    | dsimp only
    | with_reducible refine fr_set_groupPend (hM.sub (by decide)) ?_

theorem fr_State_retire {m : Nat} {s t : State} {a1} (hM : Cov 2758407744783138849040497823979617 m) (h : Fr m s t) :
    Fr m s (Sys2Proof.Machine.State.retire t a1) := by
  unfold Sys2Proof.Machine.State.retire
  repeat' first
    | with_reducible assumption
    | with_reducible refine fr_State_modQuiesce (hM.sub (by decide)) ?_
    | with_reducible refine fr_State_fs (hM.sub (by decide)) ?_
    | with_reducible refine fr_State_setRun (hM.sub (by decide)) ?_
    | with_reducible refine fr_State_modCore (hM.sub (by decide)) ?_
    | with_reducible refine fr_State_groupUpdate (hM.sub (by decide)) ?_
    | with_reducible refine fr_ite ?_ ?_
    | with_reducible refine fr_foldl ?_ (fun _ _ _ => ?_)
    | with_reducible refine fr_foldl_fst ?_ (fun _ _ _ => ?_)
    | with_reducible refine fr_foldl_snd ?_ (fun _ _ _ => ?_)
    | split
    | dsimp only

theorem fr_State_deliver {m : Nat} {s t : State} {a1 a2} (hM : Cov 179601013208319998184274943530911342800672342094649453 m) (h : Fr m s t) :
    Fr m s (Sys2Proof.Machine.State.deliver t a1 a2) := by
  unfold Sys2Proof.Machine.State.deliver
  repeat' first
    | with_reducible assumption
    | with_reducible refine fr_State_showWait (hM.sub (by decide)) ?_
    | with_reducible refine fr_State_retire (hM.sub (by decide)) ?_
    | with_reducible refine fr_State_fc (hM.sub (by decide)) ?_
    | with_reducible refine fr_State_ringPut (hM.sub (by decide)) ?_
    | with_reducible refine fr_State_mirrorSend (hM.sub (by decide)) ?_
    | with_reducible refine fr_State_modRun (hM.sub (by decide)) ?_
    | with_reducible refine fr_State_event (hM.sub (by decide)) ?_
    | with_reducible refine fr_State_fs (hM.sub (by decide)) ?_
    | with_reducible refine fr_ite ?_ ?_
    | split
    | dsimp only

theorem fr_State_writeReport {m : Nat} {s t : State} {a1} (hM : Cov 1152921504606846988 m) (h : Fr m s t) :
    Fr m s (Sys2Proof.Machine.State.writeReport t a1).1 := by
  unfold Sys2Proof.Machine.State.writeReport
  repeat' first
    | with_reducible assumption
    | with_reducible refine fr_State_store (hM.sub (by decide)) ?_
    | with_reducible refine fr_ite ?_ ?_
    | split
    | dsimp only

theorem fr_commandComplete {m : Nat} {s t : State} {a1 a2} (hM : Cov 3432969612552799364422293450364915799965649344360704137325 m) (h : Fr m s t) :
    Fr m s (Sys2Proof.Machine.commandComplete a1 t a2) := by
  unfold Sys2Proof.Machine.commandComplete
  repeat' first
    | with_reducible assumption
    | with_reducible refine fr_State_writeReport (hM.sub (by decide)) ?_
    | with_reducible refine fr_State_rmwList (hM.sub (by decide)) ?_
    | with_reducible refine fr_State_deliver (hM.sub (by decide)) ?_
    | with_reducible refine fr_ite ?_ ?_
    | split
    | dsimp only

theorem fr_cqRecordWrite {m : Nat} {s t : State} {a1 a2} (hM : Cov 3432969612552799364422293450364915799965649344360704137325 m) (h : Fr m s t) :
    Fr m s (Sys2Proof.Machine.cqRecordWrite a1 a2 t) := by
  unfold Sys2Proof.Machine.cqRecordWrite
  repeat' first
    | with_reducible assumption
    | with_reducible refine fr_State_deliver (hM.sub (by decide)) ?_
    | with_reducible refine fr_State_modRun (hM.sub (by decide)) ?_
    | with_reducible refine fr_State_rmwList (hM.sub (by decide)) ?_
    | with_reducible refine fr_ite ?_ ?_
    | split
    | dsimp only

theorem fr_nop {m : Nat} {s t : State} {a1} (hM : Cov 32 m) (h : Fr m s t) :
    Fr m s (Sys2Proof.Machine.nop a1 t) := by
  unfold Sys2Proof.Machine.nop
  repeat' first
    | with_reducible assumption
    | with_reducible refine fr_State_modRun (hM.sub (by decide)) ?_
    | with_reducible refine fr_ite ?_ ?_
    | split

theorem fr_State_refuseDoorbell {m : Nat} {s t : State} {a1 a2} (hM : Cov 353887482764514345557031640438407181 m) (h : Fr m s t) :
    Fr m s (Sys2Proof.Machine.State.refuseDoorbell t a1 a2) := by
  unfold Sys2Proof.Machine.State.refuseDoorbell
  repeat' first
    | with_reducible assumption
    | with_reducible refine fr_State_event (hM.sub (by decide)) ?_
    | with_reducible refine fr_State_fs (hM.sub (by decide)) ?_

theorem fr_State_applyDoorbell {m : Nat} {s t : State} {a1 a2 a3} (hM : Cov 353887482764514345557031640438407181 m) (h : Fr m s t) :
    Fr m s (Sys2Proof.Machine.State.applyDoorbell t a1 a2 a3) := by
  unfold Sys2Proof.Machine.State.applyDoorbell
  repeat' first
    | with_reducible assumption
    | with_reducible refine fr_State_refuseDoorbell (hM.sub (by decide)) ?_
    | with_reducible refine fr_State_fc (hM.sub (by decide)) ?_
    | with_reducible refine fr_State_fs (hM.sub (by decide)) ?_
    | with_reducible refine fr_ite ?_ ?_
    | split
    | dsimp only

theorem fr_doorbell {m : Nat} {s t : State} {a1 a2 a3 a4} (hM : Cov 353887482764514345557031640438407181 m) (h : Fr m s t) :
    Fr m s (Sys2Proof.Machine.doorbell a1 a2 a3 a4 t) := by
  unfold Sys2Proof.Machine.doorbell
  repeat' first
    | with_reducible assumption
    | with_reducible refine fr_State_qmWrite (hM.sub (by decide)) ?_ (fun _ _ => ?_)
    | with_reducible refine fr_State_applyDoorbell (hM.sub (by decide)) ?_

theorem fr_State_refuseEnable {m : Nat} {s t : State} {a1 a2} (hM : Cov 353887482764514345557031640438407181 m) (h : Fr m s t) :
    Fr m s (Sys2Proof.Machine.State.refuseEnable t a1 a2) := by
  unfold Sys2Proof.Machine.State.refuseEnable
  repeat' first
    | with_reducible assumption
    | with_reducible refine fr_State_event (hM.sub (by decide)) ?_
    | with_reducible refine fr_State_fs (hM.sub (by decide)) ?_

theorem fr_State_enable {m : Nat} {s t : State} {a1} (hM : Cov 353887482764514345557031640438407181 m) (h : Fr m s t) :
    Fr m s (Sys2Proof.Machine.State.enable t a1) := by
  unfold Sys2Proof.Machine.State.enable
  repeat' first
    | with_reducible assumption
    | with_reducible refine fr_State_refuseEnable (hM.sub (by decide)) ?_
    | with_reducible refine fr_State_fs (hM.sub (by decide)) ?_
    | split

theorem fr_State_stopQueue {m : Nat} {s t : State} {a1 a2} (hM : Cov 356483631193781759371296888603017229 m) (h : Fr m s t) :
    Fr m s (Sys2Proof.Machine.State.stopQueue t a1 a2) := by
  unfold Sys2Proof.Machine.State.stopQueue
  repeat' first
    | with_reducible assumption
    | with_reducible refine fr_State_event (hM.sub (by decide)) ?_
    | with_reducible refine fr_State_fs (hM.sub (by decide)) ?_

theorem fr_State_disable {m : Nat} {s t : State} {a1} (hM : Cov 730750818665809240807250831824419939340651595821 m) (h : Fr m s t) :
    Fr m s (Sys2Proof.Machine.State.disable t a1) := by
  unfold Sys2Proof.Machine.State.disable
  repeat' first
    | with_reducible assumption
    | with_reducible refine fr_State_fs (hM.sub (by decide)) ?_
    | with_reducible refine fr_State_stopQueue (hM.sub (by decide)) ?_
    | with_reducible refine fr_State_endUnstarted (hM.sub (by decide)) ?_
    | with_reducible refine fr_State_readHead (hM.sub (by decide)) ?_
    | with_reducible refine fr_ite ?_ ?_
    | with_reducible refine fr_foldl ?_ (fun _ _ _ => ?_)
    | with_reducible refine fr_foldl_fst ?_ (fun _ _ _ => ?_)
    | with_reducible refine fr_foldl_snd ?_ (fun _ _ _ => ?_)
    | split
    | dsimp only
    | with_reducible refine fr_set_quiesce (hM.sub (by decide)) ?_

theorem fr_State_writeQdesc0 {m : Nat} {s t : State} {a1 a2} (hM : Cov 730750818665809240807250831824419939340651595821 m) (h : Fr m s t) :
    Fr m s (Sys2Proof.Machine.State.writeQdesc0 t a1 a2) := by
  unfold Sys2Proof.Machine.State.writeQdesc0
  extract_lets x s1 s1b same s2
  have k : Fr m s s1 := fr_ite (fr_State_fs (hM.sub (by decide)) h) h
  have k1 : Fr m s s1b := fr_ite (fr_State_fs (hM.sub (by decide)) k) k
  have k2 : Fr m s s2 := by
    refine fr_ite k1 (fr_ite (fr_foldl_mem k1 (fun u f hf w => fr_State_fs ?_ w)) (fr_State_fs (hM.sub (by decide)) k1))
    have hr : f.reg = .QM_QDESC_W0 := by revert hf; unfold qdescCfg; revert f; decide
    rw [hr]
    exact hM.sub (by decide)
  exact fr_ite (fr_State_enable (hM.sub (by decide)) k2) (fr_State_disable (hM.sub (by decide)) k2)

theorem fr_queueWrite {m : Nat} {s t : State} {a1 a2 a3} (hM : Cov 730750818665809240807250831824419939340651595821 m) (h : Fr m s t) :
    Fr m s (Sys2Proof.Machine.queueWrite a1 a2 a3 t) := by
  unfold Sys2Proof.Machine.queueWrite
  repeat' first
    | with_reducible assumption
    | with_reducible refine fr_State_qmWrite (hM.sub (by decide)) ?_ (fun _ _ => ?_)
    | with_reducible refine fr_State_writeQdesc0 (hM.sub (by decide)) ?_

theorem fr_State_disableCore {m : Nat} {s t : State} {a1} (hM : Cov 1993841993677373956929663180096931905 m) (h : Fr m s t) :
    Fr m s (Sys2Proof.Machine.State.disableCore t a1) := by
  unfold Sys2Proof.Machine.State.disableCore
  repeat' first
    | with_reducible assumption
    | with_reducible refine fr_State_modQuiesce (hM.sub (by decide)) ?_
    | with_reducible refine fr_State_leavePool (hM.sub (by decide)) ?_
    | with_reducible refine fr_State_setCoreBit (hM.sub (by decide)) (hM.sub (by decide)) ?_
    | with_reducible refine fr_ite ?_ ?_
    | split
    | dsimp only
    | with_reducible refine fr_set_quiesce (hM.sub (by decide)) ?_

theorem fr_State_enableCore {m : Nat} {s t : State} {a1} (hM : Cov 1993841993677373956929663180096931905 m) (h : Fr m s t) :
    Fr m s (Sys2Proof.Machine.State.enableCore t a1) := by
  unfold Sys2Proof.Machine.State.enableCore
  repeat' first
    | with_reducible assumption
    | with_reducible refine fr_State_setCoreBit (hM.sub (by decide)) (hM.sub (by decide)) ?_
    | with_reducible refine fr_State_modQuiesce (hM.sub (by decide)) ?_
    | with_reducible refine fr_State_joinPool (hM.sub (by decide)) ?_
    | with_reducible refine fr_ite ?_ ?_
    | split
    | dsimp only

theorem fr_State_disablePort {m : Nat} {s t : State} {a1} (hM : Cov 2658455991569831745807614120560691201 m) (h : Fr m s t) :
    Fr m s (Sys2Proof.Machine.State.disablePort t a1) := by
  unfold Sys2Proof.Machine.State.disablePort
  repeat' first
    | with_reducible assumption
    | with_reducible refine fr_State_modQuiesce (hM.sub (by decide)) ?_
    | with_reducible refine fr_State_fs (hM.sub (by first | decide | (dsimp only; decide) | (dsimp only [clkField]; decide) | (split <;> decide))) ?_
    | with_reducible refine fr_ite ?_ ?_
    | split
    | dsimp only
    | with_reducible refine fr_set_quiesce (hM.sub (by decide)) ?_

theorem fr_State_enablePort {m : Nat} {s t : State} {a1} (hM : Cov 2658455991569831745807614120560691201 m) (h : Fr m s t) :
    Fr m s (Sys2Proof.Machine.State.enablePort t a1) := by
  unfold Sys2Proof.Machine.State.enablePort
  repeat' first
    | with_reducible assumption
    | with_reducible refine fr_State_modQuiesce (hM.sub (by decide)) ?_
    | with_reducible refine fr_State_fs (hM.sub (by first | decide | (dsimp only; decide) | (dsimp only [clkField]; decide) | (split <;> decide))) ?_

theorem fr_State_abortRing {m : Nat} {s t : State} {a1 a2} (hM : Cov 3432969613283550183087746207540972850030697986812752713837 m) (h : Fr m s t) :
    Fr m s (Sys2Proof.Machine.State.abortRing a1 a2 t) := by
  induction a1 generalizing a2 t with
  | zero =>
    unfold Sys2Proof.Machine.State.abortRing
    repeat' first
      | with_reducible assumption
      | with_reducible refine fr_State_endUnstarted (hM.sub (by decide)) ?_
      | with_reducible refine fr_State_readHead (hM.sub (by decide)) ?_
      | with_reducible refine fr_commandComplete (hM.sub (by decide)) ?_
      | with_reducible refine fr_ite ?_ ?_
      | split
      | dsimp only
  | succ n ih =>
    unfold Sys2Proof.Machine.State.abortRing
    repeat' first
      | with_reducible assumption
      | with_reducible apply ih
      | with_reducible refine fr_State_endUnstarted (hM.sub (by decide)) ?_
      | with_reducible refine fr_State_readHead (hM.sub (by decide)) ?_
      | with_reducible refine fr_commandComplete (hM.sub (by decide)) ?_
      | with_reducible refine fr_ite ?_ ?_
      | split
      | dsimp only

theorem fr_State_clearOwner {m : Nat} {s t : State} {a1} (hM : Cov 436801973224242374250128003695640589 m) (h : Fr m s t) :
    Fr m s (Sys2Proof.Machine.State.clearOwner t a1) := by
  unfold Sys2Proof.Machine.State.clearOwner
  repeat' first
    | with_reducible assumption
    | with_reducible refine fr_State_event (hM.sub (by decide)) ?_
    | with_reducible refine fr_State_fs (hM.sub (by decide)) ?_
    | dsimp only

theorem fr_State_releaseStep {m : Nat} {s t : State} (hM : Cov 730750818665892317556987389066476427281919117357 m) (h : Fr m s t) :
    Fr m s (Sys2Proof.Machine.State.releaseStep t) := by
  unfold Sys2Proof.Machine.State.releaseStep
  repeat' first
    | with_reducible assumption
    | with_reducible refine fr_State_disable (hM.sub (by decide)) ?_
    | with_reducible refine fr_State_clearOwner (hM.sub (by decide)) ?_
    | with_reducible refine fr_ite ?_ ?_
    | with_reducible refine fr_foldl ?_ (fun _ _ _ => ?_)
    | with_reducible refine fr_foldl_fst ?_ (fun _ _ _ => ?_)
    | with_reducible refine fr_foldl_snd ?_ (fun _ _ _ => ?_)
    | split
    | dsimp only

theorem fr_State_finishQueue {m : Nat} {s t : State} {a1} (hM : Cov 3432969613283550183087829284290709407272754474754020235373 m) (h : Fr m s t) :
    Fr m s (Sys2Proof.Machine.State.finishQueue t a1) := by
  unfold Sys2Proof.Machine.State.finishQueue
  repeat' first
    | with_reducible assumption
    | with_reducible refine fr_State_abortRing (hM.sub (by decide)) ?_
    | with_reducible refine fr_State_releaseStep (hM.sub (by decide)) ?_
    | with_reducible refine fr_State_stopQueue (hM.sub (by decide)) ?_
    | with_reducible refine fr_State_endQuiesce (hM.sub (by decide)) ?_
    | with_reducible refine fr_ite ?_ ?_
    | split
    | dsimp only

theorem fr_State_finishCore {m : Nat} {s t : State} {a1 a2} (hM : Cov 353725223487685279767592652104534093 m) (h : Fr m s t) :
    Fr m s (Sys2Proof.Machine.State.finishCore t a1 a2) := by
  unfold Sys2Proof.Machine.State.finishCore
  repeat' first
    | with_reducible assumption
    | with_reducible refine fr_State_event (hM.sub (by decide)) ?_
    | with_reducible refine fr_State_handFetches (hM.sub (by decide)) ?_
    | with_reducible refine fr_State_endQuiesce (hM.sub (by decide)) ?_
    | with_reducible refine fr_State_joinPool (hM.sub (by decide)) ?_
    | with_reducible refine fr_ite ?_ ?_
    | split
    | dsimp only

theorem fr_State_finishPort {m : Nat} {s t : State} {a1} (hM : Cov 179601013208319998165939645210523719913123248722675725 m) (h : Fr m s t) :
    Fr m s (Sys2Proof.Machine.State.finishPort t a1) := by
  unfold Sys2Proof.Machine.State.finishPort
  repeat' first
    | with_reducible assumption
    | with_reducible refine fr_State_closePort (hM.sub (by decide)) ?_
    | with_reducible refine fr_State_event (hM.sub (by decide)) ?_
    | with_reducible refine fr_State_endQuiesce (hM.sub (by decide)) ?_
    | dsimp only

theorem fr_State_abandonIndex {m : Nat} {s t : State} {a1 a2 a3} (hM : Cov 96 m) (h : Fr m s t) :
    Fr m s (Sys2Proof.Machine.State.abandonIndex t a1 a2 a3) := by
  unfold Sys2Proof.Machine.State.abandonIndex
  repeat' first
    | with_reducible assumption
    | with_reducible refine fr_State_fail (hM.sub (by decide)) ?_
    | with_reducible refine fr_State_undef (hM.sub (by decide)) ?_
    | with_reducible refine fr_State_modCore (hM.sub (by decide)) ?_
    | with_reducible refine fr_State_modRun (hM.sub (by decide)) ?_
    | with_reducible refine fr_ite ?_ ?_
    | with_reducible refine fr_foldl ?_ (fun _ _ _ => ?_)
    | with_reducible refine fr_foldl_fst ?_ (fun _ _ _ => ?_)
    | with_reducible refine fr_foldl_snd ?_ (fun _ _ _ => ?_)
    | split
    | dsimp only

theorem fr_State_abandonCtx {m : Nat} {s t : State} {a1 a2 a3} (hM : Cov 353887482764514346709953145045254253 m) (h : Fr m s t) :
    Fr m s (Sys2Proof.Machine.State.abandonCtx t a1 a2 a3) := by
  unfold Sys2Proof.Machine.State.abandonCtx
  repeat' first
    | with_reducible assumption
    | with_reducible refine fr_State_undef (hM.sub (by decide)) ?_
    | with_reducible refine fr_State_modRun (hM.sub (by decide)) ?_
    | with_reducible refine fr_State_fail (hM.sub (by decide)) ?_
    | with_reducible refine fr_State_modCore (hM.sub (by decide)) ?_
    | with_reducible refine fr_State_closeStream (hM.sub (by decide)) ?_
    | with_reducible refine fr_State_modCtx (hM.sub (by decide)) ?_
    | with_reducible refine fr_ite ?_ ?_
    | with_reducible refine fr_foldl ?_ (fun _ _ _ => ?_)
    | with_reducible refine fr_foldl_fst ?_ (fun _ _ _ => ?_)
    | with_reducible refine fr_foldl_snd ?_ (fun _ _ _ => ?_)
    | split
    | dsimp only

theorem fr_State_abandonStreams {m : Nat} {s t : State} {a1} (hM : Cov 353887482764514346709953145045254253 m) (h : Fr m s t) :
    Fr m s (Sys2Proof.Machine.State.abandonStreams t a1) := by
  unfold Sys2Proof.Machine.State.abandonStreams
  repeat' first
    | with_reducible assumption
    | with_reducible refine fr_State_abandonCtx (hM.sub (by decide)) ?_
    | with_reducible refine fr_foldl ?_ (fun _ _ _ => ?_)
    | with_reducible refine fr_foldl_fst ?_ (fun _ _ _ => ?_)
    | with_reducible refine fr_foldl_snd ?_ (fun _ _ _ => ?_)

theorem fr_State_dropSieve {m : Nat} {s t : State} {a1} (hM : Cov 9444732965739290428481 m) (h : Fr m s t) :
    Fr m s (Sys2Proof.Machine.State.dropSieve t a1) := by
  unfold Sys2Proof.Machine.State.dropSieve
  repeat' first
    | with_reducible assumption
    | with_reducible refine fr_State_fc (hM.sub (by decide)) ?_
    | with_reducible refine fr_State_modCtx (hM.sub (by decide)) ?_
    | with_reducible refine fr_foldl ?_ (fun _ _ _ => ?_)
    | with_reducible refine fr_foldl_fst ?_ (fun _ _ _ => ?_)
    | with_reducible refine fr_foldl_snd ?_ (fun _ _ _ => ?_)
    | dsimp only
    | with_reducible refine fr_set_sieve (hM.sub (by decide)) ?_

theorem fr_State_dropOutput {m : Nat} {s t : State} {a1} (hM : Cov 96 m) (h : Fr m s t) :
    Fr m s (Sys2Proof.Machine.State.dropOutput t a1) := by
  unfold Sys2Proof.Machine.State.dropOutput
  repeat' first
    | with_reducible assumption
    | with_reducible refine fr_State_undef (hM.sub (by decide)) ?_
    | with_reducible refine fr_State_modCore (hM.sub (by decide)) ?_
    | with_reducible refine fr_foldl ?_ (fun _ _ _ => ?_)
    | with_reducible refine fr_foldl_fst ?_ (fun _ _ _ => ?_)
    | with_reducible refine fr_foldl_snd ?_ (fun _ _ _ => ?_)
    | dsimp only

theorem fr_State_abandonRun {m : Nat} {s t : State} {a1} (hM : Cov 730750818665805346584606940149584429811826164845 m) (h : Fr m s t) :
    Fr m s (Sys2Proof.Machine.State.abandonRun t a1) := by
  unfold Sys2Proof.Machine.State.abandonRun
  repeat' first
    | with_reducible assumption
    | with_reducible refine fr_State_modRun (hM.sub (by decide)) ?_
    | with_reducible refine fr_State_fail (hM.sub (by decide)) ?_
    | with_reducible refine fr_State_dropSieve (hM.sub (by decide)) ?_
    | with_reducible refine fr_State_abandonIndex (hM.sub (by decide)) ?_
    | with_reducible refine fr_State_abandonCtx (hM.sub (by decide)) ?_
    | with_reducible refine fr_State_collEnd (hM.sub (by decide)) ?_
    | with_reducible refine fr_ite ?_ ?_
    | with_reducible refine fr_foldl ?_ (fun _ _ _ => ?_)
    | with_reducible refine fr_foldl_fst ?_ (fun _ _ _ => ?_)
    | with_reducible refine fr_foldl_snd ?_ (fun _ _ _ => ?_)
    | split
    | dsimp only

theorem fr_quiesceEnd {m : Nat} {s t : State} {a1} (hM : Cov 3432969613283550183087829284290709407420328431741743159405 m) (h : Fr m s t) :
    Fr m s (Sys2Proof.Machine.quiesceEnd a1 t) := by
  unfold Sys2Proof.Machine.quiesceEnd
  repeat' first
    | with_reducible assumption
    | with_reducible refine fr_State_finishQueue (hM.sub (by decide)) ?_
    | with_reducible refine fr_State_finishCore (hM.sub (by decide)) ?_
    | with_reducible refine fr_State_abandonStreams (hM.sub (by decide)) ?_
    | with_reducible refine fr_State_finishPort (hM.sub (by decide)) ?_
    | with_reducible refine fr_ite ?_ ?_
    | split

theorem fr_quiesceTimeout {m : Nat} {s t : State} {a1} (hM : Cov 3432969613283550183087829284290709416865061397481583041645 m) (h : Fr m s t) :
    Fr m s (Sys2Proof.Machine.quiesceTimeout a1 t) := by
  unfold Sys2Proof.Machine.quiesceTimeout
  repeat' first
    | with_reducible assumption
    | with_reducible refine fr_State_abandonRun (hM.sub (by decide)) ?_
    | with_reducible refine fr_commandComplete (hM.sub (by decide)) ?_
    | with_reducible refine fr_State_finishQueue (hM.sub (by decide)) ?_
    | with_reducible refine fr_State_abandonIndex (hM.sub (by decide)) ?_
    | with_reducible refine fr_State_finishCore (hM.sub (by decide)) ?_
    | with_reducible refine fr_State_abandonStreams (hM.sub (by decide)) ?_
    | with_reducible refine fr_State_dropSieve (hM.sub (by decide)) ?_
    | with_reducible refine fr_State_finishPort (hM.sub (by decide)) ?_
    | with_reducible refine fr_ite ?_ ?_
    | with_reducible refine fr_foldl ?_ (fun _ _ _ => ?_)
    | with_reducible refine fr_foldl_fst ?_ (fun _ _ _ => ?_)
    | with_reducible refine fr_foldl_snd ?_ (fun _ _ _ => ?_)
    | split
    | dsimp only
    | with_reducible refine fr_set_pw (hM.sub (by decide)) ?_

theorem fr_State_own {m : Nat} {s t : State} {a1} (hM : Cov 436801973224242374250128003695640589 m) (h : Fr m s t) :
    Fr m s (Sys2Proof.Machine.State.own t a1) := by
  unfold Sys2Proof.Machine.State.own
  repeat' first
    | with_reducible assumption
    | with_reducible refine fr_State_event (hM.sub (by decide)) ?_
    | with_reducible refine fr_State_fs (hM.sub (by decide)) ?_

theorem fr_claim {m : Nat} {s t : State} {a1 a2} (hM : Cov 436801973224242374250128003695640589 m) (h : Fr m s t) :
    Fr m s (Sys2Proof.Machine.claim a1 a2 t) := by
  unfold Sys2Proof.Machine.claim
  repeat' first
    | with_reducible assumption
    | with_reducible refine fr_State_foreign (hM.sub (by decide)) ?_
    | with_reducible refine fr_State_own (hM.sub (by decide)) ?_
    | with_reducible refine fr_ite ?_ ?_
    | split

theorem fr_State_forceRelease {m : Nat} {s t : State} (hM : Cov 730750818665892317556987389066476427281919117357 m) (h : Fr m s t) :
    Fr m s (Sys2Proof.Machine.State.forceRelease t) := by
  unfold Sys2Proof.Machine.State.forceRelease
  repeat' first
    | with_reducible assumption
    | with_reducible refine fr_State_fs (hM.sub (by decide)) ?_
    | with_reducible refine fr_State_releaseStep (hM.sub (by decide)) ?_
    | with_reducible refine fr_State_disable (hM.sub (by decide)) ?_
    | with_reducible refine fr_ite ?_ ?_
    | with_reducible refine fr_foldl ?_ (fun _ _ _ => ?_)
    | with_reducible refine fr_foldl_fst ?_ (fun _ _ _ => ?_)
    | with_reducible refine fr_foldl_snd ?_ (fun _ _ _ => ?_)
    | split
    | dsimp only

theorem fr_forcedRelease {m : Nat} {s t : State} {a1} (hM : Cov 730750818665892317556987389066476427281919117357 m) (h : Fr m s t) :
    Fr m s (Sys2Proof.Machine.forcedRelease a1 t) := by
  unfold Sys2Proof.Machine.forcedRelease
  repeat' first
    | with_reducible assumption
    | with_reducible refine fr_State_foreign (hM.sub (by decide)) ?_
    | with_reducible refine fr_State_forceRelease (hM.sub (by decide)) ?_
    | with_reducible refine fr_ite ?_ ?_
    | split

theorem fr_release {m : Nat} {s t : State} {a1} (hM : Cov 730750818665892317556987389066476427281919117357 m) (h : Fr m s t) :
    Fr m s (Sys2Proof.Machine.release a1 t) := by
  unfold Sys2Proof.Machine.release
  repeat' first
    | with_reducible assumption
    | with_reducible refine fr_State_clearOwner (hM.sub (by decide)) ?_
    | with_reducible refine fr_State_foreign (hM.sub (by decide)) ?_
    | with_reducible refine fr_forcedRelease (hM.sub (by decide)) ?_
    | with_reducible refine fr_ite ?_ ?_
    | split

theorem fr_State_loseQueue {m : Nat} {s t : State} {a1} (hM : Cov 730750818665809240807250831824419939340651595821 m) (h : Fr m s t) :
    Fr m s (Sys2Proof.Machine.State.loseQueue t a1) := by
  unfold Sys2Proof.Machine.State.loseQueue
  repeat' first
    | with_reducible assumption
    | with_reducible refine fr_State_stopQueue (hM.sub (by decide)) ?_
    | with_reducible refine fr_State_disable (hM.sub (by decide)) ?_
    | with_reducible refine fr_ite ?_ ?_
    | split

theorem fr_State_queueMet {m : Nat} {s t : State} {a1 a2 a3} (hM : Cov 3432790012270341861388506581623943403130395573032188921901 m) (h : Fr m s t) :
    Fr m s (Sys2Proof.Machine.State.queueMet t a1 a2 a3) := by
  unfold Sys2Proof.Machine.State.queueMet
  repeat' first
    | with_reducible assumption
    | with_reducible refine fr_State_ctlMet (hM.sub (by decide)) ?_ (fun _ _ => ?_)
    | with_reducible refine fr_State_loseQueue (hM.sub (by decide)) ?_
    | with_reducible refine fr_ite ?_ ?_
    | split

theorem fr_State_startMet {m : Nat} {s t : State} {a1 a2} (hM : Cov 3432790012270341861388506581623943403425543478211541747757 m) (h : Fr m s t) :
    Fr m s (Sys2Proof.Machine.State.startMet t a1 a2) := by
  unfold Sys2Proof.Machine.State.startMet
  repeat' first
    | with_reducible assumption
    | with_reducible refine fr_State_ctlMet (hM.sub (by decide)) ?_ (fun _ _ => ?_)
    | with_reducible refine fr_State_fs (hM.sub (by decide)) ?_
    | with_reducible refine fr_State_loseQueue (hM.sub (by decide)) ?_
    | with_reducible refine fr_ite ?_ ?_
    | split
    | dsimp only

theorem fr_execDoorbell {m : Nat} {s t : State} {a1 a2 a3 a4} (hM : Cov 405167301077017910746879029666914594033681144018730397747245 m) (h : Fr m s t) :
    ∀ u, Sys2Proof.Machine.execDoorbell a1 a2 a3 a4 t = .next u → Fr m s u := by
  intro u e
  cases e
  repeat' first
    | with_reducible assumption
    | with_reducible refine fr_State_idleGo (hM.sub (by decide)) ?_
    | with_reducible refine fr_doorbell (hM.sub (by decide)) ?_
    | with_reducible refine fr_State_queueMet (hM.sub (by decide)) ?_

theorem fr_execQueueEnable {m : Nat} {s t : State} {a1 a2 a3} (hM : Cov 730750818665809240807250831824419939340651595821 m) (h : Fr m s t) :
    ∀ u, Sys2Proof.Machine.execQueueEnable a1 a2 a3 t = .next u → Fr m s u := by
  intro u e
  cases e
  repeat' first
    | with_reducible assumption
    | with_reducible refine fr_queueWrite (hM.sub (by decide)) ?_

theorem fr_execQueueDisable {m : Nat} {s t : State} {a1 a2 a3} (hM : Cov 730750818665809240807250831824419939340651595821 m) (h : Fr m s t) :
    ∀ u, Sys2Proof.Machine.execQueueDisable a1 a2 a3 t = .next u → Fr m s u := by
  intro u e
  cases e
  repeat' first
    | with_reducible assumption
    | with_reducible refine fr_queueWrite (hM.sub (by decide)) ?_

theorem fr_execCoreDisable {m : Nat} {s t : State} {a1 a2} (hM : Cov 2326148992623602925155614945167018049 m) (h : Fr m s t) :
    ∀ u, Sys2Proof.Machine.execCoreDisable a1 a2 t = .next u → Fr m s u := by
  intro u e
  cases e
  repeat' first
    | with_reducible assumption
    | with_reducible refine fr_State_qmWrite (hM.sub (by decide)) ?_ (fun _ _ => ?_)
    | with_reducible refine fr_State_disableCore (hM.sub (by decide)) ?_

theorem fr_execCoreDisableClear {m : Nat} {s t : State} {a1 a2} (hM : Cov 2326148992623602925155614945167018049 m) (h : Fr m s t) :
    ∀ u, Sys2Proof.Machine.execCoreDisableClear a1 a2 t = .next u → Fr m s u := by
  intro u e
  cases e
  repeat' first
    | with_reducible assumption
    | with_reducible refine fr_State_qmWrite (hM.sub (by decide)) ?_ (fun _ _ => ?_)
    | with_reducible refine fr_State_enableCore (hM.sub (by decide)) ?_

theorem fr_execPortDisable {m : Nat} {s t : State} {a1 a2} (hM : Cov 2990762990516060714033565885630777345 m) (h : Fr m s t) :
    ∀ u, Sys2Proof.Machine.execPortDisable a1 a2 t = .next u → Fr m s u := by
  intro u e
  cases e
  repeat' first
    | with_reducible assumption
    | with_reducible refine fr_State_qmWrite (hM.sub (by decide)) ?_ (fun _ _ => ?_)
    | with_reducible refine fr_State_disablePort (hM.sub (by decide)) ?_

theorem fr_execPortDisableClear {m : Nat} {s t : State} {a1 a2} (hM : Cov 2990762990516060714033565885630777345 m) (h : Fr m s t) :
    ∀ u, Sys2Proof.Machine.execPortDisableClear a1 a2 t = .next u → Fr m s u := by
  intro u e
  cases e
  repeat' first
    | with_reducible assumption
    | with_reducible refine fr_State_qmWrite (hM.sub (by decide)) ?_ (fun _ _ => ?_)
    | with_reducible refine fr_State_enablePort (hM.sub (by decide)) ?_

theorem fr_execClaim {m : Nat} {s t : State} {a1 a2} (hM : Cov 436801973224242374250128003695640589 m) (h : Fr m s t) :
    ∀ u, Sys2Proof.Machine.execClaim a1 a2 t = .next u → Fr m s u := by
  intro u e
  cases e
  repeat' first
    | with_reducible assumption
    | with_reducible refine fr_claim (hM.sub (by decide)) ?_

theorem fr_execCommandStart {m : Nat} {s t : State} {a1 a2} (hM : Cov 3432790012270341863089918416228635721924161058760640456813 m) (h : Fr m s t) :
    ∀ u, Sys2Proof.Machine.execCommandStart a1 a2 t = .next u → Fr m s u := by
  intro u e
  cases e
  repeat' first
    | with_reducible assumption
    | with_reducible refine fr_commandStart (hM.sub (by decide)) ?_
    | with_reducible refine fr_State_startMet (hM.sub (by decide)) ?_

theorem fr_execNop {m : Nat} {s t : State} {a1} (hM : Cov 32 m) (h : Fr m s t) :
    ∀ u, Sys2Proof.Machine.execNop a1 t = .next u → Fr m s u := by
  intro u e
  cases e
  repeat' first
    | with_reducible assumption
    | with_reducible refine fr_nop (hM.sub (by decide)) ?_

theorem fr_execCqRecordWrite {m : Nat} {s t : State} {a1} (hM : Cov 3432969612552799364422293450364915799965649344360704137325 m) (h : Fr m s t) :
    ∀ u, Sys2Proof.Machine.execCqRecordWrite a1 t = .next u → Fr m s u := by
  intro u e
  cases e
  repeat' first
    | with_reducible assumption
    | with_reducible refine fr_cqRecordWrite (hM.sub (by decide)) ?_

end Sys2Proof.Laws
end

