-- ==== Sys2Proof/Laws/FrameFabOps.lean ====
section
/-! SUPPORT. What the functions of Machine/FabOps.lean may change. -/

namespace Sys2Proof.Laws

open Sys2Proof.Machine

theorem fr_State_gated {m : Nat} {s t : State} {a1 a2 f3} (hM : Cov 0 m) (h : Fr m s t)
    (h3 : ∀ u, Fr m s u → Fr m s (f3 u)) :
    Fr m s (Sys2Proof.Machine.State.gated t a1 a2 f3) := by
  unfold Sys2Proof.Machine.State.gated
  repeat' first
    | with_reducible assumption
    | with_reducible refine h3 _ ?_
    | with_reducible refine fr_ite ?_ ?_
    | split

theorem fr_State_gatedUnit {m : Nat} {s t : State} {a1 a2 a3 f4} (hM : Cov 536870912 m) (h : Fr m s t)
    (h4 : ∀ u, Fr m s u → Fr m s (f4 u)) :
    Fr m s (Sys2Proof.Machine.State.gatedUnit t a1 a2 a3 f4) := by
  unfold Sys2Proof.Machine.State.gatedUnit
  repeat' first
    | with_reducible assumption
    | with_reducible refine h4 _ ?_
    | with_reducible refine fr_State_gated (hM.sub (by decide)) ?_ (fun _ _ => ?_)
    | with_reducible refine fr_State_holdWrite (hM.sub (by decide)) ?_
    | with_reducible refine fr_ite ?_ ?_
    | split

theorem fr_State_setLink {m : Nat} {s t : State} {a1 a2} (hM : Cov 131072 m) (h : Fr m s t) :
    Fr m s (Sys2Proof.Machine.State.setLink t a1 a2) := by
  unfold Sys2Proof.Machine.State.setLink
  repeat' first
    | with_reducible assumption
    | with_reducible refine fr_set_links (hM.sub (by decide)) ?_

theorem fr_State_modLink {m : Nat} {s t : State} {a1 a2} (hM : Cov 131072 m) (h : Fr m s t) :
    Fr m s (Sys2Proof.Machine.State.modLink t a1 a2) := by
  unfold Sys2Proof.Machine.State.modLink
  repeat' first
    | with_reducible assumption
    | with_reducible refine fr_State_setLink (hM.sub (by decide)) ?_

theorem fr_State_pump {m : Nat} {s t : State} {a1} (hM : Cov 356811923176489970264571492362374333851631617 m) (h : Fr m s t) :
    Fr m s (Sys2Proof.Machine.State.pump t a1) := by
  unfold Sys2Proof.Machine.State.pump
  repeat' first
    | with_reducible assumption
    | with_reducible refine fr_State_lc (hM.sub (by decide)) ?_
    | with_reducible refine fr_State_emit (hM.sub (by decide)) ?_
    | with_reducible refine fr_State_setLink (hM.sub (by decide)) ?_
    | with_reducible refine fr_ite ?_ ?_
    | with_reducible refine fr_foldl ?_ (fun _ _ _ => ?_)
    | with_reducible refine fr_foldl_fst ?_ (fun _ _ _ => ?_)
    | with_reducible refine fr_foldl_snd ?_ (fun _ _ _ => ?_)
    | split
    | dsimp only

theorem fr_State_sendCtl {m : Nat} {s t : State} {a1 a2 a3} (hM : Cov 356811923176489970264571492362374333851631617 m) (h : Fr m s t) :
    Fr m s (Sys2Proof.Machine.State.sendCtl t a1 a2 a3) := by
  unfold Sys2Proof.Machine.State.sendCtl
  repeat' first
    | with_reducible assumption
    | with_reducible refine fr_State_pump (hM.sub (by decide)) ?_
    | with_reducible refine fr_State_emit (hM.sub (by decide)) ?_
    | with_reducible refine fr_State_modLink (hM.sub (by decide)) ?_

theorem fr_State_enqueue {m : Nat} {s t : State} {a1 a2} (hM : Cov 356811923176489970264571492362374333851631617 m) (h : Fr m s t) :
    Fr m s (Sys2Proof.Machine.State.enqueue t a1 a2) := by
  unfold Sys2Proof.Machine.State.enqueue
  repeat' first
    | with_reducible assumption
    | with_reducible refine fr_State_lc (hM.sub (by decide)) ?_
    | with_reducible refine fr_State_pump (hM.sub (by decide)) ?_
    | with_reducible refine fr_State_setLink (hM.sub (by decide)) ?_
    | with_reducible refine fr_ite ?_ ?_
    | split
    | dsimp only

theorem fr_State_setBank {m : Nat} {s t : State} {a1 a2} (hM : Cov 87112285931760246646623899502532662132737 m) (h : Fr m s t) :
    Fr m s (Sys2Proof.Machine.State.setBank t a1 a2) := by
  unfold Sys2Proof.Machine.State.setBank
  repeat' first
    | with_reducible assumption
    | with_reducible refine fr_State_fs (hM.sub (by decide)) ?_
    | with_reducible refine fr_ite ?_ ?_
    | split
    | dsimp only

theorem fr_State_creditBack {m : Nat} {s t : State} {a1} (hM : Cov 356811923176489970264571492362374333851631617 m) (h : Fr m s t) :
    Fr m s (Sys2Proof.Machine.State.creditBack t a1) := by
  unfold Sys2Proof.Machine.State.creditBack
  repeat' first
    | with_reducible assumption
    | with_reducible refine fr_State_pump (hM.sub (by decide)) ?_
    | with_reducible refine fr_State_modLink (hM.sub (by decide)) ?_
    | with_reducible refine fr_ite ?_ ?_
    | split

theorem fr_State_routePkt {m : Nat} {s t : State} {a1} (hM : Cov 359599516326306298157263457146455379041452033 m) (h : Fr m s t) :
    Fr m s (Sys2Proof.Machine.State.routePkt t a1) := by
  unfold Sys2Proof.Machine.State.routePkt
  repeat' first
    | with_reducible assumption
    | with_reducible refine fr_State_creditBack (hM.sub (by decide)) ?_
    | with_reducible refine fr_State_fc (hM.sub (by first | decide | (dsimp only; decide) | (dsimp only [clkField]; decide) | (split <;> decide))) ?_
    | with_reducible refine fr_State_enqueue (hM.sub (by decide)) ?_
    | with_reducible refine fr_ite ?_ ?_
    | split
    | dsimp only
    | with_reducible refine fr_set_net_arrived (hM.sub (by decide)) ?_
    | with_reducible refine fr_set_net (hM.sub (by decide)) ?_

theorem fr_State_markOld {m : Nat} {s t : State} {a1} (hM : Cov 655360 m) (h : Fr m s t) :
    Fr m s (Sys2Proof.Machine.State.markOld t a1) := by
  unfold Sys2Proof.Machine.State.markOld
  repeat' first
    | with_reducible assumption
    | with_reducible refine fr_ite ?_ ?_
    | split
    | dsimp only
    | with_reducible refine fr_set_links_net (hM.sub (by decide)) ?_

theorem fr_State_drainStep {m : Nat} {s t : State} {a1} (hM : Cov 356899035462421730511218116261876866516385793 m) (h : Fr m s t) :
    Fr m s (Sys2Proof.Machine.State.drainStep a1 t) := by
  induction a1 generalizing t with
  | zero =>
    unfold Sys2Proof.Machine.State.drainStep
    repeat' first
      | with_reducible assumption
      | with_reducible refine fr_State_markOld (hM.sub (by decide)) ?_
      | with_reducible refine fr_State_fs (hM.sub (by decide)) ?_
      | with_reducible refine fr_State_sendCtl (hM.sub (by decide)) ?_
      | with_reducible refine fr_State_setBank (hM.sub (by decide)) ?_
      | with_reducible refine fr_ite ?_ ?_
      | with_reducible refine fr_foldl ?_ (fun _ _ _ => ?_)
      | with_reducible refine fr_foldl_fst ?_ (fun _ _ _ => ?_)
      | with_reducible refine fr_foldl_snd ?_ (fun _ _ _ => ?_)
      | split
      | dsimp only
      | with_reducible refine fr_set_drain (hM.sub (by decide)) ?_
      | with_reducible refine fr_set_links_drain (hM.sub (by decide)) ?_
  | succ n ih =>
    unfold Sys2Proof.Machine.State.drainStep
    repeat' first
      | with_reducible assumption
      | with_reducible apply ih
      | with_reducible refine fr_State_markOld (hM.sub (by decide)) ?_
      | with_reducible refine fr_State_fs (hM.sub (by decide)) ?_
      | with_reducible refine fr_State_sendCtl (hM.sub (by decide)) ?_
      | with_reducible refine fr_State_setBank (hM.sub (by decide)) ?_
      | with_reducible refine fr_ite ?_ ?_
      | with_reducible refine fr_foldl ?_ (fun _ _ _ => ?_)
      | with_reducible refine fr_foldl_fst ?_ (fun _ _ _ => ?_)
      | with_reducible refine fr_foldl_snd ?_ (fun _ _ _ => ?_)
      | split
      | dsimp only
      | with_reducible refine fr_set_drain (hM.sub (by decide)) ?_
      | with_reducible refine fr_set_links_drain (hM.sub (by decide)) ?_

theorem fr_State_drainOn {m : Nat} {s t : State} (hM : Cov 356899035462421730511218116261876866516385793 m) (h : Fr m s t) :
    Fr m s (Sys2Proof.Machine.State.drainOn t) := by
  unfold Sys2Proof.Machine.State.drainOn
  repeat' first
    | with_reducible assumption
    | with_reducible refine fr_State_drainStep (hM.sub (by decide)) ?_

theorem fr_State_inject {m : Nat} {s t : State} {a1} (hM : Cov 43556142965880123323311949751266331590657 m) (h : Fr m s t) :
    Fr m s (Sys2Proof.Machine.State.inject t a1) := by
  unfold Sys2Proof.Machine.State.inject
  repeat' first
    | with_reducible assumption
    | with_reducible refine fr_set_net (hM.sub (by decide)) ?_

theorem fr_State_setConn {m : Nat} {s t : State} {a1 a2} (hM : Cov 262144 m) (h : Fr m s t) :
    Fr m s (Sys2Proof.Machine.State.setConn t a1 a2) := by
  unfold Sys2Proof.Machine.State.setConn
  repeat' first
    | with_reducible assumption
    | with_reducible refine fr_set_conns (hM.sub (by decide)) ?_

theorem fr_State_modConn {m : Nat} {s t : State} {a1 a2} (hM : Cov 262144 m) (h : Fr m s t) :
    Fr m s (Sys2Proof.Machine.State.modConn t a1 a2) := by
  unfold Sys2Proof.Machine.State.modConn
  repeat' first
    | with_reducible assumption
    | with_reducible refine fr_State_setConn (hM.sub (by decide)) ?_

theorem fr_State_showUnacked {m : Nat} {s t : State} {a1} (hM : Cov 11417981541647679048466287755595961091061972993 m) (h : Fr m s t) :
    Fr m s (Sys2Proof.Machine.State.showUnacked t a1) := by
  unfold Sys2Proof.Machine.State.showUnacked
  repeat' first
    | with_reducible assumption
    | with_reducible refine fr_State_fs (hM.sub (by decide)) ?_

theorem fr_State_connPump {m : Nat} {s t : State} {a1 a2} (hM : Cov 17127015868614484452822754945343692902924812289 m) (h : Fr m s t) :
    Fr m s (Sys2Proof.Machine.State.connPump a1 a2 t) := by
  induction a1 generalizing a2 t with
  | zero =>
    unfold Sys2Proof.Machine.State.connPump
    repeat' first
      | with_reducible assumption
      | with_reducible refine fr_State_fs (hM.sub (by decide)) ?_
      | with_reducible refine fr_State_setConn (hM.sub (by decide)) ?_
      | with_reducible refine fr_State_inject (hM.sub (by decide)) ?_
      | with_reducible refine fr_State_showUnacked (hM.sub (by decide)) ?_
      | with_reducible refine fr_ite ?_ ?_
      | split
      | dsimp only
  | succ n ih =>
    unfold Sys2Proof.Machine.State.connPump
    repeat' first
      | with_reducible assumption
      | with_reducible apply ih
      | with_reducible refine fr_State_fs (hM.sub (by decide)) ?_
      | with_reducible refine fr_State_setConn (hM.sub (by decide)) ?_
      | with_reducible refine fr_State_inject (hM.sub (by decide)) ?_
      | with_reducible refine fr_State_showUnacked (hM.sub (by decide)) ?_
      | with_reducible refine fr_ite ?_ ?_
      | split
      | dsimp only

theorem fr_State_connGo {m : Nat} {s t : State} {a1} (hM : Cov 17127015868614484452822754945343692902924812289 m) (h : Fr m s t) :
    Fr m s (Sys2Proof.Machine.State.connGo t a1) := by
  unfold Sys2Proof.Machine.State.connGo
  repeat' first
    | with_reducible assumption
    | with_reducible refine fr_State_connPump (hM.sub (by decide)) ?_

theorem fr_State_connSend {m : Nat} {s t : State} {a1 a2 a3 a4} (hM : Cov 17127015868614484452822754945343692902924812289 m) (h : Fr m s t) :
    Fr m s (Sys2Proof.Machine.State.connSend t a1 a2 a3 a4) := by
  unfold Sys2Proof.Machine.State.connSend
  repeat' first
    | with_reducible assumption
    | with_reducible refine fr_State_connGo (hM.sub (by decide)) ?_
    | with_reducible refine fr_State_setConn (hM.sub (by decide)) ?_
    | dsimp only

theorem fr_State_connNote {m : Nat} {s t : State} {a1 a2 a3 a4} (hM : Cov 43556142965880123323311949751266331590657 m) (h : Fr m s t) :
    Fr m s (Sys2Proof.Machine.State.connNote t a1 a2 a3 a4) := by
  unfold Sys2Proof.Machine.State.connNote
  repeat' first
    | with_reducible assumption
    | with_reducible refine fr_State_inject (hM.sub (by decide)) ?_

theorem fr_State_xferReady {m : Nat} {s t : State} {a1} (hM : Cov 64 m) (h : Fr m s t) :
    Fr m s (Sys2Proof.Machine.State.xferReady t a1) := by
  unfold Sys2Proof.Machine.State.xferReady
  repeat' first
    | with_reducible assumption
    | with_reducible refine fr_State_modCore (hM.sub (by decide)) ?_
    | with_reducible refine fr_ite ?_ ?_
    | split

theorem fr_State_retireBelow {m : Nat} {s t : State} {a1 a2} (hM : Cov 17127015868614484452822754945343692902924812353 m) (h : Fr m s t) :
    Fr m s (Sys2Proof.Machine.State.retireBelow t a1 a2) := by
  unfold Sys2Proof.Machine.State.retireBelow
  repeat' first
    | with_reducible assumption
    | with_reducible refine fr_State_showUnacked (hM.sub (by decide)) ?_
    | with_reducible refine fr_State_setConn (hM.sub (by decide)) ?_
    | with_reducible refine fr_State_xferReady (hM.sub (by decide)) ?_
    | with_reducible refine fr_State_connGo (hM.sub (by decide)) ?_
    | with_reducible refine fr_ite ?_ ?_
    | with_reducible refine fr_foldl ?_ (fun _ _ _ => ?_)
    | with_reducible refine fr_foldl_fst ?_ (fun _ _ _ => ?_)
    | with_reducible refine fr_foldl_snd ?_ (fun _ _ _ => ?_)
    | split
    | dsimp only

theorem fr_State_unlanded {m : Nat} {s t : State} {a1} (hM : Cov 1152922604118474764 m) (h : Fr m s t) :
    Fr m s (Sys2Proof.Machine.State.unlanded t a1) := by
  unfold Sys2Proof.Machine.State.unlanded
  repeat' first
    | with_reducible assumption
    | with_reducible refine fr_State_freeFill (hM.sub (by decide)) ?_
    | with_reducible refine fr_ite ?_ ?_
    | split

theorem fr_State_failConnXfers {m : Nat} {s t : State} {a1} (hM : Cov 1152922604118474860 m) (h : Fr m s t) :
    Fr m s (Sys2Proof.Machine.State.failConnXfers t a1) := by
  unfold Sys2Proof.Machine.State.failConnXfers
  repeat' first
    | with_reducible assumption
    | with_reducible refine fr_State_undef (hM.sub (by decide)) ?_
    | with_reducible refine fr_State_modRun (hM.sub (by decide)) ?_
    | with_reducible refine fr_State_fail (hM.sub (by decide)) ?_
    | with_reducible refine fr_State_unlanded (hM.sub (by decide)) ?_
    | with_reducible refine fr_State_modCore (hM.sub (by decide)) ?_
    | with_reducible refine fr_ite ?_ ?_
    | with_reducible refine fr_foldl ?_ (fun _ _ _ => ?_)
    | with_reducible refine fr_foldl_fst ?_ (fun _ _ _ => ?_)
    | with_reducible refine fr_foldl_snd ?_ (fun _ _ _ => ?_)
    | split
    | dsimp only

theorem fr_State_failConnColl {m : Nat} {s t : State} {a1 a2} (hM : Cov 32 m) (h : Fr m s t) :
    Fr m s (Sys2Proof.Machine.State.failConnColl t a1 a2) := by
  unfold Sys2Proof.Machine.State.failConnColl
  repeat' first
    | with_reducible assumption
    | with_reducible refine fr_State_modRun (hM.sub (by decide)) ?_
    | with_reducible refine fr_State_fail (hM.sub (by decide)) ?_
    | with_reducible refine fr_foldl ?_ (fun _ _ _ => ?_)
    | with_reducible refine fr_foldl_fst ?_ (fun _ _ _ => ?_)
    | with_reducible refine fr_foldl_snd ?_ (fun _ _ _ => ?_)
    | split

theorem fr_State_connError {m : Nat} {s t : State} {a1 a2 a3} (hM : Cov 3432790011576699482733406022947695691645009069904035594349 m) (h : Fr m s t) :
    Fr m s (Sys2Proof.Machine.State.connError t a1 a2 a3) := by
  unfold Sys2Proof.Machine.State.connError
  repeat' first
    | with_reducible assumption
    | with_reducible refine fr_State_showUnacked (hM.sub (by decide)) ?_
    | with_reducible refine fr_State_setConn (hM.sub (by decide)) ?_
    | with_reducible refine fr_State_fs (hM.sub (by decide)) ?_
    | with_reducible refine fr_State_failConnColl (hM.sub (by decide)) ?_
    | with_reducible refine fr_State_failConnXfers (hM.sub (by decide)) ?_
    | with_reducible refine fr_State_errRec (hM.sub (by decide)) ?_
    | with_reducible refine fr_ite ?_ ?_
    | split
    | dsimp only

theorem fr_State_resend {m : Nat} {s t : State} {a1 a2 a3} (hM : Cov 3432790011576699527990960823432511332273831858397927719021 m) (h : Fr m s t) :
    Fr m s (Sys2Proof.Machine.State.resend t a1 a2 a3) := by
  unfold Sys2Proof.Machine.State.resend
  repeat' first
    | with_reducible assumption
    | with_reducible refine fr_State_connError (hM.sub (by decide)) ?_
    | with_reducible refine fr_State_seenList (hM.sub (by decide)) ?_
    | with_reducible refine fr_State_setConn (hM.sub (by decide)) ?_
    | with_reducible refine fr_State_inject (hM.sub (by decide)) ?_
    | with_reducible refine fr_State_fc (hM.sub (by decide)) ?_
    | with_reducible refine fr_State_listMet (hM.sub (by decide)) ?_
    | with_reducible refine fr_ite ?_ ?_
    | with_reducible refine fr_foldl ?_ (fun _ _ _ => ?_)
    | with_reducible refine fr_foldl_fst ?_ (fun _ _ _ => ?_)
    | with_reducible refine fr_foldl_snd ?_ (fun _ _ _ => ?_)
    | split
    | dsimp only

theorem fr_State_tokenOut {m : Nat} {s t : State} {a1} (hM : Cov 17127015868614484452822754945343692902924812289 m) (h : Fr m s t) :
    Fr m s (Sys2Proof.Machine.State.tokenOut t a1) := by
  unfold Sys2Proof.Machine.State.tokenOut
  repeat' first
    | with_reducible assumption
    | with_reducible refine fr_State_connSend (hM.sub (by decide)) ?_
    | with_reducible refine fr_ite ?_ ?_
    | with_reducible refine fr_foldl ?_ (fun _ _ _ => ?_)
    | with_reducible refine fr_foldl_fst ?_ (fun _ _ _ => ?_)
    | with_reducible refine fr_foldl_snd ?_ (fun _ _ _ => ?_)
    | split

theorem fr_State_fireToken {m : Nat} {s t : State} {a1 a2} (hM : Cov 17127015868614484452827590648622151471163244545 m) (h : Fr m s t) :
    Fr m s (Sys2Proof.Machine.State.fireToken t a1 a2) := by
  unfold Sys2Proof.Machine.State.fireToken
  repeat' first
    | with_reducible assumption
    | with_reducible refine fr_State_fs (hM.sub (by decide)) ?_
    | with_reducible refine fr_State_tokenOut (hM.sub (by decide)) ?_
    | with_reducible refine fr_ite ?_ ?_
    | split
    | dsimp only
    | with_reducible refine fr_set_lantern_lanternFabric (hM.sub (by decide)) ?_

theorem fr_State_tokenIn {m : Nat} {s t : State} {a1} (hM : Cov 17127015868614484452827590648622151471163244545 m) (h : Fr m s t) :
    Fr m s (Sys2Proof.Machine.State.tokenIn t a1) := by
  unfold Sys2Proof.Machine.State.tokenIn
  repeat' first
    | with_reducible assumption
    | with_reducible refine fr_State_fc (hM.sub (by decide)) ?_
    | with_reducible refine fr_State_fireToken (hM.sub (by decide)) ?_
    | with_reducible refine fr_ite ?_ ?_
    | split

theorem fr_State_queueCombine {m : Nat} {s t : State} {a1 a2 a3} (hM : Cov 128 m) (h : Fr m s t) :
    Fr m s (Sys2Proof.Machine.State.queueCombine t a1 a2 a3) := by
  unfold Sys2Proof.Machine.State.queueCombine
  repeat' first
    | with_reducible assumption
    | with_reducible refine fr_State_setUnitQ (hM.sub (by decide)) ?_
    | with_reducible refine fr_ite ?_ ?_
    | with_reducible refine fr_foldl ?_ (fun _ _ _ => ?_)
    | with_reducible refine fr_foldl_fst ?_ (fun _ _ _ => ?_)
    | with_reducible refine fr_foldl_snd ?_ (fun _ _ _ => ?_)
    | split
    | dsimp only

theorem fr_State_answerRead {m : Nat} {s t : State} {a1 a2 a3 a4} (hM : Cov 3432790011556718060293077385097695328701538926488569266189 m) (h : Fr m s t) :
    Fr m s (Sys2Proof.Machine.State.answerRead t a1 a2 a3 a4) := by
  unfold Sys2Proof.Machine.State.answerRead
  repeat' first
    | with_reducible assumption
    | with_reducible refine fr_State_seenBad (hM.sub (by decide)) ?_
    | with_reducible refine fr_State_connSend (hM.sub (by decide)) ?_
    | with_reducible refine fr_State_hubMet (hM.sub (by decide)) ?_
    | with_reducible refine fr_ite ?_ ?_
    | with_reducible refine fr_foldl ?_ (fun _ _ _ => ?_)
    | with_reducible refine fr_foldl_fst ?_ (fun _ _ _ => ?_)
    | with_reducible refine fr_foldl_snd ?_ (fun _ _ _ => ?_)
    | split
    | dsimp only

theorem fr_State_readBack {m : Nat} {s t : State} {a1 a2 a3 a4} (hM : Cov 2059932225370872777432142708833 m) (h : Fr m s t) :
    Fr m s (Sys2Proof.Machine.State.readBack t a1 a2 a3 a4) := by
  unfold Sys2Proof.Machine.State.readBack
  repeat' first
    | with_reducible assumption
    | with_reducible refine fr_State_fc (hM.sub (by decide)) ?_
    | with_reducible refine fr_State_modCore (hM.sub (by decide)) ?_
    | with_reducible refine fr_State_modCtx (hM.sub (by decide)) ?_
    | with_reducible refine fr_State_poisonEvent (hM.sub (by decide)) ?_
    | with_reducible refine fr_ite ?_ ?_
    | split
    | dsimp only

theorem fr_State_applyPkt {m : Nat} {s t : State} {a1 a2 a3 a4} (hM : Cov 3432790011556718060378148141147143834854897205924906942701 m) (h : Fr m s t) :
    Fr m s (Sys2Proof.Machine.State.applyPkt t a1 a2 a3 a4).1 := by
  unfold Sys2Proof.Machine.State.applyPkt
  repeat' first
    | with_reducible assumption
    | with_reducible refine fr_State_decodeErr (hM.sub (by decide)) ?_
    | with_reducible refine fr_State_storeMet (hM.sub (by decide)) ?_
    | with_reducible refine fr_State_queueCombine (hM.sub (by decide)) ?_
    | with_reducible refine fr_State_answerRead (hM.sub (by decide)) ?_
    | with_reducible refine fr_State_readBack (hM.sub (by decide)) ?_
    | with_reducible refine fr_State_store (hM.sub (by decide)) ?_
    | with_reducible refine fr_State_tokenIn (hM.sub (by decide)) ?_
    | with_reducible refine fr_State_hubMet (hM.sub (by decide)) ?_
    | with_reducible refine fr_State_poisonUnit (hM.sub (by decide)) ?_
    | with_reducible refine fr_State_storeLe (hM.sub (by decide)) ?_
    | with_reducible refine fr_State_applyDoorbell (hM.sub (by decide)) ?_
    | with_reducible refine fr_ite ?_ ?_
    | split
    | dsimp only
    | with_reducible refine fr_set_notices (hM.sub (by decide)) ?_

theorem fr_State_sendAck {m : Nat} {s t : State} {a1} (hM : Cov 5709034326966805404356467189747731811862839297 m) (h : Fr m s t) :
    Fr m s (Sys2Proof.Machine.State.sendAck t a1) := by
  unfold Sys2Proof.Machine.State.sendAck
  repeat' first
    | with_reducible assumption
    | with_reducible refine fr_State_connNote (hM.sub (by decide)) ?_
    | with_reducible refine fr_State_modConn (hM.sub (by decide)) ?_

theorem fr_State_applyIt {m : Nat} {s t : State} {a1 a2 a3 a4} (hM : Cov 3432790011556718060378148141147143834854897205924906942701 m) (h : Fr m s t) :
    Fr m s (Sys2Proof.Machine.State.applyIt t a1 a2 a3 a4) := by
  unfold Sys2Proof.Machine.State.applyIt
  repeat' first
    | with_reducible assumption
    | with_reducible refine fr_State_applyPkt (hM.sub (by decide)) ?_
    | with_reducible refine fr_State_modConn (hM.sub (by decide)) ?_
    | with_reducible refine fr_State_connNote (hM.sub (by decide)) ?_
    | with_reducible refine fr_ite ?_ ?_
    | split
    | dsimp only

theorem fr_State_sendAckAfter {m : Nat} {s t : State} {a1 a2} (hM : Cov 5709034326966805404356467189747731811862839297 m) (h : Fr m s t) :
    Fr m s (Sys2Proof.Machine.State.sendAckAfter t a1 a2) := by
  unfold Sys2Proof.Machine.State.sendAckAfter
  repeat' first
    | with_reducible assumption
    | with_reducible refine fr_State_sendAck (hM.sub (by decide)) ?_
    | with_reducible refine fr_State_fs (hM.sub (by decide)) ?_
    | with_reducible refine fr_State_modConn (hM.sub (by decide)) ?_

theorem fr_State_advance {m : Nat} {s t : State} {a1 a2} (hM : Cov 3432790011556718060378148141147143834854897205924906942701 m) (h : Fr m s t) :
    Fr m s (Sys2Proof.Machine.State.advance a1 a2 t) := by
  induction a1 generalizing a2 t with
  | zero =>
    unfold Sys2Proof.Machine.State.advance
    repeat' first
      | with_reducible assumption
      | with_reducible refine fr_State_sendAckAfter (hM.sub (by decide)) ?_
      | with_reducible refine fr_State_applyIt (hM.sub (by decide)) ?_
      | with_reducible refine fr_State_fs (hM.sub (by decide)) ?_
      | with_reducible refine fr_State_setConn (hM.sub (by decide)) ?_
      | with_reducible refine fr_ite ?_ ?_
      | split
      | dsimp only
  | succ n ih =>
    unfold Sys2Proof.Machine.State.advance
    repeat' first
      | with_reducible assumption
      | with_reducible apply ih
      | with_reducible refine fr_State_sendAckAfter (hM.sub (by decide)) ?_
      | with_reducible refine fr_State_applyIt (hM.sub (by decide)) ?_
      | with_reducible refine fr_State_fs (hM.sub (by decide)) ?_
      | with_reducible refine fr_State_setConn (hM.sub (by decide)) ?_
      | with_reducible refine fr_ite ?_ ?_
      | split
      | dsimp only

theorem fr_State_noteGap {m : Nat} {s t : State} {a1} (hM : Cov 262144 m) (h : Fr m s t) :
    Fr m s (Sys2Proof.Machine.State.noteGap t a1) := by
  unfold Sys2Proof.Machine.State.noteGap
  repeat' first
    | with_reducible assumption
    | with_reducible refine fr_State_setConn (hM.sub (by decide)) ?_
    | dsimp only

theorem fr_State_connAdvance {m : Nat} {s t : State} {a1} (hM : Cov 3432790011556718060378148141147143834854897205924906942701 m) (h : Fr m s t) :
    Fr m s (Sys2Proof.Machine.State.connAdvance t a1) := by
  unfold Sys2Proof.Machine.State.connAdvance
  repeat' first
    | with_reducible assumption
    | with_reducible refine fr_State_noteGap (hM.sub (by decide)) ?_
    | with_reducible refine fr_State_advance (hM.sub (by decide)) ?_

theorem fr_State_connsAdvance {m : Nat} {s t : State} (hM : Cov 3432790011556718060378148141147143834854897205924906942701 m) (h : Fr m s t) :
    Fr m s (Sys2Proof.Machine.State.connsAdvance t) := by
  unfold Sys2Proof.Machine.State.connsAdvance
  repeat' first
    | with_reducible assumption
    | with_reducible refine fr_State_connAdvance (hM.sub (by decide)) ?_
    | with_reducible refine fr_ite ?_ ?_
    | with_reducible refine fr_foldl ?_ (fun _ _ _ => ?_)
    | with_reducible refine fr_foldl_fst ?_ (fun _ _ _ => ?_)
    | with_reducible refine fr_foldl_snd ?_ (fun _ _ _ => ?_)
    | split
    | dsimp only

theorem fr_State_nakConn {m : Nat} {s t : State} {a1} (hM : Cov 2860114127854518298025279180416903630547320833 m) (h : Fr m s t) :
    Fr m s (Sys2Proof.Machine.State.nakConn t a1) := by
  unfold Sys2Proof.Machine.State.nakConn
  repeat' first
    | with_reducible assumption
    | with_reducible refine fr_State_fc (hM.sub (by decide)) ?_
    | with_reducible refine fr_State_inject (hM.sub (by decide)) ?_
    | with_reducible refine fr_ite ?_ ?_
    | split
    | dsimp only
    | with_reducible refine fr_set_nakAt (hM.sub (by decide)) ?_

theorem fr_State_noteCe {m : Nat} {s t : State} {a1 a2} (hM : Cov 22836006639438323977055898823141673448455798785 m) (h : Fr m s t) :
    Fr m s (Sys2Proof.Machine.State.noteCe t a1 a2) := by
  unfold Sys2Proof.Machine.State.noteCe
  repeat' first
    | with_reducible assumption
    | with_reducible refine fr_State_fc (hM.sub (by decide)) ?_
    | with_reducible refine fr_State_connNote (hM.sub (by decide)) ?_
    | with_reducible refine fr_State_modConn (hM.sub (by decide)) ?_
    | with_reducible refine fr_ite ?_ ?_
    | split
    | dsimp only

theorem fr_State_countArrival {m : Nat} {s t : State} {a1} (hM : Cov 5709034326966805404356467189747731811862839297 m) (h : Fr m s t) :
    Fr m s (Sys2Proof.Machine.State.countArrival t a1) := by
  unfold Sys2Proof.Machine.State.countArrival
  repeat' first
    | with_reducible assumption
    | with_reducible refine fr_State_modConn (hM.sub (by decide)) ?_
    | with_reducible refine fr_State_sendAck (hM.sub (by decide)) ?_
    | with_reducible refine fr_ite ?_ ?_
    | split
    | dsimp only

theorem fr_State_connRecv {m : Nat} {s t : State} {a1 a2 a3} (hM : Cov 3432790011582414094033155051661978366234556280471246618861 m) (h : Fr m s t) :
    Fr m s (Sys2Proof.Machine.State.connRecv t a1 a2 a3) := by
  unfold Sys2Proof.Machine.State.connRecv
  repeat' first
    | with_reducible assumption
    | with_reducible refine fr_State_nakConn (hM.sub (by decide)) ?_
    | with_reducible refine fr_State_sendAck (hM.sub (by decide)) ?_
    | with_reducible refine fr_State_fc (hM.sub (by decide)) ?_
    | with_reducible refine fr_State_noteGap (hM.sub (by decide)) ?_
    | with_reducible refine fr_State_countArrival (hM.sub (by decide)) ?_
    | with_reducible refine fr_State_noteCe (hM.sub (by decide)) ?_
    | with_reducible refine fr_State_setConn (hM.sub (by decide)) ?_
    | with_reducible refine fr_State_connAdvance (hM.sub (by decide)) ?_
    | with_reducible refine fr_State_applyIt (hM.sub (by decide)) ?_
    | with_reducible refine fr_ite ?_ ?_
    | split
    | dsimp only

theorem fr_State_combineApplied {m : Nat} {s t : State} {a1 a2} (hM : Cov 3432790011556718060378148141147143834854897205924906942701 m) (h : Fr m s t) :
    Fr m s (Sys2Proof.Machine.State.combineApplied t a1 a2) := by
  unfold Sys2Proof.Machine.State.combineApplied
  repeat' first
    | with_reducible assumption
    | with_reducible refine fr_State_connAdvance (hM.sub (by decide)) ?_
    | with_reducible refine fr_State_modConn (hM.sub (by decide)) ?_
    | split

end Sys2Proof.Laws
end

