-- ==== Sys2Proof/Laws/FrameFetch.lean ====
section
/-! SUPPORT. What the functions of Machine/Fetch.lean may change. -/

namespace Sys2Proof.Laws

open Sys2Proof.Machine

theorem fr_State_addFetch {m : Nat} {s t : State} {a1 a2} (hM : Cov 274877907008 m) (h : Fr m s t) :
    Fr m s (Sys2Proof.Machine.State.addFetch t a1 a2) := by
  unfold Sys2Proof.Machine.State.addFetch
  repeat' first
    | with_reducible assumption
    | with_reducible refine fr_State_modCore (hM.sub (by decide)) ?_
    | with_reducible refine fr_foldl ?_ (fun _ _ _ => ?_)
    | with_reducible refine fr_foldl_fst ?_ (fun _ _ _ => ?_)
    | with_reducible refine fr_foldl_snd ?_ (fun _ _ _ => ?_)
    | dsimp only
    | with_reducible refine fr_set_nextTag (hM.sub (by decide)) ?_

theorem fr_State_fetchOperand {m : Nat} {s t : State} {a1 a2 a3 a4} (hM : Cov 274877907008 m) (h : Fr m s t) :
    Fr m s (Sys2Proof.Machine.State.fetchOperand t a1 a2 a3 a4) := by
  unfold Sys2Proof.Machine.State.fetchOperand
  repeat' first
    | with_reducible assumption
    | with_reducible refine fr_State_addFetch (hM.sub (by decide)) ?_
    | with_reducible refine fr_State_modCore (hM.sub (by decide)) ?_
    | with_reducible refine fr_ite ?_ ?_
    | with_reducible refine fr_foldl ?_ (fun _ _ _ => ?_)
    | with_reducible refine fr_foldl_fst ?_ (fun _ _ _ => ?_)
    | with_reducible refine fr_foldl_snd ?_ (fun _ _ _ => ?_)
    | split
    | dsimp only

theorem fr_State_fetchIndex {m : Nat} {s t : State} {a1 a2 a3} (hM : Cov 274877907008 m) (h : Fr m s t) :
    Fr m s (Sys2Proof.Machine.State.fetchIndex t a1 a2 a3) := by
  unfold Sys2Proof.Machine.State.fetchIndex
  repeat' first
    | with_reducible assumption
    | with_reducible refine fr_State_fetchOperand (hM.sub (by decide)) ?_
    | with_reducible refine fr_ite ?_ ?_
    | with_reducible refine fr_foldl ?_ (fun _ _ _ => ?_)
    | with_reducible refine fr_foldl_fst ?_ (fun _ _ _ => ?_)
    | with_reducible refine fr_foldl_snd ?_ (fun _ _ _ => ?_)
    | split

theorem fr_State_landBlock {m : Nat} {s t : State} {a1 a2 a3 a4} (hM : Cov 1152921504606846988 m) (h : Fr m s t) :
    Fr m s (Sys2Proof.Machine.State.landBlock t a1 a2 a3 a4).1 := by
  unfold Sys2Proof.Machine.State.landBlock
  repeat' first
    | with_reducible assumption
    | with_reducible refine fr_State_store (hM.sub (by decide)) ?_
    | with_reducible refine fr_ite ?_ ?_
    | with_reducible refine fr_foldl ?_ (fun _ _ _ => ?_)
    | with_reducible refine fr_foldl_fst ?_ (fun _ _ _ => ?_)
    | with_reducible refine fr_foldl_snd ?_ (fun _ _ _ => ?_)
    | split
    | dsimp only

theorem fr_State_landBlocks {m : Nat} {s t : State} {a1 a2} (hM : Cov 1152921504606846988 m) (h : Fr m s t) :
    Fr m s (Sys2Proof.Machine.State.landBlocks t a1 a2).1 := by
  unfold Sys2Proof.Machine.State.landBlocks
  repeat' first
    | with_reducible assumption
    | with_reducible refine fr_State_landBlock (hM.sub (by decide)) ?_
    | with_reducible refine fr_ite ?_ ?_
    | with_reducible refine fr_foldl ?_ (fun _ _ _ => ?_)
    | with_reducible refine fr_foldl_fst ?_ (fun _ _ _ => ?_)
    | with_reducible refine fr_foldl_snd ?_ (fun _ _ _ => ?_)
    | split
    | dsimp only

theorem fr_State_landTile {m : Nat} {s t : State} {a1 a2} (hM : Cov 141976867225562845889135365849197 m) (h : Fr m s t) :
    Fr m s (Sys2Proof.Machine.State.landTile t a1 a2) := by
  unfold Sys2Proof.Machine.State.landTile
  repeat' first
    | with_reducible assumption
    | with_reducible refine fr_State_landBlocks (hM.sub (by decide)) ?_
    | with_reducible refine fr_State_events (hM.sub (by decide)) ?_
    | with_reducible refine fr_State_modCore (hM.sub (by decide)) ?_
    | with_reducible refine fr_ite ?_ ?_
    | with_reducible refine fr_foldl ?_ (fun _ _ _ => ?_)
    | with_reducible refine fr_foldl_fst ?_ (fun _ _ _ => ?_)
    | with_reducible refine fr_foldl_snd ?_ (fun _ _ _ => ?_)
    | split
    | dsimp only

theorem fr_State_fetchLanded {m : Nat} {s t : State} {a1 a2} (hM : Cov 141976867225562845889135365849197 m) (h : Fr m s t) :
    Fr m s (Sys2Proof.Machine.State.fetchLanded t a1 a2) := by
  unfold Sys2Proof.Machine.State.fetchLanded
  repeat' first
    | with_reducible assumption
    | with_reducible refine fr_State_landTile (hM.sub (by decide)) ?_
    | with_reducible refine fr_ite ?_ ?_
    | split

theorem fr_State_readMet {m : Nat} {s t : State} {a1 a2 a3 a4 a5 a6} (hM : Cov 3432790011539591044424462903180173774212654036579050864653 m) (h : Fr m s t) :
    Fr m s (Sys2Proof.Machine.State.readMet t a1 a2 a3 a4 a5 a6) := by
  unfold Sys2Proof.Machine.State.readMet
  repeat' first
    | with_reducible assumption
    | with_reducible refine fr_State_unitMet (hM.sub (by decide)) ?_
    | with_reducible refine fr_State_fc (hM.sub (by decide)) ?_
    | with_reducible refine fr_State_parityRec (hM.sub (by decide)) ?_
    | with_reducible refine fr_State_sramRec (hM.sub (by decide)) ?_
    | split
    | dsimp only

theorem fr_State_streamMet {m : Nat} {s t : State} {a1 a2 a3 a4} (hM : Cov 3432790011539591044424462903180173774212654036579050864653 m) (h : Fr m s t) :
    Fr m s (Sys2Proof.Machine.State.streamMet t a1 a2 a3 a4) := by
  unfold Sys2Proof.Machine.State.streamMet
  repeat' first
    | with_reducible assumption
    | with_reducible refine fr_State_fc (hM.sub (by decide)) ?_
    | with_reducible refine fr_State_listMet (hM.sub (by decide)) ?_
    | dsimp only

theorem fr_State_formReads {m : Nat} {s t : State} {a1 a2} (hM : Cov 274877907008 m) (h : Fr m s t) :
    Fr m s (Sys2Proof.Machine.State.formReads t a1 a2) := by
  unfold Sys2Proof.Machine.State.formReads
  repeat' first
    | with_reducible assumption
    | with_reducible refine fr_State_modCore (hM.sub (by decide)) ?_
    | with_reducible refine fr_set_nextTag (hM.sub (by decide)) ?_

theorem fr_State_seenGot {m : Nat} {s t : State} {a1} (hM : Cov 1152921504606846988 m) (h : Fr m s t) :
    Fr m s (Sys2Proof.Machine.State.seenGot t a1) := by
  unfold Sys2Proof.Machine.State.seenGot
  repeat' first
    | with_reducible assumption
    | with_reducible refine fr_foldl ?_ (fun _ _ _ => ?_)
    | with_reducible refine fr_foldl_fst ?_ (fun _ _ _ => ?_)
    | with_reducible refine fr_foldl_snd ?_ (fun _ _ _ => ?_)
    | dsimp only
    | exact fun k => smWf_foldl _ (fun _ _ k' => putBytes_wf _ _ k') _ k
    | exact fun k => smWf_foldl _ (fun _ _ k' => smWf_put _ _ _ k') _ (smWf_foldl _ (fun _ _ k' => smWf_put _ _ _ k') _ k)
    | with_reducible refine fr_set_mem_marks (hM.sub (by decide)) ?_ ?_ ?_
    | exact fun k => k
    | exact fun k => smWf_filter _ _ k
    | exact fun _ => rfl
    | exact fun k => smWf_foldl _ (fun _ _ k' => smWf_put _ _ _ k') _ k

theorem fr_State_readLanded {m : Nat} {s t : State} {a1 a2 a3 a4 a5} (hM : Cov 64 m) (h : Fr m s t) :
    Fr m s (Sys2Proof.Machine.State.readLanded t a1 a2 a3 a4 a5) := by
  unfold Sys2Proof.Machine.State.readLanded
  repeat' first
    | with_reducible assumption
    | with_reducible refine fr_State_modCore (hM.sub (by decide)) ?_
    | with_reducible refine fr_ite ?_ ?_
    | split
    | dsimp only

end Sys2Proof.Laws
end

