-- ==== Sys2Proof/Laws/FrameMatrix.lean ====
section
/-! SUPPORT. What the functions of Machine/Matrix.lean may change. -/

namespace Sys2Proof.Laws

open Sys2Proof.Machine

theorem fr_State_stray {m : Nat} {s t : State} {a1} (hM : Cov 85070591730234615865843651857942052865 m) (h : Fr m s t) :
    Fr m s (Sys2Proof.Machine.State.stray t a1) := by
  unfold Sys2Proof.Machine.State.stray
  repeat' first
    | with_reducible assumption
    | with_reducible refine fr_State_decodeErr (hM.sub (by decide)) ?_
    | with_reducible refine fr_ite ?_ ?_
    | split

theorem fr_State_endSetup {m : Nat} {s t : State} {a1 a2 a3} (hM : Cov 32 m) (h : Fr m s t) :
    Fr m s (Sys2Proof.Machine.State.endSetup t a1 a2 a3) := by
  unfold Sys2Proof.Machine.State.endSetup
  repeat' first
    | with_reducible assumption
    | with_reducible refine fr_State_modRun (hM.sub (by decide)) ?_
    | with_reducible refine fr_State_descError (hM.sub (by decide)) ?_

theorem fr_matrixSetup {m : Nat} {s t : State} {a1 a2 a3} (hM : Cov 3432790011539591044509533634351974415183731853074345508909 m) (h : Fr m s t) :
    Fr m s (Sys2Proof.Machine.matrixSetup a1 a2 a3 t) := by
  unfold Sys2Proof.Machine.matrixSetup
  repeat' first
    | with_reducible assumption
    | with_reducible refine fr_State_endSetup (hM.sub (by decide)) ?_
    | with_reducible refine fr_State_stray (hM.sub (by decide)) ?_
    | with_reducible refine fr_State_listMet (hM.sub (by decide)) ?_
    | with_reducible refine fr_State_seenList (hM.sub (by decide)) ?_
    | with_reducible refine fr_State_setRun (hM.sub (by decide)) ?_
    | with_reducible refine fr_State_sticky (hM.sub (by decide)) ?_
    | with_reducible refine fr_State_modRun (hM.sub (by decide)) ?_
    | with_reducible refine fr_ite ?_ ?_
    | split
    | dsimp only

theorem fr_groupWrite {m : Nat} {s t : State} {a1 a2 a3} (hM : Cov 885443715538058481665 m) (h : Fr m s t) :
    Fr m s (Sys2Proof.Machine.groupWrite a1 a2 a3 t) := by
  unfold Sys2Proof.Machine.groupWrite
  repeat' first
    | with_reducible assumption
    | with_reducible refine fr_State_fs (hM.sub (by decide)) ?_
    | with_reducible refine fr_State_applyGroup (hM.sub (by decide)) ?_
    | with_reducible refine fr_ite ?_ ?_
    | split
    | dsimp only
    | with_reducible refine fr_set_groupPend (hM.sub (by decide)) ?_

theorem fr_State_abandonOpen {m : Nat} {s t : State} {a1 a2 a3} (hM : Cov 96 m) (h : Fr m s t) :
    Fr m s (Sys2Proof.Machine.State.abandonOpen t a1 a2 a3) := by
  unfold Sys2Proof.Machine.State.abandonOpen
  repeat' first
    | with_reducible assumption
    | with_reducible refine fr_State_undef (hM.sub (by decide)) ?_
    | with_reducible refine fr_State_modCore (hM.sub (by decide)) ?_
    | with_reducible refine fr_ite ?_ ?_
    | with_reducible refine fr_foldl ?_ (fun _ _ _ => ?_)
    | with_reducible refine fr_foldl_fst ?_ (fun _ _ _ => ?_)
    | with_reducible refine fr_foldl_snd ?_ (fun _ _ _ => ?_)
    | split
    | dsimp only

theorem fr_State_checkMatrix {m : Nat} {s t : State} {a1} (hM : Cov 32 m) (h : Fr m s t) :
    Fr m s (Sys2Proof.Machine.State.checkMatrix t a1) := by
  unfold Sys2Proof.Machine.State.checkMatrix
  repeat' first
    | with_reducible assumption
    | with_reducible refine fr_State_modRun (hM.sub (by decide)) ?_
    | with_reducible refine fr_ite ?_ ?_
    | split

theorem fr_State_resourceFault {m : Nat} {s t : State} {a1 a2 a3 a4 a5 a6 a7} (hM : Cov 270800564185297652545486945 m) (h : Fr m s t) :
    Fr m s (Sys2Proof.Machine.State.resourceFault t a1 a2 a3 a4 a5 a6 a7) := by
  unfold Sys2Proof.Machine.State.resourceFault
  repeat' first
    | with_reducible assumption
    | with_reducible refine fr_State_fs (hM.sub (by first | decide | (dsimp only; decide) | (dsimp only [clkField]; decide) | (split <;> decide))) ?_
    | with_reducible refine fr_State_modRun (hM.sub (by decide)) ?_
    | with_reducible refine fr_State_fail (hM.sub (by decide)) ?_
    | with_reducible refine fr_State_abandonOpen (hM.sub (by decide)) ?_
    | with_reducible refine fr_State_checkMatrix (hM.sub (by decide)) ?_
    | with_reducible refine fr_State_modCore (hM.sub (by decide)) ?_
    | with_reducible refine fr_ite ?_ ?_
    | with_reducible refine fr_foldl ?_ (fun _ _ _ => ?_)
    | with_reducible refine fr_foldl_fst ?_ (fun _ _ _ => ?_)
    | with_reducible refine fr_foldl_snd ?_ (fun _ _ _ => ?_)
    | split
    | dsimp only

theorem fr_State_handIndex {m : Nat} {s t : State} {a1 a2} (hM : Cov 348171816640633919726682209 m) (h : Fr m s t) :
    Fr m s (Sys2Proof.Machine.State.handIndex t a1 a2) := by
  unfold Sys2Proof.Machine.State.handIndex
  repeat' first
    | with_reducible assumption
    | with_reducible refine fr_State_modCore (hM.sub (by decide)) ?_
    | with_reducible refine fr_State_modRun (hM.sub (by decide)) ?_
    | with_reducible refine fr_State_fc (hM.sub (by decide)) ?_
    | with_reducible refine fr_State_fs (hM.sub (by decide)) ?_
    | dsimp only

theorem fr_State_stopTaking {m : Nat} {s t : State} {a1 a2} (hM : Cov 32 m) (h : Fr m s t) :
    Fr m s (Sys2Proof.Machine.State.stopTaking t a1 a2) := by
  unfold Sys2Proof.Machine.State.stopTaking
  repeat' first
    | with_reducible assumption
    | with_reducible refine fr_State_modRun (hM.sub (by decide)) ?_
    | with_reducible refine fr_ite ?_ ?_
    | split

theorem fr_State_takeMatrix {m : Nat} {s t : State} {a1 a2} (hM : Cov 580285574006642996148174945 m) (h : Fr m s t) :
    Fr m s (Sys2Proof.Machine.State.takeMatrix t a1 a2) := by
  unfold Sys2Proof.Machine.State.takeMatrix
  repeat' first
    | with_reducible assumption
    | with_reducible refine fr_State_checkMatrix (hM.sub (by decide)) ?_
    | with_reducible refine fr_State_stopTaking (hM.sub (by decide)) ?_
    | with_reducible refine fr_State_resourceFault (hM.sub (by decide)) ?_
    | with_reducible refine fr_State_handIndex (hM.sub (by decide)) ?_
    | with_reducible refine fr_State_fetchIndex (hM.sub (by decide)) ?_
    | with_reducible refine fr_State_modCore (hM.sub (by decide)) ?_
    | with_reducible refine fr_ite ?_ ?_
    | split
    | dsimp only

theorem fr_State_fetchRound {m : Nat} {s t : State} {a1 a2 a3 a4} (hM : Cov 270800564185297927423393889 m) (h : Fr m s t) :
    Fr m s (Sys2Proof.Machine.State.fetchRound t a1 a2 a3 a4) := by
  unfold Sys2Proof.Machine.State.fetchRound
  repeat' first
    | with_reducible assumption
    | with_reducible refine fr_State_resourceFault (hM.sub (by decide)) ?_
    | with_reducible refine fr_State_modCore (hM.sub (by decide)) ?_
    | with_reducible refine fr_State_addFetch (hM.sub (by decide)) ?_
    | with_reducible refine fr_ite ?_ ?_
    | with_reducible refine fr_foldl ?_ (fun _ _ _ => ?_)
    | with_reducible refine fr_foldl_fst ?_ (fun _ _ _ => ?_)
    | with_reducible refine fr_foldl_snd ?_ (fun _ _ _ => ?_)
    | split
    | dsimp only

theorem fr_multicastFetch {m : Nat} {s t : State} {a1 a2} (hM : Cov 270800564185297927423393889 m) (h : Fr m s t) :
    Fr m s (Sys2Proof.Machine.multicastFetch a1 a2 t) := by
  unfold Sys2Proof.Machine.multicastFetch
  repeat' first
    | with_reducible assumption
    | with_reducible refine fr_State_modRun (hM.sub (by decide)) ?_
    | with_reducible refine fr_State_fetchRound (hM.sub (by decide)) ?_
    | with_reducible refine fr_ite ?_ ?_
    | split
    | dsimp only

theorem fr_slotAllocation {m : Nat} {s t : State} {a1 a2} (hM : Cov 270800564185297652545486945 m) (h : Fr m s t) :
    Fr m s (Sys2Proof.Machine.slotAllocation a1 a2 t) := by
  unfold Sys2Proof.Machine.slotAllocation
  repeat' first
    | with_reducible assumption
    | with_reducible refine fr_State_resourceFault (hM.sub (by decide)) ?_
    | with_reducible refine fr_State_modEng (hM.sub (by decide)) ?_
    | with_reducible refine fr_ite ?_ ?_
    | split
    | dsimp only

theorem fr_State_runSegment {m : Nat} {s t : State} {a1 a2 a3 a4 a5 a6 a7} (hM : Cov 16 m) (h : Fr m s t) :
    Fr m s (Sys2Proof.Machine.State.runSegment t a1 a2 a3 a4 a5 a6 a7).1 := by
  unfold Sys2Proof.Machine.State.runSegment
  repeat' first
    | with_reducible assumption
    | with_reducible refine fr_ite ?_ ?_
    | with_reducible refine fr_foldl ?_ (fun _ _ _ => ?_)
    | with_reducible refine fr_foldl_fst ?_ (fun _ _ _ => ?_)
    | with_reducible refine fr_foldl_snd ?_ (fun _ _ _ => ?_)
    | split
    | dsimp only
    | with_reducible refine fr_set_acc (hM.sub (by decide)) ?_ ?_
    | exact fun k => k
    | exact fun k => smWf_filter _ _ k
    | exact fun _ => rfl
    | exact fun k => smWf_foldl _ (fun _ _ k' => smWf_put _ _ _ k') _ k
    | exact fun k => promoteTile_wf _ _ _ _ _ _ _ k
    | exact fun k => promoteTile32_wf _ _ _ _ k

theorem fr_State_feederMet {m : Nat} {s t : State} {a1 a2 a3 a4} (hM : Cov 3432790011539591042723051066040180256438169273753965445133 m) (h : Fr m s t) :
    Fr m s (Sys2Proof.Machine.State.feederMet t a1 a2 a3 a4) := by
  unfold Sys2Proof.Machine.State.feederMet
  repeat' first
    | with_reducible assumption
    | with_reducible refine fr_State_fc (hM.sub (by decide)) ?_
    | with_reducible refine fr_State_parityRec (hM.sub (by decide)) ?_
    | with_reducible refine fr_State_sramRec (hM.sub (by decide)) ?_
    | with_reducible refine fr_ite ?_ ?_
    | split

theorem fr_segmentIssue {m : Nat} {s t : State} {a1 a2 a3} (hM : Cov 3432790011539591042723051208019523362078433001934522695805 m) (h : Fr m s t) :
    Fr m s (Sys2Proof.Machine.segmentIssue a1 a2 a3 t) := by
  unfold Sys2Proof.Machine.segmentIssue
  repeat' first
    | with_reducible assumption
    | with_reducible refine fr_State_runSegment (hM.sub (by decide)) ?_
    | with_reducible refine fr_State_modCore (hM.sub (by decide)) ?_
    | with_reducible refine fr_State_fc (hM.sub (by decide)) ?_
    | with_reducible refine fr_State_events (hM.sub (by decide)) ?_
    | with_reducible refine fr_State_feederMet (hM.sub (by decide)) ?_
    | with_reducible refine fr_ite ?_ ?_
    | split
    | dsimp only

theorem fr_State_accUe {m : Nat} {s t : State} {a1 a2 a3 a4} (hM : Cov 3432790011539591042723051066059987297066735358152351432717 m) (h : Fr m s t) :
    Fr m s (Sys2Proof.Machine.State.accUe t a1 a2 a3 a4) := by
  unfold Sys2Proof.Machine.State.accUe
  repeat' first
    | with_reducible assumption
    | with_reducible refine fr_State_sramRec (hM.sub (by decide)) ?_
    | with_reducible refine fr_State_fs (hM.sub (by decide)) ?_

theorem fr_State_accFail {m : Nat} {s t : State} {a1 a2 a3 a4} (hM : Cov 3432790011539591042723051066059987297066735358152351432781 m) (h : Fr m s t) :
    Fr m s (Sys2Proof.Machine.State.accFail t a1 a2 a3 a4) := by
  unfold Sys2Proof.Machine.State.accFail
  repeat' first
    | with_reducible assumption
    | with_reducible refine fr_State_modEng (hM.sub (by decide)) ?_
    | with_reducible refine fr_State_accUe (hM.sub (by decide)) ?_
    | split
    | dsimp only

theorem fr_State_accRead {m : Nat} {s t : State} {a1 a2 a3 a4 a5} (hM : Cov 3432790011539591042723051066059987297066735358152351432781 m) (h : Fr m s t) :
    Fr m s (Sys2Proof.Machine.State.accRead t a1 a2 a3 a4 a5) := by
  unfold Sys2Proof.Machine.State.accRead
  repeat' first
    | with_reducible assumption
    | with_reducible refine fr_State_fc (hM.sub (by decide)) ?_
    | with_reducible refine fr_State_accFail (hM.sub (by decide)) ?_
    | split

theorem fr_segmentComplete {m : Nat} {s t : State} {a1 a2 a3} (hM : Cov 3432790011539591042723051066059987297066735358152351432781 m) (h : Fr m s t) :
    Fr m s (Sys2Proof.Machine.segmentComplete a1 a2 a3 t) := by
  unfold Sys2Proof.Machine.segmentComplete
  repeat' first
    | with_reducible assumption
    | with_reducible refine fr_State_accRead (hM.sub (by decide)) ?_
    | with_reducible refine fr_State_modEng (hM.sub (by decide)) ?_
    | with_reducible refine fr_ite ?_ ?_
    | split
    | dsimp only

theorem fr_int32Repeat {m : Nat} {s t : State} {a1 a2 a3 a4 a5 a6} (hM : Cov 3432790011539591044424463045347683765824295566544274997373 m) (h : Fr m s t) :
    Fr m s (Sys2Proof.Machine.int32Repeat a1 a2 a3 a4 a5 a6 t) := by
  unfold Sys2Proof.Machine.int32Repeat
  repeat' first
    | with_reducible assumption
    | with_reducible refine fr_State_streamMet (hM.sub (by decide)) ?_
    | with_reducible refine fr_State_runSegment (hM.sub (by decide)) ?_
    | with_reducible refine fr_State_seenList (hM.sub (by decide)) ?_
    | with_reducible refine fr_State_modEng (hM.sub (by decide)) ?_
    | with_reducible refine fr_State_sticky (hM.sub (by decide)) ?_
    | with_reducible refine fr_State_fc (hM.sub (by decide)) ?_
    | with_reducible refine fr_State_modRun (hM.sub (by decide)) ?_
    | with_reducible refine fr_State_accRead (hM.sub (by decide)) ?_
    | with_reducible refine fr_State_feederMet (hM.sub (by decide)) ?_
    | with_reducible refine fr_ite ?_ ?_
    | with_reducible refine fr_foldl ?_ (fun _ _ _ => ?_)
    | with_reducible refine fr_foldl_fst ?_ (fun _ _ _ => ?_)
    | with_reducible refine fr_foldl_snd ?_ (fun _ _ _ => ?_)
    | split
    | dsimp only
    | with_reducible refine fr_acc_of (hM.sub (by decide)) ?_ ?_

theorem fr_execMatrix {m : Nat} {s t : State} {a1 a2} (hM : Cov 3432790011539591044509533634351974415183731853074345508909 m) (h : Fr m s t) :
    ∀ u, Sys2Proof.Machine.execMatrix a1 a2 t = .next u → Fr m s u := by
  intro u e
  cases e
  repeat' first
    | with_reducible assumption
    | with_reducible refine fr_matrixSetup (hM.sub (by decide)) ?_

theorem fr_execDecant {m : Nat} {s t : State} {a1 a2} (hM : Cov 3432790011539591044509533634351974415183731853074345508909 m) (h : Fr m s t) :
    ∀ u, Sys2Proof.Machine.execDecant a1 a2 t = .next u → Fr m s u := by
  intro u e
  cases e
  repeat' first
    | with_reducible assumption
    | with_reducible refine fr_matrixSetup (hM.sub (by decide)) ?_

theorem fr_execMulticastFetch {m : Nat} {s t : State} {a1 a2} (hM : Cov 270800564185297927423393889 m) (h : Fr m s t) :
    ∀ u, Sys2Proof.Machine.execMulticastFetch a1 a2 t = .next u → Fr m s u := by
  intro u e
  cases e
  repeat' first
    | with_reducible assumption
    | with_reducible refine fr_multicastFetch (hM.sub (by decide)) ?_

theorem fr_execSlotAllocation {m : Nat} {s t : State} {a1 a2} (hM : Cov 270800564185297652545486945 m) (h : Fr m s t) :
    ∀ u, Sys2Proof.Machine.execSlotAllocation a1 a2 t = .next u → Fr m s u := by
  intro u e
  cases e
  repeat' first
    | with_reducible assumption
    | with_reducible refine fr_slotAllocation (hM.sub (by decide)) ?_

theorem fr_execSegmentIssue {m : Nat} {s t : State} {a1 a2 a3} (hM : Cov 3432790011539591042723051208019523362078433001934522695805 m) (h : Fr m s t) :
    ∀ u, Sys2Proof.Machine.execSegmentIssue a1 a2 a3 t = .next u → Fr m s u := by
  intro u e
  cases e
  repeat' first
    | with_reducible assumption
    | with_reducible refine fr_segmentIssue (hM.sub (by decide)) ?_

theorem fr_execSegmentComplete {m : Nat} {s t : State} {a1 a2 a3} (hM : Cov 3432790011539591042723051066059987297066735358152351432781 m) (h : Fr m s t) :
    ∀ u, Sys2Proof.Machine.execSegmentComplete a1 a2 a3 t = .next u → Fr m s u := by
  intro u e
  cases e
  repeat' first
    | with_reducible assumption
    | with_reducible refine fr_segmentComplete (hM.sub (by decide)) ?_

theorem fr_execInt32Repeat {m : Nat} {s t : State} {a1 a2 a3} (hM : Cov 3432790011539591044424463045347683765824295566544274997373 m) (h : Fr m s t) :
    ∀ u, Sys2Proof.Machine.execInt32Repeat a1 a2 a3 t = .next u → Fr m s u := by
  intro u e
  cases e
  repeat' first
    | with_reducible assumption
    | with_reducible refine fr_int32Repeat (hM.sub (by decide)) ?_

end Sys2Proof.Laws
end

