-- ==== Sys2Proof/Laws/FrameDecant.lean ====
section
/-! SUPPORT. What the functions of Machine/Decant.lean may change. -/

namespace Sys2Proof.Laws

open Sys2Proof.Machine

theorem fr_State_setScale {m : Nat} {s t : State} {a1 a2} (hM : Cov 256 m) (h : Fr m s t) :
    Fr m s (Sys2Proof.Machine.State.setScale t a1 a2) := by
  unfold Sys2Proof.Machine.State.setScale
  repeat' first
    | with_reducible assumption
    | with_reducible refine fr_set_scales (hM.sub (by decide)) ?_

theorem fr_State_scaleEcc {m : Nat} {s t : State} {a1 a2} (hM : Cov 3432790011539591042723051066040180256438169273753965445389 m) (h : Fr m s t) :
    Fr m s (Sys2Proof.Machine.State.scaleEcc t a1 a2) := by
  unfold Sys2Proof.Machine.State.scaleEcc
  repeat' first
    | with_reducible assumption
    | with_reducible refine fr_State_ctlMet (hM.sub (by decide)) ?_ (fun _ _ => ?_)
    | with_reducible refine fr_State_setScale (hM.sub (by decide)) ?_

theorem fr_State_track {m : Nat} {s t : State} {a1 a2 a3} (hM : Cov 256 m) (h : Fr m s t) :
    Fr m s (Sys2Proof.Machine.State.track t a1 a2 a3) := by
  unfold Sys2Proof.Machine.State.track
  repeat' first
    | with_reducible assumption
    | with_reducible refine fr_State_setScale (hM.sub (by decide)) ?_
    | with_reducible refine fr_ite ?_ ?_
    | split
    | dsimp only

theorem fr_State_placeStaged {m : Nat} {s t : State} {a1} (hM : Cov 1152921504606846988 m) (h : Fr m s t) :
    Fr m s (Sys2Proof.Machine.State.placeStaged t a1) := by
  unfold Sys2Proof.Machine.State.placeStaged
  repeat' first
    | with_reducible assumption
    | with_reducible refine fr_State_store (hM.sub (by decide)) ?_
    | with_reducible refine fr_foldl ?_ (fun _ _ _ => ?_)
    | with_reducible refine fr_foldl_fst ?_ (fun _ _ _ => ?_)
    | with_reducible refine fr_foldl_snd ?_ (fun _ _ _ => ?_)
    | dsimp only

theorem fr_State_sweepRun {m : Nat} {s t : State} {a1 a2 a3 a4 a5 a6 a7} (hM : Cov 3432790011539591042723051066069890817382171321856151273549 m) (h : Fr m s t) :
    Fr m s (Sys2Proof.Machine.State.sweepRun t a1 a2 a3 a4 a5 a6 a7) := by
  unfold Sys2Proof.Machine.State.sweepRun
  repeat' first
    | with_reducible assumption
    | with_reducible refine fr_State_accRead (hM.sub (by decide)) ?_
    | with_reducible refine fr_State_fc (hM.sub (by first | decide | (dsimp only; decide) | (dsimp only [clkField]; decide) | (split <;> decide))) ?_
    | with_reducible refine fr_State_sramRec (hM.sub (by decide)) ?_
    | with_reducible refine fr_State_seenGot (hM.sub (by decide)) ?_
    | with_reducible refine fr_State_modEng (hM.sub (by decide)) ?_
    | with_reducible refine fr_State_placeStaged (hM.sub (by decide)) ?_
    | with_reducible refine fr_foldl ?_ (fun _ _ _ => ?_)
    | with_reducible refine fr_foldl_fst ?_ (fun _ _ _ => ?_)
    | with_reducible refine fr_foldl_snd ?_ (fun _ _ _ => ?_)
    | split
    | dsimp only

theorem fr_decantSweep {m : Nat} {s t : State} {a1 a2 a3 a4} (hM : Cov 3432790011539591042723051066070161617946356619783574667373 m) (h : Fr m s t) :
    Fr m s (Sys2Proof.Machine.decantSweep a1 a2 a3 a4 t) := by
  unfold Sys2Proof.Machine.decantSweep
  repeat' first
    | with_reducible assumption
    | with_reducible refine fr_State_resourceFault (hM.sub (by decide)) ?_
    | with_reducible refine fr_State_modCore (hM.sub (by decide)) ?_
    | with_reducible refine fr_State_sweepRun (hM.sub (by decide)) ?_
    | with_reducible refine fr_State_formReads (hM.sub (by decide)) ?_
    | with_reducible refine fr_ite ?_ ?_
    | split
    | dsimp only

theorem fr_State_tileDone {m : Nat} {s t : State} {a1 a2 a3 a4} (hM : Cov 96 m) (h : Fr m s t) :
    Fr m s (Sys2Proof.Machine.State.tileDone t a1 a2 a3 a4) := by
  unfold Sys2Proof.Machine.State.tileDone
  repeat' first
    | with_reducible assumption
    | with_reducible refine fr_State_modCore (hM.sub (by decide)) ?_
    | with_reducible refine fr_State_checkMatrix (hM.sub (by decide)) ?_
    | with_reducible refine fr_State_modRun (hM.sub (by decide)) ?_
    | with_reducible refine fr_ite ?_ ?_
    | split
    | dsimp only

theorem fr_State_releaseTile {m : Nat} {s t : State} {a1 a2 a3 a4} (hM : Cov 3432790011539591042723051208017047481999862241384724448621 m) (h : Fr m s t) :
    Fr m s (Sys2Proof.Machine.State.releaseTile t a1 a2 a3 a4) := by
  unfold Sys2Proof.Machine.State.releaseTile
  repeat' first
    | with_reducible assumption
    | with_reducible refine fr_State_modRun (hM.sub (by decide)) ?_
    | with_reducible refine fr_State_events (hM.sub (by decide)) ?_
    | with_reducible refine fr_State_track (hM.sub (by decide)) ?_
    | with_reducible refine fr_State_scaleEcc (hM.sub (by decide)) ?_
    | with_reducible refine fr_State_modCtx (hM.sub (by decide)) ?_
    | with_reducible refine fr_ite ?_ ?_
    | split
    | dsimp only
    | with_reducible refine fr_set_sieve (hM.sub (by decide)) ?_

theorem fr_decantVerdict {m : Nat} {s t : State} {a1 a2 a3} (hM : Cov 3432790011539591042723051208017047481999862241384724448621 m) (h : Fr m s t) :
    Fr m s (Sys2Proof.Machine.decantVerdict a1 a2 a3 t) := by
  unfold Sys2Proof.Machine.decantVerdict
  repeat' first
    | with_reducible assumption
    | with_reducible refine fr_State_modEng (hM.sub (by decide)) ?_
    | with_reducible refine fr_State_tileDone (hM.sub (by decide)) ?_
    | with_reducible refine fr_State_undef (hM.sub (by decide)) ?_
    | with_reducible refine fr_State_fail (hM.sub (by decide)) ?_
    | with_reducible refine fr_State_events (hM.sub (by decide)) ?_
    | with_reducible refine fr_State_sticky (hM.sub (by decide)) ?_
    | with_reducible refine fr_State_count (hM.sub (by decide)) ?_
    | with_reducible refine fr_State_releaseTile (hM.sub (by decide)) ?_
    | with_reducible refine fr_ite ?_ ?_
    | split
    | dsimp only

theorem fr_execDecantSweep {m : Nat} {s t : State} {a1 a2 a3 a4} (hM : Cov 3432790011539591042723051066070161617946356619783574667373 m) (h : Fr m s t) :
    ∀ u, Sys2Proof.Machine.execDecantSweep a1 a2 a3 a4 t = .next u → Fr m s u := by
  intro u e
  cases e
  repeat' first
    | with_reducible assumption
    | with_reducible refine fr_decantSweep (hM.sub (by decide)) ?_

theorem fr_execDecantVerdict {m : Nat} {s t : State} {a1 a2} (hM : Cov 3432790011539591042723051208017047481999862241384724448621 m) (h : Fr m s t) :
    ∀ u, Sys2Proof.Machine.execDecantVerdict a1 a2 t = .next u → Fr m s u := by
  intro u e
  cases e
  repeat' first
    | with_reducible assumption
    | with_reducible refine fr_decantVerdict (hM.sub (by decide)) ?_

end Sys2Proof.Laws
end

