-- ==== Sys2Proof/Laws/FrameStream.lean ====
section
/-! SUPPORT. What the functions of Machine/Stream.lean may change. -/

namespace Sys2Proof.Laws

open Sys2Proof.Machine

theorem fr_State_stopStream {m : Nat} {s t : State} {a1 a2 a3 a4 a5 a6} (hM : Cov 2535301200456458802993406410849 m) (h : Fr m s t) :
    Fr m s (Sys2Proof.Machine.State.stopStream t a1 a2 a3 a4 a5 a6) := by
  unfold Sys2Proof.Machine.State.stopStream
  repeat' first
    | with_reducible assumption
    | with_reducible refine fr_State_modCtx (hM.sub (by decide)) ?_
    | with_reducible refine fr_State_fc (hM.sub (by decide)) ?_
    | with_reducible refine fr_State_descError (hM.sub (by decide)) ?_

theorem fr_streamSetup {m : Nat} {s t : State} {a1} (hM : Cov 353887482764514346709953145045254253 m) (h : Fr m s t) :
    Fr m s (Sys2Proof.Machine.streamSetup a1 t) := by
  unfold Sys2Proof.Machine.streamSetup
  repeat' first
    | with_reducible assumption
    | with_reducible refine fr_State_closeStream (hM.sub (by decide)) ?_
    | with_reducible refine fr_State_modCtx (hM.sub (by decide)) ?_
    | with_reducible refine fr_State_descError (hM.sub (by decide)) ?_
    | with_reducible refine fr_State_modRun (hM.sub (by decide)) ?_
    | with_reducible refine fr_ite ?_ ?_
    | split
    | dsimp only

theorem fr_batchRead {m : Nat} {s t : State} {a1 a2 a3} (hM : Cov 3432790011539591044509533495068864715107026363624080818253 m) (h : Fr m s t) :
    Fr m s (Sys2Proof.Machine.batchRead a1 a2 a3 t) := by
  unfold Sys2Proof.Machine.batchRead
  repeat' first
    | with_reducible assumption
    | with_reducible refine fr_State_modCtx (hM.sub (by decide)) ?_
    | with_reducible refine fr_State_decodeErr (hM.sub (by decide)) ?_
    | with_reducible refine fr_State_fc (hM.sub (by decide)) ?_
    | with_reducible refine fr_State_readMet (hM.sub (by decide)) ?_
    | with_reducible refine fr_State_seenBad (hM.sub (by decide)) ?_
    | with_reducible refine fr_ite ?_ ?_
    | split
    | dsimp only

theorem fr_State_bufOf {m : Nat} {s t : State} {a1} (hM : Cov 1099511627776 m) (h : Fr m s t) :
    Fr m s (Sys2Proof.Machine.State.bufOf t a1).2 := by
  unfold Sys2Proof.Machine.State.bufOf
  repeat' first
    | with_reducible assumption
    | with_reducible refine fr_State_free (hM.sub (by decide)) ?_
    | with_reducible refine fr_ite ?_ ?_
    | split
    | dsimp only

theorem fr_takeDesc {m : Nat} {s t : State} {a1 a2 a3 a4} (hM : Cov 3432790011539591044509533495068864715107026363624080818285 m) (h : Fr m s t) :
    Fr m s (Sys2Proof.Machine.takeDesc a1 a2 a3 a4 t) := by
  unfold Sys2Proof.Machine.takeDesc
  repeat' first
    | with_reducible assumption
    | with_reducible refine fr_State_fc (hM.sub (by decide)) ?_
    | with_reducible refine fr_State_streamMet (hM.sub (by decide)) ?_
    | with_reducible refine fr_State_seenList (hM.sub (by decide)) ?_
    | with_reducible refine fr_State_stopStream (hM.sub (by decide)) ?_
    | with_reducible refine fr_State_stray (hM.sub (by decide)) ?_
    | with_reducible refine fr_State_bufOf (hM.sub (by decide)) ?_
    | with_reducible refine fr_State_modRun (hM.sub (by decide)) ?_
    | with_reducible refine fr_State_modCtx (hM.sub (by decide)) ?_
    | with_reducible refine fr_ite ?_ ?_
    | split
    | dsimp only

theorem fr_State_launch {m : Nat} {s t : State} {a1 a2 a3 a4} (hM : Cov 17127015868614626429689980507036660808561721569 m) (h : Fr m s t) :
    Fr m s (Sys2Proof.Machine.State.launch t a1 a2 a3 a4) := by
  unfold Sys2Proof.Machine.State.launch
  repeat' first
    | with_reducible assumption
    | with_reducible refine fr_State_modRun (hM.sub (by decide)) ?_
    | with_reducible refine fr_State_modCore (hM.sub (by decide)) ?_
    | with_reducible refine fr_State_events (hM.sub (by decide)) ?_
    | with_reducible refine fr_State_connSend (hM.sub (by decide)) ?_
    | with_reducible refine fr_State_queueCombine (hM.sub (by decide)) ?_
    | with_reducible refine fr_ite ?_ ?_
    | split
    | dsimp only
    | with_reducible refine fr_set_nextTag (hM.sub (by decide)) ?_

theorem fr_State_moveTo {m : Nat} {s t : State} {a1 a2 a3 a4 a5} (hM : Cov 64 m) (h : Fr m s t) :
    Fr m s (Sys2Proof.Machine.State.moveTo t a1 a2 a3 a4 a5) := by
  unfold Sys2Proof.Machine.State.moveTo
  repeat' first
    | with_reducible assumption
    | with_reducible refine fr_State_modCtx (hM.sub (by decide)) ?_
    | with_reducible refine fr_ite ?_ ?_
    | split

theorem fr_State_connLost {m : Nat} {s t : State} {a1 a2 a3} (hM : Cov 32 m) (h : Fr m s t) :
    Fr m s (Sys2Proof.Machine.State.connLost t a1 a2 a3) := by
  unfold Sys2Proof.Machine.State.connLost
  repeat' first
    | with_reducible assumption
    | with_reducible refine fr_State_undef (hM.sub (by decide)) ?_
    | with_reducible refine fr_State_modRun (hM.sub (by decide)) ?_
    | with_reducible refine fr_State_fail (hM.sub (by decide)) ?_

theorem fr_State_sendRaw {m : Nat} {s t : State} {a1 a2 a3 a4 a5 a6} (hM : Cov 3432790011556718060378148123400030595956407126677697347821 m) (h : Fr m s t) :
    Fr m s (Sys2Proof.Machine.State.sendRaw t a1 a2 a3 a4 a5 a6) := by
  unfold Sys2Proof.Machine.State.sendRaw
  repeat' first
    | with_reducible assumption
    | with_reducible refine fr_State_connLost (hM.sub (by decide)) ?_
    | with_reducible refine fr_State_connSend (hM.sub (by decide)) ?_
    | with_reducible refine fr_State_modCore (hM.sub (by decide)) ?_
    | with_reducible refine fr_State_stopStream (hM.sub (by decide)) ?_
    | with_reducible refine fr_State_decodeErr (hM.sub (by decide)) ?_
    | with_reducible refine fr_State_fc (hM.sub (by decide)) ?_
    | with_reducible refine fr_State_readMet (hM.sub (by decide)) ?_
    | with_reducible refine fr_State_poisonEvent (hM.sub (by decide)) ?_
    | with_reducible refine fr_State_modCtx (hM.sub (by decide)) ?_
    | with_reducible refine fr_State_launch (hM.sub (by decide)) ?_
    | with_reducible refine fr_ite ?_ ?_
    | split
    | dsimp only
    | with_reducible refine fr_set_nextTag (hM.sub (by decide)) ?_

theorem fr_State_readIndex {m : Nat} {s t : State} {a1 a2 a3 a4} (hM : Cov 3432790011539591044424462903338630099241182711766138765325 m) (h : Fr m s t) :
    Fr m s (Sys2Proof.Machine.State.readIndex t a1 a2 a3 a4) := by
  unfold Sys2Proof.Machine.State.readIndex
  repeat' first
    | with_reducible assumption
    | with_reducible refine fr_State_fc (hM.sub (by decide)) ?_
    | with_reducible refine fr_State_readMet (hM.sub (by decide)) ?_
    | with_reducible refine fr_ite ?_ ?_
    | split
    | dsimp only

theorem fr_State_issueRaw {m : Nat} {s t : State} {a1 a2 a3 a4 a5 a6} (hM : Cov 3432790011556718060378148123400030595956407126677697347821 m) (h : Fr m s t) :
    Fr m s (Sys2Proof.Machine.State.issueRaw t a1 a2 a3 a4 a5 a6) := by
  unfold Sys2Proof.Machine.State.issueRaw
  repeat' first
    | with_reducible assumption
    | with_reducible refine fr_State_readIndex (hM.sub (by decide)) ?_
    | with_reducible refine fr_State_modCtx (hM.sub (by decide)) ?_
    | with_reducible refine fr_State_indexFault (hM.sub (by decide)) ?_
    | with_reducible refine fr_State_poisonEvent (hM.sub (by decide)) ?_
    | with_reducible refine fr_State_moveTo (hM.sub (by decide)) ?_
    | with_reducible refine fr_State_count (hM.sub (by decide)) ?_
    | with_reducible refine fr_State_sendRaw (hM.sub (by decide)) ?_
    | with_reducible refine fr_ite ?_ ?_
    | split
    | dsimp only
    | with_reducible refine fr_set_nextTag (hM.sub (by decide)) ?_

theorem fr_State_readConvert {m : Nat} {s t : State} {a1 a2 a3 a4 a5 a6} (hM : Cov 3432790011539591044509533638947207841011063433499894628717 m) (h : Fr m s t) :
    Fr m s (Sys2Proof.Machine.State.readConvert t a1 a2 a3 a4 a5 a6) := by
  unfold Sys2Proof.Machine.State.readConvert
  repeat' first
    | with_reducible assumption
    | with_reducible refine fr_State_stopStream (hM.sub (by decide)) ?_
    | with_reducible refine fr_State_decodeErr (hM.sub (by decide)) ?_
    | with_reducible refine fr_State_fc (hM.sub (by first | decide | (dsimp only; decide) | (dsimp only [clkField]; decide) | (split <;> decide))) ?_
    | with_reducible refine fr_State_readMet (hM.sub (by decide)) ?_
    | with_reducible refine fr_State_poisonEvent (hM.sub (by decide)) ?_
    | with_reducible refine fr_State_modCtx (hM.sub (by decide)) ?_
    | with_reducible refine fr_State_events (hM.sub (by decide)) ?_
    | with_reducible refine fr_State_track (hM.sub (by decide)) ?_
    | with_reducible refine fr_ite ?_ ?_
    | split
    | dsimp only

theorem fr_State_sendConvert {m : Nat} {s t : State} {a1 a2 a3} (hM : Cov 17127015868614626429689980507036660808561721569 m) (h : Fr m s t) :
    Fr m s (Sys2Proof.Machine.State.sendConvert t a1 a2 a3) := by
  unfold Sys2Proof.Machine.State.sendConvert
  repeat' first
    | with_reducible assumption
    | with_reducible refine fr_State_launch (hM.sub (by decide)) ?_
    | with_reducible refine fr_State_modCtx (hM.sub (by decide)) ?_
    | with_reducible refine fr_State_moveTo (hM.sub (by decide)) ?_
    | with_reducible refine fr_ite ?_ ?_
    | split
    | dsimp only

theorem fr_State_issueConvert {m : Nat} {s t : State} {a1 a2 a3 a4 a5 a6} (hM : Cov 3432790011556718060378148123400030595956407126677697348077 m) (h : Fr m s t) :
    Fr m s (Sys2Proof.Machine.State.issueConvert t a1 a2 a3 a4 a5 a6) := by
  unfold Sys2Proof.Machine.State.issueConvert
  repeat' first
    | with_reducible assumption
    | with_reducible refine fr_State_sendConvert (hM.sub (by decide)) ?_
    | with_reducible refine fr_State_readConvert (hM.sub (by decide)) ?_
    | with_reducible refine fr_ite ?_ ?_
    | split

theorem fr_State_issueStaged {m : Nat} {s t : State} {a1 a2} (hM : Cov 3432790011556718060293077531669795980090563474819755294957 m) (h : Fr m s t) :
    Fr m s (Sys2Proof.Machine.State.issueStaged t a1 a2) := by
  unfold Sys2Proof.Machine.State.issueStaged
  repeat' first
    | with_reducible assumption
    | with_reducible refine fr_State_fc (hM.sub (by decide)) ?_
    | with_reducible refine fr_State_readMet (hM.sub (by decide)) ?_
    | with_reducible refine fr_State_poisonEvent (hM.sub (by decide)) ?_
    | with_reducible refine fr_State_modCtx (hM.sub (by decide)) ?_
    | with_reducible refine fr_State_launch (hM.sub (by decide)) ?_
    | with_reducible refine fr_ite ?_ ?_
    | split
    | dsimp only

theorem fr_State_issueFetch {m : Nat} {s t : State} {a1 a2 a3 a4} (hM : Cov 3432790011556718060378148123400030595956407126677697347821 m) (h : Fr m s t) :
    Fr m s (Sys2Proof.Machine.State.issueFetch t a1 a2 a3 a4) := by
  unfold Sys2Proof.Machine.State.issueFetch
  repeat' first
    | with_reducible assumption
    | with_reducible refine fr_State_fc (hM.sub (by first | decide | (dsimp only; decide) | (dsimp only [clkField]; decide) | (split <;> decide))) ?_
    | with_reducible refine fr_State_readMet (hM.sub (by decide)) ?_
    | with_reducible refine fr_State_descError (hM.sub (by decide)) ?_
    | with_reducible refine fr_State_decodeErr (hM.sub (by decide)) ?_
    | with_reducible refine fr_State_poisonEvent (hM.sub (by decide)) ?_
    | with_reducible refine fr_State_modCore (hM.sub (by decide)) ?_
    | with_reducible refine fr_State_launch (hM.sub (by decide)) ?_
    | with_reducible refine fr_ite ?_ ?_
    | split
    | dsimp only

theorem fr_State_issueRead {m : Nat} {s t : State} {a1 a2 a3 a4} (hM : Cov 3432790011556718060378148123400030595956407126677697347821 m) (h : Fr m s t) :
    Fr m s (Sys2Proof.Machine.State.issueRead t a1 a2 a3 a4) := by
  unfold Sys2Proof.Machine.State.issueRead
  repeat' first
    | with_reducible assumption
    | with_reducible refine fr_State_fc (hM.sub (by decide)) ?_
    | with_reducible refine fr_State_readMet (hM.sub (by decide)) ?_
    | with_reducible refine fr_State_descError (hM.sub (by decide)) ?_
    | with_reducible refine fr_State_decodeErr (hM.sub (by decide)) ?_
    | with_reducible refine fr_State_poisonEvent (hM.sub (by decide)) ?_
    | with_reducible refine fr_State_modCore (hM.sub (by decide)) ?_
    | with_reducible refine fr_State_launch (hM.sub (by decide)) ?_
    | with_reducible refine fr_ite ?_ ?_
    | split
    | dsimp only

theorem fr_State_issueCtx {m : Nat} {s t : State} {a1 a2 a3 a4} (hM : Cov 3432790011556718060378148123400030595956407126677697348077 m) (h : Fr m s t) :
    Fr m s (Sys2Proof.Machine.State.issueCtx t a1 a2 a3 a4) := by
  unfold Sys2Proof.Machine.State.issueCtx
  repeat' first
    | with_reducible assumption
    | with_reducible refine fr_State_issueFetch (hM.sub (by decide)) ?_
    | with_reducible refine fr_State_issueRead (hM.sub (by decide)) ?_
    | with_reducible refine fr_State_issueStaged (hM.sub (by decide)) ?_
    | with_reducible refine fr_State_issueConvert (hM.sub (by decide)) ?_
    | with_reducible refine fr_State_issueRaw (hM.sub (by decide)) ?_
    | with_reducible refine fr_ite ?_ ?_
    | split
    | dsimp only

theorem fr_transferIssue {m : Nat} {s t : State} {a1 a2 a3 a4} (hM : Cov 3432790011556718060378148123400030595956407126677697348077 m) (h : Fr m s t) :
    Fr m s (Sys2Proof.Machine.transferIssue a1 a2 a3 a4 t) := by
  unfold Sys2Proof.Machine.transferIssue
  repeat' first
    | with_reducible assumption
    | with_reducible refine fr_State_modCore (hM.sub (by decide)) ?_
    | with_reducible refine fr_State_issueCtx (hM.sub (by decide)) ?_
    | with_reducible refine fr_ite ?_ ?_
    | split

theorem fr_State_stageNote {m : Nat} {s t : State} {a1 a2 a3 a4 a5} (hM : Cov 2923003274661805836407369665432566039311865085953 m) (h : Fr m s t) :
    Fr m s (Sys2Proof.Machine.State.stageNote t a1 a2 a3 a4 a5) := by
  unfold Sys2Proof.Machine.State.stageNote
  repeat' first
    | with_reducible assumption
    | with_reducible refine fr_State_fs (hM.sub (by decide)) ?_
    | with_reducible refine fr_State_fc (hM.sub (by decide)) ?_
    | with_reducible refine fr_ite ?_ ?_
    | split
    | dsimp only

theorem fr_State_landAt {m : Nat} {s t : State} {a1 a2 a3 a4 a5} (hM : Cov 3432790014462594319086268737052242239188761272897509539917 m) (h : Fr m s t) :
    Fr m s (Sys2Proof.Machine.State.landAt t a1 a2 a3 a4 a5) := by
  unfold Sys2Proof.Machine.State.landAt
  repeat' first
    | with_reducible assumption
    | with_reducible refine fr_State_stageNote (hM.sub (by decide)) ?_
    | with_reducible refine fr_State_storeMet (hM.sub (by decide)) ?_
    | with_reducible refine fr_State_modCtx (hM.sub (by decide)) ?_
    | with_reducible refine fr_ite ?_ ?_
    | split
    | dsimp only

theorem fr_State_gotApplied {m : Nat} {s t : State} {a1} (hM : Cov 3432790011556718060378148141147143834854897205924906942701 m) (h : Fr m s t) :
    Fr m s (Sys2Proof.Machine.State.gotApplied t a1) := by
  unfold Sys2Proof.Machine.State.gotApplied
  repeat' first
    | with_reducible assumption
    | with_reducible refine fr_State_combineApplied (hM.sub (by decide)) ?_
    | with_reducible refine fr_foldl ?_ (fun _ _ _ => ?_)
    | with_reducible refine fr_foldl_fst ?_ (fun _ _ _ => ?_)
    | with_reducible refine fr_foldl_snd ?_ (fun _ _ _ => ?_)
    | split
    | dsimp only

theorem fr_State_landToUnits {m : Nat} {s t : State} {a1 a2} (hM : Cov 3432790011556718060378148141147143834854897206199784849645 m) (h : Fr m s t) :
    Fr m s (Sys2Proof.Machine.State.landToUnits t a1 a2) := by
  unfold Sys2Proof.Machine.State.landToUnits
  repeat' first
    | with_reducible assumption
    | with_reducible refine fr_State_modCore (hM.sub (by decide)) ?_
    | with_reducible refine fr_State_modRun (hM.sub (by decide)) ?_
    | with_reducible refine fr_State_queueCombine (hM.sub (by decide)) ?_
    | with_reducible refine fr_State_gotApplied (hM.sub (by decide)) ?_
    | with_reducible refine fr_ite ?_ ?_
    | split
    | dsimp only
    | with_reducible refine fr_set_nextTag (hM.sub (by decide)) ?_

theorem fr_transferLanded {m : Nat} {s t : State} {a1 a2 a3} (hM : Cov 3432790014479721335039954119848293375906213563516584739053 m) (h : Fr m s t) :
    Fr m s (Sys2Proof.Machine.transferLanded a1 a2 a3 t) := by
  unfold Sys2Proof.Machine.transferLanded
  repeat' first
    | with_reducible assumption
    | with_reducible refine fr_State_landToUnits (hM.sub (by decide)) ?_
    | with_reducible refine fr_State_modCore (hM.sub (by decide)) ?_
    | with_reducible refine fr_State_stageNote (hM.sub (by decide)) ?_
    | with_reducible refine fr_State_modCtx (hM.sub (by decide)) ?_
    | with_reducible refine fr_State_fc (hM.sub (by decide)) ?_
    | with_reducible refine fr_State_gotApplied (hM.sub (by decide)) ?_
    | with_reducible refine fr_State_undef (hM.sub (by decide)) ?_
    | with_reducible refine fr_State_descError (hM.sub (by decide)) ?_
    | with_reducible refine fr_State_decodeErr (hM.sub (by decide)) ?_
    | with_reducible refine fr_State_landAt (hM.sub (by decide)) ?_
    | with_reducible refine fr_State_fetchLanded (hM.sub (by decide)) ?_
    | with_reducible refine fr_State_readLanded (hM.sub (by decide)) ?_
    | with_reducible refine fr_ite ?_ ?_
    | with_reducible refine fr_foldl ?_ (fun _ _ _ => ?_)
    | with_reducible refine fr_foldl_fst ?_ (fun _ _ _ => ?_)
    | with_reducible refine fr_foldl_snd ?_ (fun _ _ _ => ?_)
    | split
    | dsimp only

theorem fr_streamEnd {m : Nat} {s t : State} {a1 a2 a3} (hM : Cov 3432790011539591044424463065439450603426017428157061152877 m) (h : Fr m s t) :
    Fr m s (Sys2Proof.Machine.streamEnd a1 a2 a3 t) := by
  unfold Sys2Proof.Machine.streamEnd
  repeat' first
    | with_reducible assumption
    | with_reducible refine fr_State_stopStream (hM.sub (by decide)) ?_
    | with_reducible refine fr_State_closeStream (hM.sub (by decide)) ?_
    | with_reducible refine fr_State_postMet (hM.sub (by decide)) ?_
    | with_reducible refine fr_ite ?_ ?_
    | split
    | dsimp only

theorem fr_handlePost {m : Nat} {s t : State} {a1 a2 a3} (hM : Cov 3432790011539591044424463062904149402969558625163654742125 m) (h : Fr m s t) :
    Fr m s (Sys2Proof.Machine.handlePost a1 a2 a3 t) := by
  unfold Sys2Proof.Machine.handlePost
  repeat' first
    | with_reducible assumption
    | with_reducible refine fr_State_postHandle (hM.sub (by decide)) ?_
    | with_reducible refine fr_State_postMet (hM.sub (by decide)) ?_
    | with_reducible refine fr_ite ?_ ?_
    | split
    | dsimp only

theorem fr_execStream {m : Nat} {s t : State} {a1} (hM : Cov 353887482764514346709953145045254253 m) (h : Fr m s t) :
    ∀ u, Sys2Proof.Machine.execStream a1 t = .next u → Fr m s u := by
  intro u e
  cases e
  repeat' first
    | with_reducible assumption
    | with_reducible refine fr_streamSetup (hM.sub (by decide)) ?_

theorem fr_execDescriptorBatchRead {m : Nat} {s t : State} {a1 a2 a3} (hM : Cov 3432790011539591044509533495068864715107026363624080818253 m) (h : Fr m s t) :
    ∀ u, Sys2Proof.Machine.execDescriptorBatchRead a1 a2 a3 t = .next u → Fr m s u := by
  intro u e
  cases e
  repeat' first
    | with_reducible assumption
    | with_reducible refine fr_batchRead (hM.sub (by decide)) ?_

theorem fr_execStrided {m : Nat} {s t : State} {a1 a2} (hM : Cov 3432790011539591044509533495068864715107026363624080818285 m) (h : Fr m s t) :
    ∀ u, Sys2Proof.Machine.execStrided a1 a2 t = .next u → Fr m s u := by
  intro u e
  cases e
  repeat' first
    | with_reducible assumption
    | with_reducible refine fr_takeDesc (hM.sub (by decide)) ?_

theorem fr_execConvert {m : Nat} {s t : State} {a1 a2} (hM : Cov 3432790011539591044509533495068864715107026363624080818285 m) (h : Fr m s t) :
    ∀ u, Sys2Proof.Machine.execConvert a1 a2 t = .next u → Fr m s u := by
  intro u e
  cases e
  repeat' first
    | with_reducible assumption
    | with_reducible refine fr_takeDesc (hM.sub (by decide)) ?_

theorem fr_execGather {m : Nat} {s t : State} {a1 a2} (hM : Cov 3432790011539591044509533495068864715107026363624080818285 m) (h : Fr m s t) :
    ∀ u, Sys2Proof.Machine.execGather a1 a2 t = .next u → Fr m s u := by
  intro u e
  cases e
  repeat' first
    | with_reducible assumption
    | with_reducible refine fr_takeDesc (hM.sub (by decide)) ?_

theorem fr_execScatter {m : Nat} {s t : State} {a1 a2} (hM : Cov 3432790011539591044509533495068864715107026363624080818285 m) (h : Fr m s t) :
    ∀ u, Sys2Proof.Machine.execScatter a1 a2 t = .next u → Fr m s u := by
  intro u e
  cases e
  repeat' first
    | with_reducible assumption
    | with_reducible refine fr_takeDesc (hM.sub (by decide)) ?_

theorem fr_execTransferIssue {m : Nat} {s t : State} {a1 a2 a3} (hM : Cov 3432790011556718060378148123400030595956407126677697348077 m) (h : Fr m s t) :
    ∀ u, Sys2Proof.Machine.execTransferIssue a1 a2 a3 t = .next u → Fr m s u := by
  intro u e
  cases e
  repeat' first
    | with_reducible assumption
    | with_reducible refine fr_transferIssue (hM.sub (by decide)) ?_

theorem fr_execTransferLanded {m : Nat} {s t : State} {a1 a2 a3} (hM : Cov 3432790014479721335039954119848293375906213563516584739053 m) (h : Fr m s t) :
    ∀ u, Sys2Proof.Machine.execTransferLanded a1 a2 a3 t = .next u → Fr m s u := by
  intro u e
  cases e
  repeat' first
    | with_reducible assumption
    | with_reducible refine fr_transferLanded (hM.sub (by decide)) ?_

theorem fr_execStreamEnd {m : Nat} {s t : State} {a1 a2} (hM : Cov 3432790011539591044424463065439450603426017428157061152877 m) (h : Fr m s t) :
    ∀ u, Sys2Proof.Machine.execStreamEnd a1 a2 t = .next u → Fr m s u := by
  intro u e
  cases e
  repeat' first
    | with_reducible assumption
    | with_reducible refine fr_streamEnd (hM.sub (by decide)) ?_

theorem fr_execHandlePost {m : Nat} {s t : State} {a1 a2} (hM : Cov 3432790011539591044424463062904149402969558625163654742125 m) (h : Fr m s t) :
    ∀ u, Sys2Proof.Machine.execHandlePost a1 a2 t = .next u → Fr m s u := by
  intro u e
  cases e
  repeat' first
    | with_reducible assumption
    | with_reducible refine fr_handlePost (hM.sub (by decide)) ?_

end Sys2Proof.Laws
end

