-- ==== Sys2Proof/Laws/FrameCombine.lean ====
section
/-! SUPPORT. What the functions of Machine/Combine.lean may change. -/

namespace Sys2Proof.Laws

open Sys2Proof.Machine

theorem fr_State_combStore {m : Nat} {s t : State} {a1} (hM : Cov 1152921504606846988 m) (h : Fr m s t) :
    Fr m s (Sys2Proof.Machine.State.combStore t a1) := by
  unfold Sys2Proof.Machine.State.combStore
  repeat' first
    | with_reducible assumption
    | with_reducible refine fr_State_store (hM.sub (by decide)) ?_
    | with_reducible refine fr_foldl ?_ (fun _ _ _ => ?_)
    | with_reducible refine fr_foldl_fst ?_ (fun _ _ _ => ?_)
    | with_reducible refine fr_foldl_snd ?_ (fun _ _ _ => ?_)
    | dsimp only
    | with_reducible refine fr_set_marks (hM.sub (by decide)) ?_ ?_
    | exact fun k => k
    | exact fun k => smWf_filter _ _ k
    | exact fun _ => rfl
    | exact fun k => smWf_foldl _ (fun _ _ k' => smWf_put _ _ _ k') _ k

theorem fr_State_combUnits {m : Nat} {s t : State} {a1 a2} (hM : Cov 1099511627776 m) (h : Fr m s t) :
    Fr m s (Sys2Proof.Machine.State.combUnits t a1 a2).2 := by
  unfold Sys2Proof.Machine.State.combUnits
  repeat' first
    | with_reducible assumption
    | with_reducible refine fr_State_free (hM.sub (by decide)) ?_
    | with_reducible refine fr_ite ?_ ?_
    | split
    | dsimp only

theorem fr_State_combUe {m : Nat} {s t : State} {a1 a2 a3} (hM : Cov 3432790011539591044424462900644872573756195234135400267821 m) (h : Fr m s t) :
    Fr m s (Sys2Proof.Machine.State.combUe t a1 a2 a3) := by
  unfold Sys2Proof.Machine.State.combUe
  repeat' first
    | with_reducible assumption
    | with_reducible refine fr_State_combUnits (hM.sub (by decide)) ?_
    | with_reducible refine fr_State_dramRead (hM.sub (by decide)) ?_
    | with_reducible refine fr_State_combStore (hM.sub (by decide)) ?_
    | with_reducible refine fr_State_fail (hM.sub (by decide)) ?_
    | with_reducible refine fr_State_undef (hM.sub (by decide)) ?_
    | with_reducible refine fr_State_emit (hM.sub (by decide)) ?_
    | with_reducible refine fr_ite ?_ ?_
    | with_reducible refine fr_foldl ?_ (fun _ _ _ => ?_)
    | with_reducible refine fr_foldl_fst ?_ (fun _ _ _ => ?_)
    | with_reducible refine fr_foldl_snd ?_ (fun _ _ _ => ?_)
    | split
    | dsimp only

theorem fr_State_combDone {m : Nat} {s t : State} {a1} (hM : Cov 3432790011556718060378148141147143834854897205924906942701 m) (h : Fr m s t) :
    Fr m s (Sys2Proof.Machine.State.combDone t a1) := by
  unfold Sys2Proof.Machine.State.combDone
  repeat' first
    | with_reducible assumption
    | with_reducible refine fr_State_xferReady (hM.sub (by decide)) ?_
    | with_reducible refine fr_State_combineApplied (hM.sub (by decide)) ?_
    | with_reducible refine fr_ite ?_ ?_
    | split
    | dsimp only

theorem fr_atomStep {m : Nat} {s t : State} {a1 a2 a3} (hM : Cov 3432790011556718071267184024594041891244577611922004525293 m) (h : Fr m s t) :
    Fr m s (Sys2Proof.Machine.atomStep a1 a2 a3 t) := by
  unfold Sys2Proof.Machine.atomStep
  repeat' first
    | with_reducible assumption
    | with_reducible refine fr_State_combUe (hM.sub (by decide)) ?_
    | with_reducible refine fr_State_dramRead (hM.sub (by decide)) ?_
    | with_reducible refine fr_State_combStore (hM.sub (by decide)) ?_
    | with_reducible refine fr_State_events (hM.sub (by decide)) ?_
    | with_reducible refine fr_State_emit (hM.sub (by decide)) ?_
    | with_reducible refine fr_State_combDone (hM.sub (by decide)) ?_
    | with_reducible refine fr_State_fc (hM.sub (by decide)) ?_
    | with_reducible refine fr_State_setUnitQ (hM.sub (by decide)) ?_
    | with_reducible refine fr_ite ?_ ?_
    | with_reducible refine fr_foldl ?_ (fun _ _ _ => ?_)
    | with_reducible refine fr_foldl_fst ?_ (fun _ _ _ => ?_)
    | with_reducible refine fr_foldl_snd ?_ (fun _ _ _ => ?_)
    | split
    | dsimp only

theorem fr_execAdd256 {m : Nat} {s t : State} {a1 a2} (hM : Cov 3432790011556718071267184024594041891244577611922004525293 m) (h : Fr m s t) :
    ∀ u, Sys2Proof.Machine.execAdd256 a1 a2 t = .next u → Fr m s u := by
  intro u e
  cases e
  repeat' first
    | with_reducible assumption
    | with_reducible refine fr_atomStep (hM.sub (by decide)) ?_

theorem fr_execAdd32s {m : Nat} {s t : State} {a1 a2} (hM : Cov 3432790011556718071267184024594041891244577611922004525293 m) (h : Fr m s t) :
    ∀ u, Sys2Proof.Machine.execAdd32s a1 a2 t = .next u → Fr m s u := by
  intro u e
  cases e
  repeat' first
    | with_reducible assumption
    | with_reducible refine fr_atomStep (hM.sub (by decide)) ?_

theorem fr_execMax32 {m : Nat} {s t : State} {a1 a2} (hM : Cov 3432790011556718071267184024594041891244577611922004525293 m) (h : Fr m s t) :
    ∀ u, Sys2Proof.Machine.execMax32 a1 a2 t = .next u → Fr m s u := by
  intro u e
  cases e
  repeat' first
    | with_reducible assumption
    | with_reducible refine fr_atomStep (hM.sub (by decide)) ?_

theorem fr_execMin32 {m : Nat} {s t : State} {a1 a2} (hM : Cov 3432790011556718071267184024594041891244577611922004525293 m) (h : Fr m s t) :
    ∀ u, Sys2Proof.Machine.execMin32 a1 a2 t = .next u → Fr m s u := by
  intro u e
  cases e
  repeat' first
    | with_reducible assumption
    | with_reducible refine fr_atomStep (hM.sub (by decide)) ?_

theorem fr_execMaxf {m : Nat} {s t : State} {a1 a2} (hM : Cov 3432790011556718071267184024594041891244577611922004525293 m) (h : Fr m s t) :
    ∀ u, Sys2Proof.Machine.execMaxf a1 a2 t = .next u → Fr m s u := by
  intro u e
  cases e
  repeat' first
    | with_reducible assumption
    | with_reducible refine fr_atomStep (hM.sub (by decide)) ?_

theorem fr_execMinf {m : Nat} {s t : State} {a1 a2} (hM : Cov 3432790011556718071267184024594041891244577611922004525293 m) (h : Fr m s t) :
    ∀ u, Sys2Proof.Machine.execMinf a1 a2 t = .next u → Fr m s u := by
  intro u e
  cases e
  repeat' first
    | with_reducible assumption
    | with_reducible refine fr_atomStep (hM.sub (by decide)) ?_

theorem fr_execTopk {m : Nat} {s t : State} {a1 a2} (hM : Cov 3432790011556718071267184024594041891244577611922004525293 m) (h : Fr m s t) :
    ∀ u, Sys2Proof.Machine.execTopk a1 a2 t = .next u → Fr m s u := by
  intro u e
  cases e
  repeat' first
    | with_reducible assumption
    | with_reducible refine fr_atomStep (hM.sub (by decide)) ?_

theorem fr_execAddf {m : Nat} {s t : State} {a1 a2} (hM : Cov 3432790011556718071267184024594041891244577611922004525293 m) (h : Fr m s t) :
    ∀ u, Sys2Proof.Machine.execAddf a1 a2 t = .next u → Fr m s u := by
  intro u e
  cases e
  repeat' first
    | with_reducible assumption
    | with_reducible refine fr_atomStep (hM.sub (by decide)) ?_

end Sys2Proof.Laws
end

