-- ==== Sys2Proof/Laws/FrameMemory.lean ====
section
/-! SUPPORT. What the functions of Machine/Memory.lean may change. -/

namespace Sys2Proof.Laws

open Sys2Proof.Machine

theorem fr_patrolScrub {m : Nat} {s t : State} {a1 a2 a3 a4} (hM : Cov 3432790011539591044424462900644872573756195232486132826125 m) (h : Fr m s t) :
    Fr m s (Sys2Proof.Machine.patrolScrub a1 a2 a3 a4 t) := by
  unfold Sys2Proof.Machine.patrolScrub
  repeat' first
    | with_reducible assumption
    | with_reducible refine fr_State_ceNote (hM.sub (by decide)) ?_
    | with_reducible refine fr_State_ueNote (hM.sub (by decide)) ?_
    | with_reducible refine fr_State_fc (hM.sub (by decide)) ?_
    | with_reducible refine fr_ite ?_ ?_
    | split
    | dsimp only

theorem fr_State_startRepair {m : Nat} {s t : State} {a1 a2} (hM : Cov 9017482723404869281779427096941857603585 m) (h : Fr m s t) :
    Fr m s (Sys2Proof.Machine.State.startRepair t a1 a2) := by
  unfold Sys2Proof.Machine.State.startRepair
  repeat' first
    | with_reducible assumption
    | with_reducible refine fr_State_fs (hM.sub (by first | decide | (dsimp only; decide) | (dsimp only [clkField]; decide) | (split <;> decide))) ?_
    | with_reducible refine fr_State_wr (hM.sub (by first | decide | (dsimp only; decide) | (dsimp only [clkField]; decide) | (split <;> decide))) ?_
    | with_reducible refine fr_ite ?_ ?_
    | split
    | dsimp only

theorem fr_State_repairRead {m : Nat} {s t : State} {a1 a2} (hM : Cov 3432790011539591044424462900644872573756195233585644453901 m) (h : Fr m s t) :
    Fr m s (Sys2Proof.Machine.State.repairRead t a1 a2) := by
  unfold Sys2Proof.Machine.State.repairRead
  repeat' first
    | with_reducible assumption
    | with_reducible refine fr_State_dramRead (hM.sub (by decide)) ?_
    | with_reducible refine fr_ite ?_ ?_
    | with_reducible refine fr_foldl ?_ (fun _ _ _ => ?_)
    | with_reducible refine fr_foldl_fst ?_ (fun _ _ _ => ?_)
    | with_reducible refine fr_foldl_snd ?_ (fun _ _ _ => ?_)
    | split
    | dsimp only

theorem fr_State_repairRec {m : Nat} {s t : State} {a1 a2 a3 a4} (hM : Cov 3432790011539591042723051066040180256438169274853477072909 m) (h : Fr m s t) :
    Fr m s (Sys2Proof.Machine.State.repairRec t a1 a2 a3 a4) := by
  unfold Sys2Proof.Machine.State.repairRec
  repeat' first
    | with_reducible assumption
    | with_reducible refine fr_State_free (hM.sub (by decide)) ?_
    | with_reducible refine fr_State_errRec (hM.sub (by decide)) ?_
    | with_reducible refine fr_ite ?_ ?_
    | split
    | dsimp only

theorem fr_State_endRepair {m : Nat} {s t : State} {a1 a2} (hM : Cov 3432790011556718066673371929184505408927327443550057808109 m) (h : Fr m s t) :
    Fr m s (Sys2Proof.Machine.State.endRepair t a1 a2) := by
  unfold Sys2Proof.Machine.State.endRepair
  repeat' first
    | with_reducible assumption
    | with_reducible refine fr_State_fs (hM.sub (by decide)) ?_
    | with_reducible refine fr_State_fc (hM.sub (by decide)) ?_
    | with_reducible refine fr_State_repairRec (hM.sub (by decide)) ?_
    | with_reducible refine fr_State_connsAdvance (hM.sub (by decide)) ?_
    | with_reducible refine fr_ite ?_ ?_
    | split
    | dsimp only
    | with_reducible refine fr_set_repairs (hM.sub (by decide)) ?_

theorem fr_repairWrite {m : Nat} {s t : State} {a1 a2 a3 a4} (hM : Cov 9017482723404869281779427096941857603585 m) (h : Fr m s t) :
    Fr m s (Sys2Proof.Machine.repairWrite a1 a2 a3 a4 t) := by
  unfold Sys2Proof.Machine.repairWrite
  repeat' first
    | with_reducible assumption
    | with_reducible refine fr_State_gated (hM.sub (by decide)) ?_ (fun _ _ => ?_)
    | with_reducible refine fr_State_startRepair (hM.sub (by decide)) ?_

theorem fr_State_applyGib {m : Nat} {s t : State} (hM : Cov 21267647932558653967613834469092360205 m) (h : Fr m s t) :
    Fr m s (Sys2Proof.Machine.State.applyGib t) := by
  unfold Sys2Proof.Machine.State.applyGib
  repeat' first
    | with_reducible assumption
    | with_reducible refine fr_State_fs (hM.sub (by decide)) ?_
    | with_reducible refine fr_ite ?_ ?_
    | split
    | dsimp only
    | with_reducible refine fr_set_mem_marks (hM.sub (by decide)) ?_ ?_ ?_
    | exact fun k => k
    | exact fun k => smWf_filter _ _ k
    | exact fun _ => rfl
    | exact fun k => smWf_foldl _ (fun _ _ k' => smWf_put _ _ _ k') _ k
    | exact fun k => promoteTile_wf _ _ _ _ _ _ _ k
    | exact fun k => promoteTile32_wf _ _ _ _ k
    | exact fun _ => remap_wf _ _ _ _ _

theorem fr_State_writePlace {m : Nat} {s t : State} {a1} (hM : Cov 21267647932558653966460912964485513217 m) (h : Fr m s t) :
    Fr m s (Sys2Proof.Machine.State.writePlace t a1) := by
  unfold Sys2Proof.Machine.State.writePlace
  repeat' first
    | with_reducible assumption
    | with_reducible refine fr_State_fs (hM.sub (by decide)) ?_

theorem fr_bridgeFailure {m : Nat} {s t : State} {a1} (hM : Cov 3432790011539591042723051066040180256438169273762555379725 m) (h : Fr m s t) :
    Fr m s (Sys2Proof.Machine.bridgeFailure a1 t) := by
  unfold Sys2Proof.Machine.bridgeFailure
  repeat' first
    | with_reducible assumption
    | with_reducible refine fr_State_errRec (hM.sub (by decide)) ?_
    | with_reducible refine fr_ite ?_ ?_
    | split
    | with_reducible refine fr_set_bridges (hM.sub (by decide)) ?_

theorem fr_bridgeRestored {m : Nat} {s t : State} {a1} (hM : Cov 3432790011556718060378148141147143834854897205933496877293 m) (h : Fr m s t) :
    Fr m s (Sys2Proof.Machine.bridgeRestored a1 t) := by
  unfold Sys2Proof.Machine.bridgeRestored
  repeat' first
    | with_reducible assumption
    | with_reducible refine fr_State_errRec (hM.sub (by decide)) ?_
    | with_reducible refine fr_State_connsAdvance (hM.sub (by decide)) ?_
    | with_reducible refine fr_ite ?_ ?_
    | split
    | with_reducible refine fr_set_bridges (hM.sub (by decide)) ?_

theorem fr_execPatrolScrub {m : Nat} {s t : State} {a1 a2 a3 a4} (hM : Cov 3432790011539591044424462900644872573756195232486132826125 m) (h : Fr m s t) :
    ∀ u, Sys2Proof.Machine.execPatrolScrub a1 a2 a3 a4 t = .next u → Fr m s u := by
  intro u e
  cases e
  repeat' first
    | with_reducible assumption
    | with_reducible refine fr_patrolScrub (hM.sub (by decide)) ?_

theorem fr_execRowRepair {m : Nat} {s t : State} {a1 a2 a3} (hM : Cov 9017482723404869281779427096941857603585 m) (h : Fr m s t) :
    ∀ u, Sys2Proof.Machine.execRowRepair a1 a2 a3 t = .next u → Fr m s u := by
  intro u e
  cases e
  repeat' first
    | with_reducible assumption
    | with_reducible refine fr_repairWrite (hM.sub (by decide)) ?_

theorem fr_execLaneRepair {m : Nat} {s t : State} {a1 a2 a3} (hM : Cov 9017482723404869281779427096941857603585 m) (h : Fr m s t) :
    ∀ u, Sys2Proof.Machine.execLaneRepair a1 a2 a3 t = .next u → Fr m s u := by
  intro u e
  cases e
  repeat' first
    | with_reducible assumption
    | with_reducible refine fr_repairWrite (hM.sub (by decide)) ?_

theorem fr_execLocalGib {m : Nat} {s t : State} {a1 a2} (hM : Cov 21267647932558653966460912964485513217 m) (h : Fr m s t) :
    ∀ u, Sys2Proof.Machine.execLocalGib a1 a2 t = .next u → Fr m s u := by
  intro u e
  cases e
  repeat' first
    | with_reducible assumption
    | with_reducible refine fr_State_gated (hM.sub (by decide)) ?_ (fun _ _ => ?_)
    | with_reducible refine fr_State_writePlace (hM.sub (by decide)) ?_

theorem fr_execBridgeFailure {m : Nat} {s t : State} {a1} (hM : Cov 3432790011539591042723051066040180256438169273762555379725 m) (h : Fr m s t) :
    ∀ u, Sys2Proof.Machine.execBridgeFailure a1 t = .next u → Fr m s u := by
  intro u e
  cases e
  repeat' first
    | with_reducible assumption
    | with_reducible refine fr_bridgeFailure (hM.sub (by decide)) ?_

theorem fr_execBridgeRestored {m : Nat} {s t : State} {a1} (hM : Cov 3432790011556718060378148141147143834854897205933496877293 m) (h : Fr m s t) :
    ∀ u, Sys2Proof.Machine.execBridgeRestored a1 t = .next u → Fr m s u := by
  intro u e
  cases e
  repeat' first
    | with_reducible assumption
    | with_reducible refine fr_bridgeRestored (hM.sub (by decide)) ?_

end Sys2Proof.Laws
end

