-- ==== Sys2Proof/Laws/FrameFabric.lean ====
section
/-! SUPPORT. What the functions of Machine/Fabric.lean may change. -/

namespace Sys2Proof.Laws

open Sys2Proof.Machine

theorem fr_State_linkRec {m : Nat} {s t : State} {a1 a2} (hM : Cov 3432790011539613343468249596663321792156441922115471425549 m) (h : Fr m s t) :
    Fr m s (Sys2Proof.Machine.State.linkRec t a1 a2) := by
  unfold Sys2Proof.Machine.State.linkRec
  repeat' first
    | with_reducible assumption
    | with_reducible refine fr_State_errRec (hM.sub (by decide)) ?_
    | with_reducible refine fr_ite ?_ ?_
    | split
    | dsimp only

theorem fr_State_linkLost {m : Nat} {s t : State} {a1} (hM : Cov 2787593149816327892691964784081045188902913 m) (h : Fr m s t) :
    Fr m s (Sys2Proof.Machine.State.linkLost t a1) := by
  unfold Sys2Proof.Machine.State.linkLost
  repeat' first
    | with_reducible assumption
    | with_reducible refine fr_State_fc (hM.sub (by decide)) ?_
    | with_reducible refine fr_State_setLink (hM.sub (by decide)) ?_
    | with_reducible refine fr_foldl ?_ (fun _ _ _ => ?_)
    | with_reducible refine fr_foldl_fst ?_ (fun _ _ _ => ?_)
    | with_reducible refine fr_foldl_snd ?_ (fun _ _ _ => ?_)
    | dsimp only
    | with_reducible refine fr_set_net (hM.sub (by decide)) ?_

theorem fr_State_goDown {m : Nat} {s t : State} {a1} (hM : Cov 381987373810768681545445799318606273210613761 m) (h : Fr m s t) :
    Fr m s (Sys2Proof.Machine.State.goDown t a1) := by
  unfold Sys2Proof.Machine.State.goDown
  repeat' first
    | with_reducible assumption
    | with_reducible refine fr_State_drainOn (hM.sub (by decide)) ?_
    | with_reducible refine fr_State_ls (hM.sub (by decide)) ?_
    | with_reducible refine fr_State_linkLost (hM.sub (by decide)) ?_

theorem fr_State_countReplays {m : Nat} {s t : State} {a1 a2} (hM : Cov 89202980794122492566142873090593446024052737 m) (h : Fr m s t) :
    Fr m s (Sys2Proof.Machine.State.countReplays t a1 a2) := by
  unfold Sys2Proof.Machine.State.countReplays
  repeat' first
    | with_reducible assumption
    | with_reducible refine fr_State_lc (hM.sub (by decide)) ?_
    | with_reducible refine fr_State_modLink (hM.sub (by decide)) ?_
    | with_reducible refine fr_ite ?_ ?_
    | split
    | dsimp only

theorem fr_State_goUp {m : Nat} {s t : State} {a1 a2 a3} (hM : Cov 468337427240626026033911739700491774547066881 m) (h : Fr m s t) :
    Fr m s (Sys2Proof.Machine.State.goUp t a1 a2 a3) := by
  unfold Sys2Proof.Machine.State.goUp
  repeat' first
    | with_reducible assumption
    | with_reducible refine fr_State_ls (hM.sub (by decide)) ?_
    | with_reducible refine fr_State_modLink (hM.sub (by decide)) ?_
    | with_reducible refine fr_State_emit (hM.sub (by decide)) ?_
    | with_reducible refine fr_State_countReplays (hM.sub (by decide)) ?_
    | with_reducible refine fr_State_sendCtl (hM.sub (by decide)) ?_
    | with_reducible refine fr_ite ?_ ?_
    | with_reducible refine fr_foldl ?_ (fun _ _ _ => ?_)
    | with_reducible refine fr_foldl_fst ?_ (fun _ _ _ => ?_)
    | with_reducible refine fr_foldl_snd ?_ (fun _ _ _ => ?_)
    | split
    | dsimp only

theorem fr_State_startTraining {m : Nat} {s t : State} {a1 a2} (hM : Cov 22300745198530623141535718272648361506111489 m) (h : Fr m s t) :
    Fr m s (Sys2Proof.Machine.State.startTraining t a1 a2) := by
  unfold Sys2Proof.Machine.State.startTraining
  repeat' first
    | with_reducible assumption
    | with_reducible refine fr_State_ls (hM.sub (by decide)) ?_
    | with_reducible refine fr_State_modLink (hM.sub (by decide)) ?_

theorem fr_linkTrained {m : Nat} {s t : State} {a1 a2 a3} (hM : Cov 3432790011540062254855727440154353506766553349106365513741 m) (h : Fr m s t) :
    Fr m s (Sys2Proof.Machine.linkTrained a1 a2 a3 t) := by
  unfold Sys2Proof.Machine.linkTrained
  repeat' first
    | with_reducible assumption
    | with_reducible refine fr_State_goUp (hM.sub (by decide)) ?_
    | with_reducible refine fr_State_lc (hM.sub (by decide)) ?_
    | with_reducible refine fr_State_linkRec (hM.sub (by decide)) ?_
    | with_reducible refine fr_State_modLink (hM.sub (by decide)) ?_
    | with_reducible refine fr_State_goDown (hM.sub (by decide)) ?_
    | with_reducible refine fr_ite ?_ ?_
    | split
    | dsimp only

theorem fr_linkTrainRetry {m : Nat} {s t : State} {a1} (hM : Cov 66902235595591869424607154817945084518072321 m) (h : Fr m s t) :
    Fr m s (Sys2Proof.Machine.linkTrainRetry a1 t) := by
  unfold Sys2Proof.Machine.linkTrainRetry
  repeat' first
    | with_reducible assumption
    | with_reducible refine fr_State_startTraining (hM.sub (by decide)) ?_
    | with_reducible refine fr_ite ?_ ?_
    | split

theorem fr_linkDown {m : Nat} {s t : State} {a1} (hM : Cov 3432790011539973030096861834721725702237487880027176058893 m) (h : Fr m s t) :
    Fr m s (Sys2Proof.Machine.linkDown a1 t) := by
  unfold Sys2Proof.Machine.linkDown
  repeat' first
    | with_reducible assumption
    | with_reducible refine fr_State_linkRec (hM.sub (by decide)) ?_
    | with_reducible refine fr_State_goDown (hM.sub (by decide)) ?_
    | with_reducible refine fr_ite ?_ ?_
    | split

theorem fr_laneDegrade {m : Nat} {s t : State} {a1 a2} (hM : Cov 3432790011540062233077655957214291845110578473473199980557 m) (h : Fr m s t) :
    Fr m s (Sys2Proof.Machine.laneDegrade a1 a2 t) := by
  unfold Sys2Proof.Machine.laneDegrade
  repeat' first
    | with_reducible assumption
    | with_reducible refine fr_State_linkRec (hM.sub (by decide)) ?_
    | with_reducible refine fr_State_goDown (hM.sub (by decide)) ?_
    | with_reducible refine fr_State_startTraining (hM.sub (by decide)) ?_
    | with_reducible refine fr_State_modLink (hM.sub (by decide)) ?_
    | with_reducible refine fr_State_lc (hM.sub (by decide)) ?_
    | with_reducible refine fr_ite ?_ ?_
    | split
    | dsimp only

theorem fr_State_retuneGo {m : Nat} {s t : State} {a1} (hM : Cov 379112668375020593406107210635022695357612033 m) (h : Fr m s t) :
    Fr m s (Sys2Proof.Machine.State.retuneGo t a1) := by
  unfold Sys2Proof.Machine.State.retuneGo
  repeat' first
    | with_reducible assumption
    | with_reducible refine fr_State_ls (hM.sub (by decide)) ?_
    | with_reducible refine fr_State_sendCtl (hM.sub (by decide)) ?_
    | with_reducible refine fr_ite ?_ ?_
    | split

theorem fr_State_askRetune {m : Nat} {s t : State} {a1} (hM : Cov 379112668375020593406107210635022695357612033 m) (h : Fr m s t) :
    Fr m s (Sys2Proof.Machine.State.askRetune t a1) := by
  unfold Sys2Proof.Machine.State.askRetune
  repeat' first
    | with_reducible assumption
    | with_reducible refine fr_State_retuneGo (hM.sub (by decide)) ?_
    | with_reducible refine fr_State_modLink (hM.sub (by decide)) ?_
    | with_reducible refine fr_ite ?_ ?_
    | split

theorem fr_State_writeLinkCtl {m : Nat} {s t : State} {a1 a2} (hM : Cov 426588864207829927828517235863902996222574593 m) (h : Fr m s t) :
    Fr m s (Sys2Proof.Machine.State.writeLinkCtl t a1 a2) := by
  unfold Sys2Proof.Machine.State.writeLinkCtl
  repeat' first
    | with_reducible assumption
    | with_reducible refine fr_State_ls (hM.sub (by decide)) ?_
    | with_reducible refine fr_State_drainOn (hM.sub (by decide)) ?_
    | with_reducible refine fr_State_linkLost (hM.sub (by decide)) ?_
    | with_reducible refine fr_State_startTraining (hM.sub (by decide)) ?_
    | with_reducible refine fr_State_askRetune (hM.sub (by decide)) ?_
    | with_reducible refine fr_ite ?_ ?_
    | split
    | dsimp only

theorem fr_retuneDone {m : Nat} {s t : State} {a1 a2} (hM : Cov 3432790011540062254855727440154353506766553349106365513741 m) (h : Fr m s t) :
    Fr m s (Sys2Proof.Machine.retuneDone a1 a2 t) := by
  unfold Sys2Proof.Machine.retuneDone
  repeat' first
    | with_reducible assumption
    | with_reducible refine fr_State_linkRec (hM.sub (by decide)) ?_
    | with_reducible refine fr_State_goUp (hM.sub (by decide)) ?_
    | with_reducible refine fr_State_modLink (hM.sub (by decide)) ?_
    | with_reducible refine fr_State_goDown (hM.sub (by decide)) ?_
    | with_reducible refine fr_ite ?_ ?_
    | split
    | dsimp only

theorem fr_State_takeFlit {m : Nat} {s t : State} {a1 a2} (hM : Cov 655360 m) (h : Fr m s t) :
    Fr m s (Sys2Proof.Machine.State.takeFlit t a1 a2) := by
  unfold Sys2Proof.Machine.State.takeFlit
  repeat' first
    | with_reducible assumption
    | with_reducible refine fr_State_setLink (hM.sub (by decide)) ?_
    | split
    | dsimp only
    | with_reducible refine fr_set_net (hM.sub (by decide)) ?_

theorem fr_State_takeWords {m : Nat} {s t : State} {a1 a2} (hM : Cov 111503725992653115707678591363242357285847041 m) (h : Fr m s t) :
    Fr m s (Sys2Proof.Machine.State.takeWords t a1 a2) := by
  unfold Sys2Proof.Machine.State.takeWords
  repeat' first
    | with_reducible assumption
    | with_reducible refine fr_State_countReplays (hM.sub (by decide)) ?_
    | with_reducible refine fr_State_setLink (hM.sub (by decide)) ?_
    | with_reducible refine fr_State_startTraining (hM.sub (by decide)) ?_
    | with_reducible refine fr_State_lc (hM.sub (by first | decide | (dsimp only; decide) | (dsimp only [clkField]; decide) | (split <;> decide))) ?_
    | with_reducible refine fr_State_emit (hM.sub (by decide)) ?_
    | with_reducible refine fr_ite ?_ ?_
    | with_reducible refine fr_foldl ?_ (fun _ _ _ => ?_)
    | with_reducible refine fr_foldl_fst ?_ (fun _ _ _ => ?_)
    | with_reducible refine fr_foldl_snd ?_ (fun _ _ _ => ?_)
    | split
    | dsimp only

theorem fr_flitGroup {m : Nat} {s t : State} {a1 a2} (hM : Cov 468402761455074846218896707625118674046287873 m) (h : Fr m s t) :
    Fr m s (Sys2Proof.Machine.flitGroup a1 a2 t) := by
  unfold Sys2Proof.Machine.flitGroup
  repeat' first
    | with_reducible assumption
    | with_reducible refine fr_State_lc (hM.sub (by first | decide | (dsimp only; decide) | (dsimp only [clkField]; decide) | (split <;> decide))) ?_
    | with_reducible refine fr_State_modLink (hM.sub (by decide)) ?_
    | with_reducible refine fr_State_takeFlit (hM.sub (by decide)) ?_
    | with_reducible refine fr_State_drainOn (hM.sub (by decide)) ?_
    | with_reducible refine fr_State_retuneGo (hM.sub (by decide)) ?_
    | with_reducible refine fr_State_pump (hM.sub (by decide)) ?_
    | with_reducible refine fr_State_takeWords (hM.sub (by decide)) ?_
    | with_reducible refine fr_ite ?_ ?_
    | with_reducible refine fr_foldl ?_ (fun _ _ _ => ?_)
    | with_reducible refine fr_foldl_fst ?_ (fun _ _ _ => ?_)
    | with_reducible refine fr_foldl_snd ?_ (fun _ _ _ => ?_)
    | split
    | dsimp only

theorem fr_hello {m : Nat} {s t : State} {a1 a2 a3 a4} (hM : Cov 22300745198530623141535718272648361505980417 m) (h : Fr m s t) :
    Fr m s (Sys2Proof.Machine.hello a1 a2 a3 a4 t) := by
  unfold Sys2Proof.Machine.hello
  repeat' first
    | with_reducible assumption
    | with_reducible refine fr_State_ls (hM.sub (by decide)) ?_
    | with_reducible refine fr_ite ?_ ?_
    | split

theorem fr_drainFlit {m : Nat} {s t : State} {a1 a2 a3} (hM : Cov 356899035462421730511218116261876866516385793 m) (h : Fr m s t) :
    Fr m s (Sys2Proof.Machine.drainFlit a1 a2 a3 t) := by
  unfold Sys2Proof.Machine.drainFlit
  repeat' first
    | with_reducible assumption
    | with_reducible refine fr_State_drainOn (hM.sub (by decide)) ?_
    | with_reducible refine fr_State_modLink (hM.sub (by decide)) ?_
    | with_reducible refine fr_ite ?_ ?_
    | split

theorem fr_State_bufferMet {m : Nat} {s t : State} {a1} (hM : Cov 3432790011539591042723051066040180256438169273753965445133 m) (h : Fr m s t) :
    Fr m s (Sys2Proof.Machine.State.bufferMet t a1) := by
  unfold Sys2Proof.Machine.State.bufferMet
  repeat' first
    | with_reducible assumption
    | with_reducible refine fr_State_sramRec (hM.sub (by decide)) ?_

theorem fr_State_entryMet {m : Nat} {s t : State} {a1 a2} (hM : Cov 3432790011541731914262110005861767685392343516458539565069 m) (h : Fr m s t) :
    Fr m s (Sys2Proof.Machine.State.entryMet t a1 a2) := by
  unfold Sys2Proof.Machine.State.entryMet
  repeat' first
    | with_reducible assumption
    | with_reducible refine fr_State_ctlMet (hM.sub (by decide)) ?_ (fun _ _ => ?_)
    | with_reducible refine fr_State_fs (hM.sub (by decide)) ?_
    | with_reducible refine fr_ite ?_ ?_
    | split
    | dsimp only

theorem fr_route {m : Nat} {s t : State} {a1 a2 a3} (hM : Cov 3432790011542091600890722243920171595473389474370245246989 m) (h : Fr m s t) :
    Fr m s (Sys2Proof.Machine.route a1 a2 a3 t) := by
  unfold Sys2Proof.Machine.route
  repeat' first
    | with_reducible assumption
    | with_reducible refine fr_State_modLink (hM.sub (by decide)) ?_
    | with_reducible refine fr_State_drainOn (hM.sub (by decide)) ?_
    | with_reducible refine fr_State_routePkt (hM.sub (by decide)) ?_
    | with_reducible refine fr_State_bufferMet (hM.sub (by decide)) ?_
    | with_reducible refine fr_State_fc (hM.sub (by decide)) ?_
    | with_reducible refine fr_State_creditBack (hM.sub (by decide)) ?_
    | with_reducible refine fr_State_entryMet (hM.sub (by decide)) ?_
    | with_reducible refine fr_ite ?_ ?_
    | with_reducible refine fr_foldl ?_ (fun _ _ _ => ?_)
    | with_reducible refine fr_foldl_fst ?_ (fun _ _ _ => ?_)
    | with_reducible refine fr_foldl_snd ?_ (fun _ _ _ => ?_)
    | split
    | dsimp only
    | with_reducible refine fr_set_net (hM.sub (by decide)) ?_

theorem fr_escape {m : Nat} {s t : State} {a1} (hM : Cov 359599516326306298157263457146455379041452033 m) (h : Fr m s t) :
    Fr m s (Sys2Proof.Machine.escape a1 t) := by
  unfold Sys2Proof.Machine.escape
  repeat' first
    | with_reducible assumption
    | with_reducible refine fr_State_routePkt (hM.sub (by decide)) ?_
    | with_reducible refine fr_ite ?_ ?_
    | split
    | dsimp only
    | with_reducible refine fr_set_net (hM.sub (by decide)) ?_

theorem fr_cmapUpdate {m : Nat} {s t : State} (hM : Cov 356811923176489970264571492362373784095686657 m) (h : Fr m s t) :
    Fr m s (Sys2Proof.Machine.cmapUpdate t) := by
  unfold Sys2Proof.Machine.cmapUpdate
  repeat' first
    | with_reducible assumption
    | with_reducible refine fr_State_ls (hM.sub (by decide)) ?_
    | with_reducible refine fr_foldl ?_ (fun _ _ _ => ?_)
    | with_reducible refine fr_foldl_fst ?_ (fun _ _ _ => ?_)
    | with_reducible refine fr_foldl_snd ?_ (fun _ _ _ => ?_)
    | dsimp only

theorem fr_State_unbar {m : Nat} {s t : State} {a1} (hM : Cov 131072 m) (h : Fr m s t) :
    Fr m s (Sys2Proof.Machine.State.unbar t a1) := by
  unfold Sys2Proof.Machine.State.unbar
  repeat' first
    | with_reducible assumption
    | with_reducible refine fr_ite ?_ ?_
    | split
    | dsimp only
    | with_reducible refine fr_set_links (hM.sub (by decide)) ?_

theorem fr_State_sealBank {m : Nat} {s t : State} {a1 a2} (hM : Cov 261336857795280739939871698507597986529281 m) (h : Fr m s t) :
    Fr m s (Sys2Proof.Machine.State.sealBank t a1 a2) := by
  unfold Sys2Proof.Machine.State.sealBank
  repeat' first
    | with_reducible assumption
    | with_reducible refine fr_State_setBank (hM.sub (by decide)) ?_
    | with_reducible refine fr_State_fs (hM.sub (by decide)) ?_
    | with_reducible refine fr_State_unbar (hM.sub (by decide)) ?_
    | with_reducible refine fr_ite ?_ ?_
    | split
    | dsimp only

theorem fr_State_doSwitch {m : Nat} {s t : State} (hM : Cov 356899035462421730511218116261876866516385793 m) (h : Fr m s t) :
    Fr m s (Sys2Proof.Machine.State.doSwitch t) := by
  unfold Sys2Proof.Machine.State.doSwitch
  repeat' first
    | with_reducible assumption
    | with_reducible refine fr_State_setBank (hM.sub (by decide)) ?_
    | with_reducible refine fr_State_fs (hM.sub (by decide)) ?_
    | with_reducible refine fr_State_drainOn (hM.sub (by decide)) ?_
    | with_reducible refine fr_ite ?_ ?_
    | split
    | dsimp only
    | with_reducible refine fr_set_drain (hM.sub (by decide)) ?_

theorem fr_State_writeEpoch {m : Nat} {s t : State} {a1} (hM : Cov 357073260034285251004511364060881931840651265 m) (h : Fr m s t) :
    Fr m s (Sys2Proof.Machine.State.writeEpoch t a1) := by
  unfold Sys2Proof.Machine.State.writeEpoch
  repeat' first
    | with_reducible assumption
    | with_reducible refine fr_State_fs (hM.sub (by decide)) ?_
    | with_reducible refine fr_State_sealBank (hM.sub (by decide)) ?_
    | with_reducible refine fr_State_doSwitch (hM.sub (by decide)) ?_
    | with_reducible refine fr_ite ?_ ?_
    | with_reducible refine fr_foldl ?_ (fun _ _ _ => ?_)
    | with_reducible refine fr_foldl_fst ?_ (fun _ _ _ => ?_)
    | with_reducible refine fr_foldl_snd ?_ (fun _ _ _ => ?_)
    | split
    | dsimp only

theorem fr_State_writeRoute {m : Nat} {s t : State} {a1 a2 a3 a4} (hM : Cov 2140958651344871581834075578073745237236252673 m) (h : Fr m s t) :
    Fr m s (Sys2Proof.Machine.State.writeRoute t a1 a2 a3 a4) := by
  unfold Sys2Proof.Machine.State.writeRoute
  repeat' first
    | with_reducible assumption
    | with_reducible refine fr_State_fs (hM.sub (by decide)) ?_
    | with_reducible refine fr_ite ?_ ?_
    | split

theorem fr_routeTableWrite {m : Nat} {s t : State} {a1 a2 a3 a4 a5} (hM : Cov 2140958651344871581834075578073745237236252673 m) (h : Fr m s t) :
    Fr m s (Sys2Proof.Machine.routeTableWrite a1 a2 a3 a4 a5 t) := by
  unfold Sys2Proof.Machine.routeTableWrite
  repeat' first
    | with_reducible assumption
    | with_reducible refine fr_State_gated (hM.sub (by decide)) ?_ (fun _ _ => ?_)
    | with_reducible refine fr_State_writeRoute (hM.sub (by decide)) ?_
    | with_reducible refine fr_ite ?_ ?_
    | split

theorem fr_State_closeConn {m : Nat} {s t : State} {a1} (hM : Cov 14272476927059598810582859695647873967946203245 m) (h : Fr m s t) :
    Fr m s (Sys2Proof.Machine.State.closeConn t a1) := by
  unfold Sys2Proof.Machine.State.closeConn
  repeat' first
    | with_reducible assumption
    | with_reducible refine fr_State_showUnacked (hM.sub (by decide)) ?_
    | with_reducible refine fr_State_setConn (hM.sub (by decide)) ?_
    | with_reducible refine fr_State_fs (hM.sub (by decide)) ?_
    | with_reducible refine fr_State_failConnColl (hM.sub (by decide)) ?_
    | with_reducible refine fr_State_failConnXfers (hM.sub (by decide)) ?_
    | with_reducible refine fr_ite ?_ ?_
    | split
    | dsimp only

theorem fr_State_writeConn0 {m : Nat} {s t : State} {a1 a2} (hM : Cov 42817430781178796431748579084637776695601135725 m) (h : Fr m s t) :
    Fr m s (Sys2Proof.Machine.State.writeConn0 t a1 a2) := by
  unfold Sys2Proof.Machine.State.writeConn0
  repeat' first
    | with_reducible assumption
    | with_reducible refine fr_State_fs (hM.sub (by decide)) ?_
    | with_reducible refine fr_State_setConn (hM.sub (by decide)) ?_
    | with_reducible refine fr_State_closeConn (hM.sub (by decide)) ?_
    | with_reducible refine fr_ite ?_ ?_
    | split
    | dsimp only

theorem fr_State_takeArrived {m : Nat} {s t : State} {a1} (hM : Cov 1048576 m) (h : Fr m s t) :
    Fr m s (Sys2Proof.Machine.State.takeArrived t a1) := by
  unfold Sys2Proof.Machine.State.takeArrived
  repeat' first
    | with_reducible assumption
    | split
    | with_reducible refine fr_set_arrived (hM.sub (by decide)) ?_

theorem fr_recvType {m : Nat} {s t : State} {a1 a2 a3} (hM : Cov 3432790011582414094033155051661978366234556280471247667437 m) (h : Fr m s t) :
    Fr m s (Sys2Proof.Machine.recvType a1 a2 a3 t) := by
  unfold Sys2Proof.Machine.recvType
  repeat' first
    | with_reducible assumption
    | with_reducible refine fr_State_connRecv (hM.sub (by decide)) ?_
    | with_reducible refine fr_State_takeArrived (hM.sub (by decide)) ?_
    | with_reducible refine fr_ite ?_ ?_
    | split

theorem fr_State_connMet {m : Nat} {s t : State} {a1 a2 a3} (hM : Cov 3432790011576699482733406022947695691645009069904035594349 m) (h : Fr m s t) :
    Fr m s (Sys2Proof.Machine.State.connMet t a1 a2 a3) := by
  unfold Sys2Proof.Machine.State.connMet
  repeat' first
    | with_reducible assumption
    | with_reducible refine fr_State_ctlMet (hM.sub (by decide)) ?_ (fun _ _ => ?_)
    | with_reducible refine fr_State_connError (hM.sub (by decide)) ?_
    | with_reducible refine fr_State_free (hM.sub (by decide)) ?_
    | with_reducible refine fr_ite ?_ ?_
    | split
    | dsimp only

theorem fr_State_foundFar {m : Nat} {s t : State} {a1 a2} (hM : Cov 141976867225561692967630759002145 m) (h : Fr m s t) :
    Fr m s (Sys2Proof.Machine.State.foundFar t a1 a2) := by
  unfold Sys2Proof.Machine.State.foundFar
  repeat' first
    | with_reducible assumption
    | with_reducible refine fr_State_events (hM.sub (by decide)) ?_
    | with_reducible refine fr_State_undef (hM.sub (by decide)) ?_
    | with_reducible refine fr_State_fail (hM.sub (by decide)) ?_
    | with_reducible refine fr_ite ?_ ?_
    | split
    | dsimp only

theorem fr_State_takeFound {m : Nat} {s t : State} {a1 a2 a3} (hM : Cov 141976867225561692967630759002145 m) (h : Fr m s t) :
    Fr m s (Sys2Proof.Machine.State.takeFound t a1 a2 a3) := by
  unfold Sys2Proof.Machine.State.takeFound
  repeat' first
    | with_reducible assumption
    | with_reducible refine fr_State_foundFar (hM.sub (by decide)) ?_
    | with_reducible refine fr_foldl ?_ (fun _ _ _ => ?_)
    | with_reducible refine fr_foldl_fst ?_ (fun _ _ _ => ?_)
    | with_reducible refine fr_foldl_snd ?_ (fun _ _ _ => ?_)

theorem fr_recvAck {m : Nat} {s t : State} {a1 a2} (hM : Cov 17127015868614626429689980507036660533684863073 m) (h : Fr m s t) :
    Fr m s (Sys2Proof.Machine.recvAck a1 a2 t) := by
  unfold Sys2Proof.Machine.recvAck
  repeat' first
    | with_reducible assumption
    | with_reducible refine fr_State_takeArrived (hM.sub (by decide)) ?_
    | with_reducible refine fr_State_retireBelow (hM.sub (by decide)) ?_
    | with_reducible refine fr_State_takeFound (hM.sub (by decide)) ?_
    | with_reducible refine fr_ite ?_ ?_
    | split
    | dsimp only

theorem fr_State_dropXfer {m : Nat} {s t : State} {a1 a2} (hM : Cov 64 m) (h : Fr m s t) :
    Fr m s (Sys2Proof.Machine.State.dropXfer t a1 a2) := by
  unfold Sys2Proof.Machine.State.dropXfer
  repeat' first
    | with_reducible assumption
    | with_reducible refine fr_State_modCore (hM.sub (by decide)) ?_

theorem fr_State_nakTarget {m : Nat} {s t : State} {a1 a2} (hM : Cov 96 m) (h : Fr m s t) :
    Fr m s (Sys2Proof.Machine.State.nakTarget t a1 a2) := by
  unfold Sys2Proof.Machine.State.nakTarget
  repeat' first
    | with_reducible assumption
    | with_reducible refine fr_State_dropXfer (hM.sub (by decide)) ?_
    | with_reducible refine fr_State_undef (hM.sub (by decide)) ?_
    | with_reducible refine fr_State_modRun (hM.sub (by decide)) ?_
    | with_reducible refine fr_State_descError (hM.sub (by decide)) ?_
    | with_reducible refine fr_ite ?_ ?_
    | split

theorem fr_recvNak {m : Nat} {s t : State} {a1 a2} (hM : Cov 3432790011582408518761784662956744476151629838943459754093 m) (h : Fr m s t) :
    Fr m s (Sys2Proof.Machine.recvNak a1 a2 t) := by
  unfold Sys2Proof.Machine.recvNak
  repeat' first
    | with_reducible assumption
    | with_reducible refine fr_State_takeArrived (hM.sub (by decide)) ?_
    | with_reducible refine fr_State_resend (hM.sub (by decide)) ?_
    | with_reducible refine fr_State_retireBelow (hM.sub (by decide)) ?_
    | with_reducible refine fr_State_nakTarget (hM.sub (by decide)) ?_
    | with_reducible refine fr_State_connError (hM.sub (by decide)) ?_
    | with_reducible refine fr_ite ?_ ?_
    | split
    | dsimp only

theorem fr_recvCnp {m : Nat} {s t : State} {a1} (hM : Cov 34253944624943037145398863266787883273187229697 m) (h : Fr m s t) :
    Fr m s (Sys2Proof.Machine.recvCnp a1 t) := by
  unfold Sys2Proof.Machine.recvCnp
  repeat' first
    | with_reducible assumption
    | with_reducible refine fr_State_takeArrived (hM.sub (by decide)) ?_
    | with_reducible refine fr_State_fc (hM.sub (by first | decide | (dsimp only; decide) | (dsimp only [clkField]; decide) | (split <;> decide))) ?_
    | with_reducible refine fr_State_fs (hM.sub (by first | decide | (dsimp only; decide) | (dsimp only [clkField]; decide) | (split <;> decide))) ?_
    | with_reducible refine fr_State_setConn (hM.sub (by decide)) ?_
    | with_reducible refine fr_ite ?_ ?_
    | split
    | dsimp only

theorem fr_incUs {m : Nat} {s t : State} {a1} (hM : Cov 11417981541647679048466287755595961091062235137 m) (h : Fr m s t) :
    Fr m s (Sys2Proof.Machine.incUs a1 t) := by
  unfold Sys2Proof.Machine.incUs
  repeat' first
    | with_reducible assumption
    | with_reducible refine fr_State_fs (hM.sub (by decide)) ?_
    | with_reducible refine fr_State_setConn (hM.sub (by decide)) ?_
    | with_reducible refine fr_ite ?_ ?_
    | split
    | dsimp only

theorem fr_ackDelay {m : Nat} {s t : State} {a1} (hM : Cov 5709034326966805404356467189747731811862839297 m) (h : Fr m s t) :
    Fr m s (Sys2Proof.Machine.ackDelay a1 t) := by
  unfold Sys2Proof.Machine.ackDelay
  repeat' first
    | with_reducible assumption
    | with_reducible refine fr_State_sendAck (hM.sub (by decide)) ?_
    | with_reducible refine fr_ite ?_ ?_
    | split

theorem fr_gapUs {m : Nat} {s t : State} {a1} (hM : Cov 5709034326966805404356467189747731811862577153 m) (h : Fr m s t) :
    Fr m s (Sys2Proof.Machine.gapUs a1 t) := by
  unfold Sys2Proof.Machine.gapUs
  repeat' first
    | with_reducible assumption
    | with_reducible refine fr_State_connNote (hM.sub (by decide)) ?_
    | with_reducible refine fr_ite ?_ ?_
    | split

theorem fr_rtoUs {m : Nat} {s t : State} {a1 a2} (hM : Cov 3432790011576699527990960823432511332273831858397927719021 m) (h : Fr m s t) :
    Fr m s (Sys2Proof.Machine.rtoUs a1 a2 t) := by
  unfold Sys2Proof.Machine.rtoUs
  repeat' first
    | with_reducible assumption
    | with_reducible refine fr_State_resend (hM.sub (by decide)) ?_
    | with_reducible refine fr_ite ?_ ?_
    | split

theorem fr_execHello {m : Nat} {s t : State} {a1 a2 a3 a4} (hM : Cov 22300745198530623141535718272648361505980417 m) (h : Fr m s t) :
    ∀ u, Sys2Proof.Machine.execHello a1 a2 a3 a4 t = .next u → Fr m s u := by
  intro u e
  cases e
  repeat' first
    | with_reducible assumption
    | with_reducible refine fr_hello (hM.sub (by decide)) ?_

theorem fr_execDrain {m : Nat} {s t : State} {a1 a2 a3} (hM : Cov 356899035462421730511218116261876866516385793 m) (h : Fr m s t) :
    ∀ u, Sys2Proof.Machine.execDrain a1 a2 a3 t = .next u → Fr m s u := by
  intro u e
  cases e
  repeat' first
    | with_reducible assumption
    | with_reducible refine fr_drainFlit (hM.sub (by decide)) ?_

theorem fr_execLaneDegrade {m : Nat} {s t : State} {a1 a2 a3} (hM : Cov 3432790011540062233077655957214291845110578473473199980557 m) (h : Fr m s t) :
    ∀ u, Sys2Proof.Machine.execLaneDegrade a1 a2 a3 t = .next u → Fr m s u := by
  intro u e
  cases e
  repeat' first
    | with_reducible assumption
    | with_reducible refine fr_laneDegrade (hM.sub (by decide)) ?_

theorem fr_execLinkTrainRetry {m : Nat} {s t : State} {a1} (hM : Cov 66902235595591869424607154817945084518072321 m) (h : Fr m s t) :
    ∀ u, Sys2Proof.Machine.execLinkTrainRetry a1 t = .next u → Fr m s u := by
  intro u e
  cases e
  repeat' first
    | with_reducible assumption
    | with_reducible refine fr_linkTrainRetry (hM.sub (by decide)) ?_

theorem fr_execLinkDown {m : Nat} {s t : State} {a1} (hM : Cov 3432790011539973030096861834721725702237487880027176058893 m) (h : Fr m s t) :
    ∀ u, Sys2Proof.Machine.execLinkDown a1 t = .next u → Fr m s u := by
  intro u e
  cases e
  repeat' first
    | with_reducible assumption
    | with_reducible refine fr_linkDown (hM.sub (by decide)) ?_

theorem fr_execLinkTrained {m : Nat} {s t : State} {a1 a2 a3} (hM : Cov 3432790011540062254855727440154353506766553349106365513741 m) (h : Fr m s t) :
    ∀ u, Sys2Proof.Machine.execLinkTrained a1 a2 a3 t = .next u → Fr m s u := by
  intro u e
  cases e
  repeat' first
    | with_reducible assumption
    | with_reducible refine fr_linkTrained (hM.sub (by decide)) ?_

theorem fr_execRetune {m : Nat} {s t : State} {a1 a2 a3} (hM : Cov 426588864207829927828517235863902996759445505 m) (h : Fr m s t) :
    ∀ u, Sys2Proof.Machine.execRetune a1 a2 a3 t = .next u → Fr m s u := by
  intro u e
  cases e
  repeat' first
    | with_reducible assumption
    | with_reducible refine fr_State_gatedUnit (hM.sub (by decide)) ?_ (fun _ _ => ?_)
    | with_reducible refine fr_State_writeLinkCtl (hM.sub (by decide)) ?_

theorem fr_execRetuneDone {m : Nat} {s t : State} {a1 a2} (hM : Cov 3432790011540062254855727440154353506766553349106365513741 m) (h : Fr m s t) :
    ∀ u, Sys2Proof.Machine.execRetuneDone a1 a2 t = .next u → Fr m s u := by
  intro u e
  cases e
  repeat' first
    | with_reducible assumption
    | with_reducible refine fr_retuneDone (hM.sub (by decide)) ?_

theorem fr_execRetuneHandshake {m : Nat} {s t : State} {a1} (hM : Cov 379112668375020593406107210635022695357612033 m) (h : Fr m s t) :
    ∀ u, Sys2Proof.Machine.execRetuneHandshake a1 t = .next u → Fr m s u := by
  intro u e
  cases e
  repeat' first
    | with_reducible assumption
    | with_reducible refine fr_State_askRetune (hM.sub (by decide)) ?_

theorem fr_execLinkEnable {m : Nat} {s t : State} {a1 a2 a3} (hM : Cov 426588864207829927828517235863902996759445505 m) (h : Fr m s t) :
    ∀ u, Sys2Proof.Machine.execLinkEnable a1 a2 a3 t = .next u → Fr m s u := by
  intro u e
  cases e
  repeat' first
    | with_reducible assumption
    | with_reducible refine fr_State_gatedUnit (hM.sub (by decide)) ?_ (fun _ _ => ?_)
    | with_reducible refine fr_State_writeLinkCtl (hM.sub (by decide)) ?_

theorem fr_execRoute {m : Nat} {s t : State} {a1 a2 a3} (hM : Cov 3432790011542091600890722243920171595473389474370245246989 m) (h : Fr m s t) :
    ∀ u, Sys2Proof.Machine.execRoute a1 a2 a3 t = .next u → Fr m s u := by
  intro u e
  cases e
  repeat' first
    | with_reducible assumption
    | with_reducible refine fr_route (hM.sub (by decide)) ?_

theorem fr_execEscape {m : Nat} {s t : State} {a1} (hM : Cov 359599516326306298157263457146455379041452033 m) (h : Fr m s t) :
    ∀ u, Sys2Proof.Machine.execEscape a1 t = .next u → Fr m s u := by
  intro u e
  cases e
  repeat' first
    | with_reducible assumption
    | with_reducible refine fr_escape (hM.sub (by decide)) ?_

theorem fr_execWrite {m : Nat} {s t : State} {a1} (hM : Cov 3432790011582414094033155051661978366234556280471247667437 m) (h : Fr m s t) :
    ∀ u, Sys2Proof.Machine.execWrite a1 t = .next u → Fr m s u := by
  intro u e
  cases e
  repeat' first
    | with_reducible assumption
    | with_reducible refine fr_recvType (hM.sub (by decide)) ?_
    | with_reducible refine fr_State_connMet (hM.sub (by decide)) ?_

theorem fr_execCombine {m : Nat} {s t : State} {a1} (hM : Cov 3432790011582414094033155051661978366234556280471247667437 m) (h : Fr m s t) :
    ∀ u, Sys2Proof.Machine.execCombine a1 t = .next u → Fr m s u := by
  intro u e
  cases e
  repeat' first
    | with_reducible assumption
    | with_reducible refine fr_recvType (hM.sub (by decide)) ?_
    | with_reducible refine fr_State_connMet (hM.sub (by decide)) ?_

theorem fr_execReadReq {m : Nat} {s t : State} {a1} (hM : Cov 3432790011582414094033155051661978366234556280471247667437 m) (h : Fr m s t) :
    ∀ u, Sys2Proof.Machine.execReadReq a1 t = .next u → Fr m s u := by
  intro u e
  cases e
  repeat' first
    | with_reducible assumption
    | with_reducible refine fr_recvType (hM.sub (by decide)) ?_
    | with_reducible refine fr_State_connMet (hM.sub (by decide)) ?_

theorem fr_execReadResp {m : Nat} {s t : State} {a1} (hM : Cov 3432790011582414094033155051661978366234556280471247667437 m) (h : Fr m s t) :
    ∀ u, Sys2Proof.Machine.execReadResp a1 t = .next u → Fr m s u := by
  intro u e
  cases e
  repeat' first
    | with_reducible assumption
    | with_reducible refine fr_recvType (hM.sub (by decide)) ?_
    | with_reducible refine fr_State_connMet (hM.sub (by decide)) ?_

theorem fr_execSignal {m : Nat} {s t : State} {a1} (hM : Cov 3432790011582414094033155051661978366234556280471247667437 m) (h : Fr m s t) :
    ∀ u, Sys2Proof.Machine.execSignal a1 t = .next u → Fr m s u := by
  intro u e
  cases e
  repeat' first
    | with_reducible assumption
    | with_reducible refine fr_recvType (hM.sub (by decide)) ?_
    | with_reducible refine fr_State_connMet (hM.sub (by decide)) ?_

theorem fr_execDoorbellPacket {m : Nat} {s t : State} {a1} (hM : Cov 3432790011582414094033155051661978366234556280471247667437 m) (h : Fr m s t) :
    ∀ u, Sys2Proof.Machine.execDoorbellPacket a1 t = .next u → Fr m s u := by
  intro u e
  cases e
  repeat' first
    | with_reducible assumption
    | with_reducible refine fr_recvType (hM.sub (by decide)) ?_
    | with_reducible refine fr_State_connMet (hM.sub (by decide)) ?_

theorem fr_execAck {m : Nat} {s t : State} {a1} (hM : Cov 3432790011582408517060372970328919384396449769346658222189 m) (h : Fr m s t) :
    ∀ u, Sys2Proof.Machine.execAck a1 t = .next u → Fr m s u := by
  intro u e
  cases e
  repeat' first
    | with_reducible assumption
    | with_reducible refine fr_recvAck (hM.sub (by decide)) ?_
    | with_reducible refine fr_State_connMet (hM.sub (by decide)) ?_

theorem fr_execNak {m : Nat} {s t : State} {a1} (hM : Cov 3432790011582408518761784662956744476151629838943459754093 m) (h : Fr m s t) :
    ∀ u, Sys2Proof.Machine.execNak a1 t = .next u → Fr m s u := by
  intro u e
  cases e
  repeat' first
    | with_reducible assumption
    | with_reducible refine fr_recvNak (hM.sub (by decide)) ?_
    | with_reducible refine fr_State_connMet (hM.sub (by decide)) ?_

theorem fr_execCnp {m : Nat} {s t : State} {a1} (hM : Cov 3432790011576699482733406022947695691645009069904036642925 m) (h : Fr m s t) :
    ∀ u, Sys2Proof.Machine.execCnp a1 t = .next u → Fr m s u := by
  intro u e
  cases e
  repeat' first
    | with_reducible assumption
    | with_reducible refine fr_recvCnp (hM.sub (by decide)) ?_
    | with_reducible refine fr_State_connMet (hM.sub (by decide)) ?_

theorem fr_execAckDelayUs {m : Nat} {s t : State} {a1} (hM : Cov 5709034326966805404356467189747731811862839297 m) (h : Fr m s t) :
    ∀ u, Sys2Proof.Machine.execAckDelayUs a1 t = .next u → Fr m s u := by
  intro u e
  cases e
  repeat' first
    | with_reducible assumption
    | with_reducible refine fr_ackDelay (hM.sub (by decide)) ?_

theorem fr_execGapUs {m : Nat} {s t : State} {a1} (hM : Cov 5709034326966805404356467189747731811862577153 m) (h : Fr m s t) :
    ∀ u, Sys2Proof.Machine.execGapUs a1 t = .next u → Fr m s u := by
  intro u e
  cases e
  repeat' first
    | with_reducible assumption
    | with_reducible refine fr_gapUs (hM.sub (by decide)) ?_

theorem fr_execRtoUs {m : Nat} {s t : State} {a1} (hM : Cov 3432790011576699527990960823432511332273831858397927719021 m) (h : Fr m s t) :
    ∀ u, Sys2Proof.Machine.execRtoUs a1 t = .next u → Fr m s u := by
  intro u e
  cases e
  repeat' first
    | with_reducible assumption
    | with_reducible refine fr_rtoUs (hM.sub (by decide)) ?_

theorem fr_execIncUs {m : Nat} {s t : State} {a1} (hM : Cov 11417981541647679048466287755595961091062235137 m) (h : Fr m s t) :
    ∀ u, Sys2Proof.Machine.execIncUs a1 t = .next u → Fr m s u := by
  intro u e
  cases e
  repeat' first
    | with_reducible assumption
    | with_reducible refine fr_incUs (hM.sub (by decide)) ?_

theorem fr_execSeal {m : Nat} {s t : State} {a1 a2} (hM : Cov 357073260034285251004511364060881931840651265 m) (h : Fr m s t) :
    ∀ u, Sys2Proof.Machine.execSeal a1 a2 t = .next u → Fr m s u := by
  intro u e
  cases e
  repeat' first
    | with_reducible assumption
    | with_reducible refine fr_State_gated (hM.sub (by decide)) ?_ (fun _ _ => ?_)
    | with_reducible refine fr_State_writeEpoch (hM.sub (by decide)) ?_

theorem fr_execSwitch {m : Nat} {s t : State} {a1 a2} (hM : Cov 357073260034285251004511364060881931840651265 m) (h : Fr m s t) :
    ∀ u, Sys2Proof.Machine.execSwitch a1 a2 t = .next u → Fr m s u := by
  intro u e
  cases e
  repeat' first
    | with_reducible assumption
    | with_reducible refine fr_State_gated (hM.sub (by decide)) ?_ (fun _ _ => ?_)
    | with_reducible refine fr_State_writeEpoch (hM.sub (by decide)) ?_

theorem fr_execClear {m : Nat} {s t : State} {a1 a2} (hM : Cov 357073260034285251004511364060881931840651265 m) (h : Fr m s t) :
    ∀ u, Sys2Proof.Machine.execClear a1 a2 t = .next u → Fr m s u := by
  intro u e
  cases e
  repeat' first
    | with_reducible assumption
    | with_reducible refine fr_State_gated (hM.sub (by decide)) ?_ (fun _ _ => ?_)
    | with_reducible refine fr_State_writeEpoch (hM.sub (by decide)) ?_

theorem fr_execRouteTableWrite {m : Nat} {s t : State} {a1 a2 a3 a4 a5} (hM : Cov 2140958651344871581834075578073745237236252673 m) (h : Fr m s t) :
    ∀ u, Sys2Proof.Machine.execRouteTableWrite a1 a2 a3 a4 a5 t = .next u → Fr m s u := by
  intro u e
  cases e
  repeat' first
    | with_reducible assumption
    | with_reducible refine fr_routeTableWrite (hM.sub (by decide)) ?_

theorem fr_execConnectionOpen {m : Nat} {s t : State} {a1 a2 a3} (hM : Cov 42817430781178796431748579084637776695601135725 m) (h : Fr m s t) :
    ∀ u, Sys2Proof.Machine.execConnectionOpen a1 a2 a3 t = .next u → Fr m s u := by
  intro u e
  cases e
  repeat' first
    | with_reducible assumption
    | with_reducible refine fr_State_gated (hM.sub (by decide)) ?_ (fun _ _ => ?_)
    | with_reducible refine fr_State_writeConn0 (hM.sub (by decide)) ?_

theorem fr_execConnectionClose {m : Nat} {s t : State} {a1 a2 a3} (hM : Cov 42817430781178796431748579084637776695601135725 m) (h : Fr m s t) :
    ∀ u, Sys2Proof.Machine.execConnectionClose a1 a2 a3 t = .next u → Fr m s u := by
  intro u e
  cases e
  repeat' first
    | with_reducible assumption
    | with_reducible refine fr_State_gated (hM.sub (by decide)) ?_ (fun _ _ => ?_)
    | with_reducible refine fr_State_writeConn0 (hM.sub (by decide)) ?_

theorem fr_execCmapUpdate {m : Nat} {s t : State} (hM : Cov 356811923176489970264571492362373784095686657 m) (h : Fr m s t) :
    ∀ u, Sys2Proof.Machine.execCmapUpdate t = .next u → Fr m s u := by
  intro u e
  cases e
  repeat' first
    | with_reducible assumption
    | with_reducible refine fr_cmapUpdate (hM.sub (by decide)) ?_

end Sys2Proof.Laws
end

