-- ==== Sys2Proof/Laws/FrameVector.lean ====
section
/-! SUPPORT. What the functions of Machine/Vector.lean may change. -/

namespace Sys2Proof.Laws

open Sys2Proof.Machine

theorem fr_State_vecStop {m : Nat} {s t : State} {a1 a2 a3} (hM : Cov 32 m) (h : Fr m s t) :
    Fr m s (Sys2Proof.Machine.State.vecStop t a1 a2 a3) := by
  unfold Sys2Proof.Machine.State.vecStop
  repeat' first
    | with_reducible assumption
    | with_reducible refine fr_State_modRun (hM.sub (by decide)) ?_
    | with_reducible refine fr_State_descError (hM.sub (by decide)) ?_

theorem fr_vecSetup {m : Nat} {s t : State} {a1 a2} (hM : Cov 3432790011539591044509533492375107189622038885443586506797 m) (h : Fr m s t) :
    Fr m s (Sys2Proof.Machine.vecSetup a1 a2 t) := by
  unfold Sys2Proof.Machine.vecSetup
  repeat' first
    | with_reducible assumption
    | with_reducible refine fr_State_vecStop (hM.sub (by decide)) ?_
    | with_reducible refine fr_State_stray (hM.sub (by decide)) ?_
    | with_reducible refine fr_State_listMet (hM.sub (by decide)) ?_
    | with_reducible refine fr_State_seenList (hM.sub (by decide)) ?_
    | with_reducible refine fr_State_modRun (hM.sub (by decide)) ?_
    | with_reducible refine fr_ite ?_ ?_
    | split
    | dsimp only

theorem fr_State_freeClash {m : Nat} {s t : State} {a1 a2} (hM : Cov 1099511627776 m) (h : Fr m s t) :
    Fr m s (Sys2Proof.Machine.State.freeClash t a1 a2).1 := by
  unfold Sys2Proof.Machine.State.freeClash
  repeat' first
    | with_reducible assumption
    | with_reducible refine fr_ite ?_ ?_
    | with_reducible refine fr_foldl ?_ (fun _ _ _ => ?_)
    | with_reducible refine fr_foldl_fst ?_ (fun _ _ _ => ?_)
    | with_reducible refine fr_foldl_snd ?_ (fun _ _ _ => ?_)
    | split
    | dsimp only
    | with_reducible refine fr_set_freeCtr (hM.sub (by decide)) ?_

theorem fr_State_vecTake {m : Nat} {s t : State} {a1 a2 a3 a4 a5} (hM : Cov 144512168426019304693228283887981 m) (h : Fr m s t) :
    Fr m s (Sys2Proof.Machine.State.vecTake t a1 a2 a3 a4 a5) := by
  unfold Sys2Proof.Machine.State.vecTake
  repeat' first
    | with_reducible assumption
    | with_reducible refine fr_State_track (hM.sub (by decide)) ?_
    | with_reducible refine fr_State_events (hM.sub (by decide)) ?_
    | with_reducible refine fr_State_indexFault (hM.sub (by decide)) ?_
    | with_reducible refine fr_State_modRun (hM.sub (by decide)) ?_
    | with_reducible refine fr_State_freeClash (hM.sub (by decide)) ?_
    | with_reducible refine fr_State_modCtx (hM.sub (by decide)) ?_
    | with_reducible refine fr_State_placeStaged (hM.sub (by decide)) ?_
    | with_reducible refine fr_ite ?_ ?_
    | with_reducible refine fr_foldl ?_ (fun _ _ _ => ?_)
    | with_reducible refine fr_foldl_fst ?_ (fun _ _ _ => ?_)
    | with_reducible refine fr_foldl_snd ?_ (fun _ _ _ => ?_)
    | split
    | dsimp only

theorem fr_takeVector {m : Nat} {s t : State} {a1 a2} (hM : Cov 5070950572729558240181417410657 m) (h : Fr m s t) :
    Fr m s (Sys2Proof.Machine.takeVector a1 a2 t) := by
  unfold Sys2Proof.Machine.takeVector
  repeat' first
    | with_reducible assumption
    | with_reducible refine fr_State_checkMatrix (hM.sub (by decide)) ?_
    | with_reducible refine fr_State_stopTaking (hM.sub (by decide)) ?_
    | with_reducible refine fr_State_formReads (hM.sub (by decide)) ?_
    | with_reducible refine fr_State_fs (hM.sub (by decide)) ?_
    | with_reducible refine fr_State_handIndex (hM.sub (by decide)) ?_
    | with_reducible refine fr_ite ?_ ?_
    | split
    | dsimp only

theorem fr_indexTake {m : Nat} {s t : State} {a1 a2} (hM : Cov 3432790011539591044509533497446289876108963134426547503213 m) (h : Fr m s t) :
    Fr m s (Sys2Proof.Machine.indexTake a1 a2 t) := by
  unfold Sys2Proof.Machine.indexTake
  repeat' first
    | with_reducible assumption
    | with_reducible refine fr_takeVector (hM.sub (by decide)) ?_
    | with_reducible refine fr_vecSetup (hM.sub (by decide)) ?_
    | with_reducible refine fr_State_takeMatrix (hM.sub (by decide)) ?_
    | with_reducible refine fr_ite ?_ ?_
    | split

theorem fr_State_vecDone {m : Nat} {s t : State} {a1 a2 a3 a4} (hM : Cov 159723975628758057511188722352493 m) (h : Fr m s t) :
    Fr m s (Sys2Proof.Machine.State.vecDone t a1 a2 a3 a4) := by
  unfold Sys2Proof.Machine.State.vecDone
  repeat' first
    | with_reducible assumption
    | with_reducible refine fr_State_seenGot (hM.sub (by decide)) ?_
    | with_reducible refine fr_State_vecTake (hM.sub (by decide)) ?_
    | with_reducible refine fr_State_modCore (hM.sub (by decide)) ?_
    | with_reducible refine fr_State_modRun (hM.sub (by decide)) ?_
    | with_reducible refine fr_State_checkMatrix (hM.sub (by decide)) ?_
    | with_reducible refine fr_State_fc (hM.sub (by decide)) ?_
    | with_reducible refine fr_State_fs (hM.sub (by decide)) ?_
    | dsimp only

theorem fr_vecRun {m : Nat} {s t : State} {a1 a2} (hM : Cov 159723975628758057511188722352493 m) (h : Fr m s t) :
    Fr m s (Sys2Proof.Machine.vecRun a1 a2 t) := by
  unfold Sys2Proof.Machine.vecRun
  repeat' first
    | with_reducible assumption
    | with_reducible refine fr_State_vecDone (hM.sub (by decide)) ?_
    | with_reducible refine fr_ite ?_ ?_
    | split
    | dsimp only

theorem fr_execIndexTake {m : Nat} {s t : State} {a1} (hM : Cov 3432790011539591044509533497446289876108963134426547503213 m) (h : Fr m s t) :
    ∀ u, Sys2Proof.Machine.execIndexTake a1 t = .next u → Fr m s u := by
  intro u e
  cases e
  repeat' first
    | with_reducible assumption
    | with_reducible refine fr_indexTake (hM.sub (by decide)) ?_

theorem fr_execMap {m : Nat} {s t : State} {a1} (hM : Cov 159723975628758057511188722352493 m) (h : Fr m s t) :
    ∀ u, Sys2Proof.Machine.execMap a1 t = .next u → Fr m s u := by
  intro u e
  cases e
  repeat' first
    | with_reducible assumption
    | with_reducible refine fr_vecRun (hM.sub (by decide)) ?_

theorem fr_execFma {m : Nat} {s t : State} {a1} (hM : Cov 159723975628758057511188722352493 m) (h : Fr m s t) :
    ∀ u, Sys2Proof.Machine.execFma a1 t = .next u → Fr m s u := by
  intro u e
  cases e
  repeat' first
    | with_reducible assumption
    | with_reducible refine fr_vecRun (hM.sub (by decide)) ?_

theorem fr_execRsum {m : Nat} {s t : State} {a1} (hM : Cov 159723975628758057511188722352493 m) (h : Fr m s t) :
    ∀ u, Sys2Proof.Machine.execRsum a1 t = .next u → Fr m s u := by
  intro u e
  cases e
  repeat' first
    | with_reducible assumption
    | with_reducible refine fr_vecRun (hM.sub (by decide)) ?_

theorem fr_execRdot {m : Nat} {s t : State} {a1} (hM : Cov 159723975628758057511188722352493 m) (h : Fr m s t) :
    ∀ u, Sys2Proof.Machine.execRdot a1 t = .next u → Fr m s u := by
  intro u e
  cases e
  repeat' first
    | with_reducible assumption
    | with_reducible refine fr_vecRun (hM.sub (by decide)) ?_

theorem fr_execLnorm {m : Nat} {s t : State} {a1} (hM : Cov 159723975628758057511188722352493 m) (h : Fr m s t) :
    ∀ u, Sys2Proof.Machine.execLnorm a1 t = .next u → Fr m s u := by
  intro u e
  cases e
  repeat' first
    | with_reducible assumption
    | with_reducible refine fr_vecRun (hM.sub (by decide)) ?_

theorem fr_execRmsnorm {m : Nat} {s t : State} {a1} (hM : Cov 159723975628758057511188722352493 m) (h : Fr m s t) :
    ∀ u, Sys2Proof.Machine.execRmsnorm a1 t = .next u → Fr m s u := by
  intro u e
  cases e
  repeat' first
    | with_reducible assumption
    | with_reducible refine fr_vecRun (hM.sub (by decide)) ?_

theorem fr_execSoftmax {m : Nat} {s t : State} {a1} (hM : Cov 159723975628758057511188722352493 m) (h : Fr m s t) :
    ∀ u, Sys2Proof.Machine.execSoftmax a1 t = .next u → Fr m s u := by
  intro u e
  cases e
  repeat' first
    | with_reducible assumption
    | with_reducible refine fr_vecRun (hM.sub (by decide)) ?_

theorem fr_execXent {m : Nat} {s t : State} {a1} (hM : Cov 159723975628758057511188722352493 m) (h : Fr m s t) :
    ∀ u, Sys2Proof.Machine.execXent a1 t = .next u → Fr m s u := by
  intro u e
  cases e
  repeat' first
    | with_reducible assumption
    | with_reducible refine fr_vecRun (hM.sub (by decide)) ?_

theorem fr_execSumsq {m : Nat} {s t : State} {a1} (hM : Cov 159723975628758057511188722352493 m) (h : Fr m s t) :
    ∀ u, Sys2Proof.Machine.execSumsq a1 t = .next u → Fr m s u := by
  intro u e
  cases e
  repeat' first
    | with_reducible assumption
    | with_reducible refine fr_vecRun (hM.sub (by decide)) ?_

theorem fr_execAdamw {m : Nat} {s t : State} {a1} (hM : Cov 159723975628758057511188722352493 m) (h : Fr m s t) :
    ∀ u, Sys2Proof.Machine.execAdamw a1 t = .next u → Fr m s u := by
  intro u e
  cases e
  repeat' first
    | with_reducible assumption
    | with_reducible refine fr_vecRun (hM.sub (by decide)) ?_

theorem fr_execTopkm {m : Nat} {s t : State} {a1} (hM : Cov 159723975628758057511188722352493 m) (h : Fr m s t) :
    ∀ u, Sys2Proof.Machine.execTopkm a1 t = .next u → Fr m s u := by
  intro u e
  cases e
  repeat' first
    | with_reducible assumption
    | with_reducible refine fr_vecRun (hM.sub (by decide)) ?_

end Sys2Proof.Laws
end

