-- ==== Sys2Proof/Laws/FrameTraining.lean ====
section
/-! SUPPORT. What the functions of Machine/Training.lean may change. -/

namespace Sys2Proof.Laws

open Sys2Proof.Machine

theorem fr_State_pushTag {m : Nat} {s t : State} {a1 a2} (hM : Cov 2361183241434822607105 m) (h : Fr m s t) :
    Fr m s (Sys2Proof.Machine.State.pushTag t a1 a2).1 := by
  unfold Sys2Proof.Machine.State.pushTag
  repeat' first
    | with_reducible assumption
    | with_reducible refine fr_State_fc (hM.sub (by first | decide | (dsimp only; decide) | (dsimp only [clkField]; decide) | (split <;> decide))) ?_
    | with_reducible refine fr_State_setScale (hM.sub (by decide)) ?_
    | with_reducible refine fr_ite ?_ ?_
    | split
    | dsimp only

theorem fr_State_amaxPush {m : Nat} {s t : State} {a1} (hM : Cov 2361183241434822607105 m) (h : Fr m s t) :
    Fr m s (Sys2Proof.Machine.State.amaxPush t a1).1 := by
  unfold Sys2Proof.Machine.State.amaxPush
  repeat' first
    | with_reducible assumption
    | with_reducible refine fr_State_pushTag (hM.sub (by decide)) ?_
    | with_reducible refine fr_foldl ?_ (fun _ _ _ => ?_)
    | with_reducible refine fr_foldl_fst ?_ (fun _ _ _ => ?_)
    | with_reducible refine fr_foldl_snd ?_ (fun _ _ _ => ?_)
    | dsimp only

theorem fr_State_scaleLoad {m : Nat} {s t : State} {a1} (hM : Cov 256 m) (h : Fr m s t) :
    Fr m s (Sys2Proof.Machine.State.scaleLoad t a1) := by
  unfold Sys2Proof.Machine.State.scaleLoad
  repeat' first
    | with_reducible assumption
    | with_reducible refine fr_State_setScale (hM.sub (by decide)) ?_
    | with_reducible refine fr_foldl ?_ (fun _ _ _ => ?_)
    | with_reducible refine fr_foldl_fst ?_ (fun _ _ _ => ?_)
    | with_reducible refine fr_foldl_snd ?_ (fun _ _ _ => ?_)

theorem fr_State_devSave {m : Nat} {s t : State} {a1} (hM : Cov 512 m) (h : Fr m s t) :
    Fr m s (Sys2Proof.Machine.State.devSave t a1).1 := by
  unfold Sys2Proof.Machine.State.devSave
  repeat' first
    | with_reducible assumption
    | with_reducible refine fr_ite ?_ ?_
    | with_reducible refine fr_foldl ?_ (fun _ _ _ => ?_)
    | with_reducible refine fr_foldl_fst ?_ (fun _ _ _ => ?_)
    | with_reducible refine fr_foldl_snd ?_ (fun _ _ _ => ?_)
    | split
    | with_reducible refine fr_set_devs (hM.sub (by decide)) ?_

theorem fr_State_scaleMet {m : Nat} {s t : State} {a1 a2 a3} (hM : Cov 3432790011539591042723051066040180256438169273753965445389 m) (h : Fr m s t) :
    Fr m s (Sys2Proof.Machine.State.scaleMet a1 a2 a3 t) := by
  unfold Sys2Proof.Machine.State.scaleMet
  repeat' first
    | with_reducible assumption
    | with_reducible refine fr_State_scaleEcc (hM.sub (by decide)) ?_
    | with_reducible refine fr_ite ?_ ?_
    | split

theorem fr_State_devMet {m : Nat} {s t : State} {a1 a2 a3} (hM : Cov 3432790011539591042723051066040180256438169273753965445645 m) (h : Fr m s t) :
    Fr m s (Sys2Proof.Machine.State.devMet a1 a2 a3 t) := by
  unfold Sys2Proof.Machine.State.devMet
  repeat' first
    | with_reducible assumption
    | with_reducible refine fr_State_ctlMet (hM.sub (by decide)) ?_ (fun _ _ => ?_)
    | with_reducible refine fr_ite ?_ ?_
    | split
    | with_reducible refine fr_set_devs (hM.sub (by decide)) ?_

theorem fr_State_soleOp {m : Nat} {s t : State} {a1} (hM : Cov 2361183241434822607617 m) (h : Fr m s t) :
    Fr m s (Sys2Proof.Machine.State.soleOp t a1).1 := by
  unfold Sys2Proof.Machine.State.soleOp
  repeat' first
    | with_reducible assumption
    | with_reducible refine fr_State_amaxPush (hM.sub (by decide)) ?_
    | with_reducible refine fr_State_scaleLoad (hM.sub (by decide)) ?_
    | with_reducible refine fr_State_devSave (hM.sub (by decide)) ?_
    | split

theorem fr_soleOn {m : Nat} {s t : State} {a1 a2 a3 a4 f5 a6} (hM : Cov 159723975631119240752623544959853 m) (h : Fr m s t)
    (h5 : ∀ v u, Fr m s u → Fr m s (f5 v u)) :
    Fr m s (Sys2Proof.Machine.soleOn a1 a2 a3 a4 f5 a6 t) := by
  unfold Sys2Proof.Machine.soleOn
  split
  · exact fr_State_vecStop (hM.sub (by decide)) h
  · have k := h5 a4 t h
    exact fr_State_fc (hM.sub (by decide)) (fr_State_fs (hM.sub (by decide)) (fr_State_fs (hM.sub (by decide)) (fr_State_modRun (hM.sub (by decide))
      (fr_State_vecTake (hM.sub (by decide)) (fr_view k (fr_State_soleOp (hM.view.sub (by decide)) (fr_State_seenGot (hM.view.sub (by decide))
        (Fr.mono k (cov_view _)))))))))

theorem fr_soleRun {m : Nat} {s t : State} {a1 a2 a3 f4} (hM : Cov 3432790011539591044509533652099082820740126715737890898797 m) (h : Fr m s t)
    (h4 : ∀ v u, Fr m s u → Fr m s (f4 v u)) :
    Fr m s (Sys2Proof.Machine.soleRun a1 a2 a3 t f4) := by
  unfold Sys2Proof.Machine.soleRun
  repeat' first
    | with_reducible assumption
    | with_reducible refine h4 _ _ ?_
    | with_reducible refine fr_vecSetup (hM.sub (by decide)) ?_
    | with_reducible refine fr_soleOn (hM.sub (by decide)) ?_ (fun _ _ _ => ?_)
    | with_reducible refine fr_State_formReads (hM.sub (by decide)) ?_
    | with_reducible refine fr_State_modCore (hM.sub (by decide)) ?_
    | with_reducible refine fr_ite ?_ ?_
    | split
    | dsimp only

theorem fr_execAccred {m : Nat} {s t : State} {a1} (hM : Cov 3432790011539591044509533652099082820740126715737890898797 m) (h : Fr m s t) :
    ∀ u, Sys2Proof.Machine.execAccred a1 t = .next u → Fr m s u := by
  intro u e
  cases e
  repeat' first
    | with_reducible assumption
    | with_reducible refine fr_soleRun (hM.sub (by decide)) ?_ (fun _ _ _ => ?_)

theorem fr_execAmaxSave {m : Nat} {s t : State} {a1} (hM : Cov 3432790011539591044509533652099082820740126715737890898797 m) (h : Fr m s t) :
    ∀ u, Sys2Proof.Machine.execAmaxSave a1 t = .next u → Fr m s u := by
  intro u e
  cases e
  repeat' first
    | with_reducible assumption
    | with_reducible refine fr_soleRun (hM.sub (by decide)) ?_ (fun _ _ _ => ?_)

theorem fr_execAmaxPush {m : Nat} {s t : State} {a1} (hM : Cov 3432790011539591044509533652099082820740126715737890898797 m) (h : Fr m s t) :
    ∀ u, Sys2Proof.Machine.execAmaxPush a1 t = .next u → Fr m s u := by
  intro u e
  cases e
  repeat' first
    | with_reducible assumption
    | with_reducible refine fr_soleRun (hM.sub (by decide)) ?_ (fun _ _ _ => ?_)
    | with_reducible refine fr_State_scaleMet (hM.sub (by decide)) ?_

theorem fr_execScaleSave {m : Nat} {s t : State} {a1} (hM : Cov 3432790011539591044509533652099082820740126715737890898797 m) (h : Fr m s t) :
    ∀ u, Sys2Proof.Machine.execScaleSave a1 t = .next u → Fr m s u := by
  intro u e
  cases e
  repeat' first
    | with_reducible assumption
    | with_reducible refine fr_soleRun (hM.sub (by decide)) ?_ (fun _ _ _ => ?_)

theorem fr_execScaleLoad {m : Nat} {s t : State} {a1} (hM : Cov 3432790011539591044509533652099082820740126715737890898797 m) (h : Fr m s t) :
    ∀ u, Sys2Proof.Machine.execScaleLoad a1 t = .next u → Fr m s u := by
  intro u e
  cases e
  repeat' first
    | with_reducible assumption
    | with_reducible refine fr_soleRun (hM.sub (by decide)) ?_ (fun _ _ _ => ?_)

theorem fr_execDevSave {m : Nat} {s t : State} {a1} (hM : Cov 3432790011539591044509533652099082820740126715737890898797 m) (h : Fr m s t) :
    ∀ u, Sys2Proof.Machine.execDevSave a1 t = .next u → Fr m s u := by
  intro u e
  cases e
  repeat' first
    | with_reducible assumption
    | with_reducible refine fr_soleRun (hM.sub (by decide)) ?_ (fun _ _ _ => ?_)
    | with_reducible refine fr_State_devMet (hM.sub (by decide)) ?_

end Sys2Proof.Laws
end

