-- ==== Sys2Proof/Laws/FrameCollective.lean ====
section
/-! SUPPORT. What the functions of Machine/Collective.lean may change. -/

namespace Sys2Proof.Laws

open Sys2Proof.Machine

theorem fr_State_modColl {m : Nat} {s t : State} {a1 a2} (hM : Cov 8388608 m) (h : Fr m s t) :
    Fr m s (Sys2Proof.Machine.State.modColl t a1 a2) := by
  unfold Sys2Proof.Machine.State.modColl
  repeat' first
    | with_reducible assumption
    | with_reducible refine fr_ite ?_ ?_
    | split
    | dsimp only
    | with_reducible refine fr_set_colls (hM.sub (by decide)) ?_

theorem fr_State_collSent {m : Nat} {s t : State} {a1 a2} (hM : Cov 8388608 m) (h : Fr m s t) :
    Fr m s (Sys2Proof.Machine.State.collSent t a1 a2) := by
  unfold Sys2Proof.Machine.State.collSent
  repeat' first
    | with_reducible assumption
    | with_reducible refine fr_State_modColl (hM.sub (by decide)) ?_

theorem fr_State_collRecv {m : Nat} {s t : State} {a1 a2} (hM : Cov 8388608 m) (h : Fr m s t) :
    Fr m s (Sys2Proof.Machine.State.collRecv t a1 a2) := by
  unfold Sys2Proof.Machine.State.collRecv
  repeat' first
    | with_reducible assumption
    | with_reducible refine fr_State_modColl (hM.sub (by decide)) ?_

theorem fr_State_takeNotice {m : Nat} {s t u : State} {a1 a2 n} (hM : Cov 4194304 m) (h : Fr m s t)
    (e : Sys2Proof.Machine.State.takeNotice t a1 a2 = some (n, u)) : Fr m s u := by
  unfold Sys2Proof.Machine.State.takeNotice at e
  split at e
  · cases e; exact fr_set_notices hM h
  · cases e

theorem fr_State_copyRun {m : Nat} {s t : State} {a1 a2 a3} (hM : Cov 1152921504606846988 m) (h : Fr m s t) :
    Fr m s (Sys2Proof.Machine.State.copyRun t a1 a2 a3) := by
  unfold Sys2Proof.Machine.State.copyRun
  repeat' first
    | with_reducible assumption
    | with_reducible refine fr_State_store (hM.sub (by decide)) ?_
    | with_reducible refine fr_ite ?_ ?_
    | split

theorem fr_State_sendRun {m : Nat} {s t : State} {a1 a2 a3 a4 a5 a6} (hM : Cov 17127015868614484452822754945343692902924812289 m) (h : Fr m s t) :
    Fr m s (Sys2Proof.Machine.State.sendRun t a1 a2 a3 a4 a5 a6) := by
  unfold Sys2Proof.Machine.State.sendRun
  repeat' first
    | with_reducible assumption
    | with_reducible refine fr_State_connSend (hM.sub (by decide)) ?_
    | with_reducible refine fr_ite ?_ ?_
    | with_reducible refine fr_foldl ?_ (fun _ _ _ => ?_)
    | with_reducible refine fr_foldl_fst ?_ (fun _ _ _ => ?_)
    | with_reducible refine fr_foldl_snd ?_ (fun _ _ _ => ?_)
    | split
    | dsimp only

theorem fr_State_sendMem {m : Nat} {s t : State} {a1 a2 a3 a4 a5 a6} (hM : Cov 17127015868614484452822754945343692902924812289 m) (h : Fr m s t) :
    Fr m s (Sys2Proof.Machine.State.sendMem t a1 a2 a3 a4 a5 a6) := by
  unfold Sys2Proof.Machine.State.sendMem
  repeat' first
    | with_reducible assumption
    | with_reducible refine fr_State_sendRun (hM.sub (by decide)) ?_

theorem fr_State_reduceInto {m : Nat} {s t : State} {a1 a2 a3 a4} (hM : Cov 1152921504606847020 m) (h : Fr m s t) :
    Fr m s (Sys2Proof.Machine.State.reduceInto t a1 a2 a3 a4) := by
  unfold Sys2Proof.Machine.State.reduceInto
  repeat' first
    | with_reducible assumption
    | with_reducible refine fr_State_count (hM.sub (by decide)) ?_
    | with_reducible refine fr_State_combStore (hM.sub (by decide)) ?_
    | with_reducible refine fr_ite ?_ ?_
    | with_reducible refine fr_foldl ?_ (fun _ _ _ => ?_)
    | with_reducible refine fr_foldl_fst ?_ (fun _ _ _ => ?_)
    | with_reducible refine fr_foldl_snd ?_ (fun _ _ _ => ?_)
    | split
    | dsimp only

theorem fr_State_sumSources {m : Nat} {s t : State} {a1} (hM : Cov 1152921504606847020 m) (h : Fr m s t) :
    Fr m s (Sys2Proof.Machine.State.sumSources t a1) := by
  unfold Sys2Proof.Machine.State.sumSources
  repeat' first
    | with_reducible assumption
    | with_reducible refine fr_State_reduceInto (hM.sub (by decide)) ?_
    | with_reducible refine fr_foldl ?_ (fun _ _ _ => ?_)
    | with_reducible refine fr_foldl_fst ?_ (fun _ _ _ => ?_)
    | with_reducible refine fr_foldl_snd ?_ (fun _ _ _ => ?_)
    | dsimp only

theorem fr_State_collPoison {m : Nat} {s t : State} {a1 a2} (hM : Cov 32 m) (h : Fr m s t) :
    Fr m s (Sys2Proof.Machine.State.collPoison t a1 a2) := by
  unfold Sys2Proof.Machine.State.collPoison
  repeat' first
    | with_reducible assumption
    | with_reducible refine fr_State_modRun (hM.sub (by decide)) ?_
    | with_reducible refine fr_ite ?_ ?_
    | split

theorem fr_State_addXpf {m : Nat} {s t : State} {a1 a2 a3 a4 a5} (hM : Cov 365375409332725729550921208180223676418589982765 m) (h : Fr m s t) :
    Fr m s (Sys2Proof.Machine.State.addXpf t a1 a2 a3 a4 a5) := by
  unfold Sys2Proof.Machine.State.addXpf
  repeat' first
    | with_reducible assumption
    | with_reducible refine fr_State_reduceInto (hM.sub (by decide)) ?_
    | with_reducible refine fr_State_collPoison (hM.sub (by decide)) ?_
    | with_reducible refine fr_State_fc (hM.sub (by decide)) ?_
    | with_reducible refine fr_ite ?_ ?_
    | with_reducible refine fr_foldl ?_ (fun _ _ _ => ?_)
    | with_reducible refine fr_foldl_fst ?_ (fun _ _ _ => ?_)
    | with_reducible refine fr_foldl_snd ?_ (fun _ _ _ => ?_)
    | split
    | dsimp only

theorem fr_State_sendPiece {m : Nat} {s t : State} {a1 a2 a3} (hM : Cov 199814720534977349228283359034879070359924768769 m) (h : Fr m s t) :
    Fr m s (Sys2Proof.Machine.State.sendPiece t a1 a2 a3) := by
  unfold Sys2Proof.Machine.State.sendPiece
  repeat' first
    | with_reducible assumption
    | with_reducible refine fr_State_sendRun (hM.sub (by decide)) ?_
    | with_reducible refine fr_State_sendMem (hM.sub (by decide)) ?_
    | with_reducible refine fr_State_fc (hM.sub (by decide)) ?_
    | with_reducible refine fr_State_collSent (hM.sub (by decide)) ?_
    | with_reducible refine fr_ite ?_ ?_
    | split
    | dsimp only

theorem fr_State_laneSend {m : Nat} {s t : State} {a1 a2 a3} (hM : Cov 199814720534977349228283359034879070359924768769 m) (h : Fr m s t) :
    Fr m s (Sys2Proof.Machine.State.laneSend a1 a2 a3 t) := by
  induction a1 generalizing a2 a3 t with
  | zero =>
    unfold Sys2Proof.Machine.State.laneSend
    repeat' first
      | with_reducible assumption
      | with_reducible refine fr_State_sendPiece (hM.sub (by decide)) ?_
      | with_reducible refine fr_ite ?_ ?_
      | split
  | succ n ih =>
    unfold Sys2Proof.Machine.State.laneSend
    repeat' first
      | with_reducible assumption
      | with_reducible apply ih
      | with_reducible refine fr_State_sendPiece (hM.sub (by decide)) ?_
      | with_reducible refine fr_ite ?_ ?_
      | split

theorem fr_State_collMet {m : Nat} {s t : State} {a1 a2} (hM : Cov 3432790011539591044424462900644872573756195233585644453901 m) (h : Fr m s t) :
    Fr m s (Sys2Proof.Machine.State.collMet t a1 a2) := by
  unfold Sys2Proof.Machine.State.collMet
  repeat' first
    | with_reducible assumption
    | with_reducible refine fr_State_unitMet (hM.sub (by decide)) ?_
    | with_reducible refine fr_ite ?_ ?_
    | with_reducible refine fr_foldl ?_ (fun _ _ _ => ?_)
    | with_reducible refine fr_foldl_fst ?_ (fun _ _ _ => ?_)
    | with_reducible refine fr_foldl_snd ?_ (fun _ _ _ => ?_)
    | split
    | dsimp only

theorem fr_pieceAdd {m : Nat} {s t : State} {a1 a2 a3 a4} (hM : Cov 3432790012104781174292165979424077140970145058859556552749 m) (h : Fr m s t) :
    Fr m s (Sys2Proof.Machine.pieceAdd a1 a2 a3 a4 t) := by
  unfold Sys2Proof.Machine.pieceAdd
  repeat' first
    | with_reducible assumption
    | with_reducible refine fr_State_takeNotice (hM.sub (by decide)) ?_ (by with_reducible assumption)
    | with_reducible refine fr_State_fc (hM.sub (by decide)) ?_
    | with_reducible refine fr_State_collRecv (hM.sub (by decide)) ?_
    | with_reducible refine fr_State_collMet (hM.sub (by decide)) ?_
    | with_reducible refine fr_State_addXpf (hM.sub (by decide)) ?_
    | with_reducible refine fr_State_reduceInto (hM.sub (by decide)) ?_
    | with_reducible refine fr_State_connSend (hM.sub (by decide)) ?_
    | with_reducible refine fr_ite ?_ ?_
    | split
    | dsimp only

theorem fr_State_ownDecant {m : Nat} {s t : State} {a1} (hM : Cov 1152921504606847276 m) (h : Fr m s t) :
    Fr m s (Sys2Proof.Machine.State.ownDecant t a1) := by
  unfold Sys2Proof.Machine.State.ownDecant
  repeat' first
    | with_reducible assumption
    | with_reducible refine fr_State_store (hM.sub (by decide)) ?_
    | with_reducible refine fr_State_track (hM.sub (by decide)) ?_
    | with_reducible refine fr_State_count (hM.sub (by decide)) ?_
    | with_reducible refine fr_ite ?_ ?_
    | with_reducible refine fr_foldl ?_ (fun _ _ _ => ?_)
    | with_reducible refine fr_foldl_fst ?_ (fun _ _ _ => ?_)
    | with_reducible refine fr_foldl_snd ?_ (fun _ _ _ => ?_)
    | split
    | dsimp only

theorem fr_State_ownAction {m : Nat} {s t : State} {a1} (hM : Cov 1152921504606847276 m) (h : Fr m s t) :
    Fr m s (Sys2Proof.Machine.State.ownAction t a1) := by
  unfold Sys2Proof.Machine.State.ownAction
  repeat' first
    | with_reducible assumption
    | with_reducible refine fr_State_copyRun (hM.sub (by decide)) ?_
    | with_reducible refine fr_State_ownDecant (hM.sub (by decide)) ?_
    | with_reducible refine fr_ite ?_ ?_
    | split
    | dsimp only

theorem fr_State_tokens {m : Nat} {s t : State} {a1 a2 a3} (hM : Cov 17127015868614484452822754945343692902937395201 m) (h : Fr m s t) :
    Fr m s (Sys2Proof.Machine.State.tokens a1 a2 a3 t) := by
  induction a1 generalizing a2 a3 t with
  | zero =>
    unfold Sys2Proof.Machine.State.tokens
    repeat' first
      | with_reducible assumption
      | with_reducible refine fr_State_collSent (hM.sub (by decide)) ?_
      | with_reducible refine fr_State_sendRun (hM.sub (by decide)) ?_
      | with_reducible refine fr_State_takeNotice (hM.sub (by decide)) ?_ (by with_reducible assumption)
      | with_reducible refine fr_State_collRecv (hM.sub (by decide)) ?_
      | with_reducible refine fr_ite ?_ ?_
      | split
      | dsimp only
  | succ n ih =>
    unfold Sys2Proof.Machine.State.tokens
    repeat' first
      | with_reducible assumption
      | with_reducible apply ih
      | with_reducible refine fr_State_collSent (hM.sub (by decide)) ?_
      | with_reducible refine fr_State_sendRun (hM.sub (by decide)) ?_
      | with_reducible refine fr_State_takeNotice (hM.sub (by decide)) ?_ (by with_reducible assumption)
      | with_reducible refine fr_State_collRecv (hM.sub (by decide)) ?_
      | with_reducible refine fr_ite ?_ ?_
      | split
      | dsimp only

theorem fr_State_permSend {m : Nat} {s t : State} {a1} (hM : Cov 17127015868614484452822754945343692902924812289 m) (h : Fr m s t) :
    Fr m s (Sys2Proof.Machine.State.permSend t a1) := by
  unfold Sys2Proof.Machine.State.permSend
  repeat' first
    | with_reducible assumption
    | with_reducible refine fr_State_sendMem (hM.sub (by decide)) ?_
    | with_reducible refine fr_ite ?_ ?_
    | with_reducible refine fr_foldl ?_ (fun _ _ _ => ?_)
    | with_reducible refine fr_foldl_fst ?_ (fun _ _ _ => ?_)
    | with_reducible refine fr_foldl_snd ?_ (fun _ _ _ => ?_)
    | split
    | dsimp only

theorem fr_State_permMove {m : Nat} {s t : State} {a1} (hM : Cov 1152921504606846988 m) (h : Fr m s t) :
    Fr m s (Sys2Proof.Machine.State.permMove t a1) := by
  unfold Sys2Proof.Machine.State.permMove
  repeat' first
    | with_reducible assumption
    | with_reducible refine fr_State_copyRun (hM.sub (by decide)) ?_
    | with_reducible refine fr_foldl ?_ (fun _ _ _ => ?_)
    | with_reducible refine fr_foldl_fst ?_ (fun _ _ _ => ?_)
    | with_reducible refine fr_foldl_snd ?_ (fun _ _ _ => ?_)
    | dsimp only

theorem fr_State_takeFrom {m : Nat} {s t : State} {a1 a2 a3} (hM : Cov 12582912 m) (h : Fr m s t) :
    Fr m s (Sys2Proof.Machine.State.takeFrom t a1 a2 a3) := by
  unfold Sys2Proof.Machine.State.takeFrom
  repeat' first
    | with_reducible assumption
    | with_reducible refine fr_State_takeNotice (hM.sub (by decide)) ?_ (by with_reducible assumption)
    | with_reducible refine fr_State_collRecv (hM.sub (by decide)) ?_
    | with_reducible refine fr_State_modColl (hM.sub (by decide)) ?_
    | with_reducible refine fr_ite ?_ ?_
    | with_reducible refine fr_foldl ?_ (fun _ _ _ => ?_)
    | with_reducible refine fr_foldl_fst ?_ (fun _ _ _ => ?_)
    | with_reducible refine fr_foldl_snd ?_ (fun _ _ _ => ?_)
    | split
    | dsimp only

theorem fr_State_collFault {m : Nat} {s t : State} {a1 a2} (hM : Cov 32 m) (h : Fr m s t) :
    Fr m s (Sys2Proof.Machine.State.collFault t a1 a2) := by
  unfold Sys2Proof.Machine.State.collFault
  repeat' first
    | with_reducible assumption
    | with_reducible refine fr_State_modRun (hM.sub (by decide)) ?_
    | split

theorem fr_State_a2aLists {m : Nat} {s t : State} {a1} (hM : Cov 17127015868614484452822754945343692902924812321 m) (h : Fr m s t) :
    Fr m s (Sys2Proof.Machine.State.a2aLists t a1) := by
  unfold Sys2Proof.Machine.State.a2aLists
  repeat' first
    | with_reducible assumption
    | with_reducible refine fr_State_collFault (hM.sub (by decide)) ?_
    | with_reducible refine fr_State_sendRun (hM.sub (by decide)) ?_
    | with_reducible refine fr_foldl ?_ (fun _ _ _ => ?_)
    | with_reducible refine fr_foldl_fst ?_ (fun _ _ _ => ?_)
    | with_reducible refine fr_foldl_snd ?_ (fun _ _ _ => ?_)
    | dsimp only

theorem fr_State_a2aSlots {m : Nat} {s t : State} {a1} (hM : Cov 17127015868614484452822754946496614407540047917 m) (h : Fr m s t) :
    Fr m s (Sys2Proof.Machine.State.a2aSlots t a1) := by
  unfold Sys2Proof.Machine.State.a2aSlots
  repeat' first
    | with_reducible assumption
    | with_reducible refine fr_State_descError (hM.sub (by decide)) ?_
    | with_reducible refine fr_State_storeLe (hM.sub (by decide)) ?_
    | with_reducible refine fr_State_store (hM.sub (by decide)) ?_
    | with_reducible refine fr_State_sendRun (hM.sub (by decide)) ?_
    | with_reducible refine fr_State_modColl (hM.sub (by decide)) ?_
    | with_reducible refine fr_ite ?_ ?_
    | with_reducible refine fr_foldl ?_ (fun _ _ _ => ?_)
    | with_reducible refine fr_foldl_fst ?_ (fun _ _ _ => ?_)
    | with_reducible refine fr_foldl_snd ?_ (fun _ _ _ => ?_)
    | split
    | dsimp only

theorem fr_State_a2aRecs {m : Nat} {s t : State} {a1} (hM : Cov 17127015868614484452822754946496614407531659277 m) (h : Fr m s t) :
    Fr m s (Sys2Proof.Machine.State.a2aRecs t a1) := by
  unfold Sys2Proof.Machine.State.a2aRecs
  repeat' first
    | with_reducible assumption
    | with_reducible refine fr_State_copyRun (hM.sub (by decide)) ?_
    | with_reducible refine fr_State_sendMem (hM.sub (by decide)) ?_
    | with_reducible refine fr_State_store (hM.sub (by decide)) ?_
    | with_reducible refine fr_ite ?_ ?_
    | with_reducible refine fr_foldl ?_ (fun _ _ _ => ?_)
    | with_reducible refine fr_foldl_fst ?_ (fun _ _ _ => ?_)
    | with_reducible refine fr_foldl_snd ?_ (fun _ _ _ => ?_)
    | split
    | dsimp only

theorem fr_State_onceColl {m : Nat} {s t : State} {a1 f2} (hM : Cov 8388608 m) (h : Fr m s t)
    (h2 : ∀ u, Fr m s u → Fr m s (f2 u)) :
    Fr m s (Sys2Proof.Machine.State.onceColl t a1 f2) := by
  unfold Sys2Proof.Machine.State.onceColl
  repeat' first
    | with_reducible assumption
    | with_reducible refine h2 _ ?_
    | with_reducible refine fr_State_collSent (hM.sub (by decide)) ?_
    | with_reducible refine fr_ite ?_ ?_
    | split

theorem fr_State_collPhase {m : Nat} {s t : State} {a1 a2} (hM : Cov 199814720534977349228283359036031991864535810349 m) (h : Fr m s t) :
    Fr m s (Sys2Proof.Machine.State.collPhase t a1 a2).1 := by
  unfold Sys2Proof.Machine.State.collPhase
  repeat' first
    | with_reducible assumption
    | with_reducible refine fr_State_sumSources (hM.sub (by decide)) ?_
    | with_reducible refine fr_State_ownAction (hM.sub (by decide)) ?_
    | with_reducible refine fr_State_laneSend (hM.sub (by decide)) ?_
    | with_reducible refine fr_State_tokens (hM.sub (by decide)) ?_
    | with_reducible refine fr_State_takeFrom (hM.sub (by decide)) ?_
    | with_reducible refine fr_State_onceColl (hM.sub (by decide)) ?_ (fun _ _ => ?_)
    | with_reducible refine fr_State_permSend (hM.sub (by decide)) ?_
    | with_reducible refine fr_State_permMove (hM.sub (by decide)) ?_
    | with_reducible refine fr_State_a2aLists (hM.sub (by decide)) ?_
    | with_reducible refine fr_State_a2aSlots (hM.sub (by decide)) ?_
    | with_reducible refine fr_State_a2aRecs (hM.sub (by decide)) ?_
    | with_reducible refine fr_ite ?_ ?_
    | with_reducible refine fr_foldl ?_ (fun _ _ _ => ?_)
    | with_reducible refine fr_foldl_fst ?_ (fun _ _ _ => ?_)
    | with_reducible refine fr_foldl_snd ?_ (fun _ _ _ => ?_)
    | split
    | dsimp only

theorem fr_State_collFinish {m : Nat} {s t : State} {a1} (hM : Cov 730750818665451459101842416359294432432097329197 m) (h : Fr m s t) :
    Fr m s (Sys2Proof.Machine.State.collFinish t a1) := by
  unfold Sys2Proof.Machine.State.collFinish
  repeat' first
    | with_reducible assumption
    | with_reducible refine fr_State_freeFill (hM.sub (by decide)) ?_
    | with_reducible refine fr_State_modRun (hM.sub (by decide)) ?_
    | with_reducible refine fr_State_collEnd (hM.sub (by decide)) ?_
    | with_reducible refine fr_ite ?_ ?_
    | split
    | dsimp only

theorem fr_State_collGo {m : Nat} {s t : State} {a1 a2} (hM : Cov 930565539200428808330125775394173502792013709613 m) (h : Fr m s t) :
    Fr m s (Sys2Proof.Machine.State.collGo a1 a2 t) := by
  induction a1 generalizing a2 t with
  | zero =>
    unfold Sys2Proof.Machine.State.collGo
    repeat' first
      | with_reducible assumption
      | with_reducible refine fr_State_collFinish (hM.sub (by decide)) ?_
      | with_reducible refine fr_State_modRun (hM.sub (by decide)) ?_
      | with_reducible refine fr_State_fail (hM.sub (by decide)) ?_
      | with_reducible refine fr_State_collPhase (hM.sub (by decide)) ?_
      | with_reducible refine fr_State_modColl (hM.sub (by decide)) ?_
      | with_reducible refine fr_ite ?_ ?_
      | split
      | dsimp only
  | succ n ih =>
    unfold Sys2Proof.Machine.State.collGo
    repeat' first
      | with_reducible assumption
      | with_reducible apply ih
      | with_reducible refine fr_State_collFinish (hM.sub (by decide)) ?_
      | with_reducible refine fr_State_modRun (hM.sub (by decide)) ?_
      | with_reducible refine fr_State_fail (hM.sub (by decide)) ?_
      | with_reducible refine fr_State_collPhase (hM.sub (by decide)) ?_
      | with_reducible refine fr_State_modColl (hM.sub (by decide)) ?_
      | with_reducible refine fr_ite ?_ ?_
      | split
      | dsimp only

theorem fr_State_collStop {m : Nat} {s t : State} {a1 a2 a3} (hM : Cov 730750818665451459101842416359294432432097329197 m) (h : Fr m s t) :
    Fr m s (Sys2Proof.Machine.State.collStop t a1 a2 a3) := by
  unfold Sys2Proof.Machine.State.collStop
  repeat' first
    | with_reducible assumption
    | with_reducible refine fr_State_modRun (hM.sub (by decide)) ?_
    | with_reducible refine fr_State_collEnd (hM.sub (by decide)) ?_
    | with_reducible refine fr_State_descError (hM.sub (by decide)) ?_

theorem fr_collSetup_body {m : Nat} {s t : State} {a1 a2 a3 a4 a5 a6 a7} (hM : Cov 730750818750522050832077032225138084290039382061 m) (h : Fr m s t) :
    Fr m s (Sys2Proof.Machine.collSetup.body a1 t a2 a3 a4 a5 a6 a7) := by
  unfold Sys2Proof.Machine.collSetup.body
  repeat' first
    | with_reducible assumption
    | with_reducible refine fr_State_collStop (hM.sub (by decide)) ?_
    | with_reducible refine fr_State_stray (hM.sub (by decide)) ?_
    | with_reducible refine fr_State_modRun (hM.sub (by decide)) ?_
    | with_reducible refine fr_State_fs (hM.sub (by decide)) ?_
    | with_reducible refine fr_State_storeLe (hM.sub (by decide)) ?_
    | with_reducible refine fr_ite ?_ ?_
    | with_reducible refine fr_foldl ?_ (fun _ _ _ => ?_)
    | with_reducible refine fr_foldl_fst ?_ (fun _ _ _ => ?_)
    | with_reducible refine fr_foldl_snd ?_ (fun _ _ _ => ?_)
    | split
    | dsimp only
    | with_reducible refine fr_set_colls (hM.sub (by decide)) ?_

theorem fr_collSetup {m : Nat} {s t : State} {a1 a2} (hM : Cov 3432790012635717272507710681027870814159251150185548496941 m) (h : Fr m s t) :
    Fr m s (Sys2Proof.Machine.collSetup a1 a2 t) := by
  unfold Sys2Proof.Machine.collSetup
  repeat' first
    | with_reducible assumption
    | with_reducible refine fr_State_collStop (hM.sub (by decide)) ?_
    | with_reducible refine fr_State_stray (hM.sub (by decide)) ?_
    | with_reducible refine fr_State_listMet (hM.sub (by decide)) ?_
    | with_reducible refine fr_State_seenList (hM.sub (by decide)) ?_
    | with_reducible refine fr_collSetup_body (hM.sub (by decide)) ?_
    | with_reducible refine fr_State_fc (hM.sub (by decide)) ?_
    | with_reducible refine fr_ite ?_ ?_
    | split
    | dsimp only

theorem fr_collective {m : Nat} {s t : State} {a1 a2 a3 a4} (hM : Cov 3432790012835531993042688030256154173194130220545464877357 m) (h : Fr m s t) :
    Fr m s (Sys2Proof.Machine.collective a1 a2 a3 a4 t) := by
  unfold Sys2Proof.Machine.collective
  repeat' first
    | with_reducible assumption
    | with_reducible refine fr_State_collGo (hM.sub (by decide)) ?_
    | with_reducible refine fr_State_collMet (hM.sub (by decide)) ?_
    | with_reducible refine fr_collSetup (hM.sub (by decide)) ?_
    | with_reducible refine fr_ite ?_ ?_
    | split
    | dsimp only

theorem fr_collectiveStall {m : Nat} {s t : State} {a1} (hM : Cov 1096126227998177188652763624538365187346080464941 m) (h : Fr m s t) :
    Fr m s (Sys2Proof.Machine.collectiveStall a1 t) := by
  unfold Sys2Proof.Machine.collectiveStall
  repeat' first
    | with_reducible assumption
    | with_reducible refine fr_State_collFinish (hM.sub (by decide)) ?_
    | with_reducible refine fr_State_modRun (hM.sub (by decide)) ?_
    | with_reducible refine fr_State_fail (hM.sub (by decide)) ?_
    | with_reducible refine fr_State_fc (hM.sub (by decide)) ?_
    | split

theorem fr_execAllreduceX {m : Nat} {s t : State} {a1} (hM : Cov 3432790012835531993042688030256154173194130220545464877357 m) (h : Fr m s t) :
    ∀ u, Sys2Proof.Machine.execAllreduceX a1 t = .next u → Fr m s u := by
  intro u e
  cases e
  repeat' first
    | with_reducible assumption
    | with_reducible refine fr_collective (hM.sub (by decide)) ?_

theorem fr_execAllreduceR {m : Nat} {s t : State} {a1} (hM : Cov 3432790012835531993042688030256154173194130220545464877357 m) (h : Fr m s t) :
    ∀ u, Sys2Proof.Machine.execAllreduceR a1 t = .next u → Fr m s u := by
  intro u e
  cases e
  repeat' first
    | with_reducible assumption
    | with_reducible refine fr_collective (hM.sub (by decide)) ?_

theorem fr_execReduceScatter {m : Nat} {s t : State} {a1} (hM : Cov 3432790012835531993042688030256154173194130220545464877357 m) (h : Fr m s t) :
    ∀ u, Sys2Proof.Machine.execReduceScatter a1 t = .next u → Fr m s u := by
  intro u e
  cases e
  repeat' first
    | with_reducible assumption
    | with_reducible refine fr_collective (hM.sub (by decide)) ?_

theorem fr_execAllgather {m : Nat} {s t : State} {a1} (hM : Cov 3432790012835531993042688030256154173194130220545464877357 m) (h : Fr m s t) :
    ∀ u, Sys2Proof.Machine.execAllgather a1 t = .next u → Fr m s u := by
  intro u e
  cases e
  repeat' first
    | with_reducible assumption
    | with_reducible refine fr_collective (hM.sub (by decide)) ?_

theorem fr_execBroadcast {m : Nat} {s t : State} {a1} (hM : Cov 3432790012835531993042688030256154173194130220545464877357 m) (h : Fr m s t) :
    ∀ u, Sys2Proof.Machine.execBroadcast a1 t = .next u → Fr m s u := by
  intro u e
  cases e
  repeat' first
    | with_reducible assumption
    | with_reducible refine fr_collective (hM.sub (by decide)) ?_

theorem fr_execBarrier {m : Nat} {s t : State} {a1} (hM : Cov 3432790012835531993042688030256154173194130220545464877357 m) (h : Fr m s t) :
    ∀ u, Sys2Proof.Machine.execBarrier a1 t = .next u → Fr m s u := by
  intro u e
  cases e
  repeat' first
    | with_reducible assumption
    | with_reducible refine fr_collective (hM.sub (by decide)) ?_

theorem fr_execAllreduceMax {m : Nat} {s t : State} {a1} (hM : Cov 3432790012835531993042688030256154173194130220545464877357 m) (h : Fr m s t) :
    ∀ u, Sys2Proof.Machine.execAllreduceMax a1 t = .next u → Fr m s u := by
  intro u e
  cases e
  repeat' first
    | with_reducible assumption
    | with_reducible refine fr_collective (hM.sub (by decide)) ?_

theorem fr_execPermute {m : Nat} {s t : State} {a1} (hM : Cov 3432790012835531993042688030256154173194130220545464877357 m) (h : Fr m s t) :
    ∀ u, Sys2Proof.Machine.execPermute a1 t = .next u → Fr m s u := by
  intro u e
  cases e
  repeat' first
    | with_reducible assumption
    | with_reducible refine fr_collective (hM.sub (by decide)) ?_

theorem fr_execWhisk {m : Nat} {s t : State} {a1} (hM : Cov 3432790012835531993042688030256154173194130220545464877357 m) (h : Fr m s t) :
    ∀ u, Sys2Proof.Machine.execWhisk a1 t = .next u → Fr m s u := by
  intro u e
  cases e
  repeat' first
    | with_reducible assumption
    | with_reducible refine fr_collective (hM.sub (by decide)) ?_

theorem fr_execAlltoall {m : Nat} {s t : State} {a1} (hM : Cov 3432790012835531993042688030256154173194130220545464877357 m) (h : Fr m s t) :
    ∀ u, Sys2Proof.Machine.execAlltoall a1 t = .next u → Fr m s u := by
  intro u e
  cases e
  repeat' first
    | with_reducible assumption
    | with_reducible refine fr_collective (hM.sub (by decide)) ?_

theorem fr_execPieceAdd {m : Nat} {s t : State} {a1 a2 a3} (hM : Cov 3432790012104781174292165979424077140970145058859556552749 m) (h : Fr m s t) :
    ∀ u, Sys2Proof.Machine.execPieceAdd a1 a2 a3 t = .next u → Fr m s u := by
  intro u e
  cases e
  repeat' first
    | with_reducible assumption
    | with_reducible refine fr_pieceAdd (hM.sub (by decide)) ?_

theorem fr_execCollectiveStall {m : Nat} {s t : State} {a1} (hM : Cov 1096126227998177188652763624538365187346080464941 m) (h : Fr m s t) :
    ∀ u, Sys2Proof.Machine.execCollectiveStall a1 t = .next u → Fr m s u := by
  intro u e
  cases e
  repeat' first
    | with_reducible assumption
    | with_reducible refine fr_collectiveStall (hM.sub (by decide)) ?_

end Sys2Proof.Laws
end

