-- ==== Sys2Proof/Laws/FrameHost.lean ====
section
/-! SUPPORT. What the functions of Machine/Host.lean may change. -/

namespace Sys2Proof.Laws

open Sys2Proof.Machine

theorem fr_State_hsTake {m : Nat} {s t : State} {a1} (hM : Cov 33554432 m) (h : Fr m s t) :
    Fr m s (Sys2Proof.Machine.State.hsTake t a1) := by
  unfold Sys2Proof.Machine.State.hsTake
  repeat' first
    | with_reducible assumption
    | with_reducible refine fr_set_hsWin (hM.sub (by decide)) ?_

theorem fr_State_reject {m : Nat} {s t : State} {a1 a2 a3 a4 a5} (hM : Cov 549789368320 m) (h : Fr m s t) :
    Fr m s (Sys2Proof.Machine.State.reject t a1 a2 a3 a4 a5) := by
  unfold Sys2Proof.Machine.State.reject
  repeat' first
    | with_reducible assumption
    | with_reducible refine fr_State_emit (hM.sub (by decide)) ?_
    | with_reducible refine fr_State_hsTake (hM.sub (by decide)) ?_
    | with_reducible refine fr_ite ?_ ?_
    | split

theorem fr_State_signed {m : Nat} {s t : State} {a1} (hM : Cov 1099511627776 m) (h : Fr m s t) :
    Fr m s (Sys2Proof.Machine.State.signed t a1).1 := by
  unfold Sys2Proof.Machine.State.signed
  repeat' first
    | with_reducible assumption
    | with_reducible refine fr_State_free (hM.sub (by decide)) ?_
    | dsimp only

theorem fr_State_takeInit {m : Nat} {s t : State} {a1 a2 a3} (hM : Cov 35923710245593593729446573188166236623144471190568961 m) (h : Fr m s t) :
    Fr m s (Sys2Proof.Machine.State.takeInit t a1 a2 a3) := by
  unfold Sys2Proof.Machine.State.takeInit
  repeat' first
    | with_reducible assumption
    | with_reducible refine fr_State_free (hM.sub (by decide)) ?_
    | with_reducible refine fr_State_signed (hM.sub (by decide)) ?_
    | with_reducible refine fr_State_setSes (hM.sub (by decide)) ?_
    | with_reducible refine fr_State_ss (hM.sub (by decide)) ?_
    | with_reducible refine fr_State_emit (hM.sub (by decide)) ?_
    | dsimp only

theorem fr_initMsg {m : Nat} {s t : State} {a1 a2} (hM : Cov 38916865598847282905927719725569184247399821072138241 m) (h : Fr m s t) :
    Fr m s (Sys2Proof.Machine.initMsg a1 a2 t) := by
  unfold Sys2Proof.Machine.initMsg
  repeat' first
    | with_reducible assumption
    | with_reducible refine fr_State_fc (hM.sub (by decide)) ?_
    | with_reducible refine fr_State_reject (hM.sub (by decide)) ?_
    | with_reducible refine fr_State_takeInit (hM.sub (by decide)) ?_
    | with_reducible refine fr_State_hsTake (hM.sub (by decide)) ?_
    | with_reducible refine fr_ite ?_ ?_
    | split

theorem fr_State_openSess {m : Nat} {s t : State} {a1 a2} (hM : Cov 392426623746397779197313505855304318851134565121007812609 m) (h : Fr m s t) :
    Fr m s (Sys2Proof.Machine.State.openSess t a1 a2) := by
  unfold Sys2Proof.Machine.State.openSess
  repeat' first
    | with_reducible assumption
    | with_reducible refine fr_State_modSes (hM.sub (by decide)) ?_
    | with_reducible refine fr_State_ss (hM.sub (by decide)) ?_
    | with_reducible refine fr_State_showSess (hM.sub (by decide)) ?_
    | dsimp only

theorem fr_finish {m : Nat} {s t : State} {a1 a2 a3} (hM : Cov 392498459474875867737881360371148218562342645832353841153 m) (h : Fr m s t) :
    Fr m s (Sys2Proof.Machine.finish a1 a2 a3 t) := by
  unfold Sys2Proof.Machine.finish
  repeat' first
    | with_reducible assumption
    | with_reducible refine fr_State_reject (hM.sub (by decide)) ?_
    | with_reducible refine fr_State_freeSlot (hM.sub (by decide)) ?_
    | with_reducible refine fr_State_openSess (hM.sub (by decide)) ?_
    | with_reducible refine fr_ite ?_ ?_
    | split

theorem fr_handshakeTimeout {m : Nat} {s t : State} {a1} (hM : Cov 179601013208319998144521420669067555945430003562315777 m) (h : Fr m s t) :
    Fr m s (Sys2Proof.Machine.handshakeTimeout a1 t) := by
  unfold Sys2Proof.Machine.handshakeTimeout
  repeat' first
    | with_reducible assumption
    | with_reducible refine fr_State_freeSlot (hM.sub (by decide)) ?_
    | with_reducible refine fr_ite ?_ ?_
    | split

theorem fr_certReq {m : Nat} {s t : State} {a1 a2 a3 a4} (hM : Cov 549789368320 m) (h : Fr m s t) :
    Fr m s (Sys2Proof.Machine.certReq a1 a2 a3 a4 t) := by
  unfold Sys2Proof.Machine.certReq
  repeat' first
    | with_reducible assumption
    | with_reducible refine fr_State_reject (hM.sub (by decide)) ?_
    | with_reducible refine fr_State_emit (hM.sub (by decide)) ?_
    | with_reducible refine fr_State_hsTake (hM.sub (by decide)) ?_
    | with_reducible refine fr_ite ?_ ?_
    | split
    | dsimp only

theorem fr_State_opensCtl {m : Nat} {s t : State} {a1 a2 a3 a4} (hM : Cov 3432804977316357311168933471772867271176290550503222296589 m) (h : Fr m s t) :
    Fr m s (Sys2Proof.Machine.State.opensCtl t a1 a2 a3 a4).1 := by
  unfold Sys2Proof.Machine.State.opensCtl
  repeat' first
    | with_reducible assumption
    | with_reducible refine fr_State_opens (hM.sub (by decide)) ?_
    | with_reducible refine fr_ite ?_ ?_
    | split

theorem fr_rekey {m : Nat} {s t : State} {a1 a2 a3} (hM : Cov 3432972605708152616410039761608440497973513007892061503501 m) (h : Fr m s t) :
    Fr m s (Sys2Proof.Machine.rekey a1 a2 a3 t) := by
  unfold Sys2Proof.Machine.rekey
  repeat' first
    | with_reducible assumption
    | with_reducible refine fr_State_opensCtl (hM.sub (by decide)) ?_
    | with_reducible refine fr_State_seal (hM.sub (by decide)) ?_
    | with_reducible refine fr_State_modSes (hM.sub (by decide)) ?_
    | with_reducible refine fr_State_ss (hM.sub (by decide)) ?_
    | with_reducible refine fr_ite ?_ ?_
    | split
    | dsimp only

theorem fr_oldPhaseExpiry {m : Nat} {s t : State} {a1} (hM : Cov 16777216 m) (h : Fr m s t) :
    Fr m s (Sys2Proof.Machine.oldPhaseExpiry a1 t) := by
  unfold Sys2Proof.Machine.oldPhaseExpiry
  repeat' first
    | with_reducible assumption
    | with_reducible refine fr_State_modSes (hM.sub (by decide)) ?_
    | with_reducible refine fr_ite ?_ ?_
    | split

theorem fr_close {m : Nat} {s t : State} {a1 a2 a3} (hM : Cov 3432972605708152616410039761608440497973513007342305689613 m) (h : Fr m s t) :
    Fr m s (Sys2Proof.Machine.close a1 a2 a3 t) := by
  unfold Sys2Proof.Machine.close
  repeat' first
    | with_reducible assumption
    | with_reducible refine fr_State_opensCtl (hM.sub (by decide)) ?_
    | with_reducible refine fr_State_freeSlot (hM.sub (by decide)) ?_
    | with_reducible refine fr_ite ?_ ?_
    | split
    | dsimp only

theorem fr_State_writeSess0 {m : Nat} {s t : State} {a1 a2} (hM : Cov 179601013208319998144521420669067555945430553318129665 m) (h : Fr m s t) :
    Fr m s (Sys2Proof.Machine.State.writeSess0 t a1 a2) := by
  unfold Sys2Proof.Machine.State.writeSess0
  repeat' first
    | with_reducible assumption
    | with_reducible refine fr_State_closeSess (hM.sub (by decide)) ?_
    | with_reducible refine fr_ite ?_ ?_
    | split

theorem fr_State_mirrorAgain {m : Nat} {s t : State} {a1 a2} (hM : Cov 185587323914827376497483713743873451193941253014159361 m) (h : Fr m s t) :
    Fr m s (Sys2Proof.Machine.State.mirrorAgain t a1 a2) := by
  unfold Sys2Proof.Machine.State.mirrorAgain
  repeat' first
    | with_reducible assumption
    | with_reducible refine fr_State_setSes (hM.sub (by decide)) ?_
    | with_reducible refine fr_State_fc (hM.sub (by decide)) ?_
    | with_reducible refine fr_State_seal (hM.sub (by decide)) ?_
    | with_reducible refine fr_ite ?_ ?_
    | with_reducible refine fr_foldl ?_ (fun _ _ _ => ?_)
    | with_reducible refine fr_foldl_fst ?_ (fun _ _ _ => ?_)
    | with_reducible refine fr_foldl_snd ?_ (fun _ _ _ => ?_)
    | split
    | dsimp only

theorem fr_State_mirrorRetry {m : Nat} {s t : State} {a1 a2} (hM : Cov 185587323914827376497483713743873451193941253014159361 m) (h : Fr m s t) :
    Fr m s (Sys2Proof.Machine.State.mirrorRetry t a1 a2) := by
  unfold Sys2Proof.Machine.State.mirrorRetry
  repeat' first
    | with_reducible assumption
    | with_reducible refine fr_State_freeSlot (hM.sub (by decide)) ?_
    | with_reducible refine fr_State_mirrorAgain (hM.sub (by decide)) ?_
    | with_reducible refine fr_ite ?_ ?_
    | split

theorem fr_ackTimeout {m : Nat} {s t : State} {a1} (hM : Cov 185587323914827376497483713743873451193941253014159361 m) (h : Fr m s t) :
    Fr m s (Sys2Proof.Machine.ackTimeout a1 t) := by
  unfold Sys2Proof.Machine.ackTimeout
  repeat' first
    | with_reducible assumption
    | with_reducible refine fr_State_mirrorRetry (hM.sub (by decide)) ?_
    | with_reducible refine fr_ite ?_ ?_
    | split

theorem fr_State_mirrorAcked {m : Nat} {s t : State} {a1 a2} (hM : Cov 16777216 m) (h : Fr m s t) :
    Fr m s (Sys2Proof.Machine.State.mirrorAcked t a1 a2) := by
  unfold Sys2Proof.Machine.State.mirrorAcked
  repeat' first
    | with_reducible assumption
    | with_reducible refine fr_State_modSes (hM.sub (by decide)) ?_

theorem fr_acknowledge {m : Nat} {s t : State} {a1 a2} (hM : Cov 3432978592018859123788392723901515303868761522989804044301 m) (h : Fr m s t) :
    Fr m s (Sys2Proof.Machine.acknowledge a1 a2 t) := by
  unfold Sys2Proof.Machine.acknowledge
  repeat' first
    | with_reducible assumption
    | with_reducible refine fr_State_openRoce (hM.sub (by decide)) ?_
    | with_reducible refine fr_State_nakClose (hM.sub (by decide)) ?_
    | with_reducible refine fr_State_mirrorAcked (hM.sub (by decide)) ?_
    | with_reducible refine fr_State_mirrorRetry (hM.sub (by decide)) ?_
    | with_reducible refine fr_State_freeSlot (hM.sub (by decide)) ?_
    | with_reducible refine fr_ite ?_ ?_
    | split
    | dsimp only

theorem fr_roceCnp {m : Nat} {s t : State} {a1 a2} (hM : Cov 3432978592018859123788392723901515303868761522989804044301 m) (h : Fr m s t) :
    Fr m s (Sys2Proof.Machine.roceCnp a1 a2 t) := by
  unfold Sys2Proof.Machine.roceCnp
  repeat' first
    | with_reducible assumption
    | with_reducible refine fr_State_openRoce (hM.sub (by decide)) ?_
    | with_reducible refine fr_State_cutRate (hM.sub (by decide)) ?_
    | with_reducible refine fr_ite ?_ ?_
    | split
    | dsimp only

theorem fr_State_frame {m : Nat} {s t : State} {a1 a2} (hM : Cov 1496577676626844588240573268701473812127674924007425 m) (h : Fr m s t) :
    Fr m s (Sys2Proof.Machine.State.frame t a1 a2).1 := by
  unfold Sys2Proof.Machine.State.frame
  repeat' first
    | with_reducible assumption
    | with_reducible refine fr_State_fc (hM.sub (by decide)) ?_
    | with_reducible refine fr_ite ?_ ?_
    | split
    | dsimp only

theorem fr_State_dropFrame {m : Nat} {s t : State} {a1 a2} (hM : Cov 1496577676626844588240573268701473812127674924007425 m) (h : Fr m s t) :
    Fr m s (Sys2Proof.Machine.State.dropFrame t a1 a2) := by
  unfold Sys2Proof.Machine.State.dropFrame
  repeat' first
    | with_reducible assumption
    | with_reducible refine fr_State_fc (hM.sub (by decide)) ?_
    | with_reducible refine fr_ite ?_ ?_
    | split

theorem fr_frameDropped {m : Nat} {s t : State} {a1 a2 a3} (hM : Cov 1496577676626844588240573268701473812127674924007425 m) (h : Fr m s t) :
    Fr m s (Sys2Proof.Machine.frameDropped a1 a2 a3 t) := by
  unfold Sys2Proof.Machine.frameDropped
  repeat' first
    | with_reducible assumption
    | with_reducible refine fr_State_frame (hM.sub (by decide)) ?_
    | with_reducible refine fr_State_dropFrame (hM.sub (by decide)) ?_
    | with_reducible refine fr_ite ?_ ?_
    | split
    | dsimp only

theorem fr_State_netAnswer {m : Nat} {s t : State} {a1 a2 a3} (hM : Cov 23384026197294446691258957323460528315044676501505 m) (h : Fr m s t) :
    Fr m s (Sys2Proof.Machine.State.netAnswer t a1 a2 a3) := by
  unfold Sys2Proof.Machine.State.netAnswer
  repeat' first
    | with_reducible assumption
    | with_reducible refine fr_State_emit (hM.sub (by decide)) ?_

theorem fr_arpRequest {m : Nat} {s t : State} {a1 a2 a3} (hM : Cov 1519961702824139034931832226024934340442719600508929 m) (h : Fr m s t) :
    Fr m s (Sys2Proof.Machine.arpRequest a1 a2 a3 t) := by
  unfold Sys2Proof.Machine.arpRequest
  repeat' first
    | with_reducible assumption
    | with_reducible refine fr_State_frame (hM.sub (by decide)) ?_
    | with_reducible refine fr_State_netAnswer (hM.sub (by decide)) ?_
    | with_reducible refine fr_State_dropFrame (hM.sub (by decide)) ?_
    | with_reducible refine fr_ite ?_ ?_
    | split
    | dsimp only

theorem fr_neighbour {m : Nat} {s t : State} {a1 a2 a3} (hM : Cov 1519961702824139034931832226024934340442719600508929 m) (h : Fr m s t) :
    Fr m s (Sys2Proof.Machine.neighbour a1 a2 a3 t) := by
  unfold Sys2Proof.Machine.neighbour
  repeat' first
    | with_reducible assumption
    | with_reducible refine fr_State_frame (hM.sub (by decide)) ?_
    | with_reducible refine fr_State_netAnswer (hM.sub (by decide)) ?_
    | with_reducible refine fr_State_dropFrame (hM.sub (by decide)) ?_
    | with_reducible refine fr_ite ?_ ?_
    | split
    | dsimp only

theorem fr_echo {m : Nat} {s t : State} {a1 a2 a3 a4} (hM : Cov 1519961702824139034931832226024934340442719667617793 m) (h : Fr m s t) :
    Fr m s (Sys2Proof.Machine.echo a1 a2 a3 a4 t) := by
  unfold Sys2Proof.Machine.echo
  repeat' first
    | with_reducible assumption
    | with_reducible refine fr_State_frame (hM.sub (by decide)) ?_
    | with_reducible refine fr_State_dropFrame (hM.sub (by decide)) ?_
    | with_reducible refine fr_State_netAnswer (hM.sub (by decide)) ?_
    | with_reducible refine fr_ite ?_ ?_
    | split
    | dsimp only
    | with_reducible refine fr_set_echoWin (hM.sub (by decide)) ?_

theorem fr_pfcPause {m : Nat} {s t : State} {a1 a2 a3} (hM : Cov 7494580396232870164548495822169099324795622080380929 m) (h : Fr m s t) :
    Fr m s (Sys2Proof.Machine.pfcPause a1 a2 a3 t) := by
  unfold Sys2Proof.Machine.pfcPause
  repeat' first
    | with_reducible assumption
    | with_reducible refine fr_State_frame (hM.sub (by decide)) ?_
    | with_reducible refine fr_State_dropFrame (hM.sub (by decide)) ?_
    | with_reducible refine fr_State_fc (hM.sub (by decide)) ?_
    | with_reducible refine fr_State_fs (hM.sub (by decide)) ?_
    | with_reducible refine fr_ite ?_ ?_
    | split
    | dsimp only

theorem fr_pauseExpiry {m : Nat} {s t : State} {a1} (hM : Cov 11692013098647223345629478661730264157797350375425 m) (h : Fr m s t) :
    Fr m s (Sys2Proof.Machine.pauseExpiry a1 t) := by
  unfold Sys2Proof.Machine.pauseExpiry
  repeat' first
    | with_reducible assumption
    | with_reducible refine fr_State_unpause (hM.sub (by decide)) ?_
    | with_reducible refine fr_ite ?_ ?_
    | split

theorem fr_portLinkDown {m : Nat} {s t : State} {a1} (hM : Cov 11692013098647223345629478661730264161645641072641 m) (h : Fr m s t) :
    Fr m s (Sys2Proof.Machine.portLinkDown a1 t) := by
  unfold Sys2Proof.Machine.portLinkDown
  repeat' first
    | with_reducible assumption
    | with_reducible refine fr_State_dropHeld (hM.sub (by decide)) ?_
    | with_reducible refine fr_State_fs (hM.sub (by decide)) ?_
    | with_reducible refine fr_ite ?_ ?_
    | split

theorem fr_State_capRates {m : Nat} {s t : State} {a1} (hM : Cov 95780971304814951934850771170067315172191456433537025 m) (h : Fr m s t) :
    Fr m s (Sys2Proof.Machine.State.capRates t a1) := by
  unfold Sys2Proof.Machine.State.capRates
  repeat' first
    | with_reducible assumption
    | with_reducible refine fr_State_ss (hM.sub (by decide)) ?_
    | with_reducible refine fr_ite ?_ ?_
    | with_reducible refine fr_foldl ?_ (fun _ _ _ => ?_)
    | with_reducible refine fr_foldl_fst ?_ (fun _ _ _ => ?_)
    | with_reducible refine fr_foldl_snd ?_ (fun _ _ _ => ?_)
    | split
    | dsimp only

theorem fr_portTraining {m : Nat} {s t : State} {a1 a2 a3} (hM : Cov 95792663317913599158196400648729045436348703893880833 m) (h : Fr m s t) :
    Fr m s (Sys2Proof.Machine.portTraining a1 a2 a3 t) := by
  unfold Sys2Proof.Machine.portTraining
  repeat' first
    | with_reducible assumption
    | with_reducible refine fr_State_capRates (hM.sub (by decide)) ?_
    | with_reducible refine fr_State_fs (hM.sub (by decide)) ?_
    | with_reducible refine fr_ite ?_ ?_
    | split

theorem fr_State_setEthCfg {m : Nat} {s t : State} {a1 a2} (hM : Cov 5846006549323611672814739330865132078623730171905 m) (h : Fr m s t) :
    Fr m s (Sys2Proof.Machine.State.setEthCfg t a1 a2) := by
  unfold Sys2Proof.Machine.State.setEthCfg
  repeat' first
    | with_reducible assumption
    | with_reducible refine fr_State_fs (hM.sub (by first | decide | (dsimp only; decide) | (dsimp only [clkField]; decide) | (split <;> decide))) ?_
    | with_reducible refine fr_ite ?_ ?_
    | split
    | dsimp only

theorem fr_State_writeEthCtl {m : Nat} {s t : State} {a1 a2} (hM : Cov 17538019647970835018444217992595396235871190515713 m) (h : Fr m s t) :
    Fr m s (Sys2Proof.Machine.State.writeEthCtl t a1 a2) := by
  unfold Sys2Proof.Machine.State.writeEthCtl
  repeat' first
    | with_reducible assumption
    | with_reducible refine fr_State_fs (hM.sub (by first | decide | (dsimp only; decide) | (dsimp only [clkField]; decide) | (split <;> decide))) ?_
    | with_reducible refine fr_State_setEthCfg (hM.sub (by decide)) ?_
    | with_reducible refine fr_ite ?_ ?_
    | split
    | dsimp only

theorem fr_State_writeEthAddr {m : Nat} {s t : State} {r p f v} (hM : Cov (regMask .ETH_CTL) m) (hN : Cov (regMask f.reg) m)
    (h : Fr m s t) : Fr m s (Sys2Proof.Machine.State.writeEthAddr t r p f v) := by
  unfold Sys2Proof.Machine.State.writeEthAddr
  exact fr_ite (fr_ite h (fr_State_fs hM h)) (fr_State_fs hN h)

theorem fr_execInit {m : Nat} {s t : State} {a1 a2} (hM : Cov 38916865598847282905927719725569184247399821072138241 m) (h : Fr m s t) :
    ∀ u, Sys2Proof.Machine.execInit a1 a2 t = .next u → Fr m s u := by
  intro u e
  cases e
  repeat' first
    | with_reducible assumption
    | with_reducible refine fr_initMsg (hM.sub (by decide)) ?_

theorem fr_execFinish {m : Nat} {s t : State} {a1 a2 a3} (hM : Cov 392498459474875867737881360371148218562342645832353841153 m) (h : Fr m s t) :
    ∀ u, Sys2Proof.Machine.execFinish a1 a2 a3 t = .next u → Fr m s u := by
  intro u e
  cases e
  repeat' first
    | with_reducible assumption
    | with_reducible refine fr_finish (hM.sub (by decide)) ?_

theorem fr_execHandshakeTimeout {m : Nat} {s t : State} {a1} (hM : Cov 179601013208319998144521420669067555945430003562315777 m) (h : Fr m s t) :
    ∀ u, Sys2Proof.Machine.execHandshakeTimeout a1 t = .next u → Fr m s u := by
  intro u e
  cases e
  repeat' first
    | with_reducible assumption
    | with_reducible refine fr_handshakeTimeout (hM.sub (by decide)) ?_

theorem fr_execCertReq {m : Nat} {s t : State} {a1 a2 a3 a4} (hM : Cov 549789368320 m) (h : Fr m s t) :
    ∀ u, Sys2Proof.Machine.execCertReq a1 a2 a3 a4 t = .next u → Fr m s u := by
  intro u e
  cases e
  repeat' first
    | with_reducible assumption
    | with_reducible refine fr_certReq (hM.sub (by decide)) ?_

theorem fr_execRekey {m : Nat} {s t : State} {a1 a2 a3} (hM : Cov 3432972605708152616410039761608440497973513007892061503501 m) (h : Fr m s t) :
    ∀ u, Sys2Proof.Machine.execRekey a1 a2 a3 t = .next u → Fr m s u := by
  intro u e
  cases e
  repeat' first
    | with_reducible assumption
    | with_reducible refine fr_rekey (hM.sub (by decide)) ?_

theorem fr_execOldPhaseExpiry {m : Nat} {s t : State} {a1} (hM : Cov 16777216 m) (h : Fr m s t) :
    ∀ u, Sys2Proof.Machine.execOldPhaseExpiry a1 t = .next u → Fr m s u := by
  intro u e
  cases e
  repeat' first
    | with_reducible assumption
    | with_reducible refine fr_oldPhaseExpiry (hM.sub (by decide)) ?_

theorem fr_execClose {m : Nat} {s t : State} {a1 a2 a3} (hM : Cov 3432972605708152616410039761608440497973513007342305689613 m) (h : Fr m s t) :
    ∀ u, Sys2Proof.Machine.execClose a1 a2 a3 t = .next u → Fr m s u := by
  intro u e
  cases e
  repeat' first
    | with_reducible assumption
    | with_reducible refine fr_close (hM.sub (by decide)) ?_

theorem fr_execSessionClose {m : Nat} {s t : State} {a1 a2 a3} (hM : Cov 179601013208319998144521420669067555945430553855000577 m) (h : Fr m s t) :
    ∀ u, Sys2Proof.Machine.execSessionClose a1 a2 a3 t = .next u → Fr m s u := by
  intro u e
  cases e
  repeat' first
    | with_reducible assumption
    | with_reducible refine fr_State_gatedUnit (hM.sub (by decide)) ?_ (fun _ _ => ?_)
    | with_reducible refine fr_State_writeSess0 (hM.sub (by decide)) ?_

theorem fr_execAcknowledge {m : Nat} {s t : State} {a1 a2} (hM : Cov 3432978592018859123788392723901515303868761522989804044301 m) (h : Fr m s t) :
    ∀ u, Sys2Proof.Machine.execAcknowledge a1 a2 t = .next u → Fr m s u := by
  intro u e
  cases e
  repeat' first
    | with_reducible assumption
    | with_reducible refine fr_acknowledge (hM.sub (by decide)) ?_

theorem fr_execAckTimeout {m : Nat} {s t : State} {a1} (hM : Cov 185587323914827376497483713743873451193941253014159361 m) (h : Fr m s t) :
    ∀ u, Sys2Proof.Machine.execAckTimeout a1 t = .next u → Fr m s u := by
  intro u e
  cases e
  repeat' first
    | with_reducible assumption
    | with_reducible refine fr_ackTimeout (hM.sub (by decide)) ?_

theorem fr_execRoceCnp {m : Nat} {s t : State} {a1 a2} (hM : Cov 3432978592018859123788392723901515303868761522989804044301 m) (h : Fr m s t) :
    ∀ u, Sys2Proof.Machine.execRoceCnp a1 a2 t = .next u → Fr m s u := by
  intro u e
  cases e
  repeat' first
    | with_reducible assumption
    | with_reducible refine fr_roceCnp (hM.sub (by decide)) ?_

theorem fr_execArpRequest {m : Nat} {s t : State} {a1 a2 a3} (hM : Cov 1519961702824139034931832226024934340442719600508929 m) (h : Fr m s t) :
    ∀ u, Sys2Proof.Machine.execArpRequest a1 a2 a3 t = .next u → Fr m s u := by
  intro u e
  cases e
  repeat' first
    | with_reducible assumption
    | with_reducible refine fr_arpRequest (hM.sub (by decide)) ?_

theorem fr_execNeighbourSolicitation {m : Nat} {s t : State} {a1 a2 a3} (hM : Cov 1519961702824139034931832226024934340442719600508929 m) (h : Fr m s t) :
    ∀ u, Sys2Proof.Machine.execNeighbourSolicitation a1 a2 a3 t = .next u → Fr m s u := by
  intro u e
  cases e
  repeat' first
    | with_reducible assumption
    | with_reducible refine fr_neighbour (hM.sub (by decide)) ?_

theorem fr_execEchoRequest {m : Nat} {s t : State} {a1 a2 a3 a4} (hM : Cov 1519961702824139034931832226024934340442719667617793 m) (h : Fr m s t) :
    ∀ u, Sys2Proof.Machine.execEchoRequest a1 a2 a3 a4 t = .next u → Fr m s u := by
  intro u e
  cases e
  repeat' first
    | with_reducible assumption
    | with_reducible refine fr_echo (hM.sub (by decide)) ?_

theorem fr_execPfcPause {m : Nat} {s t : State} {a1 a2 a3} (hM : Cov 7494580396232870164548495822169099324795622080380929 m) (h : Fr m s t) :
    ∀ u, Sys2Proof.Machine.execPfcPause a1 a2 a3 t = .next u → Fr m s u := by
  intro u e
  cases e
  repeat' first
    | with_reducible assumption
    | with_reducible refine fr_pfcPause (hM.sub (by decide)) ?_

theorem fr_execPauseExpiry {m : Nat} {s t : State} {a1} (hM : Cov 11692013098647223345629478661730264157797350375425 m) (h : Fr m s t) :
    ∀ u, Sys2Proof.Machine.execPauseExpiry a1 t = .next u → Fr m s u := by
  intro u e
  cases e
  repeat' first
    | with_reducible assumption
    | with_reducible refine fr_pauseExpiry (hM.sub (by decide)) ?_

theorem fr_execPortLinkDown {m : Nat} {s t : State} {a1} (hM : Cov 11692013098647223345629478661730264161645641072641 m) (h : Fr m s t) :
    ∀ u, Sys2Proof.Machine.execPortLinkDown a1 t = .next u → Fr m s u := by
  intro u e
  cases e
  repeat' first
    | with_reducible assumption
    | with_reducible refine fr_portLinkDown (hM.sub (by decide)) ?_

theorem fr_execPortTraining {m : Nat} {s t : State} {a1 a2 a3} (hM : Cov 95792663317913599158196400648729045436348703893880833 m) (h : Fr m s t) :
    ∀ u, Sys2Proof.Machine.execPortTraining a1 a2 a3 t = .next u → Fr m s u := by
  intro u e
  cases e
  repeat' first
    | with_reducible assumption
    | with_reducible refine fr_portTraining (hM.sub (by decide)) ?_

theorem fr_execPortLinkDisable {m : Nat} {s t : State} {a1 a2 a3} (hM : Cov 17538019647970835018444217992595396235871727386625 m) (h : Fr m s t) :
    ∀ u, Sys2Proof.Machine.execPortLinkDisable a1 a2 a3 t = .next u → Fr m s u := by
  intro u e
  cases e
  repeat' first
    | with_reducible assumption
    | with_reducible refine fr_State_gatedUnit (hM.sub (by decide)) ?_ (fun _ _ => ?_)
    | with_reducible refine fr_State_writeEthCtl (hM.sub (by decide)) ?_

theorem fr_execFrameDropped {m : Nat} {s t : State} {a1 a2 a3} (hM : Cov 1496577676626844588240573268701473812127674924007425 m) (h : Fr m s t) :
    ∀ u, Sys2Proof.Machine.execFrameDropped a1 a2 a3 t = .next u → Fr m s u := by
  intro u e
  cases e
  repeat' first
    | with_reducible assumption
    | with_reducible refine fr_frameDropped (hM.sub (by decide)) ?_

end Sys2Proof.Laws
end

