-- ==== Sys2Proof/Laws/FrameMgmtOps.lean ====
section
/-! SUPPORT. What the functions of Machine/MgmtOps.lean may change. -/

namespace Sys2Proof.Laws

open Sys2Proof.Machine

theorem fr_State_policyReset {m : Nat} {s t : State} (hM : Cov 766247770432944429179173513575154591809369561091801089 m) (h : Fr m s t) :
    Fr m s (Sys2Proof.Machine.State.policyReset t) := by
  unfold Sys2Proof.Machine.State.policyReset
  repeat' first
    | with_reducible assumption
    | with_reducible refine fr_State_wr (hM.sub (by first | decide | (dsimp only; decide) | (dsimp only [clkField]; decide) | (split <;> decide))) ?_

theorem fr_State_setPolicy {m : Nat} {s t : State} {a1} (hM : Cov 766247770432944429179173513575154591809369561091801089 m) (h : Fr m s t) :
    Fr m s (Sys2Proof.Machine.State.setPolicy t a1) := by
  unfold Sys2Proof.Machine.State.setPolicy
  refine fr_State_fs (hM.sub (by decide)) (fr_foldl_mem h (fun u f hf w => fr_ite w (fr_State_fs ?_ w)))
  simp only [List.mem_cons, List.not_mem_nil, or_false] at hf
  rcases hf with rfl | rfl | rfl | rfl | rfl | rfl <;> exact hM.sub (by decide)

theorem fr_State_setCap {m : Nat} {s t : State} {a1} (hM : Cov 1532495540865888858358347027150309183618739122183602177 m) (h : Fr m s t) :
    Fr m s (Sys2Proof.Machine.State.setCap t a1) := by
  unfold Sys2Proof.Machine.State.setCap
  repeat' first
    | with_reducible assumption
    | with_reducible refine fr_State_fs (hM.sub (by decide)) ?_

theorem fr_State_setThrottle {m : Nat} {s t : State} {a1} (hM : Cov 3064991081731777716716694054300618367237478244367204353 m) (h : Fr m s t) :
    Fr m s (Sys2Proof.Machine.State.setThrottle t a1) := by
  unfold Sys2Proof.Machine.State.setThrottle
  repeat' first
    | with_reducible assumption
    | with_reducible refine fr_State_fs (hM.sub (by decide)) ?_

theorem fr_State_applyPort {m : Nat} {s t : State} {a1} (hM : Cov 350760392959416700368884359851907924717423810314241 m) (h : Fr m s t) :
    Fr m s (Sys2Proof.Machine.State.applyPort t a1) := by
  unfold Sys2Proof.Machine.State.applyPort
  repeat' first
    | with_reducible assumption
    | with_reducible refine fr_State_fs (hM.sub (by decide)) ?_
    | with_reducible refine fr_ite ?_ ?_
    | split
    | dsimp only

theorem fr_State_setKey {m : Nat} {s t : State} {a1 a2} (hM : Cov 784637716923335095479473677900958302012794430558004314113 m) (h : Fr m s t) :
    Fr m s (Sys2Proof.Machine.State.setKey t a1 a2) := by
  unfold Sys2Proof.Machine.State.setKey
  repeat' first
    | with_reducible assumption
    | with_reducible refine fr_State_wr (hM.sub (by first | decide | (dsimp only; decide) | (dsimp only [clkField]; decide) | (split <;> decide))) ?_
    | with_reducible refine fr_foldl ?_ (fun _ _ _ => ?_)
    | with_reducible refine fr_foldl_fst ?_ (fun _ _ _ => ?_)
    | with_reducible refine fr_foldl_snd ?_ (fun _ _ _ => ?_)

theorem fr_State_noteRepair {m : Nat} {s t : State} {a1 a2} (hM : Cov 850705917302346158658436518716859482113 m) (h : Fr m s t) :
    Fr m s (Sys2Proof.Machine.State.noteRepair t a1 a2) := by
  unfold Sys2Proof.Machine.State.noteRepair
  repeat' first
    | with_reducible assumption
    | with_reducible refine fr_State_fc (hM.sub (by decide)) ?_
    | with_reducible refine fr_ite ?_ ?_
    | split
    | dsimp only
    | with_reducible refine fr_set_repairs (hM.sub (by decide)) ?_

theorem fr_State_applyRec {m : Nat} {s t : State} {a1} (hM : Cov 1182703784423644102301374643426523784628950982806378381313 m) (h : Fr m s t) :
    Fr m s (Sys2Proof.Machine.State.applyRec t a1) := by
  unfold Sys2Proof.Machine.State.applyRec
  repeat' first
    | with_reducible assumption
    | with_reducible refine fr_State_fs (hM.sub (by decide)) ?_
    | with_reducible refine fr_State_applyPort (hM.sub (by decide)) ?_
    | with_reducible refine fr_State_setKey (hM.sub (by decide)) ?_
    | with_reducible refine fr_State_noteRepair (hM.sub (by decide)) ?_
    | with_reducible refine fr_State_setThrottle (hM.sub (by decide)) ?_
    | with_reducible refine fr_State_setCap (hM.sub (by decide)) ?_
    | with_reducible refine fr_State_setPolicy (hM.sub (by decide)) ?_
    | with_reducible refine fr_State_policyReset (hM.sub (by decide)) ?_
    | with_reducible refine fr_ite ?_ ?_
    | with_reducible refine fr_foldl ?_ (fun _ _ _ => ?_)
    | with_reducible refine fr_foldl_fst ?_ (fun _ _ _ => ?_)
    | with_reducible refine fr_foldl_snd ?_ (fun _ _ _ => ?_)
    | split
    | dsimp only
    | with_reducible refine fr_set_mg (hM.sub (by decide)) ?_

theorem fr_State_setActive {m : Nat} {s t : State} {a1 a2} (hM : Cov 191561942608236107294793378393788647952342390272950273 m) (h : Fr m s t) :
    Fr m s (Sys2Proof.Machine.State.setActive t a1 a2) := by
  unfold Sys2Proof.Machine.State.setActive
  repeat' first
    | with_reducible assumption
    | with_reducible refine fr_State_fs (hM.sub (by decide)) ?_

theorem fr_State_updResult {m : Nat} {s t : State} {a1} (hM : Cov 49039857307708443467467104868809893875799651909875269633 m) (h : Fr m s t) :
    Fr m s (Sys2Proof.Machine.State.updResult t a1) := by
  unfold Sys2Proof.Machine.State.updResult
  repeat' first
    | with_reducible assumption
    | with_reducible refine fr_State_fs (hM.sub (by decide)) ?_

theorem fr_State_showUpd {m : Nat} {s t : State} (hM : Cov 49039857307708443467467104868809893875799651909875269633 m) (h : Fr m s t) :
    Fr m s (Sys2Proof.Machine.State.showUpd t) := by
  unfold Sys2Proof.Machine.State.showUpd
  repeat' first
    | with_reducible assumption
    | with_reducible refine fr_State_fs (hM.sub (by decide)) ?_

theorem fr_State_fwRec {m : Nat} {s t : State} {a1 a2 a3} (hM : Cov 3432981573482199278830345859418574045086121616144238395405 m) (h : Fr m s t) :
    Fr m s (Sys2Proof.Machine.State.fwRec t a1 a2 a3) := by
  unfold Sys2Proof.Machine.State.fwRec
  repeat' first
    | with_reducible assumption
    | with_reducible refine fr_State_errRec (hM.sub (by decide)) ?_

theorem fr_State_modMg {m : Nat} {s t : State} {a1} (hM : Cov 268435456 m) (h : Fr m s t) :
    Fr m s (Sys2Proof.Machine.State.modMg t a1) := by
  unfold Sys2Proof.Machine.State.modMg
  repeat' first
    | with_reducible assumption
    | with_reducible refine fr_set_mg (hM.sub (by decide)) ?_

theorem fr_State_showStores {m : Nat} {s t : State} (hM : Cov 12259964326927110866866776217202473468949912977468817409 m) (h : Fr m s t) :
    Fr m s (Sys2Proof.Machine.State.showStores t) := by
  unfold Sys2Proof.Machine.State.showStores
  repeat' first
    | with_reducible assumption
    | with_reducible refine fr_State_fs (hM.sub (by decide)) ?_
    | split

theorem fr_State_makeActive {m : Nat} {s t : State} {a1 a2} (hM : Cov 61491383577243790441628674464406155992701907277885472769 m) (h : Fr m s t) :
    Fr m s (Sys2Proof.Machine.State.makeActive t a1 a2) := by
  unfold Sys2Proof.Machine.State.makeActive
  repeat' first
    | with_reducible assumption
    | with_reducible refine fr_State_modMg (hM.sub (by decide)) ?_
    | with_reducible refine fr_State_setActive (hM.sub (by decide)) ?_
    | with_reducible refine fr_State_showUpd (hM.sub (by decide)) ?_
    | with_reducible refine fr_State_showStores (hM.sub (by decide)) ?_
    | with_reducible refine fr_ite ?_ ?_
    | split
    | dsimp only

theorem fr_State_addStore {m : Nat} {s t : State} {j f} (hM : Cov 12259964326927110866866776217202473468949912977737252865 m) (hN : Cov (regMask f.reg) m)
    (h : Fr m s t) : Fr m s (Sys2Proof.Machine.State.addStore t j f) := by
  unfold Sys2Proof.Machine.State.addStore
  refine fr_ite (fr_State_fs hN h) ?_
  dsimp only
  have k := fr_State_modMg (a1 := fun m => { m with stores := m.stores ++ [j] }) (hM.sub (by decide)) h
  exact fr_ite (fr_State_showStores (hM.sub (by decide)) k) k

theorem fr_State_endStore {m : Nat} {s t : State} {a1} (hM : Cov 61299821634635554334333881086012367344749564887612522497 m) (h : Fr m s t) :
    Fr m s (Sys2Proof.Machine.State.endStore t a1) := by
  unfold Sys2Proof.Machine.State.endStore
  repeat' first
    | with_reducible assumption
    | with_reducible refine fr_State_modMg (hM.sub (by decide)) ?_
    | with_reducible refine fr_State_showUpd (hM.sub (by decide)) ?_
    | with_reducible refine fr_State_updResult (hM.sub (by decide)) ?_
    | with_reducible refine fr_State_fs (hM.sub (by decide)) ?_
    | with_reducible refine fr_State_showStores (hM.sub (by decide)) ?_
    | with_reducible refine fr_ite ?_ ?_
    | split
    | dsimp only

theorem fr_State_storeBlock {m : Nat} {s t : State} {a1 a2 a3} (hM : Cov 12643088212143583081456362973990050764854597758283153409 m) (h : Fr m s t) :
    Fr m s (Sys2Proof.Machine.State.storeBlock t a1 a2 a3) := by
  unfold Sys2Proof.Machine.State.storeBlock
  repeat' first
    | with_reducible assumption
    | with_reducible refine fr_State_fs (hM.sub (by decide)) ?_
    | with_reducible refine fr_State_addStore (hM.sub (by decide)) (hM.sub (by decide)) ?_
    | with_reducible refine fr_ite ?_ ?_
    | split
    | dsimp only

theorem fr_State_writeStoreCmd {m : Nat} {s t : State} {a1 a2} (hM : Cov 12643088212143583081456362973990050764854597758283153409 m) (h : Fr m s t) :
    Fr m s (Sys2Proof.Machine.State.writeStoreCmd t a1 a2) := by
  unfold Sys2Proof.Machine.State.writeStoreCmd
  repeat' first
    | with_reducible assumption
    | with_reducible refine fr_State_fs (hM.sub (by decide)) ?_
    | with_reducible refine fr_State_storeBlock (hM.sub (by decide)) ?_
    | with_reducible refine fr_ite ?_ ?_
    | split
    | dsimp only

theorem fr_State_persist {m : Nat} {s t : State} (hM : Cov 12643088212143583081456362973990050764854597758283153409 m) (h : Fr m s t) :
    Fr m s (Sys2Proof.Machine.State.persist t) := by
  unfold Sys2Proof.Machine.State.persist
  repeat' first
    | with_reducible assumption
    | with_reducible refine fr_State_storeBlock (hM.sub (by decide)) ?_
    | with_reducible refine fr_ite ?_ ?_
    | split

theorem fr_State_storeStep {m : Nat} {s t : State} {a1} (hM : Cov 61299821634635554334333881086012367344749565437368336385 m) (h : Fr m s t) :
    Fr m s (Sys2Proof.Machine.State.storeStep t a1).1 := by
  unfold Sys2Proof.Machine.State.storeStep
  repeat' first
    | with_reducible assumption
    | with_reducible refine fr_State_showStores (hM.sub (by decide)) ?_
    | with_reducible refine fr_State_emit (hM.sub (by decide)) ?_
    | with_reducible refine fr_State_modMg (hM.sub (by decide)) ?_
    | with_reducible refine fr_State_endStore (hM.sub (by decide)) ?_
    | with_reducible refine fr_ite ?_ ?_
    | split
    | dsimp only

theorem fr_State_loseStores {m : Nat} {s t : State} (hM : Cov 61299821634635554334333881086012367344749564887612522497 m) (h : Fr m s t) :
    Fr m s (Sys2Proof.Machine.State.loseStores t) := by
  unfold Sys2Proof.Machine.State.loseStores
  repeat' first
    | with_reducible assumption
    | with_reducible refine fr_State_modMg (hM.sub (by decide)) ?_
    | with_reducible refine fr_State_showUpd (hM.sub (by decide)) ?_
    | with_reducible refine fr_State_updResult (hM.sub (by decide)) ?_
    | with_reducible refine fr_State_showStores (hM.sub (by decide)) ?_
    | with_reducible refine fr_State_fs (hM.sub (by decide)) ?_
    | with_reducible refine fr_ite ?_ ?_
    | split
    | dsimp only

theorem fr_State_placeSuite {m : Nat} {s t : State} (hM : Cov 37780084785561280184333 m) (h : Fr m s t) :
    Fr m s (Sys2Proof.Machine.State.placeSuite t) := by
  unfold Sys2Proof.Machine.State.placeSuite
  repeat' first
    | with_reducible assumption
    | with_reducible refine fr_State_free (hM.sub (by decide)) ?_
    | with_reducible refine fr_State_fs (hM.sub (by decide)) ?_
    | with_reducible refine fr_State_store (hM.sub (by decide)) ?_
    | dsimp only

theorem fr_State_recover {m : Nat} {s t : State} {a1} (hM : Cov 401734702638382190220245041224298523080928964945335942119425 m) (h : Fr m s t) :
    Fr m s (Sys2Proof.Machine.State.recover t a1) := by
  unfold Sys2Proof.Machine.State.recover
  repeat' first
    | with_reducible assumption
    | with_reducible refine fr_State_fs (hM.sub (by decide)) ?_
    | with_reducible refine fr_foldl ?_ (fun _ _ _ => ?_)
    | with_reducible refine fr_foldl_fst ?_ (fun _ _ _ => ?_)
    | with_reducible refine fr_foldl_snd ?_ (fun _ _ _ => ?_)
    | dsimp only

theorem fr_State_loadUcode {m : Nat} {s t : State} (hM : Cov 2012105536908912056804930184631501305897350212787444559921165 m) (h : Fr m s t) :
    Fr m s (Sys2Proof.Machine.State.loadUcode t) := by
  unfold Sys2Proof.Machine.State.loadUcode
  repeat' first
    | with_reducible assumption
    | with_reducible refine fr_State_recover (hM.sub (by decide)) ?_
    | with_reducible refine fr_State_fwRec (hM.sub (by decide)) ?_
    | with_reducible refine fr_State_placeSuite (hM.sub (by decide)) ?_
    | with_reducible refine fr_State_fs (hM.sub (by decide)) ?_
    | with_reducible refine fr_ite ?_ ?_
    | split
    | dsimp only
    | with_reducible refine fr_set_pw (hM.sub (by decide)) ?_

theorem fr_repairHoldEnd {m : Nat} {s t : State} {a1 a2 a3} (hM : Cov 3445433099768861649754828292158495459692182041308072526061 m) (h : Fr m s t) :
    Fr m s (Sys2Proof.Machine.repairHoldEnd a1 a2 a3 t) := by
  unfold Sys2Proof.Machine.repairHoldEnd
  repeat' first
    | with_reducible assumption
    | with_reducible refine fr_State_repairRead (hM.sub (by decide)) ?_
    | with_reducible refine fr_State_persist (hM.sub (by decide)) ?_
    | with_reducible refine fr_State_endRepair (hM.sub (by decide)) ?_
    | with_reducible refine fr_ite ?_ ?_
    | split
    | dsimp only

end Sys2Proof.Laws
end

