-- ==== Sys2Proof/Laws/FrameRegView.lean ====
section
/-! SUPPORT. What the functions of Machine/RegView.lean may change. -/

namespace Sys2Proof.Laws

open Sys2Proof.Machine

theorem fr_State_clearRc {m : Nat} {s t : State} {a1} (hM : Cov 25711008708143844408671393477458601640355229453780611655270401 m) (h : Fr m s t) :
    Fr m s (Sys2Proof.Machine.State.clearRc t a1) := by
  unfold Sys2Proof.Machine.State.clearRc
  repeat' first
    | with_reducible assumption
    | with_reducible refine fr_State_wr ((hM.sub (by decide)).all _) ?_
    | with_reducible refine fr_State_fs ((hM.sub (by decide)).all _) ?_
    | with_reducible refine fr_ite ?_ ?_

theorem fr_State_readReg {m : Nat} {s t : State} {a1} (hM : Cov 25711008708143844408671393477458601640355229453780611655270401 m) (h : Fr m s t) :
    Fr m s (Sys2Proof.Machine.State.readReg t a1).1 := by
  unfold Sys2Proof.Machine.State.readReg
  repeat' first
    | with_reducible assumption
    | with_reducible refine fr_State_decodeErr (hM.sub (by decide)) ?_
    | with_reducible refine fr_State_clearRc (hM.sub (by decide)) ?_
    | with_reducible refine fr_ite ?_ ?_
    | split

theorem fr_State_latch {m : Nat} {s t : State} {a1} (hM : Cov 2 m) (h : Fr m s t) :
    Fr m s (Sys2Proof.Machine.State.latch t a1) := by
  unfold Sys2Proof.Machine.State.latch
  repeat' first
    | with_reducible assumption
    | with_reducible refine fr_ite ?_ ?_
    | with_reducible refine fr_foldl ?_ (fun _ _ _ => ?_)
    | with_reducible refine fr_foldl_fst ?_ (fun _ _ _ => ?_)
    | with_reducible refine fr_foldl_snd ?_ (fun _ _ _ => ?_)
    | split
    | dsimp only
    | with_reducible refine fr_set_shadow (hM.sub (by decide)) ?_

end Sys2Proof.Laws
end

