-- ==== Sys2Proof/Laws/FrameReliability.lean ====
section
/-! SUPPORT. What the functions of Machine/Reliability.lean may change. -/

namespace Sys2Proof.Laws

open Sys2Proof.Machine

theorem fr_State_addDevs {m : Nat} {s t : State} {a1} (hM : Cov 512 m) (h : Fr m s t) :
    Fr m s (Sys2Proof.Machine.State.addDevs t a1) := by
  unfold Sys2Proof.Machine.State.addDevs
  repeat' first
    | with_reducible assumption
    | with_reducible refine fr_ite ?_ ?_
    | with_reducible refine fr_foldl ?_ (fun _ _ _ => ?_)
    | with_reducible refine fr_foldl_fst ?_ (fun _ _ _ => ?_)
    | with_reducible refine fr_foldl_snd ?_ (fun _ _ _ => ?_)
    | split
    | dsimp only
    | with_reducible refine fr_set_devs (hM.sub (by decide)) ?_

theorem fr_State_scratchCheck {m : Nat} {s t : State} {a1} (hM : Cov 4723519405473763688461 m) (h : Fr m s t) :
    Fr m s (Sys2Proof.Machine.State.scratchCheck t a1) := by
  unfold Sys2Proof.Machine.State.scratchCheck
  repeat' first
    | with_reducible assumption
    | with_reducible refine fr_State_freeFill (hM.sub (by decide)) ?_

theorem fr_State_letGo {m : Nat} {s t : State} {a1} (hM : Cov 1088 m) (h : Fr m s t) :
    Fr m s (Sys2Proof.Machine.State.letGo t a1) := by
  unfold Sys2Proof.Machine.State.letGo
  repeat' first
    | with_reducible assumption
    | with_reducible refine fr_State_modCtx (hM.sub (by decide)) ?_
    | with_reducible refine fr_set_sieve (hM.sub (by decide)) ?_

theorem fr_State_sieveAcc {m : Nat} {s t : State} {a1 a2 a3} (hM : Cov 3432790011539591042723051066059987297066735358152351432717 m) (h : Fr m s t) :
    Fr m s (Sys2Proof.Machine.State.sieveAcc t a1 a2 a3) := by
  unfold Sys2Proof.Machine.State.sieveAcc
  repeat' first
    | with_reducible assumption
    | with_reducible refine fr_State_fc (hM.sub (by decide)) ?_
    | with_reducible refine fr_State_accUe (hM.sub (by decide)) ?_
    | split
    | dsimp only

theorem fr_State_jobRun {m : Nat} {s t : State} {a1 a2 a3 a4} (hM : Cov 3432790011539591044424462903685253314963455671607538761741 m) (h : Fr m s t) :
    Fr m s (Sys2Proof.Machine.State.jobRun t a1 a2 a3 a4) := by
  unfold Sys2Proof.Machine.State.jobRun
  repeat' first
    | with_reducible assumption
    | with_reducible refine fr_State_streamMet (hM.sub (by decide)) ?_
    | with_reducible refine fr_State_scratchCheck (hM.sub (by decide)) ?_
    | with_reducible refine fr_State_fc (hM.sub (by decide)) ?_
    | with_reducible refine fr_State_sieveAcc (hM.sub (by decide)) ?_
    | dsimp only

theorem fr_sieveCompare {m : Nat} {s t : State} {a1 a2 a3 a4 a5} (hM : Cov 3432790011539591044424462903685253324408188637346829190733 m) (h : Fr m s t) :
    Fr m s (Sys2Proof.Machine.sieveCompare a1 a2 a3 a4 a5 t) := by
  unfold Sys2Proof.Machine.sieveCompare
  repeat' first
    | with_reducible assumption
    | with_reducible refine fr_State_jobRun (hM.sub (by decide)) ?_
    | with_reducible refine fr_State_addDevs (hM.sub (by decide)) ?_
    | with_reducible refine fr_State_fc (hM.sub (by decide)) ?_
    | with_reducible refine fr_State_letGo (hM.sub (by decide)) ?_
    | with_reducible refine fr_ite ?_ ?_
    | split
    | dsimp only
    | with_reducible refine fr_set_sieve (hM.sub (by decide)) ?_

theorem fr_sieveArbitration {m : Nat} {s t : State} {a1 a2 a3 a4 a5} (hM : Cov 3432790011539591044424462903685253324555762589936505603149 m) (h : Fr m s t) :
    Fr m s (Sys2Proof.Machine.sieveArbitration a1 a2 a3 a4 a5 t) := by
  unfold Sys2Proof.Machine.sieveArbitration
  repeat' first
    | with_reducible assumption
    | with_reducible refine fr_State_jobRun (hM.sub (by decide)) ?_
    | with_reducible refine fr_State_errRec (hM.sub (by decide)) ?_
    | with_reducible refine fr_State_fc (hM.sub (by decide)) ?_
    | with_reducible refine fr_State_letGo (hM.sub (by decide)) ?_
    | with_reducible refine fr_ite ?_ ?_
    | split
    | dsimp only

theorem fr_State_katRec {m : Nat} {s t : State} {a1 a2 a3} (hM : Cov 3432790011539591042723051066040180331996032999668288864269 m) (h : Fr m s t) :
    Fr m s (Sys2Proof.Machine.State.katRec t a1 a2 a3) := by
  unfold Sys2Proof.Machine.State.katRec
  repeat' first
    | with_reducible assumption
    | with_reducible refine fr_State_errRec (hM.sub (by decide)) ?_
    | with_reducible refine fr_State_fc (hM.sub (by decide)) ?_

theorem fr_State_holdCore {m : Nat} {s t : State} {a1} (hM : Cov 453494756308075616927809 m) (h : Fr m s t) :
    Fr m s (Sys2Proof.Machine.State.holdCore t a1) := by
  unfold Sys2Proof.Machine.State.holdCore
  repeat' first
    | with_reducible assumption
    | with_reducible refine fr_State_leavePool (hM.sub (by decide)) ?_
    | with_reducible refine fr_State_setCoreBit (hM.sub (by decide)) (hM.sub (by decide)) ?_

theorem fr_State_runPass {m : Nat} {s t : State} {a1 a2 a3} (hM : Cov 3432790011539591042723051066040180790214308713217669480525 m) (h : Fr m s t) :
    Fr m s (Sys2Proof.Machine.State.runPass t a1 a2 a3) := by
  unfold Sys2Proof.Machine.State.runPass
  repeat' first
    | with_reducible assumption
    | with_reducible refine fr_State_scratchCheck (hM.sub (by decide)) ?_
    | with_reducible refine fr_State_fc (hM.sub (by decide)) ?_
    | with_reducible refine fr_State_katRec (hM.sub (by decide)) ?_
    | with_reducible refine fr_State_holdCore (hM.sub (by decide)) ?_
    | split
    | dsimp only

theorem fr_State_endPass {m : Nat} {s t : State} {a1 a2 a3} (hM : Cov 3432790011539591042723051066040180790214308713217669480525 m) (h : Fr m s t) :
    Fr m s (Sys2Proof.Machine.State.endPass t a1 a2 a3) := by
  unfold Sys2Proof.Machine.State.endPass
  repeat' first
    | with_reducible assumption
    | with_reducible refine fr_State_fs (hM.sub (by decide)) ?_
    | with_reducible refine fr_State_modMg (hM.sub (by decide)) ?_
    | with_reducible refine fr_State_joinPool (hM.sub (by decide)) ?_
    | with_reducible refine fr_State_runPass (hM.sub (by decide)) ?_
    | with_reducible refine fr_ite ?_ ?_
    | split
    | dsimp only

theorem fr_State_startPass {m : Nat} {s t : State} {a1 a2 a3} (hM : Cov 405167301076287159928213574151330831420801950647063297409101 m) (h : Fr m s t) :
    Fr m s (Sys2Proof.Machine.State.startPass t a1 a2 a3) := by
  unfold Sys2Proof.Machine.State.startPass
  repeat' first
    | with_reducible assumption
    | with_reducible refine fr_State_fs (hM.sub (by decide)) ?_
    | with_reducible refine fr_State_leaveIdle (hM.sub (by decide)) ?_
    | with_reducible refine fr_State_runPass (hM.sub (by decide)) ?_
    | with_reducible refine fr_State_leavePool (hM.sub (by decide)) ?_
    | with_reducible refine fr_State_modMg (hM.sub (by decide)) ?_
    | with_reducible refine fr_ite ?_ ?_
    | split
    | dsimp only

theorem fr_katPass {m : Nat} {s t : State} {a1 a2} (hM : Cov 405167301076287159928213574151330831420801950647063297409101 m) (h : Fr m s t) :
    Fr m s (Sys2Proof.Machine.katPass a1 a2 t) := by
  unfold Sys2Proof.Machine.katPass
  repeat' first
    | with_reducible assumption
    | with_reducible refine fr_State_endPass (hM.sub (by decide)) ?_
    | with_reducible refine fr_State_fc (hM.sub (by decide)) ?_
    | with_reducible refine fr_State_startPass (hM.sub (by decide)) ?_
    | with_reducible refine fr_ite ?_ ?_
    | split

theorem fr_State_clearHeld {m : Nat} {s t : State} {a1 a2} (hM : Cov 453494756308075616927809 m) (h : Fr m s t) :
    Fr m s (Sys2Proof.Machine.State.clearHeld t a1 a2) := by
  unfold Sys2Proof.Machine.State.clearHeld
  repeat' first
    | with_reducible assumption
    | with_reducible refine fr_State_joinPool (hM.sub (by decide)) ?_
    | with_reducible refine fr_State_setCoreBit (hM.sub (by decide)) (hM.sub (by decide)) ?_
    | with_reducible refine fr_foldl ?_ (fun _ _ _ => ?_)
    | with_reducible refine fr_foldl_fst ?_ (fun _ _ _ => ?_)
    | with_reducible refine fr_foldl_snd ?_ (fun _ _ _ => ?_)

theorem fr_State_judge {m : Nat} {s t : State} {a1 a2} (hM : Cov 3432790011539591042723051066040183883215628117641489563661 m) (h : Fr m s t) :
    Fr m s (Sys2Proof.Machine.State.judge t a1 a2) := by
  unfold Sys2Proof.Machine.State.judge
  repeat' first
    | with_reducible assumption
    | with_reducible refine fr_State_modMg (hM.sub (by decide)) ?_
    | with_reducible refine fr_State_setCoreBit (hM.sub (by decide)) (hM.sub (by decide)) ?_
    | with_reducible refine fr_State_errRec (hM.sub (by decide)) ?_
    | with_reducible refine fr_ite ?_ ?_
    | split
    | dsimp only

theorem fr_State_keepRuns {m : Nat} {s t : State} {a1} (hM : Cov 268435456 m) (h : Fr m s t) :
    Fr m s (Sys2Proof.Machine.State.keepRuns t a1) := by
  unfold Sys2Proof.Machine.State.keepRuns
  repeat' first
    | with_reducible assumption
    | with_reducible refine fr_State_modMg (hM.sub (by decide)) ?_
    | dsimp only

theorem fr_laggardWindow {m : Nat} {s t : State} {a1} (hM : Cov 3432790011539591042723051066040184487678537924956076916749 m) (h : Fr m s t) :
    Fr m s (Sys2Proof.Machine.laggardWindow a1 t) := by
  unfold Sys2Proof.Machine.laggardWindow
  repeat' first
    | with_reducible assumption
    | with_reducible refine fr_State_keepRuns (hM.sub (by decide)) ?_
    | with_reducible refine fr_State_judge (hM.sub (by decide)) ?_
    | with_reducible refine fr_State_fs (hM.sub (by decide)) ?_
    | with_reducible refine fr_ite ?_ ?_
    | with_reducible refine fr_foldl ?_ (fun _ _ _ => ?_)
    | with_reducible refine fr_foldl_fst ?_ (fun _ _ _ => ?_)
    | with_reducible refine fr_foldl_snd ?_ (fun _ _ _ => ?_)
    | split
    | dsimp only

theorem fr_State_writeLantern {m : Nat} {s t : State} {a1} (hM : Cov 17127015868614484452827590648622151471163244545 m) (h : Fr m s t) :
    Fr m s (Sys2Proof.Machine.State.writeLantern t a1) := by
  unfold Sys2Proof.Machine.State.writeLantern
  repeat' first
    | with_reducible assumption
    | with_reducible refine fr_State_fs (hM.sub (by decide)) ?_
    | with_reducible refine fr_State_fireToken (hM.sub (by decide)) ?_
    | with_reducible refine fr_ite ?_ ?_
    | split
    | dsimp only

theorem fr_State_tokenPassed {m : Nat} {s t : State} {a1} (hM : Cov 4835703278458533878693889 m) (h : Fr m s t) :
    Fr m s (Sys2Proof.Machine.State.tokenPassed t a1) := by
  unfold Sys2Proof.Machine.State.tokenPassed
  repeat' first
    | with_reducible assumption
    | with_reducible refine fr_State_fs (hM.sub (by decide)) ?_
    | with_reducible refine fr_ite ?_ ?_
    | split
    | dsimp only
    | with_reducible refine fr_set_lantern (hM.sub (by decide)) ?_

theorem fr_lanternToken {m : Nat} {s t : State} {a1} (hM : Cov 4835703278458533878693891 m) (h : Fr m s t) :
    Fr m s (Sys2Proof.Machine.lanternToken a1 t) := by
  unfold Sys2Proof.Machine.lanternToken
  repeat' first
    | with_reducible assumption
    | with_reducible refine fr_State_latch (hM.sub (by decide)) ?_
    | with_reducible refine fr_State_tokenPassed (hM.sub (by decide)) ?_
    | with_reducible refine fr_ite ?_ ?_
    | with_reducible refine fr_foldl ?_ (fun _ _ _ => ?_)
    | with_reducible refine fr_foldl_fst ?_ (fun _ _ _ => ?_)
    | with_reducible refine fr_foldl_snd ?_ (fun _ _ _ => ?_)
    | split
    | dsimp only
    | with_reducible refine fr_set_lantern (hM.sub (by decide)) ?_

theorem fr_State_showSpares {m : Nat} {s t : State} {a1} (hM : Cov 36893488147419103233 m) (h : Fr m s t) :
    Fr m s (Sys2Proof.Machine.State.showSpares t a1) := by
  unfold Sys2Proof.Machine.State.showSpares
  repeat' first
    | with_reducible assumption
    | with_reducible refine fr_State_fs (hM.sub (by first | decide | (dsimp only; decide) | (dsimp only [clkField]; decide) | (split <;> decide))) ?_

theorem fr_State_chooseCore {m : Nat} {s t : State} {a1 a2} (hM : Cov 401734511064747568885490523085290669973511436232354948972609 m) (h : Fr m s t) :
    Fr m s (Sys2Proof.Machine.State.chooseCore t a1 a2) := by
  unfold Sys2Proof.Machine.State.chooseCore
  repeat' first
    | with_reducible assumption
    | with_reducible refine fr_State_leavePool (hM.sub (by decide)) ?_
    | with_reducible refine fr_State_fs (hM.sub (by decide)) ?_
    | with_reducible refine fr_State_modMg (hM.sub (by decide)) ?_
    | with_reducible refine fr_State_leaveIdle (hM.sub (by decide)) ?_
    | with_reducible refine fr_ite ?_ ?_
    | split
    | dsimp only

theorem fr_State_writeRetire {m : Nat} {s t : State} {a1} (hM : Cov 401734511064747568885490523085290669973511436232354948972609 m) (h : Fr m s t) :
    Fr m s (Sys2Proof.Machine.State.writeRetire t a1) := by
  unfold Sys2Proof.Machine.State.writeRetire
  repeat' first
    | with_reducible assumption
    | with_reducible refine fr_State_fs (hM.sub (by decide)) ?_
    | with_reducible refine fr_State_chooseCore (hM.sub (by decide)) ?_
    | with_reducible refine fr_ite ?_ ?_
    | split
    | dsimp only

theorem fr_State_retireRec {m : Nat} {s t : State} {a1 a2 a3 a4 a5} (hM : Cov 3432790011539591042723051066040180256438169273753965445133 m) (h : Fr m s t) :
    Fr m s (Sys2Proof.Machine.State.retireRec t a1 a2 a3 a4 a5) := by
  unfold Sys2Proof.Machine.State.retireRec
  repeat' first
    | with_reducible assumption
    | with_reducible refine fr_State_errRec (hM.sub (by decide)) ?_

theorem fr_State_freshUnits {m : Nat} {s t : State} {a1} (hM : Cov 80 m) (h : Fr m s t) :
    Fr m s (Sys2Proof.Machine.State.freshUnits t a1) := by
  unfold Sys2Proof.Machine.State.freshUnits
  repeat' first
    | with_reducible assumption
    | with_reducible refine fr_State_modCore (hM.sub (by decide)) ?_
    | dsimp only
    | with_reducible refine fr_set_acc (hM.sub (by decide)) ?_ ?_
    | exact fun k => k
    | exact fun k => smWf_filter _ _ k
    | exact fun _ => rfl
    | exact fun k => smWf_foldl _ (fun _ _ k' => smWf_put _ _ _ k') _ k

theorem fr_retirement {m : Nat} {s t : State} {a1 a2 a3} (hM : Cov 3445433099751734625804507429014195014810082607754620452957 m) (h : Fr m s t) :
    Fr m s (Sys2Proof.Machine.retirement a1 a2 a3 t) := by
  unfold Sys2Proof.Machine.retirement
  repeat' first
    | with_reducible assumption
    | with_reducible refine fr_State_retireRec (hM.sub (by decide)) ?_
    | with_reducible refine fr_State_modMg (hM.sub (by decide)) ?_
    | with_reducible refine fr_State_setCoreBit (hM.sub (by decide)) (hM.sub (by decide)) ?_
    | with_reducible refine fr_State_sramRec (hM.sub (by decide)) ?_
    | with_reducible refine fr_State_poisonUnit (hM.sub (by decide)) ?_
    | with_reducible refine fr_State_freshUnits (hM.sub (by decide)) ?_
    | with_reducible refine fr_State_fs (hM.sub (by decide)) ?_
    | with_reducible refine fr_State_fc (hM.sub (by decide)) ?_
    | with_reducible refine fr_State_joinPool (hM.sub (by decide)) ?_
    | with_reducible refine fr_State_tokenPassed (hM.sub (by decide)) ?_
    | with_reducible refine fr_State_persist (hM.sub (by decide)) ?_
    | with_reducible refine fr_State_showSpares (hM.sub (by decide)) ?_
    | with_reducible refine fr_ite ?_ ?_
    | with_reducible refine fr_foldl ?_ (fun _ _ _ => ?_)
    | with_reducible refine fr_foldl_fst ?_ (fun _ _ _ => ?_)
    | with_reducible refine fr_foldl_snd ?_ (fun _ _ _ => ?_)
    | split
    | dsimp only
    | with_reducible refine fr_set_lantern (hM.sub (by decide)) ?_

theorem fr_execSieveCompare {m : Nat} {s t : State} {a1 a2 a3} (hM : Cov 3432790011539591044424462903685253324408188637346829190733 m) (h : Fr m s t) :
    ∀ u, Sys2Proof.Machine.execSieveCompare a1 a2 a3 t = .next u → Fr m s u := by
  intro u e
  cases e
  repeat' first
    | with_reducible assumption
    | with_reducible refine fr_sieveCompare (hM.sub (by decide)) ?_

theorem fr_execSieveArbitration {m : Nat} {s t : State} {a1 a2 a3} (hM : Cov 3432790011539591044424462903685253324555762589936505603149 m) (h : Fr m s t) :
    ∀ u, Sys2Proof.Machine.execSieveArbitration a1 a2 a3 t = .next u → Fr m s u := by
  intro u e
  cases e
  repeat' first
    | with_reducible assumption
    | with_reducible refine fr_sieveArbitration (hM.sub (by decide)) ?_

theorem fr_execKatPass {m : Nat} {s t : State} {a1 a2} (hM : Cov 405167301076287159928213574151330831420801950647063297409101 m) (h : Fr m s t) :
    ∀ u, Sys2Proof.Machine.execKatPass a1 a2 t = .next u → Fr m s u := by
  intro u e
  cases e
  repeat' first
    | with_reducible assumption
    | with_reducible refine fr_katPass (hM.sub (by decide)) ?_

theorem fr_execKatHeldClear {m : Nat} {s t : State} {a1 a2 a3} (hM : Cov 453494756308075616927809 m) (h : Fr m s t) :
    ∀ u, Sys2Proof.Machine.execKatHeldClear a1 a2 a3 t = .next u → Fr m s u := by
  intro u e
  cases e
  repeat' first
    | with_reducible assumption
    | with_reducible refine fr_State_gated (hM.sub (by decide)) ?_ (fun _ _ => ?_)
    | with_reducible refine fr_State_clearHeld (hM.sub (by decide)) ?_
    | with_reducible refine fr_ite ?_ ?_
    | split

theorem fr_execLaggardWindow {m : Nat} {s t : State} {a1} (hM : Cov 3432790011539591042723051066040184487678537924956076916749 m) (h : Fr m s t) :
    ∀ u, Sys2Proof.Machine.execLaggardWindow a1 t = .next u → Fr m s u := by
  intro u e
  cases e
  repeat' first
    | with_reducible assumption
    | with_reducible refine fr_laggardWindow (hM.sub (by decide)) ?_

theorem fr_execFire {m : Nat} {s t : State} {a1 a2} (hM : Cov 17127015868614484452827590648622151471163244545 m) (h : Fr m s t) :
    ∀ u, Sys2Proof.Machine.execFire a1 a2 t = .next u → Fr m s u := by
  intro u e
  cases e
  repeat' first
    | with_reducible assumption
    | with_reducible refine fr_State_gated (hM.sub (by decide)) ?_ (fun _ _ => ?_)
    | with_reducible refine fr_State_writeLantern (hM.sub (by decide)) ?_

theorem fr_execLanternToken {m : Nat} {s t : State} {a1} (hM : Cov 4835703278458533878693891 m) (h : Fr m s t) :
    ∀ u, Sys2Proof.Machine.execLanternToken a1 t = .next u → Fr m s u := by
  intro u e
  cases e
  repeat' first
    | with_reducible assumption
    | with_reducible refine fr_lanternToken (hM.sub (by decide)) ?_

end Sys2Proof.Laws
end

