-- ==== Sys2Proof/Laws/FrameWords.lean ====
section
/-! SUPPORT. What the functions of Machine/Words.lean may change. -/

namespace Sys2Proof.Laws

open Sys2Proof.Machine

theorem fr_State_plainWrite {m : Nat} {s t : State} {a1 a2} (hM : Cov 25711008708143844408671393477458601640355229453780611655270401 m) (h : Fr m s t) :
    Fr m s (Sys2Proof.Machine.State.plainWrite t a1 a2) := by
  unfold Sys2Proof.Machine.State.plainWrite
  repeat' first
    | with_reducible assumption
    | with_reducible refine fr_State_wr ((hM.sub (by decide)).all _) ?_

theorem fr_State_writeValid {m : Nat} {s t : State} {a1 a2 a3} (hM : Cov 25711008708143844408671393477458601640355229453780611655270401 m) (h : Fr m s t) :
    Fr m s (Sys2Proof.Machine.State.writeValid t a1 a2 a3) := by
  unfold Sys2Proof.Machine.State.writeValid
  repeat' first
    | with_reducible assumption
    | with_reducible refine fr_State_wr ((hM.sub (by decide)).all _) ?_
    | with_reducible refine fr_ite ?_ ?_
    | split

theorem fr_State_connRates {m : Nat} {s t : State} (hM : Cov 11417981541647679048466287755595961091061972993 m) (h : Fr m s t) :
    Fr m s (Sys2Proof.Machine.State.connRates t) := by
  unfold Sys2Proof.Machine.State.connRates
  repeat' first
    | with_reducible assumption
    | with_reducible refine fr_State_fs (hM.sub (by decide)) ?_
    | with_reducible refine fr_ite ?_ ?_
    | with_reducible refine fr_foldl ?_ (fun _ _ _ => ?_)
    | with_reducible refine fr_foldl_fst ?_ (fun _ _ _ => ?_)
    | with_reducible refine fr_foldl_snd ?_ (fun _ _ _ => ?_)
    | split
    | dsimp only

theorem fr_State_unitWrite {m : Nat} {s t : State} {a1 a2} (hM : Cov 25711008708143844408671393477458601640355229453781161564831745 m) (h : Fr m s t) :
    Fr m s (Sys2Proof.Machine.State.unitWrite t a1 a2) := by
  unfold Sys2Proof.Machine.State.unitWrite
  repeat' first
    | with_reducible assumption
    | with_reducible refine fr_State_writeValid (hM.sub (by decide)) ?_
    | with_reducible refine fr_State_writeLinkCtl (hM.sub (by decide)) ?_
    | with_reducible refine fr_State_writeEthCtl (hM.sub (by decide)) ?_
    | with_reducible refine fr_State_writeEthAddr (hM.sub (by decide)) (hM.sub (by decide)) ?_
    | with_reducible refine fr_State_writeSess0 (hM.sub (by decide)) ?_
    | with_reducible refine fr_State_connRates (hM.sub (by decide)) ?_
    | with_reducible refine fr_State_plainWrite (hM.sub (by decide)) ?_
    | with_reducible refine fr_State_capRates (hM.sub (by decide)) ?_
    | with_reducible refine fr_ite ?_ ?_
    | split
    | dsimp only

theorem fr_State_lateWrite {m : Nat} {s t : State} {a1 a2} (hM : Cov 25711008708143844408671393477458601640355229453781161564831745 m) (h : Fr m s t) :
    Fr m s (Sys2Proof.Machine.State.lateWrite t a1 a2) := by
  unfold Sys2Proof.Machine.State.lateWrite
  repeat' first
    | with_reducible assumption
    | with_reducible refine fr_State_unitWrite (hM.sub (by decide)) ?_
    | with_reducible refine fr_ite ?_ ?_
    | split

end Sys2Proof.Laws
end

