-- ==== Sys2Proof/Laws/FrameReset.lean ====
section
/-! SUPPORT. What the functions of Machine/Reset.lean may change. -/

namespace Sys2Proof.Laws

open Sys2Proof.Machine

theorem fr_State_clear {m : Nat} {s t : State} {a1 a2} (hM : Cov 25711008708143844408671393477458601640355229453780611655270401 m) (h : Fr m s t) :
    Fr m s (Sys2Proof.Machine.State.clear t a1 a2) := by
  unfold Sys2Proof.Machine.State.clear
  repeat' first
    | with_reducible assumption
    | with_reducible refine fr_ite ?_ ?_
    | split
    | with_reducible refine fr_set_regs (hM.sub (by decide)) ?_

theorem fr_State_loseTiles {m : Nat} {s t : State} {a1} (hM : Cov 1152921504606846988 m) (h : Fr m s t) :
    Fr m s (Sys2Proof.Machine.State.loseTiles t a1) := by
  unfold Sys2Proof.Machine.State.loseTiles
  repeat' first
    | with_reducible assumption
    | dsimp only
    | with_reducible refine fr_set_mem_marks (hM.sub (by decide)) ?_ ?_ ?_
    | exact fun k => k
    | exact fun k => smWf_filter _ _ k
    | exact fun _ => rfl
    | exact fun k => smWf_foldl _ (fun _ _ k' => smWf_put _ _ _ k') _ k

theorem fr_State_dropHandles {m : Nat} {s t : State} {a1} (hM : Cov 32 m) (h : Fr m s t) :
    Fr m s (Sys2Proof.Machine.State.dropHandles t a1) := by
  unfold Sys2Proof.Machine.State.dropHandles
  repeat' first
    | with_reducible assumption
    | with_reducible refine fr_State_modRun (hM.sub (by decide)) ?_
    | with_reducible refine fr_ite ?_ ?_
    | with_reducible refine fr_foldl ?_ (fun _ _ _ => ?_)
    | with_reducible refine fr_foldl_fst ?_ (fun _ _ _ => ?_)
    | with_reducible refine fr_foldl_snd ?_ (fun _ _ _ => ?_)
    | split
    | dsimp only

theorem fr_State_blankCore {m : Nat} {s t : State} {a1} (hM : Cov 112 m) (h : Fr m s t) :
    Fr m s (Sys2Proof.Machine.State.blankCore t a1) := by
  have k : Fr m s ((t.dropHandles a1).modCore a1 (fun k => { out := k.out })) :=
    fr_State_modCore (hM.sub (by decide)) (fr_State_dropHandles (hM.sub (by decide)) h)
  have e : (t.dropHandles a1).acc = t.acc :=
    (fr_State_dropHandles (m := 112 - 16) (a1 := a1) (show Nat.land _ _ = _ by decide) (Fr.refl _ t)).1 .acc (by decide)
  refine fr_set_acc (hM.sub (by decide)) k (fun w => smWf_filter _ _ ?_)
  have e2 : ((t.dropHandles a1).modCore a1 (fun k => { out := k.out })).acc = t.acc := e
  rw [e2] at w
  exact w

theorem fr_State_endOutings {m : Nat} {s t : State} (hM : Cov 75705437678504268267585 m) (h : Fr m s t) :
    Fr m s (Sys2Proof.Machine.State.endOutings t) := by
  unfold Sys2Proof.Machine.State.endOutings
  repeat' first
    | with_reducible assumption
    | with_reducible refine fr_State_fs (hM.sub (by decide)) ?_
    | with_reducible refine fr_State_modMg (hM.sub (by decide)) ?_
    | with_reducible refine fr_State_joinPool (hM.sub (by decide)) ?_
    | with_reducible refine fr_foldl ?_ (fun _ _ _ => ?_)
    | with_reducible refine fr_foldl_fst ?_ (fun _ _ _ => ?_)
    | with_reducible refine fr_foldl_snd ?_ (fun _ _ _ => ?_)
    | dsimp only

theorem fr_State_blankCores {m : Nat} {s t : State} (hM : Cov 25711008708143844408671393477458601640355230606702116530552957 m) (h : Fr m s t) :
    Fr m s (Sys2Proof.Machine.State.blankCores t) := by
  unfold Sys2Proof.Machine.State.blankCores
  repeat' first
    | with_reducible assumption
    | with_reducible refine fr_State_blankCore (hM.sub (by decide)) ?_
    | with_reducible refine fr_State_endOutings (hM.sub (by decide)) ?_
    | with_reducible refine fr_State_loseTiles (hM.sub (by decide)) ?_
    | with_reducible refine fr_State_clear (hM.sub (by decide)) ?_
    | with_reducible refine fr_foldl ?_ (fun _ _ _ => ?_)
    | with_reducible refine fr_foldl_fst ?_ (fun _ _ _ => ?_)
    | with_reducible refine fr_foldl_snd ?_ (fun _ _ _ => ?_)
    | dsimp only
    | with_reducible refine fr_set_acc (hM.sub (by decide)) ?_ ?_
    | exact fun k => k
    | exact fun k => smWf_filter _ _ k
    | exact fun _ => rfl
    | exact fun k => smWf_foldl _ (fun _ _ k' => smWf_put _ _ _ k') _ k

theorem fr_State_abortReset {m : Nat} {s t : State} {a1} (hM : Cov 353887482764523791442918884335682669 m) (h : Fr m s t) :
    Fr m s (Sys2Proof.Machine.State.abortReset t a1) := by
  unfold Sys2Proof.Machine.State.abortReset
  repeat' first
    | with_reducible assumption
    | with_reducible refine fr_State_modRun (hM.sub (by decide)) ?_
    | with_reducible refine fr_State_fail (hM.sub (by decide)) ?_
    | with_reducible refine fr_State_dropSieve (hM.sub (by decide)) ?_
    | with_reducible refine fr_State_abandonIndex (hM.sub (by decide)) ?_
    | with_reducible refine fr_State_dropOutput (hM.sub (by decide)) ?_
    | with_reducible refine fr_State_abandonCtx (hM.sub (by decide)) ?_
    | with_reducible refine fr_ite ?_ ?_
    | with_reducible refine fr_foldl ?_ (fun _ _ _ => ?_)
    | with_reducible refine fr_foldl_fst ?_ (fun _ _ _ => ?_)
    | with_reducible refine fr_foldl_snd ?_ (fun _ _ _ => ?_)
    | split
    | dsimp only

theorem fr_State_placeStep {m : Nat} {s t : State} (hM : Cov 21267647932558653967613834469629231117 m) (h : Fr m s t) :
    Fr m s (Sys2Proof.Machine.State.placeStep t) := by
  unfold Sys2Proof.Machine.State.placeStep
  repeat' first
    | with_reducible assumption
    | with_reducible refine fr_State_applyGib (hM.sub (by decide)) ?_
    | with_reducible refine fr_ite ?_ ?_
    | split
    | dsimp only
    | with_reducible refine fr_set_pw (hM.sub (by decide)) ?_

theorem fr_State_diesBack {m : Nat} {s t : State} (hM : Cov 2024659740379685418332601763477916638729554923676372628946957 m) (h : Fr m s t) :
    Fr m s (Sys2Proof.Machine.State.diesBack t) := by
  unfold Sys2Proof.Machine.State.diesBack
  repeat' first
    | with_reducible assumption
    | with_reducible refine fr_State_loadUcode (hM.sub (by decide)) ?_
    | with_reducible refine fr_State_fs (hM.sub (by decide)) ?_
    | with_reducible refine fr_ite ?_ ?_
    | split
    | with_reducible refine fr_set_pw (hM.sub (by decide)) ?_

theorem fr_State_coreReset {m : Nat} {s t : State} (hM : Cov 25711008708143844408671393477458601640355230606703835205360893 m) (h : Fr m s t) :
    Fr m s (Sys2Proof.Machine.State.coreReset t) := by
  unfold Sys2Proof.Machine.State.coreReset
  repeat' first
    | with_reducible assumption
    | with_reducible refine fr_State_fs (hM.sub (by decide)) ?_
    | with_reducible refine fr_State_placeStep (hM.sub (by decide)) ?_
    | with_reducible refine fr_State_abortReset (hM.sub (by decide)) ?_
    | with_reducible refine fr_commandComplete (hM.sub (by decide)) ?_
    | with_reducible refine fr_State_blankCores (hM.sub (by decide)) ?_
    | with_reducible refine fr_State_showWait (hM.sub (by decide)) ?_
    | with_reducible refine fr_ite ?_ ?_
    | with_reducible refine fr_foldl ?_ (fun _ _ _ => ?_)
    | with_reducible refine fr_foldl_fst ?_ (fun _ _ _ => ?_)
    | with_reducible refine fr_foldl_snd ?_ (fun _ _ _ => ?_)
    | split
    | dsimp only
    | with_reducible refine fr_set_units (hM.sub (by decide)) ?_

theorem fr_State_bare {m : Nat} {s t : State} {a1 a2} (hM : Cov 1152979228967305214 m) (h : Fr m s t) :
    Fr m s (Sys2Proof.Machine.State.bare t a1 a2) := by
  refine ⟨fun p hp => ?_, fun _ => rfl, fun k kv hk => h.2.2.1 k kv hk,
    fun c => Bool.noConfusion ((hM.bit (i := 60) (by decide)).symm.trans c)⟩
  cases p
  case regs => exact h.1 .regs hp
  case out => exact h.1 .out hp
  case freeCtr => exact h.1 .freeCtr hp
  case pending => exact h.1 .pending hp
  case us => exact h.1 .us hp
  all_goals exact Bool.noConfusion ((hM.bit (by decide)).symm.trans hp)

theorem fr_State_sysReset {m : Nat} {s t : State} {a1} (hM : Cov 25711008708143844408671393477458601640355230606759840622575615 m) (h : Fr m s t) :
    Fr m s (Sys2Proof.Machine.State.sysReset t a1) :=
  fr_State_fs (hM.sub (by decide)) (fr_State_fc (hM.sub (by decide)) (fr_State_fs (hM.sub (by decide)) (fr_State_fs ((hM.sub (by decide)).all _)
    (fr_set_temps_volts (hM.sub (by decide)) (fr_State_bare (hM.sub (by decide)) (fr_State_clear (hM.sub (by decide)) h))))))

theorem fr_State_porReset {m : Nat} {s t : State} (hM : Cov 25711008708143844408671393477458601640355230606760390378389503 m) (h : Fr m s t) :
    Fr m s (Sys2Proof.Machine.State.porReset t) := by
  unfold Sys2Proof.Machine.State.porReset
  repeat' first
    | with_reducible assumption
    | with_reducible refine fr_State_emit (hM.sub (by decide)) ?_
    | with_reducible refine fr_State_bare (hM.sub (by decide)) ?_
    | with_reducible refine fr_ite ?_ ?_
    | split
    | dsimp only
    | with_reducible refine fr_set_regs (hM.sub (by decide)) ?_

theorem fr_State_writeRstCtl {m : Nat} {s t : State} {a1} (hM : Cov 25711008708143844408671393477458601640355230606761489890017279 m) (h : Fr m s t) :
    Fr m s (Sys2Proof.Machine.State.writeRstCtl t a1) := by
  unfold Sys2Proof.Machine.State.writeRstCtl
  repeat' first
    | with_reducible assumption
    | with_reducible refine fr_State_sysReset (hM.sub (by decide)) ?_
    | with_reducible refine fr_State_coreReset (hM.sub (by decide)) ?_
    | with_reducible refine fr_ite ?_ ?_
    | split

theorem fr_State_askIdle {m : Nat} {s t : State} {a1} (hM : Cov 1993841993677373956929663180633933889 m) (h : Fr m s t) :
    Fr m s (Sys2Proof.Machine.State.askIdle t a1) := by
  unfold Sys2Proof.Machine.State.askIdle
  repeat' first
    | with_reducible assumption
    | with_reducible refine fr_State_disableCore (hM.sub (by decide)) ?_
    | with_reducible refine fr_State_modLink (hM.sub (by decide)) ?_
    | with_reducible refine fr_ite ?_ ?_
    | split
    | dsimp only
    | with_reducible refine fr_set_pw (hM.sub (by decide)) ?_

theorem fr_State_blockForce {m : Nat} {s t : State} {a1} (hM : Cov 3432969613283550183087829284290709416865061397481583041645 m) (h : Fr m s t) :
    Fr m s (Sys2Proof.Machine.State.blockForce t a1) := by
  unfold Sys2Proof.Machine.State.blockForce
  repeat' first
    | with_reducible assumption
    | with_reducible refine fr_quiesceTimeout (hM.sub (by decide)) ?_
    | with_reducible refine fr_commandComplete (hM.sub (by decide)) ?_
    | with_reducible refine fr_State_modRun (hM.sub (by decide)) ?_
    | with_reducible refine fr_State_collEnd (hM.sub (by decide)) ?_
    | with_reducible refine fr_State_fail (hM.sub (by decide)) ?_
    | with_reducible refine fr_foldl ?_ (fun _ _ _ => ?_)
    | with_reducible refine fr_foldl_fst ?_ (fun _ _ _ => ?_)
    | with_reducible refine fr_foldl_snd ?_ (fun _ _ _ => ?_)
    | split
    | dsimp only

theorem fr_State_linkAgain {m : Nat} {s t : State} {a1} (hM : Cov 66902235595591869424607154817945084518072321 m) (h : Fr m s t) :
    Fr m s (Sys2Proof.Machine.State.linkAgain t a1) := by
  unfold Sys2Proof.Machine.State.linkAgain
  repeat' first
    | with_reducible assumption
    | with_reducible refine fr_State_startTraining (hM.sub (by decide)) ?_
    | with_reducible refine fr_State_ls (hM.sub (by decide)) ?_
    | with_reducible refine fr_ite ?_ ?_
    | split

theorem fr_State_portAgain {m : Nat} {s t : State} {a1} (hM : Cov 17538019647970835018444217992595396235871190515713 m) (h : Fr m s t) :
    Fr m s (Sys2Proof.Machine.State.portAgain t a1) := by
  unfold Sys2Proof.Machine.State.portAgain
  repeat' first
    | with_reducible assumption
    | with_reducible refine fr_State_fs (hM.sub (by decide)) ?_
    | with_reducible refine fr_ite ?_ ?_
    | split

theorem fr_State_blockDo {m : Nat} {s t : State} {a1} (hM : Cov 25711008708143844408671393477458601640355230606707064486643837 m) (h : Fr m s t) :
    Fr m s (Sys2Proof.Machine.State.blockDo t a1) := by
  unfold Sys2Proof.Machine.State.blockDo
  repeat' first
    | with_reducible assumption
    | with_reducible refine fr_State_loseTiles (hM.sub (by decide)) ?_
    | with_reducible refine fr_State_clear (hM.sub (by decide)) ?_
    | with_reducible refine fr_State_blankCore (hM.sub (by decide)) ?_
    | with_reducible refine fr_State_enableCore (hM.sub (by decide)) ?_
    | with_reducible refine fr_State_fs (hM.sub (by decide)) ?_
    | with_reducible refine fr_State_linkRec (hM.sub (by decide)) ?_
    | with_reducible refine fr_State_goDown (hM.sub (by decide)) ?_
    | with_reducible refine fr_State_linkAgain (hM.sub (by decide)) ?_
    | with_reducible refine fr_State_portAgain (hM.sub (by decide)) ?_
    | with_reducible refine fr_State_closePort (hM.sub (by decide)) ?_
    | with_reducible refine fr_ite ?_ ?_
    | split
    | dsimp only
    | with_reducible refine fr_set_links (hM.sub (by decide)) ?_

theorem fr_State_blockEnd {m : Nat} {s t : State} {a1} (hM : Cov 25711008708143844408671393477458601640355230606708284798683389 m) (h : Fr m s t) :
    Fr m s (Sys2Proof.Machine.State.blockEnd t a1) := by
  unfold Sys2Proof.Machine.State.blockEnd
  repeat' first
    | with_reducible assumption
    | with_reducible refine fr_State_lateWrite (hM.sub (by decide)) ?_
    | with_reducible refine fr_State_blockDo (hM.sub (by decide)) ?_
    | with_reducible refine fr_State_connsAdvance (hM.sub (by decide)) ?_
    | with_reducible refine fr_State_fs (hM.sub (by decide)) ?_
    | with_reducible refine fr_ite ?_ ?_
    | with_reducible refine fr_foldl ?_ (fun _ _ _ => ?_)
    | with_reducible refine fr_foldl_fst ?_ (fun _ _ _ => ?_)
    | with_reducible refine fr_foldl_snd ?_ (fun _ _ _ => ?_)
    | split
    | dsimp only
    | with_reducible refine fr_set_pw (hM.sub (by decide)) ?_

theorem fr_State_blockGo {m : Nat} {s t : State} (hM : Cov 25711008708143844408671393477458601640355230606708284798683389 m) (h : Fr m s t) :
    Fr m s (Sys2Proof.Machine.State.blockGo t) := by
  unfold Sys2Proof.Machine.State.blockGo
  repeat' first
    | with_reducible assumption
    | with_reducible refine fr_State_blockEnd (hM.sub (by decide)) ?_
    | with_reducible refine fr_ite ?_ ?_
    | split

theorem fr_State_writeBlockCmd {m : Nat} {s t : State} {a1} (hM : Cov 25711008708143844408671393477458601640355230606708284798683389 m) (h : Fr m s t) :
    Fr m s (Sys2Proof.Machine.State.writeBlockCmd t a1) := by
  unfold Sys2Proof.Machine.State.writeBlockCmd
  repeat' first
    | with_reducible assumption
    | with_reducible refine fr_State_fs (hM.sub (by decide)) ?_
    | with_reducible refine fr_State_blockGo (hM.sub (by decide)) ?_
    | with_reducible refine fr_State_askIdle (hM.sub (by decide)) ?_
    | with_reducible refine fr_ite ?_ ?_
    | split
    | dsimp only

theorem fr_blockResetTimeout {m : Nat} {s t : State} (hM : Cov 25711008708143844408671393477458601640355230606708284807077117 m) (h : Fr m s t) :
    Fr m s (Sys2Proof.Machine.blockResetTimeout t) := by
  unfold Sys2Proof.Machine.blockResetTimeout
  repeat' first
    | with_reducible assumption
    | with_reducible refine fr_State_blockEnd (hM.sub (by decide)) ?_
    | with_reducible refine fr_State_blockForce (hM.sub (by decide)) ?_
    | with_reducible refine fr_ite ?_ ?_
    | split
    | dsimp only
    | with_reducible refine fr_set_pw (hM.sub (by decide)) ?_

theorem fr_idleEntry {m : Nat} {s t : State} (hM : Cov 401734511064747568885490523085290650630550748445698208825345 m) (h : Fr m s t) :
    Fr m s (Sys2Proof.Machine.idleEntry t) := by
  unfold Sys2Proof.Machine.idleEntry
  repeat' first
    | with_reducible assumption
    | with_reducible refine fr_State_fs (hM.sub (by decide)) ?_
    | with_reducible refine fr_ite ?_ ?_
    | split

theorem fr_idleExit {m : Nat} {s t : State} (hM : Cov 401734511064747568885490523085290650630550748445698208825345 m) (h : Fr m s t) :
    Fr m s (Sys2Proof.Machine.idleExit t) := by
  unfold Sys2Proof.Machine.idleExit
  repeat' first
    | with_reducible assumption
    | with_reducible refine fr_State_idleGo (hM.sub (by decide)) ?_

theorem fr_State_gateDies {m : Nat} {s t : State} (hM : Cov 25711008708143844408671393477458601640355230606702117067423869 m) (h : Fr m s t) :
    Fr m s (Sys2Proof.Machine.State.gateDies t) := by
  unfold Sys2Proof.Machine.State.gateDies
  repeat' first
    | with_reducible assumption
    | with_reducible refine fr_State_fs (hM.sub (by decide)) ?_
    | with_reducible refine fr_State_blankCores (hM.sub (by decide)) ?_
    | with_reducible refine fr_set_pw (hM.sub (by decide)) ?_

theorem fr_State_shelfGo {m : Nat} {s t : State} (hM : Cov 25711008708143844408671393477458601640355230606702117067423869 m) (h : Fr m s t) :
    Fr m s (Sys2Proof.Machine.State.shelfGo t) := by
  unfold Sys2Proof.Machine.State.shelfGo
  repeat' first
    | with_reducible assumption
    | with_reducible refine fr_State_fc (hM.sub (by decide)) ?_
    | with_reducible refine fr_State_fs (hM.sub (by decide)) ?_
    | with_reducible refine fr_State_gateDies (hM.sub (by decide)) ?_
    | with_reducible refine fr_ite ?_ ?_
    | split

theorem fr_State_refusePower {m : Nat} {s t : State} {a1} (hM : Cov 401734511064747568885490523085290650630550748445698208825345 m) (h : Fr m s t) :
    Fr m s (Sys2Proof.Machine.State.refusePower t a1) := by
  unfold Sys2Proof.Machine.State.refusePower
  repeat' first
    | with_reducible assumption
    | with_reducible refine fr_State_fs (hM.sub (by decide)) ?_

theorem fr_shelfTimeout {m : Nat} {s t : State} (hM : Cov 401734511064747568885490523085290650630550748445698208825345 m) (h : Fr m s t) :
    Fr m s (Sys2Proof.Machine.shelfTimeout t) := by
  unfold Sys2Proof.Machine.shelfTimeout
  repeat' first
    | with_reducible assumption
    | with_reducible refine fr_State_fs (hM.sub (by decide)) ?_
    | with_reducible refine fr_State_refusePower (hM.sub (by decide)) ?_
    | with_reducible refine fr_ite ?_ ?_
    | split

theorem fr_State_leaveShelf {m : Nat} {s t : State} (hM : Cov 401734511064747568885490523085290650630550748445698208825345 m) (h : Fr m s t) :
    Fr m s (Sys2Proof.Machine.State.leaveShelf t) := by
  unfold Sys2Proof.Machine.State.leaveShelf
  repeat' first
    | with_reducible assumption
    | with_reducible refine fr_State_fs (hM.sub (by decide)) ?_
    | with_reducible refine fr_ite ?_ ?_
    | split

theorem fr_State_autoWake {m : Nat} {s t : State} (hM : Cov 401734511064747568885490523085290650630550748445698208825345 m) (h : Fr m s t) :
    Fr m s (Sys2Proof.Machine.State.autoWake t) := by
  unfold Sys2Proof.Machine.State.autoWake
  repeat' first
    | with_reducible assumption
    | with_reducible refine fr_State_leaveShelf (hM.sub (by decide)) ?_
    | with_reducible refine fr_ite ?_ ?_
    | split

theorem fr_State_wakeBy {m : Nat} {s t : State} {a1} (hM : Cov 3615610599582728119969414707767615855674956736011284416299009 m) (h : Fr m s t) :
    Fr m s (Sys2Proof.Machine.State.wakeBy t a1) := by
  unfold Sys2Proof.Machine.State.wakeBy
  repeat' first
    | with_reducible assumption
    | with_reducible refine fr_State_fs (hM.sub (by decide)) ?_
    | with_reducible refine fr_ite ?_ ?_
    | split
    | dsimp only
    | with_reducible refine fr_set_pw (hM.sub (by decide)) ?_

theorem fr_dome_kept {m : Nat} {s t : State} {a1 a2 c g e v w b r} (hM : Cov 25711008708143844408671393477458601640355230606760390378389503 m) (h : Fr m s t) :
    Fr m s { t.bare a1 a2 with mem := t.mem, marks := t.marks, cores := c, groupPend := g, errWin := e, temps := v, volts := w,
                               bridges := b, repairs := r } := by
  refine ⟨fun p hp => ?_, fun hs => (canonical_iff _).2 ⟨?_, ?_, rfl⟩, fun k kv hk => h.2.2.1 k kv hk,
    fun c c0 c1 => h.2.2.2 c c0 c1⟩
  · cases p
    case freeCtr => exact h.1 .freeCtr hp
    case pending => exact h.1 .pending hp
    case us => exact h.1 .us hp
    all_goals exact Bool.noConfusion ((hM.bit (by decide)).symm.trans hp)
  · exact ((canonical_iff _).1 (h.2.1 hs)).1
  · exact ((canonical_iff _).1 (h.2.1 hs)).2.1

theorem fr_State_enterDome {m : Nat} {s t : State} (hM : Cov 25711008708143844408671393477458601640355230606760390378389503 m) (h : Fr m s t) :
    Fr m s (Sys2Proof.Machine.State.enterDome t) := by
  unfold Sys2Proof.Machine.State.enterDome
  extract_lets s1 s2 s3 mm p s4
  have k : Fr m s s3 :=
    fr_State_fc (hM.sub (by decide)) (fr_State_clear (hM.sub (by decide)) (fr_foldl (fr_State_gateDies (hM.sub (by decide)) h)
      (fun _ _ w => fr_State_closePort (hM.sub (by decide)) w)))
  exact fr_State_fs (hM.sub (by decide)) (fr_dome_kept hM k)

theorem fr_State_domeGo {m : Nat} {s t : State} (hM : Cov 25711008708143844408671393477458601640355230606760390378389503 m) (h : Fr m s t) :
    Fr m s (Sys2Proof.Machine.State.domeGo t) := by
  unfold Sys2Proof.Machine.State.domeGo
  repeat' first
    | with_reducible assumption
    | with_reducible refine fr_State_forceRelease (hM.sub (by decide)) ?_
    | with_reducible refine fr_State_enterDome (hM.sub (by decide)) ?_
    | with_reducible refine fr_ite ?_ ?_
    | split
    | dsimp only
    | with_reducible refine fr_set_pw (hM.sub (by decide)) ?_

theorem fr_State_retuneUnit {m : Nat} {s t : State} {a1} (hM : Cov 11692392211315598366222884768940899179942817955841 m) (h : Fr m s t) :
    Fr m s (Sys2Proof.Machine.State.retuneUnit t a1) := by
  unfold Sys2Proof.Machine.State.retuneUnit
  repeat' first
    | with_reducible assumption
    | with_reducible refine fr_State_askRetune (hM.sub (by decide)) ?_
    | with_reducible refine fr_State_fs (hM.sub (by decide)) ?_
    | with_reducible refine fr_ite ?_ ?_
    | split

theorem fr_State_phyGo {m : Nat} {s t : State} (hM : Cov 49039869000100654783065471091694662816698831852961660929 m) (h : Fr m s t) :
    Fr m s (Sys2Proof.Machine.State.phyGo t) := by
  unfold Sys2Proof.Machine.State.phyGo
  repeat' first
    | with_reducible assumption
    | with_reducible refine fr_State_modMg (hM.sub (by decide)) ?_
    | with_reducible refine fr_State_showUpd (hM.sub (by decide)) ?_
    | with_reducible refine fr_State_retuneUnit (hM.sub (by decide)) ?_
    | with_reducible refine fr_ite ?_ ?_
    | split
    | dsimp only

theorem fr_State_rollGo {m : Nat} {s t : State} (hM : Cov 61491383577243790441628674464406156140275859867561885761 m) (h : Fr m s t) :
    Fr m s (Sys2Proof.Machine.State.rollGo t) := by
  unfold Sys2Proof.Machine.State.rollGo
  repeat' first
    | with_reducible assumption
    | with_reducible refine fr_State_fs (hM.sub (by decide)) ?_
    | with_reducible refine fr_State_makeActive (hM.sub (by decide)) ?_
    | with_reducible refine fr_State_modMg (hM.sub (by decide)) ?_
    | with_reducible refine fr_State_leavePool (hM.sub (by decide)) ?_
    | with_reducible refine fr_State_joinPool (hM.sub (by decide)) ?_
    | with_reducible refine fr_ite ?_ ?_
    | split
    | dsimp only

theorem fr_State_settle {m : Nat} {s t : State} (hM : Cov 25711008708143844408671393477458601640355230606761489890017279 m) (h : Fr m s t) :
    Fr m s (Sys2Proof.Machine.State.settle t) := by
  unfold Sys2Proof.Machine.State.settle
  repeat' first
    | with_reducible assumption
    | with_reducible refine fr_State_idleGo (hM.sub (by decide)) ?_
    | with_reducible refine fr_State_rollGo (hM.sub (by decide)) ?_
    | with_reducible refine fr_State_phyGo (hM.sub (by decide)) ?_
    | with_reducible refine fr_State_shelfGo (hM.sub (by decide)) ?_
    | with_reducible refine fr_State_domeGo (hM.sub (by decide)) ?_
    | with_reducible refine fr_State_blockGo (hM.sub (by decide)) ?_

theorem fr_State_askDome {m : Nat} {s t : State} (hM : Cov 25711008708143844408671393477458601640355230606761489890017279 m) (h : Fr m s t) :
    Fr m s (Sys2Proof.Machine.State.askDome t) := by
  unfold Sys2Proof.Machine.State.askDome
  repeat' first
    | with_reducible assumption
    | with_reducible refine fr_State_refusePower (hM.sub (by decide)) ?_
    | with_reducible refine fr_State_settle (hM.sub (by decide)) ?_
    | with_reducible refine fr_State_fs (hM.sub (by decide)) ?_
    | with_reducible refine fr_ite ?_ ?_
    | split
    | with_reducible refine fr_set_pw (hM.sub (by decide)) ?_

theorem fr_State_askShelf {m : Nat} {s t : State} (hM : Cov 25711008708143844408671393477458601640355230606761489890017279 m) (h : Fr m s t) :
    Fr m s (Sys2Proof.Machine.State.askShelf t) := by
  unfold Sys2Proof.Machine.State.askShelf
  repeat' first
    | with_reducible assumption
    | with_reducible refine fr_State_refusePower (hM.sub (by decide)) ?_
    | with_reducible refine fr_State_settle (hM.sub (by decide)) ?_
    | with_reducible refine fr_State_fs (hM.sub (by decide)) ?_
    | with_reducible refine fr_ite ?_ ?_
    | split

theorem fr_State_askActive {m : Nat} {s t : State} (hM : Cov 3615610599582728119969414707767615855674956736011284416299009 m) (h : Fr m s t) :
    Fr m s (Sys2Proof.Machine.State.askActive t) := by
  unfold Sys2Proof.Machine.State.askActive
  repeat' first
    | with_reducible assumption
    | with_reducible refine fr_State_wakeBy (hM.sub (by decide)) ?_
    | with_reducible refine fr_State_refusePower (hM.sub (by decide)) ?_
    | with_reducible refine fr_State_leaveShelf (hM.sub (by decide)) ?_
    | with_reducible refine fr_ite ?_ ?_
    | split

theorem fr_State_writePwrCtl {m : Nat} {s t : State} {a1} (hM : Cov 25711008708143844408671393477458601640355230606761489890017279 m) (h : Fr m s t) :
    Fr m s (Sys2Proof.Machine.State.writePwrCtl t a1) := by
  unfold Sys2Proof.Machine.State.writePwrCtl
  repeat' first
    | with_reducible assumption
    | with_reducible refine fr_State_fs (hM.sub (by decide)) ?_
    | with_reducible refine fr_State_askActive (hM.sub (by decide)) ?_
    | with_reducible refine fr_State_askShelf (hM.sub (by decide)) ?_
    | with_reducible refine fr_State_askDome (hM.sub (by decide)) ?_
    | split
    | dsimp only

theorem fr_State_writePads {m : Nat} {s t : State} {a1} (hM : Cov 6427752177035961102167848369364650410088811975131171341205505 m) (h : Fr m s t) :
    Fr m s (Sys2Proof.Machine.State.writePads t a1) := by
  unfold Sys2Proof.Machine.State.writePads
  repeat' first
    | with_reducible assumption
    | with_reducible refine fr_State_fs (hM.sub (by decide)) ?_
    | with_reducible refine fr_ite ?_ ?_
    | split
    | dsimp only

theorem fr_padRelease {m : Nat} {s t : State} {a1 a2} (hM : Cov 6427752177035961102167848369364650410088811975131171341205505 m) (h : Fr m s t) :
    Fr m s (Sys2Proof.Machine.padRelease a1 a2 t) := by
  unfold Sys2Proof.Machine.padRelease
  repeat' first
    | with_reducible assumption
    | with_reducible refine fr_State_writePads (hM.sub (by decide)) ?_
    | with_reducible refine fr_State_gated (hM.sub (by decide)) ?_ (fun _ _ => ?_)
    | with_reducible refine fr_ite ?_ ?_
    | split
    | dsimp only

theorem fr_refclkLoss {m : Nat} {s t : State} (hM : Cov 1606938044258990275541962092341162602522202993782793372172289 m) (h : Fr m s t) :
    Fr m s (Sys2Proof.Machine.refclkLoss t) := by
  unfold Sys2Proof.Machine.refclkLoss
  repeat' first
    | with_reducible assumption
    | with_reducible refine fr_State_fs (hM.sub (by decide)) ?_
    | with_reducible refine fr_ite ?_ ?_
    | split
    | dsimp only
    | with_reducible refine fr_set_pw (hM.sub (by decide)) ?_

theorem fr_holdoverExpiry {m : Nat} {s t : State} (hM : Cov 25711008708143844408671393477458601640355230606759840622575615 m) (h : Fr m s t) :
    Fr m s (Sys2Proof.Machine.holdoverExpiry t) := by
  unfold Sys2Proof.Machine.holdoverExpiry
  repeat' first
    | with_reducible assumption
    | with_reducible refine fr_State_sysReset (hM.sub (by decide)) ?_
    | with_reducible refine fr_ite ?_ ?_
    | split
    | with_reducible refine fr_set_pw (hM.sub (by decide)) ?_

theorem fr_refclkReturn {m : Nat} {s t : State} (hM : Cov 1606938044258990275541962092341162602522202993782793372172289 m) (h : Fr m s t) :
    Fr m s (Sys2Proof.Machine.refclkReturn t) := by
  unfold Sys2Proof.Machine.refclkReturn
  repeat' first
    | with_reducible assumption
    | with_reducible refine fr_State_fc (hM.sub (by decide)) ?_
    | with_reducible refine fr_State_fs (hM.sub (by decide)) ?_
    | with_reducible refine fr_ite ?_ ?_
    | split
    | dsimp only
    | with_reducible refine fr_set_pw (hM.sub (by decide)) ?_

theorem fr_sysResetN {m : Nat} {s t : State} (hM : Cov 25711008708143844408671393477458601640355230606759840622575615 m) (h : Fr m s t) :
    Fr m s (Sys2Proof.Machine.sysResetN t) := by
  unfold Sys2Proof.Machine.sysResetN
  repeat' first
    | with_reducible assumption
    | with_reducible refine fr_State_sysReset (hM.sub (by decide)) ?_
    | with_reducible refine fr_ite ?_ ?_
    | split
    | with_reducible refine fr_set_pw (hM.sub (by decide)) ?_

theorem fr_sysResetRelease {m : Nat} {s t : State} (hM : Cov 536870912 m) (h : Fr m s t) :
    Fr m s (Sys2Proof.Machine.sysResetRelease t) := by
  unfold Sys2Proof.Machine.sysResetRelease
  repeat' first
    | with_reducible assumption
    | with_reducible refine fr_set_pw (hM.sub (by decide)) ?_

theorem fr_wakeN {m : Nat} {s t : State} (hM : Cov 3615610599582728119969414707767615855674956736011284416299009 m) (h : Fr m s t) :
    Fr m s (Sys2Proof.Machine.wakeN t) := by
  unfold Sys2Proof.Machine.wakeN
  repeat' first
    | with_reducible assumption
    | with_reducible refine fr_State_wakeBy (hM.sub (by decide)) ?_
    | with_reducible refine fr_ite ?_ ?_
    | split

theorem fr_i3cWake {m : Nat} {s t : State} (hM : Cov 3615610599582728119969414707767615855674956736011284416299009 m) (h : Fr m s t) :
    Fr m s (Sys2Proof.Machine.i3cWake t) := by
  unfold Sys2Proof.Machine.i3cWake
  repeat' first
    | with_reducible assumption
    | with_reducible refine fr_State_wakeBy (hM.sub (by decide)) ?_
    | with_reducible refine fr_ite ?_ ?_
    | split

theorem fr_timerWake {m : Nat} {s t : State} (hM : Cov 3615610599582728119969414707767615855674956736011284416299009 m) (h : Fr m s t) :
    Fr m s (Sys2Proof.Machine.timerWake t) := by
  unfold Sys2Proof.Machine.timerWake
  repeat' first
    | with_reducible assumption
    | with_reducible refine fr_State_wakeBy (hM.sub (by decide)) ?_
    | with_reducible refine fr_ite ?_ ?_
    | split

theorem fr_execQuiesceEnd {m : Nat} {s t : State} {a1} (hM : Cov 25711008708143844408671393477458601640355230606761489890017279 m) (h : Fr m s t) :
    ∀ u, Sys2Proof.Machine.execQuiesceEnd a1 t = .next u → Fr m s u := by
  intro u e
  cases e
  repeat' first
    | with_reducible assumption
    | with_reducible refine fr_State_settle (hM.sub (by decide)) ?_
    | with_reducible refine fr_quiesceEnd (hM.sub (by decide)) ?_

theorem fr_execQuiesceTimeout {m : Nat} {s t : State} {a1} (hM : Cov 25711008708143844408671393477458601640355230606761489890017279 m) (h : Fr m s t) :
    ∀ u, Sys2Proof.Machine.execQuiesceTimeout a1 t = .next u → Fr m s u := by
  intro u e
  cases e
  repeat' first
    | with_reducible assumption
    | with_reducible refine fr_State_settle (hM.sub (by decide)) ?_
    | with_reducible refine fr_quiesceTimeout (hM.sub (by decide)) ?_

theorem fr_execRelease {m : Nat} {s t : State} {a1} (hM : Cov 730750818665892317556987389066476427281919117357 m) (h : Fr m s t) :
    ∀ u, Sys2Proof.Machine.execRelease a1 t = .next u → Fr m s u := by
  intro u e
  cases e
  repeat' first
    | with_reducible assumption
    | with_reducible refine fr_release (hM.sub (by decide)) ?_

theorem fr_execForcedRelease {m : Nat} {s t : State} {a1} (hM : Cov 730750818665892317556987389066476427281919117357 m) (h : Fr m s t) :
    ∀ u, Sys2Proof.Machine.execForcedRelease a1 t = .next u → Fr m s u := by
  intro u e
  cases e
  repeat' first
    | with_reducible assumption
    | with_reducible refine fr_forcedRelease (hM.sub (by decide)) ?_

theorem fr_execCommandComplete {m : Nat} {s t : State} {a1} (hM : Cov 25711008708143844408671393477458601640355230606761489890017279 m) (h : Fr m s t) :
    ∀ u, Sys2Proof.Machine.execCommandComplete a1 t = .next u → Fr m s u := by
  intro u e
  cases e
  repeat' first
    | with_reducible assumption
    | with_reducible refine fr_State_settle (hM.sub (by decide)) ?_
    | with_reducible refine fr_commandComplete (hM.sub (by decide)) ?_

theorem fr_execFlitGroup {m : Nat} {s t : State} {a1 a2} (hM : Cov 25711008708143844408671393477458601640355230606761489890017279 m) (h : Fr m s t) :
    ∀ u, Sys2Proof.Machine.execFlitGroup a1 a2 t = .next u → Fr m s u := by
  intro u e
  cases e
  repeat' first
    | with_reducible assumption
    | with_reducible refine fr_State_settle (hM.sub (by decide)) ?_
    | with_reducible refine fr_flitGroup (hM.sub (by decide)) ?_

theorem fr_execRepairHoldEnd {m : Nat} {s t : State} {a1 a2} (hM : Cov 25711008708143844408671393477458601640355230606761489890017279 m) (h : Fr m s t) :
    ∀ u, Sys2Proof.Machine.execRepairHoldEnd a1 a2 t = .next u → Fr m s u := by
  intro u e
  cases e
  repeat' first
    | with_reducible assumption
    | with_reducible refine fr_State_settle (hM.sub (by decide)) ?_
    | with_reducible refine fr_repairHoldEnd (hM.sub (by decide)) ?_

theorem fr_execRetirement {m : Nat} {s t : State} {a1 a2 a3} (hM : Cov 25711008708143844408671393477458601640355230606761489890017279 m) (h : Fr m s t) :
    ∀ u, Sys2Proof.Machine.execRetirement a1 a2 a3 t = .next u → Fr m s u := by
  intro u e
  cases e
  repeat' first
    | with_reducible assumption
    | with_reducible refine fr_State_settle (hM.sub (by decide)) ?_
    | with_reducible refine fr_retirement (hM.sub (by decide)) ?_

theorem fr_execPowerOnReset {m : Nat} {s t : State} {a1} (hM : Cov 25711008708143844408671393477458601640355230606760390378389503 m) (h : Fr m s t) :
    ∀ u, Sys2Proof.Machine.execPowerOnReset a1 t = .next u → Fr m s u := by
  intro u e
  cases e
  repeat' first
    | with_reducible assumption
    | with_reducible refine fr_State_porReset (hM.sub (by decide)) ?_

theorem fr_execSysResetN {m : Nat} {s t : State} (hM : Cov 25711008708143844408671393477458601640355230606759840622575615 m) (h : Fr m s t) :
    ∀ u, Sys2Proof.Machine.execSysResetN t = .next u → Fr m s u := by
  intro u e
  cases e
  repeat' first
    | with_reducible assumption
    | with_reducible refine fr_sysResetN (hM.sub (by decide)) ?_

theorem fr_execSysResetRelease {m : Nat} {s t : State} (hM : Cov 536870912 m) (h : Fr m s t) :
    ∀ u, Sys2Proof.Machine.execSysResetRelease t = .next u → Fr m s u := by
  intro u e
  cases e
  repeat' first
    | with_reducible assumption
    | with_reducible refine fr_sysResetRelease (hM.sub (by decide)) ?_

theorem fr_execSystem {m : Nat} {s t : State} {a1 a2} (hM : Cov 25711008708143844408671393477458601640355230606761489890017279 m) (h : Fr m s t) :
    ∀ u, Sys2Proof.Machine.execSystem a1 a2 t = .next u → Fr m s u := by
  intro u e
  cases e
  repeat' first
    | with_reducible assumption
    | with_reducible refine fr_State_gated (hM.sub (by decide)) ?_ (fun _ _ => ?_)
    | with_reducible refine fr_State_writeRstCtl (hM.sub (by decide)) ?_

theorem fr_execCoreReset {m : Nat} {s t : State} {a1 a2} (hM : Cov 25711008708143844408671393477458601640355230606761489890017279 m) (h : Fr m s t) :
    ∀ u, Sys2Proof.Machine.execCoreReset a1 a2 t = .next u → Fr m s u := by
  intro u e
  cases e
  repeat' first
    | with_reducible assumption
    | with_reducible refine fr_State_gated (hM.sub (by decide)) ?_ (fun _ _ => ?_)
    | with_reducible refine fr_State_writeRstCtl (hM.sub (by decide)) ?_

theorem fr_execBlockReset {m : Nat} {s t : State} {a1 a2} (hM : Cov 25711008708143844408671393477458601640355230606708284798683389 m) (h : Fr m s t) :
    ∀ u, Sys2Proof.Machine.execBlockReset a1 a2 t = .next u → Fr m s u := by
  intro u e
  cases e
  repeat' first
    | with_reducible assumption
    | with_reducible refine fr_State_gated (hM.sub (by decide)) ?_ (fun _ _ => ?_)
    | with_reducible refine fr_State_writeBlockCmd (hM.sub (by decide)) ?_

theorem fr_execBlockResetTimeout {m : Nat} {s t : State} (hM : Cov 25711008708143844408671393477458601640355230606761489890017279 m) (h : Fr m s t) :
    ∀ u, Sys2Proof.Machine.execBlockResetTimeout t = .next u → Fr m s u := by
  intro u e
  cases e
  repeat' first
    | with_reducible assumption
    | with_reducible refine fr_State_settle (hM.sub (by decide)) ?_
    | with_reducible refine fr_blockResetTimeout (hM.sub (by decide)) ?_

theorem fr_execIdleEntry {m : Nat} {s t : State} (hM : Cov 401734511064747568885490523085290650630550748445698208825345 m) (h : Fr m s t) :
    ∀ u, Sys2Proof.Machine.execIdleEntry t = .next u → Fr m s u := by
  intro u e
  cases e
  repeat' first
    | with_reducible assumption
    | with_reducible refine fr_idleEntry (hM.sub (by decide)) ?_

theorem fr_execIdleExit {m : Nat} {s t : State} (hM : Cov 401734511064747568885490523085290650630550748445698208825345 m) (h : Fr m s t) :
    ∀ u, Sys2Proof.Machine.execIdleExit t = .next u → Fr m s u := by
  intro u e
  cases e
  repeat' first
    | with_reducible assumption
    | with_reducible refine fr_idleExit (hM.sub (by decide)) ?_

theorem fr_execShelf {m : Nat} {s t : State} {a1 a2} (hM : Cov 25711008708143844408671393477458601640355230606761489890017279 m) (h : Fr m s t) :
    ∀ u, Sys2Proof.Machine.execShelf a1 a2 t = .next u → Fr m s u := by
  intro u e
  cases e
  repeat' first
    | with_reducible assumption
    | with_reducible refine fr_State_gated (hM.sub (by decide)) ?_ (fun _ _ => ?_)
    | with_reducible refine fr_State_writePwrCtl (hM.sub (by decide)) ?_

theorem fr_execShelfExit {m : Nat} {s t : State} {a1} (hM : Cov 25711008708143844408671393477458601640355230606761489890017279 m) (h : Fr m s t) :
    ∀ u, Sys2Proof.Machine.execShelfExit a1 t = .next u → Fr m s u := by
  intro u e
  cases a1 with
  | req who v =>
    cases e
    exact fr_State_gated (hM.sub (by decide)) h (fun _ w => fr_State_writePwrCtl (hM.sub (by decide)) w)
  | auto =>
    cases e
    exact fr_State_autoWake (hM.sub (by decide)) h

theorem fr_execShelfQuiesceTimeout {m : Nat} {s t : State} (hM : Cov 401734511064747568885490523085290650630550748445698208825345 m) (h : Fr m s t) :
    ∀ u, Sys2Proof.Machine.execShelfQuiesceTimeout t = .next u → Fr m s u := by
  intro u e
  cases e
  repeat' first
    | with_reducible assumption
    | with_reducible refine fr_shelfTimeout (hM.sub (by decide)) ?_

theorem fr_execDomeEntry {m : Nat} {s t : State} {a1 a2} (hM : Cov 25711008708143844408671393477458601640355230606761489890017279 m) (h : Fr m s t) :
    ∀ u, Sys2Proof.Machine.execDomeEntry a1 a2 t = .next u → Fr m s u := by
  intro u e
  cases e
  repeat' first
    | with_reducible assumption
    | with_reducible refine fr_State_gated (hM.sub (by decide)) ?_ (fun _ _ => ?_)
    | with_reducible refine fr_State_writePwrCtl (hM.sub (by decide)) ?_

theorem fr_execWakeN {m : Nat} {s t : State} (hM : Cov 3615610599582728119969414707767615855674956736011284416299009 m) (h : Fr m s t) :
    ∀ u, Sys2Proof.Machine.execWakeN t = .next u → Fr m s u := by
  intro u e
  cases e
  repeat' first
    | with_reducible assumption
    | with_reducible refine fr_wakeN (hM.sub (by decide)) ?_

theorem fr_execI3cWake {m : Nat} {s t : State} (hM : Cov 3615610599582728119969414707767615855674956736011284416299009 m) (h : Fr m s t) :
    ∀ u, Sys2Proof.Machine.execI3cWake t = .next u → Fr m s u := by
  intro u e
  cases e
  repeat' first
    | with_reducible assumption
    | with_reducible refine fr_i3cWake (hM.sub (by decide)) ?_

theorem fr_execTimerWake {m : Nat} {s t : State} (hM : Cov 3615610599582728119969414707767615855674956736011284416299009 m) (h : Fr m s t) :
    ∀ u, Sys2Proof.Machine.execTimerWake t = .next u → Fr m s u := by
  intro u e
  cases e
  repeat' first
    | with_reducible assumption
    | with_reducible refine fr_timerWake (hM.sub (by decide)) ?_

theorem fr_execPadRelease {m : Nat} {s t : State} {a1 a2} (hM : Cov 6427752177035961102167848369364650410088811975131171341205505 m) (h : Fr m s t) :
    ∀ u, Sys2Proof.Machine.execPadRelease a1 a2 t = .next u → Fr m s u := by
  intro u e
  cases e
  repeat' first
    | with_reducible assumption
    | with_reducible refine fr_padRelease (hM.sub (by decide)) ?_

theorem fr_execRefclkLoss {m : Nat} {s t : State} (hM : Cov 1606938044258990275541962092341162602522202993782793372172289 m) (h : Fr m s t) :
    ∀ u, Sys2Proof.Machine.execRefclkLoss t = .next u → Fr m s u := by
  intro u e
  cases e
  repeat' first
    | with_reducible assumption
    | with_reducible refine fr_refclkLoss (hM.sub (by decide)) ?_

theorem fr_execHoldoverExpiry {m : Nat} {s t : State} (hM : Cov 25711008708143844408671393477458601640355230606759840622575615 m) (h : Fr m s t) :
    ∀ u, Sys2Proof.Machine.execHoldoverExpiry t = .next u → Fr m s u := by
  intro u e
  cases e
  repeat' first
    | with_reducible assumption
    | with_reducible refine fr_holdoverExpiry (hM.sub (by decide)) ?_

theorem fr_execRefclkReturn {m : Nat} {s t : State} (hM : Cov 1606938044258990275541962092341162602522202993782793372172289 m) (h : Fr m s t) :
    ∀ u, Sys2Proof.Machine.execRefclkReturn t = .next u → Fr m s u := by
  intro u e
  cases e
  repeat' first
    | with_reducible assumption
    | with_reducible refine fr_refclkReturn (hM.sub (by decide)) ?_

end Sys2Proof.Laws
end

