-- ==== Sys2Proof/Laws/FrameManagement.lean ====
section
/-! SUPPORT. What the functions of Machine/Management.lean may change. -/

namespace Sys2Proof.Laws

open Sys2Proof.Machine

theorem fr_State_readFuses {m : Nat} {s t : State} (hM : Cov 92233720368547758081 m) (h : Fr m s t) :
    Fr m s (Sys2Proof.Machine.State.readFuses t) := by
  unfold Sys2Proof.Machine.State.readFuses
  repeat' first
    | with_reducible assumption
    | with_reducible refine fr_State_fs (hM.sub (by first | decide | (dsimp only; decide) | (dsimp only [clkField]; decide) | (split <;> decide))) ?_
    | with_reducible refine fr_foldl ?_ (fun _ _ _ => ?_)
    | with_reducible refine fr_foldl_fst ?_ (fun _ _ _ => ?_)
    | with_reducible refine fr_foldl_snd ?_ (fun _ _ _ => ?_)

theorem fr_State_pickImage {m : Nat} {s t : State} {a1 a2} (hM : Cov 3432981573482199278830345859418574045086121616144238395405 m) (h : Fr m s t) :
    Fr m s (Sys2Proof.Machine.State.pickImage t a1 a2).1 := by
  unfold Sys2Proof.Machine.State.pickImage
  repeat' first
    | with_reducible assumption
    | with_reducible refine fr_State_fwRec (hM.sub (by decide)) ?_
    | with_reducible refine fr_ite ?_ ?_
    | with_reducible refine fr_foldl ?_ (fun _ _ _ => ?_)
    | with_reducible refine fr_foldl_fst ?_ (fun _ _ _ => ?_)
    | with_reducible refine fr_foldl_snd ?_ (fun _ _ _ => ?_)
    | split
    | dsimp only

theorem fr_State_deriveId {m : Nat} {s t : State} {a1} (hM : Cov 268435456 m) (h : Fr m s t) :
    Fr m s (Sys2Proof.Machine.State.deriveId t a1) := by
  unfold Sys2Proof.Machine.State.deriveId
  repeat' first
    | with_reducible assumption
    | with_reducible refine fr_State_modMg (hM.sub (by decide)) ?_
    | dsimp only

theorem fr_State_portDefaults {m : Nat} {s t : State} (hM : Cov 23384026197294446691258957323460528314494920687617 m) (h : Fr m s t) :
    Fr m s (Sys2Proof.Machine.State.portDefaults t) := by
  unfold Sys2Proof.Machine.State.portDefaults
  repeat' first
    | with_reducible assumption
    | with_reducible refine fr_State_fs (hM.sub (by decide)) ?_
    | with_reducible refine fr_foldl ?_ (fun _ _ _ => ?_)
    | with_reducible refine fr_foldl_fst ?_ (fun _ _ _ => ?_)
    | with_reducible refine fr_foldl_snd ?_ (fun _ _ _ => ?_)

theorem fr_State_readConfig {m : Nat} {s t : State} {a1} (hM : Cov 1182703784423644102301374643426523784628950982806378381313 m) (h : Fr m s t) :
    Fr m s (Sys2Proof.Machine.State.readConfig t a1) := by
  unfold Sys2Proof.Machine.State.readConfig
  repeat' first
    | with_reducible assumption
    | with_reducible refine fr_State_fs (hM.sub (by decide)) ?_
    | with_reducible refine fr_State_portDefaults (hM.sub (by decide)) ?_
    | with_reducible refine fr_State_applyRec (hM.sub (by decide)) ?_
    | with_reducible refine fr_State_modMg (hM.sub (by decide)) ?_
    | with_reducible refine fr_ite ?_ ?_
    | with_reducible refine fr_foldl ?_ (fun _ _ _ => ?_)
    | with_reducible refine fr_foldl_fst ?_ (fun _ _ _ => ?_)
    | with_reducible refine fr_foldl_snd ?_ (fun _ _ _ => ?_)
    | split
    | dsimp only

theorem fr_State_buildMap {m : Nat} {s t : State} {a1} (hM : Cov 184467440737095516161 m) (h : Fr m s t) :
    Fr m s (Sys2Proof.Machine.State.buildMap t a1) := by
  unfold Sys2Proof.Machine.State.buildMap
  repeat' first
    | with_reducible assumption
    | with_reducible refine fr_State_fs (hM.sub (by decide)) ?_
    | with_reducible refine fr_State_showSpares (hM.sub (by decide)) ?_
    | with_reducible refine fr_ite ?_ ?_
    | with_reducible refine fr_foldl ?_ (fun _ _ _ => ?_)
    | with_reducible refine fr_foldl_fst ?_ (fun _ _ _ => ?_)
    | with_reducible refine fr_foldl_snd ?_ (fun _ _ _ => ?_)
    | split
    | dsimp only

theorem fr_State_showTier {m : Nat} {s t : State} {a1 a2 a3} (hM : Cov 10633823966279326983230456482242756609 m) (h : Fr m s t) :
    Fr m s (Sys2Proof.Machine.State.showTier t a1 a2 a3) := by
  unfold Sys2Proof.Machine.State.showTier
  repeat' first
    | with_reducible assumption
    | with_reducible refine fr_State_fs (hM.sub (by decide)) ?_
    | with_reducible refine fr_ite ?_ ?_
    | split
    | dsimp only

theorem fr_State_showChannel {m : Nat} {s t : State} {a1 a2 a3} (hM : Cov 3432790011539591043403615799882057183364918488617501868045 m) (h : Fr m s t) :
    Fr m s (Sys2Proof.Machine.State.showChannel t a1 a2 a3) := by
  unfold Sys2Proof.Machine.State.showChannel
  repeat' first
    | with_reducible assumption
    | with_reducible refine fr_State_fs (hM.sub (by decide)) ?_
    | with_reducible refine fr_State_errRec (hM.sub (by decide)) ?_
    | with_reducible refine fr_ite ?_ ?_
    | split
    | dsimp only

theorem fr_State_trainDdr {m : Nat} {s t : State} {a1} (hM : Cov 3432790011539591043414249623848336510348148945099744624653 m) (h : Fr m s t) :
    Fr m s (Sys2Proof.Machine.State.trainDdr t a1) := by
  unfold Sys2Proof.Machine.State.trainDdr
  repeat' first
    | with_reducible assumption
    | with_reducible refine fr_State_showTier (hM.sub (by decide)) ?_
    | with_reducible refine fr_State_showChannel (hM.sub (by decide)) ?_
    | with_reducible refine fr_ite ?_ ?_
    | with_reducible refine fr_foldl ?_ (fun _ _ _ => ?_)
    | with_reducible refine fr_foldl_fst ?_ (fun _ _ _ => ?_)
    | with_reducible refine fr_foldl_snd ?_ (fun _ _ _ => ?_)
    | split
    | dsimp only

theorem fr_State_trainHbm {m : Nat} {s t : State} {a1} (hM : Cov 170141183460469231731687303715884105729 m) (h : Fr m s t) :
    Fr m s (Sys2Proof.Machine.State.trainHbm t a1) := by
  unfold Sys2Proof.Machine.State.trainHbm
  repeat' first
    | with_reducible assumption
    | with_reducible refine fr_State_fs (hM.sub (by decide)) ?_
    | with_reducible refine fr_foldl ?_ (fun _ _ _ => ?_)
    | with_reducible refine fr_foldl_fst ?_ (fun _ _ _ => ?_)
    | with_reducible refine fr_foldl_snd ?_ (fun _ _ _ => ?_)

theorem fr_State_trainLinks {m : Nat} {s t : State} {a1 a2} (hM : Cov 11692481436074463971655512573469964649022007410689 m) (h : Fr m s t) :
    Fr m s (Sys2Proof.Machine.State.trainLinks t a1 a2) := by
  unfold Sys2Proof.Machine.State.trainLinks
  repeat' first
    | with_reducible assumption
    | with_reducible refine fr_State_goUp (hM.sub (by decide)) ?_
    | with_reducible refine fr_State_ls (hM.sub (by decide)) ?_
    | with_reducible refine fr_State_fs (hM.sub (by decide)) ?_
    | with_reducible refine fr_ite ?_ ?_
    | with_reducible refine fr_foldl ?_ (fun _ _ _ => ?_)
    | with_reducible refine fr_foldl_fst ?_ (fun _ _ _ => ?_)
    | with_reducible refine fr_foldl_snd ?_ (fun _ _ _ => ?_)
    | split
    | dsimp only

theorem fr_State_lockClocks {m : Nat} {s t : State} (hM : Cov 1606938044258990275541962092341162602522202993782792835301377 m) (h : Fr m s t) :
    Fr m s (Sys2Proof.Machine.State.lockClocks t) := by
  unfold Sys2Proof.Machine.State.lockClocks
  repeat' first
    | with_reducible assumption
    | with_reducible refine fr_State_fs (hM.sub (by decide)) ?_

theorem fr_State_spireStart {m : Nat} {s t : State} (hM : Cov 1393796574908163946345982392040522594123777 m) (h : Fr m s t) :
    Fr m s (Sys2Proof.Machine.State.spireStart t) := by
  unfold Sys2Proof.Machine.State.spireStart
  repeat' first
    | with_reducible assumption
    | with_reducible refine fr_State_fs (hM.sub (by decide)) ?_
    | with_reducible refine fr_ite ?_ ?_
    | split

theorem fr_State_trainStage {m : Nat} {s t : State} {a1} (hM : Cov 1610371025844164957651524816821669261010347691289841714216973 m) (h : Fr m s t) :
    Fr m s (Sys2Proof.Machine.State.trainStage t a1) := by
  unfold Sys2Proof.Machine.State.trainStage
  repeat' first
    | with_reducible assumption
    | with_reducible refine fr_State_trainDdr (hM.sub (by decide)) ?_
    | with_reducible refine fr_State_trainHbm (hM.sub (by decide)) ?_
    | with_reducible refine fr_State_fs (hM.sub (by decide)) ?_
    | with_reducible refine fr_State_placeSuite (hM.sub (by decide)) ?_
    | with_reducible refine fr_State_buildMap (hM.sub (by decide)) ?_
    | with_reducible refine fr_State_spireStart (hM.sub (by decide)) ?_
    | with_reducible refine fr_State_trainLinks (hM.sub (by decide)) ?_
    | dsimp only

theorem fr_startUp {m : Nat} {s t : State} {a1} (hM : Cov 2013288240693336169222891362241980081259322821003979400560653 m) (h : Fr m s t) :
    Fr m s (Sys2Proof.Machine.startUp a1 t) := by
  unfold Sys2Proof.Machine.startUp
  repeat' first
    | with_reducible assumption
    | with_reducible refine fr_State_fs (hM.sub (by decide)) ?_
    | with_reducible refine fr_State_lockClocks (hM.sub (by decide)) ?_
    | with_reducible refine fr_State_readFuses (hM.sub (by decide)) ?_
    | with_reducible refine fr_State_modMg (hM.sub (by decide)) ?_
    | with_reducible refine fr_State_readConfig (hM.sub (by decide)) ?_
    | with_reducible refine fr_State_pickImage (hM.sub (by decide)) ?_
    | with_reducible refine fr_State_recover (hM.sub (by decide)) ?_
    | with_reducible refine fr_State_deriveId (hM.sub (by decide)) ?_
    | with_reducible refine fr_State_setActive (hM.sub (by decide)) ?_
    | with_reducible refine fr_State_trainStage (hM.sub (by decide)) ?_
    | with_reducible refine fr_ite ?_ ?_
    | split
    | dsimp only

theorem fr_State_physLost {m : Nat} {s t : State} {a1} (hM : Cov 3432790011539591043584390807308805742079836248815628730381 m) (h : Fr m s t) :
    Fr m s (Sys2Proof.Machine.State.physLost t a1) := by
  unfold Sys2Proof.Machine.State.physLost
  repeat' first
    | with_reducible assumption
    | with_reducible refine fr_State_fs (hM.sub (by decide)) ?_
    | with_reducible refine fr_State_showChannel (hM.sub (by decide)) ?_
    | with_reducible refine fr_State_showTier (hM.sub (by decide)) ?_
    | with_reducible refine fr_ite ?_ ?_
    | with_reducible refine fr_foldl ?_ (fun _ _ _ => ?_)
    | with_reducible refine fr_foldl_fst ?_ (fun _ _ _ => ?_)
    | with_reducible refine fr_foldl_snd ?_ (fun _ _ _ => ?_)
    | split
    | dsimp only

theorem fr_State_wakeUp {m : Nat} {s t : State} {a1} (hM : Cov 8439857713944873627311067134363446375383691129338041787891725 m) (h : Fr m s t) :
    Fr m s (Sys2Proof.Machine.State.wakeUp t a1) := by
  unfold Sys2Proof.Machine.State.wakeUp
  repeat' first
    | with_reducible assumption
    | with_reducible refine fr_State_physLost (hM.sub (by decide)) ?_
    | with_reducible refine fr_State_fs (hM.sub (by decide)) ?_
    | with_reducible refine fr_State_loadUcode (hM.sub (by decide)) ?_
    | with_reducible refine fr_State_lockClocks (hM.sub (by decide)) ?_
    | with_reducible refine fr_State_showPool (hM.sub (by decide)) ?_
    | with_reducible refine fr_State_trainLinks (hM.sub (by decide)) ?_
    | with_reducible refine fr_ite ?_ ?_
    | with_reducible refine fr_foldl ?_ (fun _ _ _ => ?_)
    | with_reducible refine fr_foldl_fst ?_ (fun _ _ _ => ?_)
    | with_reducible refine fr_foldl_snd ?_ (fun _ _ _ => ?_)
    | split
    | dsimp only
    | with_reducible refine fr_set_pw (hM.sub (by decide)) ?_

theorem fr_domeExit {m : Nat} {s t : State} {a1} (hM : Cov 25711008708143844408671393477458601640355230606761489890017279 m) (h : Fr m s t) :
    Fr m s (Sys2Proof.Machine.domeExit a1 t) := by
  unfold Sys2Proof.Machine.domeExit
  repeat' first
    | with_reducible assumption
    | with_reducible refine fr_State_sysReset (hM.sub (by decide)) ?_
    | with_reducible refine fr_State_modMg (hM.sub (by decide)) ?_
    | with_reducible refine fr_State_pickImage (hM.sub (by decide)) ?_
    | with_reducible refine fr_State_recover (hM.sub (by decide)) ?_
    | with_reducible refine fr_State_wakeUp (hM.sub (by decide)) ?_
    | with_reducible refine fr_State_deriveId (hM.sub (by decide)) ?_
    | with_reducible refine fr_State_setActive (hM.sub (by decide)) ?_
    | with_reducible refine fr_ite ?_ ?_
    | split
    | dsimp only
    | with_reducible refine fr_set_pw (hM.sub (by decide)) ?_

theorem fr_State_updRefused {m : Nat} {s t : State} (hM : Cov 49039857307708443467467104868809893875799651909875269633 m) (h : Fr m s t) :
    Fr m s (Sys2Proof.Machine.State.updRefused t) := by
  unfold Sys2Proof.Machine.State.updRefused
  repeat' first
    | with_reducible assumption
    | with_reducible refine fr_State_fs (hM.sub (by decide)) ?_

theorem fr_State_updStore {m : Nat} {s t : State} {a1 a2 a3} (hM : Cov 61299821634635554334333881086012367344749564887612522497 m) (h : Fr m s t) :
    Fr m s (Sys2Proof.Machine.State.updStore t a1 a2 a3) := by
  unfold Sys2Proof.Machine.State.updStore
  repeat' first
    | with_reducible assumption
    | with_reducible refine fr_State_updRefused (hM.sub (by decide)) ?_
    | with_reducible refine fr_State_showUpd (hM.sub (by decide)) ?_
    | with_reducible refine fr_State_addStore (hM.sub (by decide)) (hM.sub (by decide)) ?_
    | with_reducible refine fr_ite ?_ ?_
    | split

theorem fr_State_stageImage {m : Nat} {s t : State} {a1 a2 a3} (hM : Cov 3494281395116834833164679740504586412430871181031582482445 m) (h : Fr m s t) :
    Fr m s (Sys2Proof.Machine.State.stageImage t a1 a2 a3) := by
  unfold Sys2Proof.Machine.State.stageImage
  repeat' first
    | with_reducible assumption
    | with_reducible refine fr_State_updResult (hM.sub (by decide)) ?_
    | with_reducible refine fr_State_fwRec (hM.sub (by decide)) ?_
    | with_reducible refine fr_State_updStore (hM.sub (by decide)) ?_
    | split
    | dsimp only

theorem fr_State_startHandover {m : Nat} {s t : State} {a1 a2} (hM : Cov 49039857307708443467467104868809893875799651910143705089 m) (h : Fr m s t) :
    Fr m s (Sys2Proof.Machine.State.startHandover t a1 a2) := by
  unfold Sys2Proof.Machine.State.startHandover
  repeat' first
    | with_reducible assumption
    | with_reducible refine fr_State_showUpd (hM.sub (by decide)) ?_
    | with_reducible refine fr_State_modMg (hM.sub (by decide)) ?_

theorem fr_State_handGo {m : Nat} {s t : State} (hM : Cov 61491383577243790441628674464406155992701907277885472769 m) (h : Fr m s t) :
    Fr m s (Sys2Proof.Machine.State.handGo t) := by
  unfold Sys2Proof.Machine.State.handGo
  repeat' first
    | with_reducible assumption
    | with_reducible refine fr_State_fs (hM.sub (by decide)) ?_
    | with_reducible refine fr_State_modMg (hM.sub (by decide)) ?_
    | with_reducible refine fr_State_makeActive (hM.sub (by decide)) ?_
    | with_reducible refine fr_ite ?_ ?_
    | split
    | dsimp only

theorem fr_State_startRolling {m : Nat} {s t : State} (hM : Cov 49231419250316679574761898247203720303836779861696839693 m) (h : Fr m s t) :
    Fr m s (Sys2Proof.Machine.State.startRolling t) := by
  unfold Sys2Proof.Machine.State.startRolling
  repeat' first
    | with_reducible assumption
    | with_reducible refine fr_State_placeSuite (hM.sub (by decide)) ?_
    | with_reducible refine fr_State_showUpd (hM.sub (by decide)) ?_
    | with_reducible refine fr_State_fs (hM.sub (by decide)) ?_
    | with_reducible refine fr_State_modMg (hM.sub (by decide)) ?_
    | with_reducible refine fr_ite ?_ ?_
    | split
    | dsimp only

theorem fr_State_activateImage {m : Nat} {s t : State} {a1 a2} (hM : Cov 25711008708143844408671393477458601640355230606761489890017279 m) (h : Fr m s t) :
    Fr m s (Sys2Proof.Machine.State.activateImage t a1 a2) := by
  unfold Sys2Proof.Machine.State.activateImage
  repeat' first
    | with_reducible assumption
    | with_reducible refine fr_State_updResult (hM.sub (by decide)) ?_
    | with_reducible refine fr_State_updRefused (hM.sub (by decide)) ?_
    | with_reducible refine fr_State_fwRec (hM.sub (by decide)) ?_
    | with_reducible refine fr_State_startHandover (hM.sub (by decide)) ?_
    | with_reducible refine fr_State_settle (hM.sub (by decide)) ?_
    | with_reducible refine fr_State_startRolling (hM.sub (by decide)) ?_
    | with_reducible refine fr_State_modMg (hM.sub (by decide)) ?_
    | with_reducible refine fr_State_makeActive (hM.sub (by decide)) ?_
    | with_reducible refine fr_ite ?_ ?_
    | split
    | dsimp only

theorem fr_State_commitSvn {m : Nat} {s t : State} {a1} (hM : Cov 61299821634635554334333881086012367344749564887612522497 m) (h : Fr m s t) :
    Fr m s (Sys2Proof.Machine.State.commitSvn t a1) := by
  unfold Sys2Proof.Machine.State.commitSvn
  repeat' first
    | with_reducible assumption
    | with_reducible refine fr_State_updResult (hM.sub (by decide)) ?_
    | with_reducible refine fr_State_updStore (hM.sub (by decide)) ?_
    | with_reducible refine fr_ite ?_ ?_
    | split

theorem fr_State_revokeKey {m : Nat} {s t : State} {a1} (hM : Cov 61299821634635554334333881086012367344749564887612522497 m) (h : Fr m s t) :
    Fr m s (Sys2Proof.Machine.State.revokeKey t a1) := by
  unfold Sys2Proof.Machine.State.revokeKey
  repeat' first
    | with_reducible assumption
    | with_reducible refine fr_State_updStore (hM.sub (by decide)) ?_
    | with_reducible refine fr_State_updRefused (hM.sub (by decide)) ?_
    | with_reducible refine fr_ite ?_ ?_
    | split
    | dsimp only

theorem fr_State_writeUpd {m : Nat} {s t : State} {a1 a2 a3} (hM : Cov 25711008708143844408671393477458601640355230606761489890017279 m) (h : Fr m s t) :
    Fr m s (Sys2Proof.Machine.State.writeUpd t a1 a2 a3) := by
  unfold Sys2Proof.Machine.State.writeUpd
  repeat' first
    | with_reducible assumption
    | with_reducible refine fr_State_updRefused (hM.sub (by decide)) ?_
    | with_reducible refine fr_State_revokeKey (hM.sub (by decide)) ?_
    | with_reducible refine fr_State_stageImage (hM.sub (by decide)) ?_
    | with_reducible refine fr_State_activateImage (hM.sub (by decide)) ?_
    | with_reducible refine fr_State_commitSvn (hM.sub (by decide)) ?_
    | with_reducible refine fr_ite ?_ ?_
    | split
    | dsimp only

theorem fr_updWrite {m : Nat} {s t : State} {a1 a2 a3 a4} (hM : Cov 25711008708143844408671393477458601640355230606761489890017279 m) (h : Fr m s t) :
    Fr m s (Sys2Proof.Machine.updWrite a1 a2 a3 a4 t) := by
  unfold Sys2Proof.Machine.updWrite
  repeat' first
    | with_reducible assumption
    | with_reducible refine fr_State_gated (hM.sub (by decide)) ?_ (fun _ _ => ?_)
    | with_reducible refine fr_State_writeUpd (hM.sub (by decide)) ?_
    | with_reducible refine fr_ite ?_ ?_
    | split

theorem fr_State_freeCheck {m : Nat} {s t : State} (hM : Cov 1099511627776 m) (h : Fr m s t) :
    Fr m s (Sys2Proof.Machine.State.freeCheck t).1 := by
  unfold Sys2Proof.Machine.State.freeCheck
  repeat' first
    | with_reducible assumption
    | with_reducible refine fr_State_free (hM.sub (by decide)) ?_
    | dsimp only

theorem fr_store {m : Nat} {s t : State} {a1 a2} (hM : Cov 12643088212143583081456362973990050764854597758283153409 m) (h : Fr m s t) :
    Fr m s (Sys2Proof.Machine.store a1 a2 t) := by
  unfold Sys2Proof.Machine.store
  repeat' first
    | with_reducible assumption
    | with_reducible refine fr_State_gated (hM.sub (by decide)) ?_ (fun _ _ => ?_)
    | with_reducible refine fr_State_writeStoreCmd (hM.sub (by decide)) ?_
    | with_reducible refine fr_ite ?_ ?_
    | split

theorem fr_storeSector {m : Nat} {s t : State} {a1} (hM : Cov 25711008708143844408671393477458601640355230606760390378389503 m) (h : Fr m s t) :
    Fr m s (Sys2Proof.Machine.storeSector a1 t) := by
  unfold Sys2Proof.Machine.storeSector
  repeat' first
    | with_reducible assumption
    | with_reducible refine fr_State_storeStep (hM.sub (by decide)) ?_
    | with_reducible refine fr_State_sysReset (hM.sub (by decide)) ?_
    | with_reducible refine fr_ite ?_ ?_
    | split
    | dsimp only

theorem fr_holdupSample {m : Nat} {s t : State} {a1} (hM : Cov 12259964326927110866866776217202473468949912977737252865 m) (h : Fr m s t) :
    Fr m s (Sys2Proof.Machine.holdupSample a1 t) := by
  unfold Sys2Proof.Machine.holdupSample
  repeat' first
    | with_reducible assumption
    | with_reducible refine fr_State_modMg (hM.sub (by decide)) ?_
    | with_reducible refine fr_State_fs (hM.sub (by decide)) ?_
    | with_reducible refine fr_ite ?_ ?_
    | split
    | dsimp only

theorem fr_holdupRecheck {m : Nat} {s t : State} (hM : Cov 12259964326927110866866776217202473468949912977468817409 m) (h : Fr m s t) :
    Fr m s (Sys2Proof.Machine.holdupRecheck t) := by
  unfold Sys2Proof.Machine.holdupRecheck
  repeat' first
    | with_reducible assumption
    | with_reducible refine fr_State_showStores (hM.sub (by decide)) ?_
    | with_reducible refine fr_ite ?_ ?_
    | split

theorem fr_State_writeKey0 {m : Nat} {s t : State} {a1 a2} (hM : Cov 392318858461667547739736838950479151006397215279002157057 m) (h : Fr m s t) :
    Fr m s (Sys2Proof.Machine.State.writeKey0 t a1 a2) := by
  unfold Sys2Proof.Machine.State.writeKey0
  repeat' first
    | with_reducible assumption
    | with_reducible refine fr_State_fs (hM.sub (by decide)) ?_
    | with_reducible refine fr_ite ?_ ?_
    | split

theorem fr_State_writeKeyWord {m : Nat} {s t : State} {a1 a2 a3} (hM : Cov 784637716923335095479473677900958302012794430558004314113 m) (h : Fr m s t) :
    Fr m s (Sys2Proof.Machine.State.writeKeyWord t a1 a2 a3) := by
  unfold Sys2Proof.Machine.State.writeKeyWord
  repeat' first
    | with_reducible assumption
    | with_reducible refine fr_State_wr (hM.sub (by first | decide | (dsimp only; decide) | (dsimp only [clkField]; decide) | (split <;> decide))) ?_
    | with_reducible refine fr_ite ?_ ?_
    | split

theorem fr_State_policyRec {m : Nat} {s t : State} {a1 a2 a3 a4 a5 a6 a7} (hM : Cov 3432790011539591042723051066040180256438169273753965445133 m) (h : Fr m s t) :
    Fr m s (Sys2Proof.Machine.State.policyRec t a1 a2 a3 a4 a5 a6 a7) := by
  unfold Sys2Proof.Machine.State.policyRec
  repeat' first
    | with_reducible assumption
    | with_reducible refine fr_State_errRec (hM.sub (by decide)) ?_

theorem fr_State_showClk {m : Nat} {s t : State} (hM : Cov 73786976294838206465 m) (h : Fr m s t) :
    Fr m s (Sys2Proof.Machine.State.showClk t) := by
  unfold Sys2Proof.Machine.State.showClk
  repeat' first
    | with_reducible assumption
    | with_reducible refine fr_State_fs (hM.sub (by first | decide | (dsimp only; decide) | (dsimp only [clkField]; decide) | (split <;> decide))) ?_
    | with_reducible refine fr_foldl ?_ (fun _ _ _ => ?_)
    | with_reducible refine fr_foldl_fst ?_ (fun _ _ _ => ?_)
    | with_reducible refine fr_foldl_snd ?_ (fun _ _ _ => ?_)

theorem fr_State_powerStep {m : Nat} {s t : State} {a1 a2} (hM : Cov 3432981573482199278830345859418574045159908592439076601869 m) (h : Fr m s t) :
    Fr m s (Sys2Proof.Machine.State.powerStep t a1 a2) := by
  unfold Sys2Proof.Machine.State.powerStep
  repeat' first
    | with_reducible assumption
    | with_reducible refine fr_State_showClk (hM.sub (by decide)) ?_
    | with_reducible refine fr_State_modMg (hM.sub (by decide)) ?_
    | with_reducible refine fr_State_policyRec (hM.sub (by decide)) ?_
    | with_reducible refine fr_ite ?_ ?_
    | with_reducible refine fr_foldl ?_ (fun _ _ _ => ?_)
    | with_reducible refine fr_foldl_fst ?_ (fun _ _ _ => ?_)
    | with_reducible refine fr_foldl_snd ?_ (fun _ _ _ => ?_)
    | split
    | dsimp only

theorem fr_powerPolicy {m : Nat} {s t : State} {a1} (hM : Cov 3434514069023065167688704206445724354343527331561260204045 m) (h : Fr m s t) :
    Fr m s (Sys2Proof.Machine.powerPolicy a1 t) := by
  unfold Sys2Proof.Machine.powerPolicy
  repeat' first
    | with_reducible assumption
    | with_reducible refine fr_State_modMg (hM.sub (by decide)) ?_
    | with_reducible refine fr_State_fs (hM.sub (by decide)) ?_
    | with_reducible refine fr_State_powerStep (hM.sub (by decide)) ?_
    | with_reducible refine fr_ite ?_ ?_
    | split
    | dsimp only

theorem fr_State_thermalStep {m : Nat} {s t : State} {a1 a2 a3} (hM : Cov 3432790011539591042723051066040180256511956250048803651597 m) (h : Fr m s t) :
    Fr m s (Sys2Proof.Machine.State.thermalStep t a1 a2 a3) := by
  unfold Sys2Proof.Machine.State.thermalStep
  repeat' first
    | with_reducible assumption
    | with_reducible refine fr_State_showClk (hM.sub (by decide)) ?_
    | with_reducible refine fr_State_modMg (hM.sub (by decide)) ?_
    | with_reducible refine fr_State_policyRec (hM.sub (by decide)) ?_
    | with_reducible refine fr_ite ?_ ?_
    | split
    | dsimp only

theorem fr_thermalPolicy {m : Nat} {s t : State} {a1} (hM : Cov 3432790011539591042723051066040180256511956250048803651597 m) (h : Fr m s t) :
    Fr m s (Sys2Proof.Machine.thermalPolicy a1 t) := by
  unfold Sys2Proof.Machine.thermalPolicy
  repeat' first
    | with_reducible assumption
    | with_reducible refine fr_State_modMg (hM.sub (by decide)) ?_
    | with_reducible refine fr_State_thermalStep (hM.sub (by decide)) ?_
    | with_reducible refine fr_ite ?_ ?_
    | split
    | dsimp only

theorem fr_voltagePolicy {m : Nat} {s t : State} {a1 a2} (hM : Cov 3432790011539591042723051066040180256438169273753965445133 m) (h : Fr m s t) :
    Fr m s (Sys2Proof.Machine.voltagePolicy a1 a2 t) := by
  unfold Sys2Proof.Machine.voltagePolicy
  repeat' first
    | with_reducible assumption
    | with_reducible refine fr_State_modMg (hM.sub (by decide)) ?_
    | with_reducible refine fr_State_policyRec (hM.sub (by decide)) ?_
    | with_reducible refine fr_ite ?_ ?_
    | split
    | dsimp only

theorem fr_linksPolicy {m : Nat} {s t : State} {a1} (hM : Cov 3432790023231983254038649432263065025379068453696783400973 m) (h : Fr m s t) :
    Fr m s (Sys2Proof.Machine.linksPolicy a1 t) := by
  unfold Sys2Proof.Machine.linksPolicy
  repeat' first
    | with_reducible assumption
    | with_reducible refine fr_State_modMg (hM.sub (by decide)) ?_
    | with_reducible refine fr_State_retuneUnit (hM.sub (by decide)) ?_
    | with_reducible refine fr_State_policyRec (hM.sub (by decide)) ?_
    | with_reducible refine fr_ite ?_ ?_
    | split
    | dsimp only

theorem fr_retirePolicy {m : Nat} {s t : State} {a1 a2} (hM : Cov 405167301076287159928213574151330850229949605506108645982285 m) (h : Fr m s t) :
    Fr m s (Sys2Proof.Machine.retirePolicy a1 a2 t) := by
  unfold Sys2Proof.Machine.retirePolicy
  repeat' first
    | with_reducible assumption
    | with_reducible refine fr_State_chooseCore (hM.sub (by decide)) ?_
    | with_reducible refine fr_State_policyRec (hM.sub (by decide)) ?_
    | with_reducible refine fr_ite ?_ ?_
    | split
    | dsimp only

theorem fr_repairPolicy {m : Nat} {s t : State} {a1 a2 a3} (hM : Cov 3432790011539591051740533789445049538217596370695823048717 m) (h : Fr m s t) :
    Fr m s (Sys2Proof.Machine.repairPolicy a1 a2 a3 t) := by
  unfold Sys2Proof.Machine.repairPolicy
  repeat' first
    | with_reducible assumption
    | with_reducible refine fr_State_modMg (hM.sub (by decide)) ?_
    | with_reducible refine fr_State_startRepair (hM.sub (by decide)) ?_
    | with_reducible refine fr_State_policyRec (hM.sub (by decide)) ?_
    | with_reducible refine fr_ite ?_ ?_
    | split
    | dsimp only

theorem fr_State_writeWdog {m : Nat} {s t : State} {a1} (hM : Cov 100433627766186892221372630771322662657637687111424820641793 m) (h : Fr m s t) :
    Fr m s (Sys2Proof.Machine.State.writeWdog t a1) := by
  unfold Sys2Proof.Machine.State.writeWdog
  repeat' first
    | with_reducible assumption
    | with_reducible refine fr_State_fs (hM.sub (by decide)) ?_
    | with_reducible refine fr_State_modMg (hM.sub (by decide)) ?_
    | with_reducible refine fr_ite ?_ ?_
    | split
    | dsimp only

theorem fr_watchdogExpiry {m : Nat} {s t : State} {a1} (hM : Cov 25711008708143844408671393477458601640355230606759840622575615 m) (h : Fr m s t) :
    Fr m s (Sys2Proof.Machine.watchdogExpiry a1 t) := by
  unfold Sys2Proof.Machine.watchdogExpiry
  repeat' first
    | with_reducible assumption
    | with_reducible refine fr_State_sysReset (hM.sub (by decide)) ?_
    | with_reducible refine fr_State_modMg (hM.sub (by decide)) ?_
    | with_reducible refine fr_State_fc (hM.sub (by first | decide | (dsimp only; decide) | (dsimp only [clkField]; decide) | (split <;> decide))) ?_
    | with_reducible refine fr_State_fwRec (hM.sub (by decide)) ?_
    | with_reducible refine fr_State_startHandover (hM.sub (by decide)) ?_
    | with_reducible refine fr_ite ?_ ?_
    | split
    | dsimp only

theorem fr_execStartUp {m : Nat} {s t : State} {a1} (hM : Cov 2013288240693336169222891362241980081259322821003979400560653 m) (h : Fr m s t) :
    ∀ u, Sys2Proof.Machine.execStartUp a1 t = .next u → Fr m s u := by
  intro u e
  cases e
  repeat' first
    | with_reducible assumption
    | with_reducible refine fr_startUp (hM.sub (by decide)) ?_

theorem fr_execDomeExit {m : Nat} {s t : State} {a1} (hM : Cov 25711008708143844408671393477458601640355230606761489890017279 m) (h : Fr m s t) :
    ∀ u, Sys2Proof.Machine.execDomeExit a1 t = .next u → Fr m s u := by
  intro u e
  cases e
  repeat' first
    | with_reducible assumption
    | with_reducible refine fr_domeExit (hM.sub (by decide)) ?_

theorem fr_execStore {m : Nat} {s t : State} {a1 a2} (hM : Cov 12643088212143583081456362973990050764854597758283153409 m) (h : Fr m s t) :
    ∀ u, Sys2Proof.Machine.execStore a1 a2 t = .next u → Fr m s u := by
  intro u e
  cases e
  repeat' first
    | with_reducible assumption
    | with_reducible refine fr_store (hM.sub (by decide)) ?_

theorem fr_execStoreSector {m : Nat} {s t : State} {a1} (hM : Cov 25711008708143844408671393477458601640355230606760390378389503 m) (h : Fr m s t) :
    ∀ u, Sys2Proof.Machine.execStoreSector a1 t = .next u → Fr m s u := by
  intro u e
  cases e
  repeat' first
    | with_reducible assumption
    | with_reducible refine fr_storeSector (hM.sub (by decide)) ?_

theorem fr_execHoldupSample {m : Nat} {s t : State} {a1} (hM : Cov 12259964326927110866866776217202473468949912977737252865 m) (h : Fr m s t) :
    ∀ u, Sys2Proof.Machine.execHoldupSample a1 t = .next u → Fr m s u := by
  intro u e
  cases e
  repeat' first
    | with_reducible assumption
    | with_reducible refine fr_holdupSample (hM.sub (by decide)) ?_

theorem fr_execHoldupRecheck {m : Nat} {s t : State} (hM : Cov 12259964326927110866866776217202473468949912977468817409 m) (h : Fr m s t) :
    ∀ u, Sys2Proof.Machine.execHoldupRecheck t = .next u → Fr m s u := by
  intro u e
  cases e
  repeat' first
    | with_reducible assumption
    | with_reducible refine fr_holdupRecheck (hM.sub (by decide)) ?_

theorem fr_execStage {m : Nat} {s t : State} {a1 a2 a3} (hM : Cov 25711008708143844408671393477458601640355230606761489890017279 m) (h : Fr m s t) :
    ∀ u, Sys2Proof.Machine.execStage a1 a2 a3 t = .next u → Fr m s u := by
  intro u e
  cases e
  repeat' first
    | with_reducible assumption
    | with_reducible refine fr_updWrite (hM.sub (by decide)) ?_

theorem fr_execActivate {m : Nat} {s t : State} {a1 a2 a3} (hM : Cov 25711008708143844408671393477458601640355230606761489890017279 m) (h : Fr m s t) :
    ∀ u, Sys2Proof.Machine.execActivate a1 a2 a3 t = .next u → Fr m s u := by
  intro u e
  cases e
  repeat' first
    | with_reducible assumption
    | with_reducible refine fr_updWrite (hM.sub (by decide)) ?_

theorem fr_execCommitSvn {m : Nat} {s t : State} {a1 a2} (hM : Cov 25711008708143844408671393477458601640355230606761489890017279 m) (h : Fr m s t) :
    ∀ u, Sys2Proof.Machine.execCommitSvn a1 a2 t = .next u → Fr m s u := by
  intro u e
  cases e
  repeat' first
    | with_reducible assumption
    | with_reducible refine fr_updWrite (hM.sub (by decide)) ?_

theorem fr_execRevoke {m : Nat} {s t : State} {a1 a2} (hM : Cov 25711008708143844408671393477458601640355230606761489890017279 m) (h : Fr m s t) :
    ∀ u, Sys2Proof.Machine.execRevoke a1 a2 t = .next u → Fr m s u := by
  intro u e
  cases e
  repeat' first
    | with_reducible assumption
    | with_reducible refine fr_updWrite (hM.sub (by decide)) ?_

theorem fr_execHostkeyEnable {m : Nat} {s t : State} {a1 a2 a3} (hM : Cov 392318858461667547739736838950479151006397215279002157057 m) (h : Fr m s t) :
    ∀ u, Sys2Proof.Machine.execHostkeyEnable a1 a2 a3 t = .next u → Fr m s u := by
  intro u e
  cases e
  repeat' first
    | with_reducible assumption
    | with_reducible refine fr_State_gated (hM.sub (by decide)) ?_ (fun _ _ => ?_)
    | with_reducible refine fr_State_writeKey0 (hM.sub (by decide)) ?_

theorem fr_execPowerPolicy {m : Nat} {s t : State} {a1} (hM : Cov 3434514069023065167688704206445724354343527331561260204045 m) (h : Fr m s t) :
    ∀ u, Sys2Proof.Machine.execPowerPolicy a1 t = .next u → Fr m s u := by
  intro u e
  cases e
  repeat' first
    | with_reducible assumption
    | with_reducible refine fr_powerPolicy (hM.sub (by decide)) ?_

theorem fr_execThermalPolicy {m : Nat} {s t : State} {a1} (hM : Cov 3432790011539591042723051066040180256511956250048803651597 m) (h : Fr m s t) :
    ∀ u, Sys2Proof.Machine.execThermalPolicy a1 t = .next u → Fr m s u := by
  intro u e
  cases e
  repeat' first
    | with_reducible assumption
    | with_reducible refine fr_thermalPolicy (hM.sub (by decide)) ?_

theorem fr_execVoltagePolicy {m : Nat} {s t : State} {a1 a2} (hM : Cov 3432790011539591042723051066040180256438169273753965445133 m) (h : Fr m s t) :
    ∀ u, Sys2Proof.Machine.execVoltagePolicy a1 a2 t = .next u → Fr m s u := by
  intro u e
  cases e
  repeat' first
    | with_reducible assumption
    | with_reducible refine fr_voltagePolicy (hM.sub (by decide)) ?_

theorem fr_execLinksPolicy {m : Nat} {s t : State} {a1} (hM : Cov 3432790023231983254038649432263065025379068453696783400973 m) (h : Fr m s t) :
    ∀ u, Sys2Proof.Machine.execLinksPolicy a1 t = .next u → Fr m s u := by
  intro u e
  cases e
  repeat' first
    | with_reducible assumption
    | with_reducible refine fr_linksPolicy (hM.sub (by decide)) ?_

theorem fr_execRetirePolicy {m : Nat} {s t : State} {a1 a2} (hM : Cov 405167301076287159928213574151330850229949605506108645982285 m) (h : Fr m s t) :
    ∀ u, Sys2Proof.Machine.execRetirePolicy a1 a2 t = .next u → Fr m s u := by
  intro u e
  cases e
  repeat' first
    | with_reducible assumption
    | with_reducible refine fr_retirePolicy (hM.sub (by decide)) ?_

theorem fr_execRepairPolicy {m : Nat} {s t : State} {a1 a2 a3} (hM : Cov 3432790011539591051740533789445049538217596370695823048717 m) (h : Fr m s t) :
    ∀ u, Sys2Proof.Machine.execRepairPolicy a1 a2 a3 t = .next u → Fr m s u := by
  intro u e
  cases e
  repeat' first
    | with_reducible assumption
    | with_reducible refine fr_repairPolicy (hM.sub (by decide)) ?_

theorem fr_execKick {m : Nat} {s t : State} {a1 a2} (hM : Cov 100433627766186892221372630771322662657637687111424820641793 m) (h : Fr m s t) :
    ∀ u, Sys2Proof.Machine.execKick a1 a2 t = .next u → Fr m s u := by
  intro u e
  cases e
  repeat' first
    | with_reducible assumption
    | with_reducible refine fr_State_gated (hM.sub (by decide)) ?_ (fun _ _ => ?_)
    | with_reducible refine fr_State_writeWdog (hM.sub (by decide)) ?_

theorem fr_execWatchdogExpiry {m : Nat} {s t : State} {a1} (hM : Cov 25711008708143844408671393477458601640355230606759840622575615 m) (h : Fr m s t) :
    ∀ u, Sys2Proof.Machine.execWatchdogExpiry a1 t = .next u → Fr m s u := by
  intro u e
  cases e
  repeat' first
    | with_reducible assumption
    | with_reducible refine fr_watchdogExpiry (hM.sub (by decide)) ?_

end Sys2Proof.Laws
end

