-- ==== Sys2Proof/Laws/FrameRegWrite.lean ====
section
/-! SUPPORT. What the functions of Machine/RegWrite.lean may change. -/

namespace Sys2Proof.Laws

open Sys2Proof.Machine

theorem fr_State_writeQdesc {m : Nat} {s t : State} {a1 a2} (hM : Cov 25711008708143844408671393477458601640355229453780611655270401 m) (h : Fr m s t) :
    Fr m s (Sys2Proof.Machine.State.writeQdesc t a1 a2) := by
  unfold Sys2Proof.Machine.State.writeQdesc
  repeat' first
    | with_reducible assumption
    | with_reducible refine fr_State_fs (hM.sub (by decide)) ?_
    | with_reducible refine fr_State_plainWrite (hM.sub (by decide)) ?_
    | with_reducible refine fr_ite ?_ ?_
    | split
    | dsimp only

theorem fr_State_writeOwner {m : Nat} {s t : State} {a1 a2} (hM : Cov 730750818665892317556987389066476427281919117357 m) (h : Fr m s t) :
    Fr m s (Sys2Proof.Machine.State.writeOwner t a1 a2) := by
  unfold Sys2Proof.Machine.State.writeOwner
  repeat' first
    | with_reducible assumption
    | with_reducible refine fr_claim (hM.sub (by decide)) ?_
    | with_reducible refine fr_release (hM.sub (by decide)) ?_
    | with_reducible refine fr_ite ?_ ?_
    | split
    | dsimp only

theorem fr_State_writeCoreDis {m : Nat} {s t : State} {a1 a2} (hM : Cov 1993841993677373956929663180096931905 m) (h : Fr m s t) :
    Fr m s (Sys2Proof.Machine.State.writeCoreDis t a1 a2) := by
  unfold Sys2Proof.Machine.State.writeCoreDis
  repeat' first
    | with_reducible assumption
    | with_reducible refine fr_State_enableCore (hM.sub (by decide)) ?_
    | with_reducible refine fr_State_disableCore (hM.sub (by decide)) ?_
    | with_reducible refine fr_ite ?_ ?_
    | with_reducible refine fr_foldl ?_ (fun _ _ _ => ?_)
    | with_reducible refine fr_foldl_fst ?_ (fun _ _ _ => ?_)
    | with_reducible refine fr_foldl_snd ?_ (fun _ _ _ => ?_)
    | split
    | dsimp only

theorem fr_State_writePortDis {m : Nat} {s t : State} {a1} (hM : Cov 2658455991569831745807614120560691201 m) (h : Fr m s t) :
    Fr m s (Sys2Proof.Machine.State.writePortDis t a1) := by
  unfold Sys2Proof.Machine.State.writePortDis
  repeat' first
    | with_reducible assumption
    | with_reducible refine fr_State_enablePort (hM.sub (by decide)) ?_
    | with_reducible refine fr_State_disablePort (hM.sub (by decide)) ?_
    | with_reducible refine fr_ite ?_ ?_
    | with_reducible refine fr_foldl ?_ (fun _ _ _ => ?_)
    | with_reducible refine fr_foldl_fst ?_ (fun _ _ _ => ?_)
    | with_reducible refine fr_foldl_snd ?_ (fun _ _ _ => ?_)
    | split
    | dsimp only

theorem fr_State_writeTail {m : Nat} {s t : State} {a1} (hM : Cov 98079714615416886934934209737619787751599303819750539265 m) (h : Fr m s t) :
    Fr m s (Sys2Proof.Machine.State.writeTail t a1) := by
  unfold Sys2Proof.Machine.State.writeTail
  repeat' first
    | with_reducible assumption
    | with_reducible refine fr_State_fs (hM.sub (by decide)) ?_
    | with_reducible refine fr_ite ?_ ?_
    | split
    | dsimp only

theorem fr_State_writeUpdFree {m : Nat} {s t : State} {a1 a2} (hM : Cov 25711008708143844408671393477458601640355230606761489890017279 m) (h : Fr m s t) :
    Fr m s (Sys2Proof.Machine.State.writeUpdFree t a1 a2) := by
  unfold Sys2Proof.Machine.State.writeUpdFree
  repeat' first
    | with_reducible assumption
    | with_reducible refine fr_State_freeCheck (hM.sub (by decide)) ?_
    | with_reducible refine fr_State_writeUpd (hM.sub (by decide)) ?_
    | with_reducible refine fr_ite ?_ ?_
    | split
    | dsimp only

theorem fr_State_applyWrite {m : Nat} {s t : State} {a1 a2 a3} (hM : Cov 25711008708143844408671393477458601640355230606761489890017279 m) (h : Fr m s t) :
    Fr m s (Sys2Proof.Machine.State.applyWrite t a1 a2 a3) := by
  unfold Sys2Proof.Machine.State.applyWrite
  repeat' first
    | with_reducible assumption
    | with_reducible refine fr_groupWrite (hM.sub (by decide)) ?_
    | with_reducible refine fr_State_clearHeld (hM.sub (by decide)) ?_
    | with_reducible refine fr_State_writeLantern (hM.sub (by decide)) ?_
    | with_reducible refine fr_State_writeRetire (hM.sub (by decide)) ?_
    | with_reducible refine fr_State_writeQdesc0 (hM.sub (by decide)) ?_
    | with_reducible refine fr_State_writeQdesc (hM.sub (by decide)) ?_
    | with_reducible refine fr_State_writeOwner (hM.sub (by decide)) ?_
    | with_reducible refine fr_State_writeCoreDis (hM.sub (by decide)) ?_
    | with_reducible refine fr_State_writePortDis (hM.sub (by decide)) ?_
    | with_reducible refine fr_State_writePlace (hM.sub (by decide)) ?_
    | with_reducible refine fr_State_startRepair (hM.sub (by decide)) ?_
    | with_reducible refine fr_State_writeEpoch (hM.sub (by decide)) ?_
    | with_reducible refine fr_State_writeRoute (hM.sub (by decide)) ?_
    | with_reducible refine fr_State_writeConn0 (hM.sub (by decide)) ?_
    | with_reducible refine fr_State_setPolicy (hM.sub (by decide)) ?_
    | with_reducible refine fr_State_setCap (hM.sub (by decide)) ?_
    | with_reducible refine fr_State_setThrottle (hM.sub (by decide)) ?_
    | with_reducible refine fr_State_writeStoreCmd (hM.sub (by decide)) ?_
    | with_reducible refine fr_State_writeUpdFree (hM.sub (by decide)) ?_
    | with_reducible refine fr_State_writeTail (hM.sub (by decide)) ?_
    | with_reducible refine fr_State_writeKey0 (hM.sub (by decide)) ?_
    | with_reducible refine fr_State_writeKeyWord (hM.sub (by decide)) ?_
    | with_reducible refine fr_State_writeRstCtl (hM.sub (by decide)) ?_
    | with_reducible refine fr_State_writeBlockCmd (hM.sub (by decide)) ?_
    | with_reducible refine fr_State_writeWdog (hM.sub (by decide)) ?_
    | with_reducible refine fr_State_writePwrCtl (hM.sub (by decide)) ?_
    | with_reducible refine fr_State_writePads (hM.sub (by decide)) ?_
    | with_reducible refine fr_State_unitWrite (hM.sub (by decide)) ?_
    | with_reducible refine fr_ite ?_ ?_
    | split

theorem fr_State_regWrite {m : Nat} {s t : State} {a1 a2 a3} (hM : Cov 25711008708143844408671393477458601640355230606761489890017279 m) (h : Fr m s t) :
    Fr m s (Sys2Proof.Machine.State.regWrite t a1 a2 a3) := by
  unfold Sys2Proof.Machine.State.regWrite
  repeat' first
    | with_reducible assumption
    | with_reducible refine fr_State_decodeErr (hM.sub (by decide)) ?_
    | with_reducible refine fr_State_holdWrite (hM.sub (by decide)) ?_
    | with_reducible refine fr_State_applyWrite (hM.sub (by decide)) ?_
    | with_reducible refine fr_ite ?_ ?_
    | split

theorem fr_State_sessWrite {m : Nat} {s t : State} {a1 a2 a3} (hM : Cov 25711008708143844408671393477458601640355230606761489890017279 m) (h : Fr m s t) :
    Fr m s (Sys2Proof.Machine.State.sessWrite t a1 a2 a3).1 := by
  unfold Sys2Proof.Machine.State.sessWrite
  repeat' first
    | with_reducible assumption
    | with_reducible refine fr_State_regWrite (hM.sub (by decide)) ?_
    | with_reducible refine fr_State_foreign (hM.sub (by decide)) ?_
    | with_reducible refine fr_State_decodeErr (hM.sub (by decide)) ?_
    | with_reducible refine fr_ite ?_ ?_
    | split

theorem fr_State_sessRead {m : Nat} {s t : State} {a1 a2} (hM : Cov 25711008708143844408671393477458601640355229453780611655270401 m) (h : Fr m s t) :
    Fr m s (Sys2Proof.Machine.State.sessRead t a1 a2).1 := by
  unfold Sys2Proof.Machine.State.sessRead
  repeat' first
    | with_reducible assumption
    | with_reducible refine fr_State_readReg (hM.sub (by decide)) ?_
    | with_reducible refine fr_State_foreign (hM.sub (by decide)) ?_
    | with_reducible refine fr_State_decodeErr (hM.sub (by decide)) ?_
    | with_reducible refine fr_ite ?_ ?_
    | split
    | dsimp only

theorem fr_registerWrite {m : Nat} {s t : State} {a1 a2 a3 a4} (hM : Cov 25711008708143844408671393477458601640355230606761489890017279 m) (h : Fr m s t) :
    Fr m s (Sys2Proof.Machine.registerWrite a1 a2 a3 a4 t) := by
  unfold Sys2Proof.Machine.registerWrite
  repeat' first
    | with_reducible assumption
    | with_reducible refine fr_State_nakClose (hM.sub (by decide)) ?_
    | with_reducible refine fr_State_decodeErr (hM.sub (by decide)) ?_
    | with_reducible refine fr_State_sessWrite (hM.sub (by decide)) ?_
    | with_reducible refine fr_State_regWrite (hM.sub (by decide)) ?_
    | with_reducible refine fr_ite ?_ ?_
    | split
    | dsimp only

theorem cov_topControl {m : Nat} {k : RegKey} (hM : Cov 3432790011539591042723051066040180885398355210954837344269 m) (hk : k.name ∈ topControls) : Cov (regMask k.name) m := by
  simp only [topControls, List.mem_cons, List.not_mem_nil, or_false] at hk
  rcases hk with e | e | e | e | e <;> rw [e] <;> exact hM.sub (by decide)

theorem fr_State_wordMet {m : Nat} {s t : State} {a1 a2 a3} (hM : Cov 3432790011539591042723051066040180885398355210954837344269 m) (h : Fr m s t) :
    Fr m s (Sys2Proof.Machine.State.wordMet t a1 a2 a3) := by
  unfold Sys2Proof.Machine.State.wordMet
  split
  · split
    · split
      · exact fr_State_ctlMet (hM.sub (by decide)) h (fun _ hu => fr_State_wr (cov_topControl hM (by assumption)) hu)
      · split
        · next e => exact fr_State_ctlMet (hM.sub (by decide)) h (fun _ hu => fr_State_wr (by rw [e]; exact hM.sub (by decide)) hu)
        · exact h
    · exact h
  · exact h

theorem fr_readClear {m : Nat} {s t : State} {a1 a2} (hM : Cov 25711008708143844408671393477458601640355229453781161562079233 m) (h : Fr m s t) :
    Fr m s (Sys2Proof.Machine.readClear a1 a2 t) := by
  unfold Sys2Proof.Machine.readClear
  repeat' first
    | with_reducible assumption
    | with_reducible refine fr_State_nakClose (hM.sub (by decide)) ?_
    | with_reducible refine fr_State_decodeErr (hM.sub (by decide)) ?_
    | with_reducible refine fr_State_sessRead (hM.sub (by decide)) ?_
    | with_reducible refine fr_State_readReg (hM.sub (by decide)) ?_
    | with_reducible refine fr_ite ?_ ?_
    | split
    | dsimp only

theorem fr_execGroupWrite {m : Nat} {s t : State} {a1 a2 a3 a4} (hM : Cov 885443715538058481665 m) (h : Fr m s t) :
    ∀ u, Sys2Proof.Machine.execGroupWrite a1 a2 a3 a4 t = .next u → Fr m s u := by
  intro u e
  cases e
  repeat' first
    | with_reducible assumption
    | with_reducible refine fr_State_gated (hM.sub (by decide)) ?_ (fun _ _ => ?_)
    | with_reducible refine fr_groupWrite (hM.sub (by decide)) ?_
    | with_reducible refine fr_ite ?_ ?_
    | split

theorem fr_execReadClear {m : Nat} {s t : State} {a1 a2} (hM : Cov 25711008708143844408671393477458601640355229453781161830531085 m) (h : Fr m s t) :
    ∀ u, Sys2Proof.Machine.execReadClear a1 a2 t = .next u → Fr m s u := by
  intro u e
  cases e
  repeat' first
    | with_reducible assumption
    | with_reducible refine fr_readClear (hM.sub (by decide)) ?_
    | with_reducible refine fr_State_wordMet (hM.sub (by decide)) ?_

theorem fr_execRegisterWrite {m : Nat} {s t : State} {a1 a2 a3 a4} (hM : Cov 25711008708143844408671393477458601640355230606761489890017279 m) (h : Fr m s t) :
    ∀ u, Sys2Proof.Machine.execRegisterWrite a1 a2 a3 a4 t = .next u → Fr m s u := by
  intro u e
  cases e
  repeat' first
    | with_reducible assumption
    | with_reducible refine fr_registerWrite (hM.sub (by decide)) ?_

end Sys2Proof.Laws
end

