-- ==== Sys2Proof/Laws/FrameHostRdma.lean ====
section
/-! SUPPORT. What the functions of Machine/HostRdma.lean may change. -/

namespace Sys2Proof.Laws

open Sys2Proof.Machine

theorem fr_State_countTarget {m : Nat} {s t : State} {a1} (hM : Cov 85070591730234615865843651857942052865 m) (h : Fr m s t) :
    Fr m s (Sys2Proof.Machine.State.countTarget t a1) := by
  unfold Sys2Proof.Machine.State.countTarget
  repeat' first
    | with_reducible assumption
    | with_reducible refine fr_State_decodeErr (hM.sub (by decide)) ?_
    | split

theorem fr_State_debugMet {m : Nat} {s t : State} {a1 a2} (hM : Cov 3432790011539591042723051066059987297066735358152351432717 m) (h : Fr m s t) :
    Fr m s (Sys2Proof.Machine.State.debugMet t a1 a2) := by
  unfold Sys2Proof.Machine.State.debugMet
  repeat' first
    | with_reducible assumption
    | with_reducible refine fr_State_fc (hM.sub (by decide)) ?_
    | with_reducible refine fr_State_accUe (hM.sub (by decide)) ?_
    | with_reducible refine fr_ite ?_ ?_
    | split
    | dsimp only

theorem fr_State_debugRead {m : Nat} {s t : State} {a1 a2 a3} (hM : Cov 3432790011539591042723051066059987297066735359251863060493 m) (h : Fr m s t) :
    Fr m s (Sys2Proof.Machine.State.debugRead t a1 a2 a3).1 := by
  unfold Sys2Proof.Machine.State.debugRead
  repeat' first
    | with_reducible assumption
    | with_reducible refine fr_State_debugMet (hM.sub (by decide)) ?_
    | with_reducible refine fr_ite ?_ ?_
    | with_reducible refine fr_foldl ?_ (fun _ _ _ => ?_)
    | with_reducible refine fr_foldl_fst ?_ (fun _ _ _ => ?_)
    | with_reducible refine fr_foldl_snd ?_ (fun _ _ _ => ?_)
    | split
    | dsimp only
    | with_reducible refine fr_set_freeCtr (hM.sub (by decide)) ?_

theorem fr_State_hostMet {m : Nat} {s t : State} {a1 a2 a3 a4} (hM : Cov 3432790011539591044424462900644872573756195233585644453901 m) (h : Fr m s t) :
    Fr m s (Sys2Proof.Machine.State.hostMet t a1 a2 a3 a4).1 := by
  unfold Sys2Proof.Machine.State.hostMet
  repeat' first
    | with_reducible assumption
    | with_reducible refine fr_State_hubMet (hM.sub (by decide)) ?_
    | with_reducible refine fr_foldl ?_ (fun _ _ _ => ?_)
    | with_reducible refine fr_foldl_fst ?_ (fun _ _ _ => ?_)
    | with_reducible refine fr_foldl_snd ?_ (fun _ _ _ => ?_)
    | dsimp only

theorem fr_State_ackAll {m : Nat} {s t : State} {a1} (hM : Cov 185587323914827376497483713743873451193941253014159361 m) (h : Fr m s t) :
    Fr m s (Sys2Proof.Machine.State.ackAll t a1) := by
  unfold Sys2Proof.Machine.State.ackAll
  repeat' first
    | with_reducible assumption
    | with_reducible refine fr_State_sendAeth (hM.sub (by decide)) ?_
    | with_reducible refine fr_ite ?_ ?_
    | split

theorem fr_State_nakSeq {m : Nat} {s t : State} {a1} (hM : Cov 185587323914827376497483713743873451193941253014159361 m) (h : Fr m s t) :
    Fr m s (Sys2Proof.Machine.State.nakSeq t a1) := by
  unfold Sys2Proof.Machine.State.nakSeq
  repeat' first
    | with_reducible assumption
    | with_reducible refine fr_State_sendAeth (hM.sub (by decide)) ?_
    | with_reducible refine fr_State_modSes (hM.sub (by decide)) ?_
    | with_reducible refine fr_ite ?_ ?_
    | split

theorem fr_State_psnDone {m : Nat} {s t : State} {a1 a2 a3} (hM : Cov 16777216 m) (h : Fr m s t) :
    Fr m s (Sys2Proof.Machine.State.psnDone t a1 a2 a3) := by
  unfold Sys2Proof.Machine.State.psnDone
  repeat' first
    | with_reducible assumption
    | with_reducible refine fr_State_modSes (hM.sub (by decide)) ?_
    | with_reducible refine fr_ite ?_ ?_
    | split

theorem fr_State_ackDue {m : Nat} {s t : State} {a1 a2} (hM : Cov 185587323914827376497483713743873451193941253014159361 m) (h : Fr m s t) :
    Fr m s (Sys2Proof.Machine.State.ackDue t a1 a2) := by
  unfold Sys2Proof.Machine.State.ackDue
  repeat' first
    | with_reducible assumption
    | with_reducible refine fr_State_ackAll (hM.sub (by decide)) ?_
    | with_reducible refine fr_ite ?_ ?_
    | split

theorem fr_State_invalid {m : Nat} {s t : State} {a1 a2} (hM : Cov 185587323914827376497483713743873451193941253014159361 m) (h : Fr m s t) :
    Fr m s (Sys2Proof.Machine.State.invalid t a1 a2) := by
  unfold Sys2Proof.Machine.State.invalid
  repeat' first
    | with_reducible assumption
    | with_reducible refine fr_State_nakClose (hM.sub (by decide)) ?_

theorem fr_State_accessNak {m : Nat} {s t : State} {a1 a2} (hM : Cov 185587323914827376497483713743873451193941253014159361 m) (h : Fr m s t) :
    Fr m s (Sys2Proof.Machine.State.accessNak t a1 a2) := by
  unfold Sys2Proof.Machine.State.accessNak
  repeat' first
    | with_reducible assumption
    | with_reducible refine fr_State_nakClose (hM.sub (by decide)) ?_

theorem fr_State_regWords {m : Nat} {s t : State} {a1 a2 a3} (hM : Cov 25711008708143844408671393477458601640355230606761489890017279 m) (h : Fr m s t) :
    Fr m s (Sys2Proof.Machine.State.regWords t a1 a2 a3).1 := by
  induction a3 generalizing a1 a2 t with
  | nil =>
    unfold Sys2Proof.Machine.State.regWords
    repeat' first
      | with_reducible assumption
      | with_reducible refine fr_State_sessWrite (hM.sub (by decide)) ?_
      | with_reducible refine fr_ite ?_ ?_
      | split
      | dsimp only
  | cons b l ih =>
    unfold Sys2Proof.Machine.State.regWords
    repeat' first
      | with_reducible assumption
      | with_reducible apply ih
      | with_reducible refine fr_State_sessWrite (hM.sub (by decide)) ?_
      | with_reducible refine fr_ite ?_ ?_
      | split
      | dsimp only

theorem fr_State_writePayload {m : Nat} {s t : State} {a1 a2 a3 a4 a5} (hM : Cov 25711008708143844408671393477458601640355230606761489890017279 m) (h : Fr m s t) :
    Fr m s (Sys2Proof.Machine.State.writePayload t a1 a2 a3 a4 a5).1 := by
  unfold Sys2Proof.Machine.State.writePayload
  repeat' first
    | with_reducible assumption
    | with_reducible refine fr_State_storeMet (hM.sub (by decide)) ?_
    | with_reducible refine fr_State_regWords (hM.sub (by decide)) ?_
    | with_reducible refine fr_doorbell (hM.sub (by decide)) ?_
    | with_reducible refine fr_State_countTarget (hM.sub (by decide)) ?_
    | split

theorem fr_State_writeNext {m : Nat} {s t : State} {a1 a2 a3 a4 a5} (hM : Cov 25711008708143844408671393477458601640355230606761489890017279 m) (h : Fr m s t) :
    Fr m s (Sys2Proof.Machine.State.writeNext t a1 a2 a3 a4 a5) := by
  unfold Sys2Proof.Machine.State.writeNext
  repeat' first
    | with_reducible assumption
    | with_reducible refine fr_State_invalid (hM.sub (by decide)) ?_
    | with_reducible refine fr_State_accessNak (hM.sub (by decide)) ?_
    | with_reducible refine fr_State_countTarget (hM.sub (by decide)) ?_
    | with_reducible refine fr_State_foreign (hM.sub (by decide)) ?_
    | with_reducible refine fr_State_writePayload (hM.sub (by decide)) ?_
    | with_reducible refine fr_State_modSes (hM.sub (by decide)) ?_
    | with_reducible refine fr_State_ackDue (hM.sub (by decide)) ?_
    | with_reducible refine fr_State_psnDone (hM.sub (by decide)) ?_
    | with_reducible refine fr_ite ?_ ?_
    | split
    | dsimp only

theorem fr_rdmaWrite {m : Nat} {s t : State} {a1 a2 a3} (hM : Cov 25711008708143844408671393477458601640355230606761489890017279 m) (h : Fr m s t) :
    Fr m s (Sys2Proof.Machine.rdmaWrite a1 a2 a3 t) := by
  unfold Sys2Proof.Machine.rdmaWrite
  extract_lets op r
  refine fr_ite h ?_
  have k : Fr m s r.1 := fr_State_openRoce (hM.sub (by decide)) h
  clear_value r
  cases r.2 with
  | none => exact k
  | some n =>
    refine fr_ite (fr_State_invalid (hM.sub (by decide)) k) ?_
    cases r.1.psnAt n a2.psn.toNat with
    | old => exact fr_State_ackAll (hM.sub (by decide)) k
    | gap => exact fr_State_nakSeq (hM.sub (by decide)) k
    | next =>
      cases r.1.writeMsg n a2 with
      | none => exact fr_State_invalid (hM.sub (by decide)) k
      | some w => exact fr_State_writeNext (hM.sub (by decide)) k

theorem fr_State_regReads {m : Nat} {s t : State} {a1 a2 a3 a4} (hM : Cov 25711008708143844408671393477458601640355229453780611655270401 m) (h : Fr m s t) :
    Fr m s (Sys2Proof.Machine.State.regReads t a1 a2 a3 a4).1 := by
  induction a2 generalizing a1 a3 a4 t with
  | zero =>
    unfold Sys2Proof.Machine.State.regReads
    repeat' first
      | with_reducible assumption
      | with_reducible refine fr_State_sessRead (hM.sub (by decide)) ?_
      | with_reducible refine fr_ite ?_ ?_
      | split
      | dsimp only
  | succ n ih =>
    unfold Sys2Proof.Machine.State.regReads
    repeat' first
      | with_reducible assumption
      | with_reducible apply ih
      | with_reducible refine fr_State_sessRead (hM.sub (by decide)) ?_
      | with_reducible refine fr_ite ?_ ?_
      | split
      | dsimp only

theorem fr_State_readBytes {m : Nat} {s t : State} {a1 a2 a3 a4 a5 a6} (hM : Cov 25711008708143844408671393477458601640355230606703284761673741 m) (h : Fr m s t) :
    Fr m s (Sys2Proof.Machine.State.readBytes t a1 a2 a3 a4 a5 a6).1 := by
  unfold Sys2Proof.Machine.State.readBytes
  repeat' first
    | with_reducible assumption
    | with_reducible refine fr_State_hostMet (hM.sub (by decide)) ?_
    | with_reducible refine fr_State_debugRead (hM.sub (by decide)) ?_
    | with_reducible refine fr_State_regReads (hM.sub (by decide)) ?_
    | split
    | dsimp only

theorem fr_State_sendResps {m : Nat} {s t : State} {a1 a2 a3 a4 a5 a6} (hM : Cov 179601013208319998144521420669067555945430553318129665 m) (h : Fr m s t) :
    Fr m s (Sys2Proof.Machine.State.sendResps t a1 a2 a3 a4 a5 a6) := by
  unfold Sys2Proof.Machine.State.sendResps
  repeat' first
    | with_reducible assumption
    | with_reducible refine fr_State_seal (hM.sub (by decide)) ?_
    | with_reducible refine fr_ite ?_ ?_
    | with_reducible refine fr_foldl ?_ (fun _ _ _ => ?_)
    | with_reducible refine fr_foldl_fst ?_ (fun _ _ _ => ?_)
    | with_reducible refine fr_foldl_snd ?_ (fun _ _ _ => ?_)
    | split
    | dsimp only

theorem fr_State_readNow {m : Nat} {s t : State} {a1 a2 a3 a4 a5} (hM : Cov 25711008708143844408671393477458601640355230606703834668482573 m) (h : Fr m s t) :
    Fr m s (Sys2Proof.Machine.State.readNow t a1 a2 a3 a4 a5) := by
  unfold Sys2Proof.Machine.State.readNow
  repeat' first
    | with_reducible assumption
    | with_reducible refine fr_State_invalid (hM.sub (by decide)) ?_
    | with_reducible refine fr_State_accessNak (hM.sub (by decide)) ?_
    | with_reducible refine fr_State_countTarget (hM.sub (by decide)) ?_
    | with_reducible refine fr_State_readBytes (hM.sub (by decide)) ?_
    | with_reducible refine fr_State_modSes (hM.sub (by decide)) ?_
    | with_reducible refine fr_State_psnDone (hM.sub (by decide)) ?_
    | with_reducible refine fr_State_sendResps (hM.sub (by decide)) ?_
    | with_reducible refine fr_ite ?_ ?_
    | split
    | dsimp only

theorem fr_rdmaRead {m : Nat} {s t : State} {a1 a2 a3} (hM : Cov 25711008708143844408671393477458601640355230606708232714993677 m) (h : Fr m s t) :
    Fr m s (Sys2Proof.Machine.rdmaRead a1 a2 a3 t) := by
  unfold Sys2Proof.Machine.rdmaRead
  refine fr_ite h ?_
  extract_lets r
  have k : Fr m s r.1 := fr_State_openRoce (hM.sub (by decide)) h
  clear_value r
  cases r.2 with
  | none => exact k
  | some n =>
    refine fr_ite (fr_State_invalid (hM.sub (by decide)) k) ?_
    cases r.1.psnAt n a2.psn.toNat with
    | old => exact fr_State_readNow (hM.sub (by decide)) k
    | gap => exact fr_State_nakSeq (hM.sub (by decide)) k
    | next => exact fr_ite (fr_State_invalid (hM.sub (by decide)) k) (fr_State_readNow (hM.sub (by decide)) k)

theorem fr_State_sendNext {m : Nat} {s t : State} {a1 a2 a3 a4} (hM : Cov 3432975598863505871800628239618947047452526614651598815245 m) (h : Fr m s t) :
    Fr m s (Sys2Proof.Machine.State.sendNext t a1 a2 a3 a4) := by
  unfold Sys2Proof.Machine.State.sendNext
  repeat' first
    | with_reducible assumption
    | with_reducible refine fr_State_ackAll (hM.sub (by decide)) ?_
    | with_reducible refine fr_State_psnDone (hM.sub (by decide)) ?_
    | with_reducible refine fr_State_refuseDoorbell (hM.sub (by decide)) ?_
    | with_reducible refine fr_State_sendAeth (hM.sub (by decide)) ?_
    | with_reducible refine fr_State_storeMet (hM.sub (by decide)) ?_
    | with_reducible refine fr_State_applyDoorbell (hM.sub (by decide)) ?_
    | with_reducible refine fr_ite ?_ ?_
    | with_reducible refine fr_foldl ?_ (fun _ _ _ => ?_)
    | with_reducible refine fr_foldl_fst ?_ (fun _ _ _ => ?_)
    | with_reducible refine fr_foldl_snd ?_ (fun _ _ _ => ?_)
    | split
    | dsimp only

theorem fr_sendOnly {m : Nat} {s t : State} {a1 a2 a3} (hM : Cov 3432978592018859125489804720765484450400150874399493341197 m) (h : Fr m s t) :
    Fr m s (Sys2Proof.Machine.sendOnly a1 a2 a3 t) := by
  unfold Sys2Proof.Machine.sendOnly
  refine fr_ite h ?_
  extract_lets r
  have k : Fr m s r.1 := fr_State_openRoce (hM.sub (by decide)) h
  clear_value r
  cases r.2 with
  | none => exact k
  | some n =>
    refine fr_ite (fr_State_invalid (hM.sub (by decide)) k) ?_
    cases r.1.psnAt n a2.psn.toNat with
    | old => exact fr_State_ackAll (hM.sub (by decide)) k
    | gap => exact fr_State_nakSeq (hM.sub (by decide)) k
    | next =>
      exact fr_ite (fr_State_invalid (hM.sub (by decide)) k) (fr_ite (fr_State_sendNext (hM.sub (by decide)) k)
        (fr_State_ackAll (hM.sub (by decide)) (fr_State_psnDone (hM.sub (by decide)) (fr_State_foreign (hM.sub (by decide)) k))))

theorem fr_execSendOnly {m : Nat} {s t : State} {a1 a2} (hM : Cov 3432978592018859125489804720765484450400150874399493341197 m) (h : Fr m s t) :
    ∀ u, Sys2Proof.Machine.execSendOnly a1 a2 t = .next u → Fr m s u := by
  intro u e
  cases e
  repeat' first
    | with_reducible assumption
    | with_reducible refine fr_sendOnly (hM.sub (by decide)) ?_

theorem fr_execRdmaWrite {m : Nat} {s t : State} {a1 a2} (hM : Cov 25711008708143844408671393477458601640355230606761489890017279 m) (h : Fr m s t) :
    ∀ u, Sys2Proof.Machine.execRdmaWrite a1 a2 t = .next u → Fr m s u := by
  intro u e
  cases e
  repeat' first
    | with_reducible assumption
    | with_reducible refine fr_rdmaWrite (hM.sub (by decide)) ?_

theorem fr_execRdmaRead {m : Nat} {s t : State} {a1 a2} (hM : Cov 25711008708143844408671393477458601640355230606708232714993677 m) (h : Fr m s t) :
    ∀ u, Sys2Proof.Machine.execRdmaRead a1 a2 t = .next u → Fr m s u := by
  intro u e
  cases e
  repeat' first
    | with_reducible assumption
    | with_reducible refine fr_rdmaRead (hM.sub (by decide)) ?_

end Sys2Proof.Laws
end

