-- ==== Sys2Proof/Laws/FrameSideband.lean ====
section
/-! SUPPORT. What the functions of Machine/Sideband.lean may change. -/

namespace Sys2Proof.Laws

open Sys2Proof.Machine

theorem fr_State_answer {m : Nat} {s t : State} {a1 a2 a3} (hM : Cov 549755813888 m) (h : Fr m s t) :
    Fr m s (Sys2Proof.Machine.State.answer t a1 a2 a3) := by
  unfold Sys2Proof.Machine.State.answer
  repeat' first
    | with_reducible assumption
    | with_reducible refine fr_State_emit (hM.sub (by decide)) ?_
    | dsimp only

theorem fr_entdaa {m : Nat} {s t : State} {a1} (hM : Cov 268435456 m) (h : Fr m s t) :
    Fr m s (Sys2Proof.Machine.entdaa a1 t) := by
  unfold Sys2Proof.Machine.entdaa
  repeat' first
    | with_reducible assumption
    | with_reducible refine fr_State_modMg (hM.sub (by decide)) ?_
    | with_reducible refine fr_ite ?_ ?_
    | split

theorem fr_setdasa {m : Nat} {s t : State} {a1 a2} (hM : Cov 268435456 m) (h : Fr m s t) :
    Fr m s (Sys2Proof.Machine.setdasa a1 a2 t) := by
  unfold Sys2Proof.Machine.setdasa
  repeat' first
    | with_reducible assumption
    | with_reducible refine fr_State_modMg (hM.sub (by decide)) ?_
    | with_reducible refine fr_ite ?_ ?_
    | split

theorem fr_State_control {m : Nat} {s t : State} {a1 a2} (hM : Cov 549755813888 m) (h : Fr m s t) :
    Fr m s (Sys2Proof.Machine.State.control t a1 a2) := by
  unfold Sys2Proof.Machine.State.control
  repeat' first
    | with_reducible assumption
    | with_reducible refine fr_State_answer (hM.sub (by decide)) ?_
    | with_reducible refine fr_ite ?_ ?_
    | split

theorem fr_setEndpointId {m : Nat} {s t : State} {a1} (hM : Cov 550024249344 m) (h : Fr m s t) :
    Fr m s (Sys2Proof.Machine.setEndpointId a1 t) := by
  unfold Sys2Proof.Machine.setEndpointId
  repeat' first
    | with_reducible assumption
    | with_reducible refine fr_State_answer (hM.sub (by decide)) ?_
    | with_reducible refine fr_State_modMg (hM.sub (by decide)) ?_
    | with_reducible refine fr_ite ?_ ?_
    | split

theorem fr_State_pldm {m : Nat} {s t : State} {a1 a2 a3} (hM : Cov 549755813888 m) (h : Fr m s t) :
    Fr m s (Sys2Proof.Machine.State.pldm t a1 a2 a3) := by
  unfold Sys2Proof.Machine.State.pldm
  repeat' first
    | with_reducible assumption
    | with_reducible refine fr_State_answer (hM.sub (by decide)) ?_

theorem fr_State_pldm0 {m : Nat} {s t : State} {a1 a2} (hM : Cov 549755813888 m) (h : Fr m s t) :
    Fr m s (Sys2Proof.Machine.State.pldm0 t a1 a2) := by
  unfold Sys2Proof.Machine.State.pldm0
  repeat' first
    | with_reducible assumption
    | with_reducible refine fr_State_pldm (hM.sub (by decide)) ?_
    | with_reducible refine fr_ite ?_ ?_
    | split

theorem fr_getPldmCommands {m : Nat} {s t : State} {a1} (hM : Cov 549755813888 m) (h : Fr m s t) :
    Fr m s (Sys2Proof.Machine.getPldmCommands a1 t) := by
  unfold Sys2Proof.Machine.getPldmCommands
  repeat' first
    | with_reducible assumption
    | with_reducible refine fr_State_pldm0 (hM.sub (by decide)) ?_
    | with_reducible refine fr_ite ?_ ?_
    | split

theorem fr_getSensorReading {m : Nat} {s t : State} {a1} (hM : Cov 549755813888 m) (h : Fr m s t) :
    Fr m s (Sys2Proof.Machine.getSensorReading a1 t) := by
  unfold Sys2Proof.Machine.getSensorReading
  repeat' first
    | with_reducible assumption
    | with_reducible refine fr_State_pldm (hM.sub (by decide)) ?_
    | with_reducible refine fr_ite ?_ ?_
    | split

theorem fr_getPdr {m : Nat} {s t : State} {a1} (hM : Cov 549755813888 m) (h : Fr m s t) :
    Fr m s (Sys2Proof.Machine.getPdr a1 t) := by
  unfold Sys2Proof.Machine.getPdr
  repeat' first
    | with_reducible assumption
    | with_reducible refine fr_State_pldm (hM.sub (by decide)) ?_
    | with_reducible refine fr_ite ?_ ?_
    | split

theorem fr_State_setPldm {m : Nat} {s t : State} {a1} (hM : Cov 49039857307708443467467104868809893875799651910143705089 m) (h : Fr m s t) :
    Fr m s (Sys2Proof.Machine.State.setPldm t a1) := by
  unfold Sys2Proof.Machine.State.setPldm
  repeat' first
    | with_reducible assumption
    | with_reducible refine fr_State_showUpd (hM.sub (by decide)) ?_
    | with_reducible refine fr_State_modMg (hM.sub (by decide)) ?_

theorem fr_State_pldmBad {m : Nat} {s t : State} {a1} (hM : Cov 549755813888 m) (h : Fr m s t) :
    Fr m s (Sys2Proof.Machine.State.pldmBad t a1) := by
  unfold Sys2Proof.Machine.State.pldmBad
  repeat' first
    | with_reducible assumption
    | with_reducible refine fr_State_pldm (hM.sub (by decide)) ?_

theorem fr_requestUpdate {m : Nat} {s t : State} (hM : Cov 49039857307708443467467104868809893875799652459899518977 m) (h : Fr m s t) :
    Fr m s (Sys2Proof.Machine.requestUpdate t) := by
  unfold Sys2Proof.Machine.requestUpdate
  repeat' first
    | with_reducible assumption
    | with_reducible refine fr_State_pldmBad (hM.sub (by decide)) ?_
    | with_reducible refine fr_State_pldm (hM.sub (by decide)) ?_
    | with_reducible refine fr_State_setPldm (hM.sub (by decide)) ?_
    | with_reducible refine fr_ite ?_ ?_
    | split

theorem fr_passComponentTable {m : Nat} {s t : State} {a1} (hM : Cov 49039857307708443467467104868809893875799652459899518977 m) (h : Fr m s t) :
    Fr m s (Sys2Proof.Machine.passComponentTable a1 t) := by
  unfold Sys2Proof.Machine.passComponentTable
  repeat' first
    | with_reducible assumption
    | with_reducible refine fr_State_pldmBad (hM.sub (by decide)) ?_
    | with_reducible refine fr_State_pldm (hM.sub (by decide)) ?_
    | with_reducible refine fr_State_setPldm (hM.sub (by decide)) ?_
    | with_reducible refine fr_ite ?_ ?_
    | split

theorem fr_updateComponent {m : Nat} {s t : State} {a1 a2} (hM : Cov 49039857307708443467467104868809893875799652459899518977 m) (h : Fr m s t) :
    Fr m s (Sys2Proof.Machine.updateComponent a1 a2 t) := by
  unfold Sys2Proof.Machine.updateComponent
  repeat' first
    | with_reducible assumption
    | with_reducible refine fr_State_pldmBad (hM.sub (by decide)) ?_
    | with_reducible refine fr_State_pldm (hM.sub (by decide)) ?_
    | with_reducible refine fr_State_setPldm (hM.sub (by decide)) ?_
    | with_reducible refine fr_ite ?_ ?_
    | split

theorem fr_requestFirmwareData {m : Nat} {s t : State} {a1 a2} (hM : Cov 49039857307708443467467104868809893875799652459899518977 m) (h : Fr m s t) :
    Fr m s (Sys2Proof.Machine.requestFirmwareData a1 a2 t) := by
  unfold Sys2Proof.Machine.requestFirmwareData
  repeat' first
    | with_reducible assumption
    | with_reducible refine fr_State_pldmBad (hM.sub (by decide)) ?_
    | with_reducible refine fr_State_pldm (hM.sub (by decide)) ?_
    | with_reducible refine fr_State_setPldm (hM.sub (by decide)) ?_
    | with_reducible refine fr_ite ?_ ?_
    | split
    | dsimp only

theorem fr_transferComplete {m : Nat} {s t : State} (hM : Cov 49039857307708443467467104868809893875799652459899518977 m) (h : Fr m s t) :
    Fr m s (Sys2Proof.Machine.transferComplete t) := by
  unfold Sys2Proof.Machine.transferComplete
  repeat' first
    | with_reducible assumption
    | with_reducible refine fr_State_pldmBad (hM.sub (by decide)) ?_
    | with_reducible refine fr_State_pldm (hM.sub (by decide)) ?_
    | with_reducible refine fr_State_setPldm (hM.sub (by decide)) ?_
    | with_reducible refine fr_ite ?_ ?_
    | split
    | dsimp only

theorem fr_State_pldmFail {m : Nat} {s t : State} {a1} (hM : Cov 3482021430789907722297812964287383938961921268603869478925 m) (h : Fr m s t) :
    Fr m s (Sys2Proof.Machine.State.pldmFail t a1) := by
  unfold Sys2Proof.Machine.State.pldmFail
  repeat' first
    | with_reducible assumption
    | with_reducible refine fr_State_pldm (hM.sub (by decide)) ?_
    | with_reducible refine fr_State_setPldm (hM.sub (by decide)) ?_
    | with_reducible refine fr_State_fwRec (hM.sub (by decide)) ?_
    | with_reducible refine fr_ite ?_ ?_
    | split

theorem fr_State_pldmStore {m : Nat} {s t : State} {a1} (hM : Cov 61299821634635554334333881086012367344749564887612522497 m) (h : Fr m s t) :
    Fr m s (Sys2Proof.Machine.State.pldmStore t a1) := by
  unfold Sys2Proof.Machine.State.pldmStore
  repeat' first
    | with_reducible assumption
    | with_reducible refine fr_State_updStore (hM.sub (by decide)) ?_
    | dsimp only

theorem fr_verifyComplete {m : Nat} {s t : State} {a1} (hM : Cov 3494281395116834833164679740504586412430871181581338296333 m) (h : Fr m s t) :
    Fr m s (Sys2Proof.Machine.verifyComplete a1 t) := by
  unfold Sys2Proof.Machine.verifyComplete
  repeat' first
    | with_reducible assumption
    | with_reducible refine fr_State_pldmBad (hM.sub (by decide)) ?_
    | with_reducible refine fr_State_pldmFail (hM.sub (by decide)) ?_
    | with_reducible refine fr_State_modMg (hM.sub (by decide)) ?_
    | with_reducible refine fr_State_setPldm (hM.sub (by decide)) ?_
    | with_reducible refine fr_State_pldm (hM.sub (by decide)) ?_
    | with_reducible refine fr_State_pldmStore (hM.sub (by decide)) ?_
    | with_reducible refine fr_ite ?_ ?_
    | split
    | dsimp only

theorem fr_applyComplete {m : Nat} {s t : State} (hM : Cov 49039857307708443467467104868809893875799652459899518977 m) (h : Fr m s t) :
    Fr m s (Sys2Proof.Machine.applyComplete t) := by
  unfold Sys2Proof.Machine.applyComplete
  repeat' first
    | with_reducible assumption
    | with_reducible refine fr_State_pldmBad (hM.sub (by decide)) ?_
    | with_reducible refine fr_State_pldm (hM.sub (by decide)) ?_
    | with_reducible refine fr_State_setPldm (hM.sub (by decide)) ?_
    | with_reducible refine fr_ite ?_ ?_
    | split
    | dsimp only

theorem fr_activateFirmware {m : Nat} {s t : State} (hM : Cov 25711008708143844408671393477458601640355230606761489890017279 m) (h : Fr m s t) :
    Fr m s (Sys2Proof.Machine.activateFirmware t) := by
  unfold Sys2Proof.Machine.activateFirmware
  repeat' first
    | with_reducible assumption
    | with_reducible refine fr_State_pldmBad (hM.sub (by decide)) ?_
    | with_reducible refine fr_State_pldm (hM.sub (by decide)) ?_
    | with_reducible refine fr_State_setPldm (hM.sub (by decide)) ?_
    | with_reducible refine fr_State_showUpd (hM.sub (by decide)) ?_
    | with_reducible refine fr_State_addStore (hM.sub (by decide)) (hM.sub (by decide)) ?_
    | with_reducible refine fr_State_activateImage (hM.sub (by decide)) ?_
    | with_reducible refine fr_ite ?_ ?_
    | split
    | dsimp only

theorem fr_cancelUpdate {m : Nat} {s t : State} (hM : Cov 49039857307708443467467104868809893875799652459899518977 m) (h : Fr m s t) :
    Fr m s (Sys2Proof.Machine.cancelUpdate t) := by
  unfold Sys2Proof.Machine.cancelUpdate
  repeat' first
    | with_reducible assumption
    | with_reducible refine fr_State_pldm (hM.sub (by decide)) ?_
    | with_reducible refine fr_State_setPldm (hM.sub (by decide)) ?_
    | with_reducible refine fr_ite ?_ ?_
    | split

theorem fr_State_spdm {m : Nat} {s t : State} {a1 a2} (hM : Cov 549755813888 m) (h : Fr m s t) :
    Fr m s (Sys2Proof.Machine.State.spdm t a1 a2) := by
  unfold Sys2Proof.Machine.State.spdm
  repeat' first
    | with_reducible assumption
    | with_reducible refine fr_State_answer (hM.sub (by decide)) ?_
    | with_reducible refine fr_ite ?_ ?_
    | split

theorem fr_State_spdmError {m : Nat} {s t : State} {a1} (hM : Cov 549755813888 m) (h : Fr m s t) :
    Fr m s (Sys2Proof.Machine.State.spdmError t a1) := by
  unfold Sys2Proof.Machine.State.spdmError
  repeat' first
    | with_reducible assumption
    | with_reducible refine fr_State_spdm (hM.sub (by decide)) ?_

theorem fr_State_spdmSigned {m : Nat} {s t : State} {a1 a2} (hM : Cov 1649267441664 m) (h : Fr m s t) :
    Fr m s (Sys2Proof.Machine.State.spdmSigned t a1 a2) := by
  unfold Sys2Proof.Machine.State.spdmSigned
  repeat' first
    | with_reducible assumption
    | with_reducible refine fr_State_signed (hM.sub (by decide)) ?_
    | with_reducible refine fr_State_spdm (hM.sub (by decide)) ?_
    | dsimp only

theorem fr_getCertificate {m : Nat} {s t : State} {a1 a2 a3} (hM : Cov 549755813888 m) (h : Fr m s t) :
    Fr m s (Sys2Proof.Machine.getCertificate a1 a2 a3 t) := by
  unfold Sys2Proof.Machine.getCertificate
  repeat' first
    | with_reducible assumption
    | with_reducible refine fr_State_spdmError (hM.sub (by decide)) ?_
    | with_reducible refine fr_State_spdm (hM.sub (by decide)) ?_
    | with_reducible refine fr_ite ?_ ?_
    | split

theorem fr_challenge {m : Nat} {s t : State} {a1} (hM : Cov 1649267441664 m) (h : Fr m s t) :
    Fr m s (Sys2Proof.Machine.challenge a1 t) := by
  unfold Sys2Proof.Machine.challenge
  repeat' first
    | with_reducible assumption
    | with_reducible refine fr_State_spdmError (hM.sub (by decide)) ?_
    | with_reducible refine fr_State_spdmSigned (hM.sub (by decide)) ?_
    | with_reducible refine fr_ite ?_ ?_
    | split

theorem fr_getMeasurements {m : Nat} {s t : State} {a1 a2} (hM : Cov 1649267441664 m) (h : Fr m s t) :
    Fr m s (Sys2Proof.Machine.getMeasurements a1 a2 t) := by
  unfold Sys2Proof.Machine.getMeasurements
  repeat' first
    | with_reducible assumption
    | with_reducible refine fr_State_spdmSigned (hM.sub (by decide)) ?_
    | with_reducible refine fr_State_spdm (hM.sub (by decide)) ?_
    | with_reducible refine fr_State_spdmError (hM.sub (by decide)) ?_
    | with_reducible refine fr_ite ?_ ?_
    | split
    | dsimp only

theorem fr_vendorRead {m : Nat} {s t : State} {a1} (hM : Cov 25711008708143844408671393477458601640355229453781161411084289 m) (h : Fr m s t) :
    Fr m s (Sys2Proof.Machine.vendorRead a1 t) := by
  unfold Sys2Proof.Machine.vendorRead
  repeat' first
    | with_reducible assumption
    | with_reducible refine fr_State_readReg (hM.sub (by decide)) ?_
    | with_reducible refine fr_State_answer (hM.sub (by decide)) ?_
    | with_reducible refine fr_State_decodeErr (hM.sub (by decide)) ?_
    | with_reducible refine fr_ite ?_ ?_
    | split
    | dsimp only

theorem fr_vendorWrite {m : Nat} {s t : State} {a1 a2} (hM : Cov 25711008708143844408671393477458601640355230606761489890017279 m) (h : Fr m s t) :
    Fr m s (Sys2Proof.Machine.vendorWrite a1 a2 t) := by
  unfold Sys2Proof.Machine.vendorWrite
  repeat' first
    | with_reducible assumption
    | with_reducible refine fr_State_answer (hM.sub (by decide)) ?_
    | with_reducible refine fr_State_regWrite (hM.sub (by decide)) ?_
    | with_reducible refine fr_State_decodeErr (hM.sub (by decide)) ?_
    | with_reducible refine fr_ite ?_ ?_
    | split

theorem fr_execEntdaa {m : Nat} {s t : State} {a1} (hM : Cov 268435456 m) (h : Fr m s t) :
    ∀ u, Sys2Proof.Machine.execEntdaa a1 t = .next u → Fr m s u := by
  intro u e
  cases e
  repeat' first
    | with_reducible assumption
    | with_reducible refine fr_entdaa (hM.sub (by decide)) ?_

theorem fr_execSetdasa {m : Nat} {s t : State} {a1 a2} (hM : Cov 268435456 m) (h : Fr m s t) :
    ∀ u, Sys2Proof.Machine.execSetdasa a1 a2 t = .next u → Fr m s u := by
  intro u e
  cases e
  repeat' first
    | with_reducible assumption
    | with_reducible refine fr_setdasa (hM.sub (by decide)) ?_

theorem fr_execSetEndpointId {m : Nat} {s t : State} {a1} (hM : Cov 550024249344 m) (h : Fr m s t) :
    ∀ u, Sys2Proof.Machine.execSetEndpointId a1 t = .next u → Fr m s u := by
  intro u e
  cases e
  repeat' first
    | with_reducible assumption
    | with_reducible refine fr_setEndpointId (hM.sub (by decide)) ?_

theorem fr_execGetEndpointId {m : Nat} {s t : State} (hM : Cov 549755813888 m) (h : Fr m s t) :
    ∀ u, Sys2Proof.Machine.execGetEndpointId t = .next u → Fr m s u := by
  intro u e
  cases e
  repeat' first
    | with_reducible assumption
    | with_reducible refine fr_State_control (hM.sub (by decide)) ?_

theorem fr_execGetMctpVersionSupport {m : Nat} {s t : State} (hM : Cov 549755813888 m) (h : Fr m s t) :
    ∀ u, Sys2Proof.Machine.execGetMctpVersionSupport t = .next u → Fr m s u := by
  intro u e
  cases e
  repeat' first
    | with_reducible assumption
    | with_reducible refine fr_State_control (hM.sub (by decide)) ?_

theorem fr_execGetMessageTypeSupport {m : Nat} {s t : State} (hM : Cov 549755813888 m) (h : Fr m s t) :
    ∀ u, Sys2Proof.Machine.execGetMessageTypeSupport t = .next u → Fr m s u := by
  intro u e
  cases e
  repeat' first
    | with_reducible assumption
    | with_reducible refine fr_State_control (hM.sub (by decide)) ?_

theorem fr_execGetTid {m : Nat} {s t : State} (hM : Cov 549755813888 m) (h : Fr m s t) :
    ∀ u, Sys2Proof.Machine.execGetTid t = .next u → Fr m s u := by
  intro u e
  cases e
  repeat' first
    | with_reducible assumption
    | with_reducible refine fr_State_pldm0 (hM.sub (by decide)) ?_

theorem fr_execGetPldmVersion {m : Nat} {s t : State} (hM : Cov 549755813888 m) (h : Fr m s t) :
    ∀ u, Sys2Proof.Machine.execGetPldmVersion t = .next u → Fr m s u := by
  intro u e
  cases e
  repeat' first
    | with_reducible assumption
    | with_reducible refine fr_State_pldm0 (hM.sub (by decide)) ?_

theorem fr_execGetPldmTypes {m : Nat} {s t : State} (hM : Cov 549755813888 m) (h : Fr m s t) :
    ∀ u, Sys2Proof.Machine.execGetPldmTypes t = .next u → Fr m s u := by
  intro u e
  cases e
  repeat' first
    | with_reducible assumption
    | with_reducible refine fr_State_pldm0 (hM.sub (by decide)) ?_

theorem fr_execGetPldmCommands {m : Nat} {s t : State} {a1} (hM : Cov 549755813888 m) (h : Fr m s t) :
    ∀ u, Sys2Proof.Machine.execGetPldmCommands a1 t = .next u → Fr m s u := by
  intro u e
  cases e
  repeat' first
    | with_reducible assumption
    | with_reducible refine fr_getPldmCommands (hM.sub (by decide)) ?_

theorem fr_execGetSensorReading {m : Nat} {s t : State} {a1} (hM : Cov 549755813888 m) (h : Fr m s t) :
    ∀ u, Sys2Proof.Machine.execGetSensorReading a1 t = .next u → Fr m s u := by
  intro u e
  cases e
  repeat' first
    | with_reducible assumption
    | with_reducible refine fr_getSensorReading (hM.sub (by decide)) ?_

theorem fr_execGetPdr {m : Nat} {s t : State} {a1} (hM : Cov 549755813888 m) (h : Fr m s t) :
    ∀ u, Sys2Proof.Machine.execGetPdr a1 t = .next u → Fr m s u := by
  intro u e
  cases e
  repeat' first
    | with_reducible assumption
    | with_reducible refine fr_getPdr (hM.sub (by decide)) ?_

theorem fr_execRequestUpdate {m : Nat} {s t : State} (hM : Cov 49039857307708443467467104868809893875799652459899518977 m) (h : Fr m s t) :
    ∀ u, Sys2Proof.Machine.execRequestUpdate t = .next u → Fr m s u := by
  intro u e
  cases e
  repeat' first
    | with_reducible assumption
    | with_reducible refine fr_requestUpdate (hM.sub (by decide)) ?_

theorem fr_execPassComponentTable {m : Nat} {s t : State} {a1} (hM : Cov 49039857307708443467467104868809893875799652459899518977 m) (h : Fr m s t) :
    ∀ u, Sys2Proof.Machine.execPassComponentTable a1 t = .next u → Fr m s u := by
  intro u e
  cases e
  repeat' first
    | with_reducible assumption
    | with_reducible refine fr_passComponentTable (hM.sub (by decide)) ?_

theorem fr_execUpdateComponent {m : Nat} {s t : State} {a1 a2} (hM : Cov 49039857307708443467467104868809893875799652459899518977 m) (h : Fr m s t) :
    ∀ u, Sys2Proof.Machine.execUpdateComponent a1 a2 t = .next u → Fr m s u := by
  intro u e
  cases e
  repeat' first
    | with_reducible assumption
    | with_reducible refine fr_updateComponent (hM.sub (by decide)) ?_

theorem fr_execRequestFirmwareData {m : Nat} {s t : State} {a1 a2} (hM : Cov 49039857307708443467467104868809893875799652459899518977 m) (h : Fr m s t) :
    ∀ u, Sys2Proof.Machine.execRequestFirmwareData a1 a2 t = .next u → Fr m s u := by
  intro u e
  cases e
  repeat' first
    | with_reducible assumption
    | with_reducible refine fr_requestFirmwareData (hM.sub (by decide)) ?_

theorem fr_execTransferComplete {m : Nat} {s t : State} (hM : Cov 49039857307708443467467104868809893875799652459899518977 m) (h : Fr m s t) :
    ∀ u, Sys2Proof.Machine.execTransferComplete t = .next u → Fr m s u := by
  intro u e
  cases e
  repeat' first
    | with_reducible assumption
    | with_reducible refine fr_transferComplete (hM.sub (by decide)) ?_

theorem fr_execVerifyComplete {m : Nat} {s t : State} {a1} (hM : Cov 3494281395116834833164679740504586412430871181581338296333 m) (h : Fr m s t) :
    ∀ u, Sys2Proof.Machine.execVerifyComplete a1 t = .next u → Fr m s u := by
  intro u e
  cases e
  repeat' first
    | with_reducible assumption
    | with_reducible refine fr_verifyComplete (hM.sub (by decide)) ?_

theorem fr_execApplyComplete {m : Nat} {s t : State} (hM : Cov 49039857307708443467467104868809893875799652459899518977 m) (h : Fr m s t) :
    ∀ u, Sys2Proof.Machine.execApplyComplete t = .next u → Fr m s u := by
  intro u e
  cases e
  repeat' first
    | with_reducible assumption
    | with_reducible refine fr_applyComplete (hM.sub (by decide)) ?_

theorem fr_execActivateFirmware {m : Nat} {s t : State} (hM : Cov 25711008708143844408671393477458601640355230606761489890017279 m) (h : Fr m s t) :
    ∀ u, Sys2Proof.Machine.execActivateFirmware t = .next u → Fr m s u := by
  intro u e
  cases e
  repeat' first
    | with_reducible assumption
    | with_reducible refine fr_activateFirmware (hM.sub (by decide)) ?_

theorem fr_execCancelUpdate {m : Nat} {s t : State} (hM : Cov 49039857307708443467467104868809893875799652459899518977 m) (h : Fr m s t) :
    ∀ u, Sys2Proof.Machine.execCancelUpdate t = .next u → Fr m s u := by
  intro u e
  cases e
  repeat' first
    | with_reducible assumption
    | with_reducible refine fr_cancelUpdate (hM.sub (by decide)) ?_

theorem fr_execGetVersion {m : Nat} {s t : State} (hM : Cov 549755813888 m) (h : Fr m s t) :
    ∀ u, Sys2Proof.Machine.execGetVersion t = .next u → Fr m s u := by
  intro u e
  cases e
  repeat' first
    | with_reducible assumption
    | with_reducible refine fr_State_spdm (hM.sub (by decide)) ?_

theorem fr_execGetCapabilities {m : Nat} {s t : State} (hM : Cov 549755813888 m) (h : Fr m s t) :
    ∀ u, Sys2Proof.Machine.execGetCapabilities t = .next u → Fr m s u := by
  intro u e
  cases e
  repeat' first
    | with_reducible assumption
    | with_reducible refine fr_State_spdm (hM.sub (by decide)) ?_

theorem fr_execNegotiateAlgorithms {m : Nat} {s t : State} (hM : Cov 549755813888 m) (h : Fr m s t) :
    ∀ u, Sys2Proof.Machine.execNegotiateAlgorithms t = .next u → Fr m s u := by
  intro u e
  cases e
  repeat' first
    | with_reducible assumption
    | with_reducible refine fr_State_spdm (hM.sub (by decide)) ?_

theorem fr_execGetDigests {m : Nat} {s t : State} (hM : Cov 549755813888 m) (h : Fr m s t) :
    ∀ u, Sys2Proof.Machine.execGetDigests t = .next u → Fr m s u := by
  intro u e
  cases e
  repeat' first
    | with_reducible assumption
    | with_reducible refine fr_State_spdm (hM.sub (by decide)) ?_

theorem fr_execGetCertificate {m : Nat} {s t : State} {a1 a2 a3} (hM : Cov 549755813888 m) (h : Fr m s t) :
    ∀ u, Sys2Proof.Machine.execGetCertificate a1 a2 a3 t = .next u → Fr m s u := by
  intro u e
  cases e
  repeat' first
    | with_reducible assumption
    | with_reducible refine fr_getCertificate (hM.sub (by decide)) ?_

theorem fr_execChallenge {m : Nat} {s t : State} {a1} (hM : Cov 1649267441664 m) (h : Fr m s t) :
    ∀ u, Sys2Proof.Machine.execChallenge a1 t = .next u → Fr m s u := by
  intro u e
  cases e
  repeat' first
    | with_reducible assumption
    | with_reducible refine fr_challenge (hM.sub (by decide)) ?_

theorem fr_execGetMeasurements {m : Nat} {s t : State} {a1} (hM : Cov 1649267441664 m) (h : Fr m s t) :
    ∀ u, Sys2Proof.Machine.execGetMeasurements a1 t = .next u → Fr m s u := by
  intro u e
  cases e
  repeat' first
    | with_reducible assumption
    | with_reducible refine fr_getMeasurements (hM.sub (by decide)) ?_

theorem fr_execUnsupportedRequest {m : Nat} {s t : State} {a1} (hM : Cov 549755813888 m) (h : Fr m s t) :
    ∀ u, Sys2Proof.Machine.execUnsupportedRequest a1 t = .next u → Fr m s u := by
  intro u e
  cases e
  repeat' first
    | with_reducible assumption
    | with_reducible refine fr_State_spdmError (hM.sub (by decide)) ?_

theorem fr_execVendorRegisterRead {m : Nat} {s t : State} {a1} (hM : Cov 25711008708143844408671393477458601640355229453781161411084289 m) (h : Fr m s t) :
    ∀ u, Sys2Proof.Machine.execVendorRegisterRead a1 t = .next u → Fr m s u := by
  intro u e
  cases e
  repeat' first
    | with_reducible assumption
    | with_reducible refine fr_vendorRead (hM.sub (by decide)) ?_

theorem fr_execVendorRegisterWrite {m : Nat} {s t : State} {a1 a2} (hM : Cov 25711008708143844408671393477458601640355230606761489890017279 m) (h : Fr m s t) :
    ∀ u, Sys2Proof.Machine.execVendorRegisterWrite a1 a2 t = .next u → Fr m s u := by
  intro u e
  cases e
  repeat' first
    | with_reducible assumption
    | with_reducible refine fr_vendorWrite (hM.sub (by decide)) ?_

end Sys2Proof.Laws
end

