-- ==== Sys2Proof/Laws/FrameSpire.lean ====
section
/-! SUPPORT. What the functions of Machine/Spire.lean may change. -/

namespace Sys2Proof.Laws

open Sys2Proof.Machine

theorem fr_State_mgmtAnswer {m : Nat} {s t : State} {a1 a2 a3} (hM : Cov 65334214448820184984967924626899497123841 m) (h : Fr m s t) :
    Fr m s (Sys2Proof.Machine.State.mgmtAnswer t a1 a2 a3) := by
  unfold Sys2Proof.Machine.State.mgmtAnswer
  repeat' first
    | with_reducible assumption
    | with_reducible refine fr_State_inject (hM.sub (by decide)) ?_
    | with_reducible refine fr_ite ?_ ?_
    | split
    | dsimp only

theorem fr_State_mgmtRefuse {m : Nat} {s t : State} {a1 a2} (hM : Cov 5640520514081475970368897492788989873618945 m) (h : Fr m s t) :
    Fr m s (Sys2Proof.Machine.State.mgmtRefuse t a1 a2) := by
  unfold Sys2Proof.Machine.State.mgmtRefuse
  repeat' first
    | with_reducible assumption
    | with_reducible refine fr_State_mgmtAnswer (hM.sub (by decide)) ?_
    | with_reducible refine fr_State_fc (hM.sub (by decide)) ?_

theorem fr_State_mgmtRequest {m : Nat} {s t : State} {a1} (hM : Cov 25711008708143844408671393477458601640355230606761489890017279 m) (h : Fr m s t) :
    Fr m s (Sys2Proof.Machine.State.mgmtRequest t a1) := by
  unfold Sys2Proof.Machine.State.mgmtRequest
  repeat' first
    | with_reducible assumption
    | with_reducible refine fr_State_mgmtRefuse (hM.sub (by decide)) ?_
    | with_reducible refine fr_State_fs (hM.sub (by decide)) ?_
    | with_reducible refine fr_State_mgmtAnswer (hM.sub (by decide)) ?_
    | with_reducible refine fr_State_decodeErr (hM.sub (by decide)) ?_
    | with_reducible refine fr_State_readReg (hM.sub (by decide)) ?_
    | with_reducible refine fr_State_regWrite (hM.sub (by decide)) ?_
    | with_reducible refine fr_ite ?_ ?_
    | split
    | dsimp only

theorem fr_State_mgmtReply {m : Nat} {s t : State} {a1} (hM : Cov 1393796574908163946345982392040526889091073 m) (h : Fr m s t) :
    Fr m s (Sys2Proof.Machine.State.mgmtReply t a1) := by
  unfold Sys2Proof.Machine.State.mgmtReply
  repeat' first
    | with_reducible assumption
    | with_reducible refine fr_State_fs (hM.sub (by decide)) ?_
    | with_reducible refine fr_ite ?_ ?_
    | split
    | dsimp only
    | with_reducible refine fr_set_termSeen (hM.sub (by decide)) ?_

theorem fr_State_heartbeatIn {m : Nat} {s t : State} {a1} (hM : Cov 17598628495360 m) (h : Fr m s t) :
    Fr m s (Sys2Proof.Machine.State.heartbeatIn t a1) := by
  unfold Sys2Proof.Machine.State.heartbeatIn
  repeat' first
    | with_reducible assumption
    | with_reducible refine fr_ite ?_ ?_
    | split
    | with_reducible refine fr_set_hbMissed_termSeen_hbSeen (hM.sub (by decide)) ?_
    | with_reducible refine fr_set_hbMissed_termSeen (hM.sub (by decide)) ?_

theorem fr_State_mgmtTake {m : Nat} {s t : State} {a1} (hM : Cov 25711008708143844408671393477458601640355230606761489890017279 m) (h : Fr m s t) :
    Fr m s (Sys2Proof.Machine.State.mgmtTake t a1) := by
  unfold Sys2Proof.Machine.State.mgmtTake
  repeat' first
    | with_reducible assumption
    | with_reducible refine fr_State_mgmtRequest (hM.sub (by decide)) ?_
    | with_reducible refine fr_State_mgmtReply (hM.sub (by decide)) ?_
    | with_reducible refine fr_State_heartbeatIn (hM.sub (by decide)) ?_
    | with_reducible refine fr_ite ?_ ?_
    | split

theorem fr_mgmtPacket {m : Nat} {s t : State} {a1 a2} (hM : Cov 25711008708143844408671393477458601640355230606761489890017279 m) (h : Fr m s t) :
    Fr m s (Sys2Proof.Machine.mgmtPacket a1 a2 t) := by
  unfold Sys2Proof.Machine.mgmtPacket
  repeat' first
    | with_reducible assumption
    | with_reducible refine fr_State_mgmtTake (hM.sub (by decide)) ?_
    | with_reducible refine fr_State_takeArrived (hM.sub (by decide)) ?_
    | with_reducible refine fr_ite ?_ ?_
    | split

theorem fr_State_forwardSr {m : Nat} {s t : State} {a1} (hM : Cov 359599516326306298157263457146455379039879169 m) (h : Fr m s t) :
    Fr m s (Sys2Proof.Machine.State.forwardSr t a1) := by
  unfold Sys2Proof.Machine.State.forwardSr
  repeat' first
    | with_reducible assumption
    | with_reducible refine fr_State_fc (hM.sub (by decide)) ?_
    | with_reducible refine fr_State_enqueue (hM.sub (by decide)) ?_
    | with_reducible refine fr_ite ?_ ?_
    | split
    | dsimp only

theorem fr_mgmtSr {m : Nat} {s t : State} {a1} (hM : Cov 25711008708143844408671393477458601640355230606761489890017279 m) (h : Fr m s t) :
    Fr m s (Sys2Proof.Machine.mgmtSr a1 t) := by
  unfold Sys2Proof.Machine.mgmtSr
  repeat' first
    | with_reducible assumption
    | with_reducible refine fr_State_takeArrived (hM.sub (by decide)) ?_
    | with_reducible refine fr_State_fc (hM.sub (by decide)) ?_
    | with_reducible refine fr_State_mgmtTake (hM.sub (by decide)) ?_
    | with_reducible refine fr_State_forwardSr (hM.sub (by decide)) ?_
    | with_reducible refine fr_ite ?_ ?_
    | split
    | dsimp only

theorem fr_State_mgmtSend {m : Nat} {s t : State} {a1 a2 a3 a4} (hM : Cov 43556142965880123323311949751266331590657 m) (h : Fr m s t) :
    Fr m s (Sys2Proof.Machine.State.mgmtSend t a1 a2 a3 a4) := by
  unfold Sys2Proof.Machine.State.mgmtSend
  repeat' first
    | with_reducible assumption
    | with_reducible refine fr_State_inject (hM.sub (by decide)) ?_

theorem fr_heartbeatSend {m : Nat} {s t : State} (hM : Cov 1437352717874044069669294341791788925714433 m) (h : Fr m s t) :
    Fr m s (Sys2Proof.Machine.heartbeatSend t) := by
  unfold Sys2Proof.Machine.heartbeatSend
  repeat' first
    | with_reducible assumption
    | with_reducible refine fr_State_mgmtSend (hM.sub (by decide)) ?_
    | with_reducible refine fr_ite ?_ ?_
    | split

theorem fr_State_spireWrite {m : Nat} {s t : State} {a1 a2} (hM : Cov 357116816177251131127834676010633198171717633 m) (h : Fr m s t) :
    Fr m s (Sys2Proof.Machine.State.spireWrite t a1 a2) := by
  unfold Sys2Proof.Machine.State.spireWrite
  repeat' first
    | with_reducible assumption
    | with_reducible refine fr_State_writeEpoch (hM.sub (by decide)) ?_
    | with_reducible refine fr_State_mgmtSend (hM.sub (by decide)) ?_
    | with_reducible refine fr_ite ?_ ?_
    | split

theorem fr_State_finishEpoch {m : Nat} {s t : State} {a1 a2} (hM : Cov 357116816177251131127834676010633198171717633 m) (h : Fr m s t) :
    Fr m s (Sys2Proof.Machine.State.finishEpoch t a1 a2) := by
  unfold Sys2Proof.Machine.State.finishEpoch
  repeat' first
    | with_reducible assumption
    | with_reducible refine fr_State_spireWrite (hM.sub (by decide)) ?_
    | with_reducible refine fr_ite ?_ ?_
    | with_reducible refine fr_foldl ?_ (fun _ _ _ => ?_)
    | with_reducible refine fr_foldl_fst ?_ (fun _ _ _ => ?_)
    | with_reducible refine fr_foldl_snd ?_ (fun _ _ _ => ?_)
    | split
    | dsimp only

theorem fr_spireTakeover {m : Nat} {s t : State} {a1 a2} (hM : Cov 358510612752159295074180658402726503766425601 m) (h : Fr m s t) :
    Fr m s (Sys2Proof.Machine.spireTakeover a1 a2 t) := by
  unfold Sys2Proof.Machine.spireTakeover
  repeat' first
    | with_reducible assumption
    | with_reducible refine fr_State_mgmtSend (hM.sub (by decide)) ?_
    | with_reducible refine fr_State_fs (hM.sub (by decide)) ?_
    | with_reducible refine fr_State_finishEpoch (hM.sub (by decide)) ?_
    | with_reducible refine fr_ite ?_ ?_
    | with_reducible refine fr_foldl ?_ (fun _ _ _ => ?_)
    | with_reducible refine fr_foldl_fst ?_ (fun _ _ _ => ?_)
    | with_reducible refine fr_foldl_snd ?_ (fun _ _ _ => ?_)
    | split
    | dsimp only
    | with_reducible refine fr_set_hbMissed_termSeen_hbSeen_spireTerm (hM.sub (by decide)) ?_
    | with_reducible refine fr_set_hbMissed_termSeen (hM.sub (by decide)) ?_

theorem fr_State_hbTick {m : Nat} {s t : State} (hM : Cov 17594333528064 m) (h : Fr m s t) :
    Fr m s (Sys2Proof.Machine.State.hbTick t) := by
  unfold Sys2Proof.Machine.State.hbTick
  repeat' first
    | with_reducible assumption
    | with_reducible refine fr_ite ?_ ?_
    | split
    | with_reducible refine fr_set_hbMissed_hbSeen (hM.sub (by decide)) ?_
    | with_reducible refine fr_set_hbMissed (hM.sub (by decide)) ?_

theorem fr_execMgmtRead {m : Nat} {s t : State} {a1} (hM : Cov 25711008708143844408671393477458601640355230606761489890017279 m) (h : Fr m s t) :
    ∀ u, Sys2Proof.Machine.execMgmtRead a1 t = .next u → Fr m s u := by
  intro u e
  cases e
  repeat' first
    | with_reducible assumption
    | with_reducible refine fr_mgmtPacket (hM.sub (by decide)) ?_

theorem fr_execMgmtWrite {m : Nat} {s t : State} {a1} (hM : Cov 25711008708143844408671393477458601640355230606761489890017279 m) (h : Fr m s t) :
    ∀ u, Sys2Proof.Machine.execMgmtWrite a1 t = .next u → Fr m s u := by
  intro u e
  cases e
  repeat' first
    | with_reducible assumption
    | with_reducible refine fr_mgmtPacket (hM.sub (by decide)) ?_

theorem fr_execMgmtResponse {m : Nat} {s t : State} {a1} (hM : Cov 25711008708143844408671393477458601640355230606761489890017279 m) (h : Fr m s t) :
    ∀ u, Sys2Proof.Machine.execMgmtResponse a1 t = .next u → Fr m s u := by
  intro u e
  cases e
  repeat' first
    | with_reducible assumption
    | with_reducible refine fr_mgmtPacket (hM.sub (by decide)) ?_

theorem fr_execHeartbeat {m : Nat} {s t : State} {a1} (hM : Cov 25711008708143844408671393477458601640355230606761489890017279 m) (h : Fr m s t) :
    ∀ u, Sys2Proof.Machine.execHeartbeat a1 t = .next u → Fr m s u := by
  intro u e
  cases e
  repeat' first
    | with_reducible assumption
    | with_reducible refine fr_mgmtPacket (hM.sub (by decide)) ?_

theorem fr_execMgmtSr {m : Nat} {s t : State} {a1} (hM : Cov 25711008708143844408671393477458601640355230606761489890017279 m) (h : Fr m s t) :
    ∀ u, Sys2Proof.Machine.execMgmtSr a1 t = .next u → Fr m s u := by
  intro u e
  cases e
  repeat' first
    | with_reducible assumption
    | with_reducible refine fr_mgmtSr (hM.sub (by decide)) ?_

theorem fr_execHeartbeatSend {m : Nat} {s t : State} (hM : Cov 1437352717874044069669294341791788925714433 m) (h : Fr m s t) :
    ∀ u, Sys2Proof.Machine.execHeartbeatSend t = .next u → Fr m s u := by
  intro u e
  cases e
  repeat' first
    | with_reducible assumption
    | with_reducible refine fr_heartbeatSend (hM.sub (by decide)) ?_

theorem fr_execSpireTakeover {m : Nat} {s t : State} {a1 a2} (hM : Cov 358510612752159295074180658402726503766425601 m) (h : Fr m s t) :
    ∀ u, Sys2Proof.Machine.execSpireTakeover a1 a2 t = .next u → Fr m s u := by
  intro u e
  cases e
  repeat' first
    | with_reducible assumption
    | with_reducible refine fr_spireTakeover (hM.sub (by decide)) ?_

end Sys2Proof.Laws
end

