-- ==== Sys2Proof/Laws/FramePackage.lean ====
section
/-! SUPPORT. What the functions of Machine/Package.lean may change. -/

namespace Sys2Proof.Laws

open Sys2Proof.Machine

theorem fr_State_showHottest {m : Nat} {s t : State} (hM : Cov 3064991081731777716716694054300618367237479343878832129 m) (h : Fr m s t) :
    Fr m s (Sys2Proof.Machine.State.showHottest t) := by
  unfold Sys2Proof.Machine.State.showHottest
  repeat' first
    | with_reducible assumption
    | with_reducible refine fr_State_free (hM.sub (by decide)) ?_
    | with_reducible refine fr_State_fs (hM.sub (by decide)) ?_
    | with_reducible refine fr_ite ?_ ?_
    | split
    | dsimp only

theorem fr_sensorSample {m : Nat} {s t : State} {a1 a2} (hM : Cov 3064991081731777716716694054300618367237479343878930433 m) (h : Fr m s t) :
    Fr m s (Sys2Proof.Machine.sensorSample a1 a2 t) := by
  unfold Sys2Proof.Machine.sensorSample
  repeat' first
    | with_reducible assumption
    | with_reducible refine fr_State_showHottest (hM.sub (by decide)) ?_
    | with_reducible refine fr_ite ?_ ?_
    | with_reducible refine fr_foldl ?_ (fun _ _ _ => ?_)
    | with_reducible refine fr_foldl_fst ?_ (fun _ _ _ => ?_)
    | with_reducible refine fr_foldl_snd ?_ (fun _ _ _ => ?_)
    | split
    | dsimp only
    | with_reducible refine fr_set_temps_volts (hM.sub (by decide)) ?_

theorem fr_thermalTrip {m : Nat} {s t : State} {a1} (hM : Cov 61299821634635554334333881086012367344749565437905207297 m) (h : Fr m s t) :
    Fr m s (Sys2Proof.Machine.thermalTrip a1 t) := by
  unfold Sys2Proof.Machine.thermalTrip
  repeat' first
    | with_reducible assumption
    | with_reducible refine fr_State_emit (hM.sub (by decide)) ?_
    | with_reducible refine fr_State_loseStores (hM.sub (by decide)) ?_
    | with_reducible refine fr_ite ?_ ?_
    | split
    | dsimp only
    | with_reducible refine fr_set_pw (hM.sub (by decide)) ?_

theorem fr_State_tapIs {m : Nat} {s t : State} {a1} (hM : Cov 536870912 m) (h : Fr m s t) :
    Fr m s (Sys2Proof.Machine.State.tapIs t a1) := by
  unfold Sys2Proof.Machine.State.tapIs
  repeat' first
    | with_reducible assumption
    | with_reducible refine fr_set_pw (hM.sub (by decide)) ?_

theorem fr_jtag {m : Nat} {s t : State} {a1} (hM : Cov 550292684800 m) (h : Fr m s t) :
    ∀ u, Sys2Proof.Machine.jtag a1 t = .next u → Fr m s u := by
  intro u e
  cases a1 with
  | bypass => cases e; exact fr_State_tapIs (hM.sub (by decide)) h
  | idcode => cases e; exact fr_State_emit (hM.sub (by decide)) (fr_State_tapIs (hM.sub (by decide)) h)
  | samplePreload => cases e; exact fr_State_tapIs (hM.sub (by decide)) h
  | extest => cases e; exact fr_State_tapIs (hM.sub (by decide)) h
  | other code =>
    simp only [Sys2Proof.Machine.jtag] at e
    split at e
    · cases e
    · cases e; exact fr_State_tapIs (hM.sub (by decide)) h

theorem fr_trstN {m : Nat} {s t : State} (hM : Cov 536870912 m) (h : Fr m s t) :
    Fr m s (Sys2Proof.Machine.trstN t) := by
  unfold Sys2Proof.Machine.trstN
  repeat' first
    | with_reducible assumption
    | with_reducible refine fr_set_pw (hM.sub (by decide)) ?_

theorem fr_State_passUs {m : Nat} {s t : State} (hM : Cov 12855504354071922204335696738729300820177623950271138775433217 m) (h : Fr m s t) :
    Fr m s (Sys2Proof.Machine.State.passUs t) := by
  unfold Sys2Proof.Machine.State.passUs
  repeat' first
    | with_reducible assumption
    | with_reducible refine fr_State_fs (hM.sub (by decide)) ?_
    | with_reducible refine fr_set_us (hM.sub (by decide)) ?_

theorem fr_State_tick {m : Nat} {s t : State} (hM : Cov 25711008708143844408671393477458601640355230606770285983039487 m) (h : Fr m s t) :
    Fr m s (Sys2Proof.Machine.State.tick t) := by
  unfold Sys2Proof.Machine.State.tick
  repeat' first
    | with_reducible assumption
    | with_reducible refine fr_State_passUs (hM.sub (by decide)) ?_
    | with_reducible refine fr_State_hbTick (hM.sub (by decide)) ?_
    | with_reducible refine fr_State_idleGo (hM.sub (by decide)) ?_
    | with_reducible refine fr_State_handGo (hM.sub (by decide)) ?_
    | with_reducible refine fr_State_diesBack (hM.sub (by decide)) ?_
    | with_reducible refine fr_State_settle (hM.sub (by decide)) ?_
    | with_reducible refine fr_State_raiseRate (hM.sub (by decide)) ?_
    | with_reducible refine fr_ite ?_ ?_
    | with_reducible refine fr_foldl ?_ (fun _ _ _ => ?_)
    | with_reducible refine fr_foldl_fst ?_ (fun _ _ _ => ?_)
    | with_reducible refine fr_foldl_snd ?_ (fun _ _ _ => ?_)
    | split
    | dsimp only

theorem fr_execSensorSample {m : Nat} {s t : State} {a1 a2} (hM : Cov 3064991081731777716716694054300618367237479343878930433 m) (h : Fr m s t) :
    ∀ u, Sys2Proof.Machine.execSensorSample a1 a2 t = .next u → Fr m s u := by
  intro u e
  cases e
  repeat' first
    | with_reducible assumption
    | with_reducible refine fr_sensorSample (hM.sub (by decide)) ?_

theorem fr_execThermalTrip {m : Nat} {s t : State} {a1} (hM : Cov 61299821634635554334333881086012367344749565437905207297 m) (h : Fr m s t) :
    ∀ u, Sys2Proof.Machine.execThermalTrip a1 t = .next u → Fr m s u := by
  intro u e
  cases e
  repeat' first
    | with_reducible assumption
    | with_reducible refine fr_thermalTrip (hM.sub (by decide)) ?_

theorem fr_execJtagInstruction {m : Nat} {s t : State} {a1} (hM : Cov 550292684800 m) (h : Fr m s t) :
    ∀ u, Sys2Proof.Machine.execJtagInstruction a1 t = .next u → Fr m s u :=
  fun u e => fr_jtag hM h u e

theorem fr_execTrstN {m : Nat} {s t : State} (hM : Cov 536870912 m) (h : Fr m s t) :
    ∀ u, Sys2Proof.Machine.execTrstN t = .next u → Fr m s u := by
  intro u e
  cases e
  repeat' first
    | with_reducible assumption
    | with_reducible refine fr_trstN (hM.sub (by decide)) ?_

end Sys2Proof.Laws
end

