-- ==== Sys2Proof/Laws/FrameTight.lean ====
section
/-! SUPPORT. Frames of commands whose operands say that nothing is damaged, or which update operation they carry: narrower than those of their
meanings in general. -/

namespace Sys2Proof.Laws

open Sys2Proof Sys2Proof.Machine

/-! ### Reads that meet nothing -/

theorem fr_listMet_nil {m : Nat} {s t : State} {l op} (h : Fr m s t) : Fr m s (t.listMet l [] op) := h

theorem fr_streamMet_nil {m : Nat} {s t : State} {c l op} (hM : Cov 2535301200456458802993406410753 m) (h : Fr m s t) :
    Fr m s (t.streamMet c l [] op) := fr_State_fc hM h

/-! ### Setups and descriptors -/

theorem fr_vecSetup_nil {m : Nat} {s t : State} {a1} (hM : Cov 85070591730234615865843651857942052897 m) (h : Fr m s t) :
    Fr m s (Sys2Proof.Machine.vecSetup a1 [] t) := by
  unfold Sys2Proof.Machine.vecSetup
  repeat' first
    | with_reducible assumption
    | with_reducible refine fr_State_vecStop (hM.sub (by decide)) ?_
    | with_reducible refine fr_State_stray (hM.sub (by decide)) ?_
    | with_reducible refine fr_listMet_nil ?_
    | with_reducible refine fr_State_modRun (hM.sub (by decide)) ?_
    | with_reducible refine fr_ite ?_ ?_
    | split
    | dsimp only

theorem fr_matrixSetup_nil {m : Nat} {s t : State} {a1 a2} (hM : Cov 85070733707101841427536619488701055009 m) (h : Fr m s t) :
    Fr m s (Sys2Proof.Machine.matrixSetup a1 a2 [] t) := by
  unfold Sys2Proof.Machine.matrixSetup
  repeat' first
    | with_reducible assumption
    | with_reducible refine fr_State_endSetup (hM.sub (by decide)) ?_
    | with_reducible refine fr_State_stray (hM.sub (by decide)) ?_
    | with_reducible refine fr_listMet_nil ?_
    | with_reducible refine fr_State_setRun (hM.sub (by decide)) ?_
    | with_reducible refine fr_State_sticky (hM.sub (by decide)) ?_
    | with_reducible refine fr_State_modRun (hM.sub (by decide)) ?_
    | with_reducible refine fr_ite ?_ ?_
    | split
    | dsimp only

theorem fr_takeDesc_nil {m : Nat} {s t : State} {a1 a2 a3} (hM : Cov 85070594423992141350831131137947992161 m) (h : Fr m s t) :
    Fr m s (Sys2Proof.Machine.takeDesc a1 a2 a3 [] t) := by
  unfold Sys2Proof.Machine.takeDesc
  repeat' first
    | with_reducible assumption
    | with_reducible refine fr_State_fc (hM.sub (by decide)) ?_
    | with_reducible refine fr_streamMet_nil (hM.sub (by decide)) ?_
    | with_reducible refine fr_State_stopStream (hM.sub (by decide)) ?_
    | with_reducible refine fr_State_stray (hM.sub (by decide)) ?_
    | with_reducible refine fr_State_bufOf (hM.sub (by decide)) ?_
    | with_reducible refine fr_State_modRun (hM.sub (by decide)) ?_
    | with_reducible refine fr_State_modCtx (hM.sub (by decide)) ?_
    | with_reducible refine fr_ite ?_ ?_
    | split
    | dsimp only

theorem fr_indexTake_nil {m : Nat} {s t : State} {a1} (hM : Cov 85070596801417302352767900840903049313 m) (h : Fr m s t) :
    Fr m s (Sys2Proof.Machine.indexTake a1 [] t) := by
  unfold Sys2Proof.Machine.indexTake
  repeat' first
    | with_reducible assumption
    | with_reducible refine fr_takeVector (hM.sub (by decide)) ?_
    | with_reducible refine fr_vecSetup_nil (hM.sub (by decide)) ?_
    | with_reducible refine fr_State_takeMatrix (hM.sub (by decide)) ?_
    | with_reducible refine fr_ite ?_ ?_
    | split

/-! ### Undistributed vector operations -/

theorem fr_soleRun_nil {m : Nat} {s t : State} {a1 a2 f4} (hM : Cov 85070751454210246985084404756364919661 m) (h : Fr m s t)
    (h4 : ∀ v u, Fr m s u → Fr m s (f4 v u)) :
    Fr m s (Sys2Proof.Machine.soleRun a1 a2 [] t f4) := by
  unfold Sys2Proof.Machine.soleRun
  repeat' first
    | with_reducible assumption
    | with_reducible refine h4 _ _ ?_
    | with_reducible refine fr_vecSetup_nil (hM.sub (by decide)) ?_
    | with_reducible refine fr_soleOn (hM.sub (by decide)) ?_ (fun _ _ _ => ?_)
    | with_reducible refine fr_State_formReads (hM.sub (by decide)) ?_
    | with_reducible refine fr_State_modCore (hM.sub (by decide)) ?_
    | with_reducible refine fr_ite ?_ ?_
    | split
    | dsimp only

theorem fr_execMatrix_ok {m : Nat} {s t : State} {q} (hM : Cov 85070733707101841427536619488701055009 m) (h : Fr m s t) :
    ∀ u, execMatrix q [] t = .next u → Fr m s u := by
  intro u e
  cases e
  exact fr_matrixSetup_nil hM h

theorem fr_execDecant_ok {m : Nat} {s t : State} {q} (hM : Cov 85070733707101841427536619488701055009 m) (h : Fr m s t) :
    ∀ u, execDecant q [] t = .next u → Fr m s u := by
  intro u e
  cases e
  exact fr_matrixSetup_nil hM h

theorem fr_execIndexTake_ok {m : Nat} {s t : State} {c} (hM : Cov 85070596801417302352767900840903049313 m) (h : Fr m s t) :
    ∀ u, execIndexTake ⟨c, []⟩ t = .next u → Fr m s u := by
  intro u e
  cases e
  exact fr_indexTake_nil hM h

theorem fr_execAccred_ok {m : Nat} {s t : State} {c} (hM : Cov 85070751454210246985084404756364919661 m) (h : Fr m s t) :
    ∀ u, execAccred ⟨c, []⟩ t = .next u → Fr m s u := by
  intro u e
  cases e
  exact fr_soleRun_nil hM h (fun _ _ k => k)

theorem fr_execAmaxSave_ok {m : Nat} {s t : State} {c} (hM : Cov 85070751454210246985084404756364919661 m) (h : Fr m s t) :
    ∀ u, execAmaxSave ⟨c, []⟩ t = .next u → Fr m s u := by
  intro u e
  cases e
  exact fr_soleRun_nil hM h (fun _ _ k => k)

theorem fr_execScaleSave_ok {m : Nat} {s t : State} {c} (hM : Cov 85070751454210246985084404756364919661 m) (h : Fr m s t) :
    ∀ u, execScaleSave ⟨c, []⟩ t = .next u → Fr m s u := by
  intro u e
  cases e
  exact fr_soleRun_nil hM h (fun _ _ k => k)

theorem fr_execScaleLoad_ok {m : Nat} {s t : State} {c} (hM : Cov 85070751454210246985084404756364919661 m) (h : Fr m s t) :
    ∀ u, execScaleLoad ⟨c, []⟩ t = .next u → Fr m s u := by
  intro u e
  cases e
  exact fr_soleRun_nil hM h (fun _ _ k => k)

theorem scaleMet_ok (tag : Nat) (v : Vod) (u : State) : State.scaleMet .ok tag v u = u := by
  unfold State.scaleMet State.scaleEcc State.ctlMet
  split <;> rfl

theorem devMet_ok (tag : Nat) (v : Vod) (u : State) : State.devMet .ok tag v u = u := by
  unfold State.devMet State.ctlMet
  split <;> rfl

theorem fr_execAmaxPush_ok {m : Nat} {s t : State} {c tag} (hM : Cov 85070751454210246985084404756364919661 m) (h : Fr m s t) :
    ∀ u, execAmaxPush ⟨c, tag, .ok, []⟩ t = .next u → Fr m s u := by
  intro u e
  cases e
  exact fr_soleRun_nil hM h (fun _ _ k => by rw [scaleMet_ok]; exact k)

theorem fr_execDevSave_ok {m : Nat} {s t : State} {c tag} (hM : Cov 85070751454210246985084404756364919661 m) (h : Fr m s t) :
    ∀ u, execDevSave ⟨c, tag, .ok, []⟩ t = .next u → Fr m s u := by
  intro u e
  cases e
  exact fr_soleRun_nil hM h (fun _ _ k => by rw [devMet_ok]; exact k)

theorem fr_execStrided_ok {m : Nat} {s t : State} {c x} (hM : Cov 85070594423992141350831131137947992161 m) (h : Fr m s t) :
    ∀ u, execStrided c x t = .next u → Fr m s u := by
  intro u e
  cases e
  exact fr_takeDesc_nil hM h

theorem fr_execGather_ok {m : Nat} {s t : State} {c x} (hM : Cov 85070594423992141350831131137947992161 m) (h : Fr m s t) :
    ∀ u, execGather c x t = .next u → Fr m s u := by
  intro u e
  cases e
  exact fr_takeDesc_nil hM h

theorem fr_execScatter_ok {m : Nat} {s t : State} {c x} (hM : Cov 85070594423992141350831131137947992161 m) (h : Fr m s t) :
    ∀ u, execScatter c x t = .next u → Fr m s u := by
  intro u e
  cases e
  exact fr_takeDesc_nil hM h

theorem fr_execConvert_ok {m : Nat} {s t : State} {c x} (hM : Cov 85070594423992141350831131137947992161 m) (h : Fr m s t) :
    ∀ u, execConvert c ⟨x, []⟩ t = .next u → Fr m s u := by
  intro u e
  cases e
  exact fr_takeDesc_nil hM h

/-! ### Words that read well -/

theorem queueMet_ok (s : State) (who : Req) (q : Nat) : s.queueMet who q .ok = s := by
  unfold State.queueMet
  split <;> rfl

theorem wordMet_ok (s : State) (who : Req) (a : Nat) : s.wordMet who a .ok = s := by
  have k : ∀ u i x f, s.ctlMet .ok u i x f = s := fun _ _ _ _ => rfl
  unfold State.wordMet
  simp only [k]
  repeat' split
  all_goals rfl

theorem fr_execDoorbell_ok {m : Nat} {s t : State} {who q w v} (hM : Cov 401734511064747568885490876972773415144896305477338647232525 m) (h : Fr m s t) :
    ∀ u, execDoorbell who ⟨q, .ok⟩ w v t = .next u → Fr m s u := by
  intro u e
  cases e
  dsimp only
  rw [queueMet_ok]
  exact fr_State_idleGo (hM.sub (by decide)) (fr_doorbell (hM.sub (by decide)) h)

theorem fr_execReadClear_ok {m : Nat} {s t : State} {who a} (hM : Cov 25711008708143844408671393477458601640355229453781161562079233 m) (h : Fr m s t) :
    ∀ u, execReadClear who ⟨a, .ok⟩ t = .next u → Fr m s u := by
  intro u e
  cases e
  dsimp only
  rw [wordMet_ok]
  exact fr_readClear hM h

/-! ### Updates and management packets of one operation -/

theorem fr_writeUpd_op {m : Nat} {s t : State} {op who v chk} (hop : bitsOf v 48 3 = op) (h0 : Fr m s t.updRefused)
    (h1 : op = 1 → Fr m s (t.stageImage who v chk)) (h3 : op = 3 → Fr m s (t.commitSvn (bitsOf v 51 2)))
    (h4 : op = 4 → Fr m s (t.revokeKey (bitsOf v 53 2))) (h : Fr m s t) (h2 : op = 1 ∨ op = 3 ∨ op = 4) : Fr m s (t.writeUpd who v chk) := by
  unfold State.writeUpd
  rw [hop]
  dsimp only
  split
  · exact h
  split
  · exact h0
  split
  · exact h4 ‹_›
  split
  · exact h0
  split
  · exact h1 rfl
  · exact absurd h2 (by decide)
  · rename_i n _ _ n1 _
    rcases h2 with e | e | e
    · exact absurd e n1
    · exact h3 e
    · exact absurd e n

theorem fr_execStage_op {m : Nat} {s t : State} {who v chk} (hM : Cov 3494281395116834833164679740504586412430871181031582482445 m)
    (h : Fr m s t) : ∀ u, execStage who v chk t = .next u → Fr m s u := by
  intro u e
  cases e
  refine fr_State_gated (hM.sub (by decide)) h (fun u k => fr_ite ?_ k)
  exact fr_writeUpd_op (by rw [bitsOf_setBits_same]) (fr_State_updRefused (hM.sub (by decide)) k)
    (fun _ => fr_State_stageImage (hM.sub (by decide)) k) (fun e => absurd e (by decide))
    (fun e => absurd e (by decide)) k (by decide)

theorem fr_execCommitSvn_op {m : Nat} {s t : State} {who v} (hM : Cov 61299821634635554334333881086012367344749564887612522497 m)
    (h : Fr m s t) : ∀ u, execCommitSvn who v t = .next u → Fr m s u := by
  intro u e
  cases e
  refine fr_State_gated (hM.sub (by decide)) h (fun u k => fr_ite ?_ k)
  exact fr_writeUpd_op (by rw [bitsOf_setBits_same]) (fr_State_updRefused (hM.sub (by decide)) k)
    (fun e => absurd e (by decide)) (fun _ => fr_State_commitSvn (hM.sub (by decide)) k)
    (fun e => absurd e (by decide)) k (by decide)

theorem fr_execRevoke_op {m : Nat} {s t : State} {who v} (hM : Cov 61299821634635554334333881086012367344749564887612522497 m)
    (h : Fr m s t) : ∀ u, execRevoke who v t = .next u → Fr m s u := by
  intro u e
  cases e
  refine fr_State_gated (hM.sub (by decide)) h (fun u k => fr_ite ?_ k)
  exact fr_writeUpd_op (by rw [bitsOf_setBits_same]) (fr_State_updRefused (hM.sub (by decide)) k)
    (fun e => absurd e (by decide)) (fun e => absurd e (by decide))
    (fun _ => fr_State_revokeKey (hM.sub (by decide)) k) k (by decide)

theorem fr_mgmtPacket_op {m : Nat} {s t : State} {op p} (hM : Cov 1048576 m) (h : Fr m s t)
    (h1 : ∀ u, Fr m s u → mgmtOp p = op → Fr m s (u.mgmtTake p)) : Fr m s (mgmtPacket op p t) := by
  unfold mgmtPacket
  split
  · rename_i e
    exact h1 _ (fr_State_takeArrived hM h) e.2.2.1
  · exact h

theorem fr_execMgmtResponse_op {m : Nat} {s t : State} {p} (hM : Cov 1393796574908163946345982392040526890139649 m) (h : Fr m s t) :
    ∀ u, execMgmtResponse p t = .next u → Fr m s u := by
  intro u e
  cases e
  refine fr_mgmtPacket_op (hM.sub (by decide)) h (fun u k eq => ?_)
  unfold State.mgmtTake
  rw [eq]
  exact fr_ite k (fr_State_mgmtReply (hM.sub (by decide)) k)

theorem fr_execHeartbeat_op {m : Nat} {s t : State} {p} (hM : Cov 17598629543936 m) (h : Fr m s t) :
    ∀ u, execHeartbeat p t = .next u → Fr m s u := by
  intro u e
  cases e
  refine fr_mgmtPacket_op (hM.sub (by decide)) h (fun u k eq => ?_)
  unfold State.mgmtTake
  rw [eq]
  exact fr_ite k (fr_State_heartbeatIn (hM.sub (by decide)) k)

end Sys2Proof.Laws
end

