-- ==== Sys2Proof/Laws/Reads.lean ====
section
/-! SUPPORT. Reading the state after an operation: fields after writes, and what events and error records leave alone. -/

namespace Sys2Proof.Laws

open Sys2Proof.Machine

variable (s : State)

theorem valid_mk {n : RegName} {i j t : Nat} (hi : i < (geo n).n1) (hj : j < (geo n).n2) (ht : t < (geo n).n3) :
    (⟨n, i, j, t⟩ : RegKey).valid = true := by
  simp [RegKey.valid, hi, hj, ht]

/-- A field of a word of another name keeps its value. -/
theorem fg_fs_name (f g : Fld) (v i j t a b c : Nat) (hn : g.reg ≠ f.reg) (hg : (⟨g.reg, a, b, c⟩ : RegKey).valid = true) :
    (s.fs f v i j t).fg g a b c = s.fg g a b c := by
  by_cases hv : (⟨f.reg, i, j, t⟩ : RegKey).valid = true
  · exact fg_fs_word s f g v i j t a b c (addr_ne hg hv hn)
  · have e : s.fs f v i j t = s := by
      unfold State.fs State.wr
      rw [if_neg hv]
    rw [e]

/-- A field of a word of another name keeps its value when a counter counts. -/
theorem fg_fc_name (f g : Fld) (n i j t a b c : Nat) (hn : g.reg ≠ f.reg) (hg : (⟨g.reg, a, b, c⟩ : RegKey).valid = true) :
    (s.fc f n i j t).fg g a b c = s.fg g a b c := fg_fs_name s f g _ i j t a b c hn hg

/-- A field of another instance of the same word keeps its value. -/
theorem fg_fs_inst (f g : Fld) (v i j t a b c : Nat) (hg : (⟨g.reg, a, b, c⟩ : RegKey).valid = true)
    (hn : a ≠ i ∨ b ≠ j ∨ c ≠ t) : (s.fs f v i j t).fg g a b c = s.fg g a b c := by
  by_cases hv : (⟨f.reg, i, j, t⟩ : RegKey).valid = true
  · refine fg_fs_word s f g v i j t a b c (fun e => ?_)
    have := addr_inj hg hv e
    simp only [RegKey.mk.injEq] at this
    omega
  · have e : s.fs f v i j t = s := by
      unfold State.fs State.wr
      rw [if_neg hv]
    rw [e]

/-- What a function leaves of a field, from its frame. -/
theorem Fr.fg {m : Nat} {s t : State} (h : Fr m s t) (f : Fld) (i j k : Nat) (hv : (⟨f.reg, i, j, k⟩ : RegKey).valid = true)
    (hm : m.testBit (64 + f.reg.ctorIdx) = false) : t.fg f i j k = s.fg f i j k := by
  rw [State.fg, h.2.2.1 _ hv hm, State.fg]

/-! ### A field read after another part of the state is replaced -/

@[simp] theorem fg_set_shadow (f : Fld) (i j k : Nat) (v) : ({ s with shadow := v } : State).fg f i j k = s.fg f i j k := rfl
@[simp] theorem fg_set_mem (f : Fld) (i j k : Nat) (v) : ({ s with mem := v } : State).fg f i j k = s.fg f i j k := rfl
@[simp] theorem fg_set_marks (f : Fld) (i j k : Nat) (v) : ({ s with marks := v } : State).fg f i j k = s.fg f i j k := rfl
@[simp] theorem fg_set_acc (f : Fld) (i j k : Nat) (v) : ({ s with acc := v } : State).fg f i j k = s.fg f i j k := rfl
@[simp] theorem fg_set_runs (f : Fld) (i j k : Nat) (v) : ({ s with runs := v } : State).fg f i j k = s.fg f i j k := rfl
@[simp] theorem fg_set_cores (f : Fld) (i j k : Nat) (v) : ({ s with cores := v } : State).fg f i j k = s.fg f i j k := rfl
@[simp] theorem fg_set_units (f : Fld) (i j k : Nat) (v) : ({ s with units := v } : State).fg f i j k = s.fg f i j k := rfl
@[simp] theorem fg_set_scales (f : Fld) (i j k : Nat) (v) : ({ s with scales := v } : State).fg f i j k = s.fg f i j k := rfl
@[simp] theorem fg_set_devs (f : Fld) (i j k : Nat) (v) : ({ s with devs := v } : State).fg f i j k = s.fg f i j k := rfl
@[simp] theorem fg_set_sieve (f : Fld) (i j k : Nat) (v) : ({ s with sieve := v } : State).fg f i j k = s.fg f i j k := rfl
@[simp] theorem fg_set_quiesce (f : Fld) (i j k : Nat) (v) : ({ s with quiesce := v } : State).fg f i j k = s.fg f i j k := rfl
@[simp] theorem fg_set_groupPend (f : Fld) (i j k : Nat) (v) : ({ s with groupPend := v } : State).fg f i j k = s.fg f i j k := rfl
@[simp] theorem fg_set_lastServed (f : Fld) (i j k : Nat) (v) : ({ s with lastServed := v } : State).fg f i j k = s.fg f i j k := rfl
@[simp] theorem fg_set_errWin (f : Fld) (i j k : Nat) (v) : ({ s with errWin := v } : State).fg f i j k = s.fg f i j k := rfl
@[simp] theorem fg_set_temps (f : Fld) (i j k : Nat) (v) : ({ s with temps := v } : State).fg f i j k = s.fg f i j k := rfl
@[simp] theorem fg_set_volts (f : Fld) (i j k : Nat) (v) : ({ s with volts := v } : State).fg f i j k = s.fg f i j k := rfl
@[simp] theorem fg_set_links (f : Fld) (i j k : Nat) (v) : ({ s with links := v } : State).fg f i j k = s.fg f i j k := rfl
@[simp] theorem fg_set_conns (f : Fld) (i j k : Nat) (v) : ({ s with conns := v } : State).fg f i j k = s.fg f i j k := rfl
@[simp] theorem fg_set_net (f : Fld) (i j k : Nat) (v) : ({ s with net := v } : State).fg f i j k = s.fg f i j k := rfl
@[simp] theorem fg_set_arrived (f : Fld) (i j k : Nat) (v) : ({ s with arrived := v } : State).fg f i j k = s.fg f i j k := rfl
@[simp] theorem fg_set_drain (f : Fld) (i j k : Nat) (v) : ({ s with drain := v } : State).fg f i j k = s.fg f i j k := rfl
@[simp] theorem fg_set_notices (f : Fld) (i j k : Nat) (v) : ({ s with notices := v } : State).fg f i j k = s.fg f i j k := rfl
@[simp] theorem fg_set_colls (f : Fld) (i j k : Nat) (v) : ({ s with colls := v } : State).fg f i j k = s.fg f i j k := rfl
@[simp] theorem fg_set_sess (f : Fld) (i j k : Nat) (v) : ({ s with sess := v } : State).fg f i j k = s.fg f i j k := rfl
@[simp] theorem fg_set_hsWin (f : Fld) (i j k : Nat) (v) : ({ s with hsWin := v } : State).fg f i j k = s.fg f i j k := rfl
@[simp] theorem fg_set_echoWin (f : Fld) (i j k : Nat) (v) : ({ s with echoWin := v } : State).fg f i j k = s.fg f i j k := rfl
@[simp] theorem fg_set_ethHold (f : Fld) (i j k : Nat) (v) : ({ s with ethHold := v } : State).fg f i j k = s.fg f i j k := rfl
@[simp] theorem fg_set_mg (f : Fld) (i j k : Nat) (v) : ({ s with mg := v } : State).fg f i j k = s.fg f i j k := rfl
@[simp] theorem fg_set_pw (f : Fld) (i j k : Nat) (v) : ({ s with pw := v } : State).fg f i j k = s.fg f i j k := rfl
@[simp] theorem fg_set_nakAt (f : Fld) (i j k : Nat) (v) : ({ s with nakAt := v } : State).fg f i j k = s.fg f i j k := rfl
@[simp] theorem fg_set_hbMissed (f : Fld) (i j k : Nat) (v) : ({ s with hbMissed := v } : State).fg f i j k = s.fg f i j k := rfl
@[simp] theorem fg_set_termSeen (f : Fld) (i j k : Nat) (v) : ({ s with termSeen := v } : State).fg f i j k = s.fg f i j k := rfl
@[simp] theorem fg_set_bridges (f : Fld) (i j k : Nat) (v) : ({ s with bridges := v } : State).fg f i j k = s.fg f i j k := rfl
@[simp] theorem fg_set_lantern (f : Fld) (i j k : Nat) (v) : ({ s with lantern := v } : State).fg f i j k = s.fg f i j k := rfl
@[simp] theorem fg_set_lanternFabric (f : Fld) (i j k : Nat) (v) : ({ s with lanternFabric := v } : State).fg f i j k = s.fg f i j k := rfl
@[simp] theorem fg_set_ceRings (f : Fld) (i j k : Nat) (v) : ({ s with ceRings := v } : State).fg f i j k = s.fg f i j k := rfl
@[simp] theorem fg_set_repairs (f : Fld) (i j k : Nat) (v) : ({ s with repairs := v } : State).fg f i j k = s.fg f i j k := rfl
@[simp] theorem fg_set_nextTag (f : Fld) (i j k : Nat) (v) : ({ s with nextTag := v } : State).fg f i j k = s.fg f i j k := rfl
@[simp] theorem fg_set_out (f : Fld) (i j k : Nat) (v) : ({ s with out := v } : State).fg f i j k = s.fg f i j k := rfl
@[simp] theorem fg_set_freeCtr (f : Fld) (i j k : Nat) (v) : ({ s with freeCtr := v } : State).fg f i j k = s.fg f i j k := rfl
@[simp] theorem fg_set_pending (f : Fld) (i j k : Nat) (v) : ({ s with pending := v } : State).fg f i j k = s.fg f i j k := rfl

/-! ### Operations that leave the registers, or all but the registers, alone -/

@[simp] theorem fg_store (a : Nat) (b : List Byte) (z : List Nat) (f : Fld) (i j k : Nat) : (s.store a b z).fg f i j k = s.fg f i j k := rfl
@[simp] theorem fg_setRun (q : Nat) (r : QRun) (f : Fld) (i j k : Nat) : (s.setRun q r).fg f i j k = s.fg f i j k := rfl
@[simp] theorem fg_modRun (q : Nat) (r : QRun → QRun) (f : Fld) (i j k : Nat) : (s.modRun q r).fg f i j k = s.fg f i j k := rfl
@[simp] theorem fg_setCore (c : Nat) (x : CoreSt) (f : Fld) (i j k : Nat) : (s.setCore c x).fg f i j k = s.fg f i j k := rfl
@[simp] theorem fg_modCore (c : Nat) (x : CoreSt → CoreSt) (f : Fld) (i j k : Nat) : (s.modCore c x).fg f i j k = s.fg f i j k := rfl
@[simp] theorem fg_modCtx (c n : Nat) (x : Ctx → Ctx) (f : Fld) (i j k : Nat) : (s.modCtx c n x).fg f i j k = s.fg f i j k := rfl
@[simp] theorem fg_modEng (c n : Nat) (x : Eng → Eng) (f : Fld) (i j k : Nat) : (s.modEng c n x).fg f i j k = s.fg f i j k := rfl
@[simp] theorem fg_setUnitQ (u : Nat) (x : List CombReq) (f : Fld) (i j k : Nat) : (s.setUnitQ u x).fg f i j k = s.fg f i j k := rfl
@[simp] theorem fg_emit (m : Msg) (f : Fld) (i j k : Nat) : (s.emit m).fg f i j k = s.fg f i j k := rfl
@[simp] theorem fg_fail (q c : Nat) (f : Fld) (i j k : Nat) : (s.fail q c).fg f i j k = s.fg f i j k := rfl
@[simp] theorem fg_undef (q c d : Nat) (f : Fld) (i j k : Nat) : (s.undef q c d).fg f i j k = s.fg f i j k := rfl
@[simp] theorem fg_count (q : Nat) (e : Ev) (f : Fld) (i j k : Nat) : (s.count q e).fg f i j k = s.fg f i j k := rfl
@[simp] theorem fg_setSes (n : Nat) (x : SessSt) (f : Fld) (i j k : Nat) : (s.setSes n x).fg f i j k = s.fg f i j k := rfl
@[simp] theorem fg_modSes (n : Nat) (x : SessSt → SessSt) (f : Fld) (i j k : Nat) : (s.modSes n x).fg f i j k = s.fg f i j k := rfl
@[simp] theorem fg_modMg (x : Mgmt → Mgmt) (f : Fld) (i j k : Nat) : (s.modMg x).fg f i j k = s.fg f i j k := rfl
@[simp] theorem fg_modConn (c : Nat) (x : ConnSt → ConnSt) (f : Fld) (i j k : Nat) : (s.modConn c x).fg f i j k = s.fg f i j k := rfl
@[simp] theorem fg_modLink (l : Nat) (x : LinkSt → LinkSt) (f : Fld) (i j k : Nat) : (s.modLink l x).fg f i j k = s.fg f i j k := rfl
@[simp] theorem fg_modQuiesce (u : QUnit) (x : Quiesce → Quiesce) (f : Fld) (i j k : Nat) : (s.modQuiesce u x).fg f i j k = s.fg f i j k := rfl
@[simp] theorem fg_endQuiesce (u : QUnit) (f : Fld) (i j k : Nat) : (s.endQuiesce u).fg f i j k = s.fg f i j k := rfl
@[simp] theorem run_fs (f : Fld) (v i j k : Nat) (q : Nat) : (s.fs f v i j k).run q = s.run q := rfl
@[simp] theorem run_fc (f : Fld) (v i j k : Nat) (q : Nat) : (s.fc f v i j k).run q = s.run q := rfl
@[simp] theorem core_fs (f : Fld) (v i j k : Nat) (c : Nat) : (s.fs f v i j k).core c = s.core c := rfl
@[simp] theorem core_fc (f : Fld) (v i j k : Nat) (c : Nat) : (s.fc f v i j k).core c = s.core c := rfl
@[simp] theorem unitQ_fs (f : Fld) (v i j k : Nat) (u : Nat) : (s.fs f v i j k).unitQ u = s.unitQ u := rfl
@[simp] theorem unitQ_fc (f : Fld) (v i j k : Nat) (u : Nat) : (s.fc f v i j k).unitQ u = s.unitQ u := rfl
@[simp] theorem ses_fs (f : Fld) (v i j k : Nat) (n : Nat) : (s.fs f v i j k).ses n = s.ses n := rfl
@[simp] theorem ses_fc (f : Fld) (v i j k : Nat) (n : Nat) : (s.fc f v i j k).ses n = s.ses n := rfl
@[simp] theorem byte_fs (f : Fld) (v i j k : Nat) (a : Nat) : (s.fs f v i j k).byte a = s.byte a := rfl
@[simp] theorem byte_fc (f : Fld) (v i j k : Nat) (a : Nat) : (s.fc f v i j k).byte a = s.byte a := rfl
@[simp] theorem link_fs (f : Fld) (v i j k : Nat) (l : Nat) : (s.fs f v i j k).link l = s.link l := rfl
@[simp] theorem link_fc (f : Fld) (v i j k : Nat) (l : Nat) : (s.fc f v i j k).link l = s.link l := rfl
@[simp] theorem conn_fs (f : Fld) (v i j k : Nat) (c : Nat) : (s.fs f v i j k).conn c = s.conn c := rfl
@[simp] theorem conn_fc (f : Fld) (v i j k : Nat) (c : Nat) : (s.fc f v i j k).conn c = s.conn c := rfl
@[simp] theorem mark_fs (f : Fld) (v i j k : Nat) (u : Nat) : (s.fs f v i j k).mark u = s.mark u := rfl
@[simp] theorem mark_fc (f : Fld) (v i j k : Nat) (u : Nat) : (s.fc f v i j k).mark u = s.mark u := rfl
@[simp] theorem quiescing_fs (f : Fld) (v i j k : Nat) (u : QUnit) : (s.fs f v i j k).quiescing u = s.quiescing u := rfl

/-! ### Engines, contexts and cores after a change -/

theorem CoreSt.engine_modEng (k : CoreSt) (e i : Nat) (f : Eng → Eng) (h : i < 4) :
    (k.modEng e f).engine i = if i = e then f (k.engine i) else k.engine i := by
  unfold CoreSt.engine CoreSt.modEng
  simp [List.getD, h, CoreSt.engine]

theorem CoreSt.context_modCtx (k : CoreSt) (x i : Nat) (f : Ctx → Ctx) (h : i < 4) :
    (k.modCtx x f).context i = if i = x then f (k.context i) else k.context i := by
  unfold CoreSt.context CoreSt.modCtx
  simp [List.getD, h, CoreSt.context]

@[simp] theorem run_modRun (s : State) (q : Nat) (f : QRun → QRun) : (s.modRun q f).run q = f (s.run q) := run_setRun _ _ _
theorem run_modRun_other (s : State) {q p : Nat} (f : QRun → QRun) (h : p ≠ q) : (s.modRun q f).run p = s.run p := run_setRun_other _ _ h
@[simp] theorem core_modCore (s : State) (c : Nat) (f : CoreSt → CoreSt) : (s.modCore c f).core c = f (s.core c) := core_setCore _ _ _
theorem core_modCore_other (s : State) {c d : Nat} (f : CoreSt → CoreSt) (h : d ≠ c) : (s.modCore c f).core d = s.core d :=
  core_setCore_other _ _ h
@[simp] theorem core_modEng (s : State) (c e : Nat) (f : Eng → Eng) : (s.modEng c e f).core c = (s.core c).modEng e f := core_modCore _ _ _
@[simp] theorem core_modCtx (s : State) (c x : Nat) (f : Ctx → Ctx) : (s.modCtx c x f).core c = (s.core c).modCtx x f := core_modCore _ _ _
@[simp] theorem core_setRun (s : State) (q : Nat) (r : QRun) (c : Nat) : (s.setRun q r).core c = s.core c := rfl
@[simp] theorem core_modRun (s : State) (q : Nat) (f : QRun → QRun) (c : Nat) : (s.modRun q f).core c = s.core c := rfl
@[simp] theorem run_setCore (s : State) (c : Nat) (x : CoreSt) (q : Nat) : (s.setCore c x).run q = s.run q := rfl
@[simp] theorem run_modCore (s : State) (c : Nat) (f : CoreSt → CoreSt) (q : Nat) : (s.modCore c f).run q = s.run q := rfl

@[simp] theorem byte_setRun (s : State) (q : Nat) (r : QRun) (a : Nat) : (s.setRun q r).byte a = s.byte a := rfl
@[simp] theorem byte_modRun (s : State) (q : Nat) (f : QRun → QRun) (a : Nat) : (s.modRun q f).byte a = s.byte a := rfl
@[simp] theorem byte_setCore (s : State) (c : Nat) (x : CoreSt) (a : Nat) : (s.setCore c x).byte a = s.byte a := rfl
@[simp] theorem byte_modCore (s : State) (c : Nat) (f : CoreSt → CoreSt) (a : Nat) : (s.modCore c f).byte a = s.byte a := rfl
@[simp] theorem byte_modCtx (s : State) (c x : Nat) (f : Ctx → Ctx) (a : Nat) : (s.modCtx c x f).byte a = s.byte a := rfl
@[simp] theorem byte_modEng (s : State) (c e : Nat) (f : Eng → Eng) (a : Nat) : (s.modEng c e f).byte a = s.byte a := rfl
@[simp] theorem byte_setUnitQ (s : State) (u : Nat) (l : List CombReq) (a : Nat) : (s.setUnitQ u l).byte a = s.byte a := rfl

theorem run_congr {s t : State} (h : t.runs = s.runs) (q : Nat) : t.run q = s.run q := by unfold State.run; rw [h]
theorem core_congr {s t : State} (h : t.cores = s.cores) (c : Nat) : t.core c = s.core c := by unfold State.core; rw [h]
theorem ses_congr {s t : State} (h : t.sess = s.sess) (n : Nat) : t.ses n = s.ses n := by unfold State.ses; rw [h]
theorem link_congr {s t : State} (h : t.links = s.links) (l : Nat) : t.link l = s.link l := by unfold State.link; rw [h]
theorem conn_congr {s t : State} (h : t.conns = s.conns) (c : Nat) : t.conn c = s.conn c := by unfold State.conn; rw [h]
theorem unitQ_congr {s t : State} (h : t.units = s.units) (u : Nat) : t.unitQ u = s.unitQ u := by unfold State.unitQ; rw [h]
theorem byte_congr {s t : State} (h : t.mem = s.mem) (a : Nat) : t.byte a = s.byte a := by unfold State.byte; rw [h]
theorem mark_congr {s t : State} (h : t.marks = s.marks) (u : Nat) : t.mark u = s.mark u := by unfold State.mark; rw [h]

/-! ### Events and error records -/

theorem event_frame (k : Nat) (q : Option Nat) (d v a : Nat) : Fr 353725223487685132193640062428119053 s (s.event k q d v a) :=
  fr_State_event (show Cov 353725223487685132193640062428119053 353725223487685132193640062428119053 by unfold Cov; decide) (Fr.refl _ s)

theorem errRec_frame (c u : Nat) (o : Option OpRef) (y : List (Nat × Nat × Nat)) (b : Bool) (w : Option Nat) :
    Fr 3432790011539591042723051066040180256438169273753965445133 s (s.errRec c u o y b w) :=
  fr_State_errRec (show Cov 3432790011539591042723051066040180256438169273753965445133 3432790011539591042723051066040180256438169273753965445133 by unfold Cov; decide) (Fr.refl _ s)

theorem event_fg (k : Nat) (q : Option Nat) (d v a : Nat) (f : Fld) (i j x : Nat) (hv : (⟨f.reg, i, j, x⟩ : RegKey).valid = true)
    (hm : Nat.testBit 353725223487685132193640062428119053 (64 + f.reg.ctorIdx) = false) : (s.event k q d v a).fg f i j x = s.fg f i j x :=
  (event_frame s k q d v a).fg f i j x hv hm

theorem errRec_fg (c u : Nat) (o : Option OpRef) (y : List (Nat × Nat × Nat)) (b : Bool) (w : Option Nat) (f : Fld) (i j x : Nat)
    (hv : (⟨f.reg, i, j, x⟩ : RegKey).valid = true) (hm : Nat.testBit 3432790011539591042723051066040180256438169273753965445133 (64 + f.reg.ctorIdx) = false) :
    (s.errRec c u o y b w).fg f i j x = s.fg f i j x :=
  (errRec_frame s c u o y b w).fg f i j x hv hm

@[simp] theorem event_shadow (k : Nat) (q : Option Nat) (d v a : Nat) : (s.event k q d v a).shadow = s.shadow := (event_frame s k q d v a).1 .shadow rfl
@[simp] theorem event_acc (k : Nat) (q : Option Nat) (d v a : Nat) : (s.event k q d v a).acc = s.acc := (event_frame s k q d v a).1 .acc rfl
@[simp] theorem event_runs (k : Nat) (q : Option Nat) (d v a : Nat) : (s.event k q d v a).runs = s.runs := (event_frame s k q d v a).1 .runs rfl
@[simp] theorem event_cores (k : Nat) (q : Option Nat) (d v a : Nat) : (s.event k q d v a).cores = s.cores := (event_frame s k q d v a).1 .cores rfl
@[simp] theorem event_units (k : Nat) (q : Option Nat) (d v a : Nat) : (s.event k q d v a).units = s.units := (event_frame s k q d v a).1 .units rfl
@[simp] theorem event_scales (k : Nat) (q : Option Nat) (d v a : Nat) : (s.event k q d v a).scales = s.scales := (event_frame s k q d v a).1 .scales rfl
@[simp] theorem event_devs (k : Nat) (q : Option Nat) (d v a : Nat) : (s.event k q d v a).devs = s.devs := (event_frame s k q d v a).1 .devs rfl
@[simp] theorem event_sieve (k : Nat) (q : Option Nat) (d v a : Nat) : (s.event k q d v a).sieve = s.sieve := (event_frame s k q d v a).1 .sieve rfl
@[simp] theorem event_quiesce (k : Nat) (q : Option Nat) (d v a : Nat) : (s.event k q d v a).quiesce = s.quiesce := (event_frame s k q d v a).1 .quiesce rfl
@[simp] theorem event_groupPend (k : Nat) (q : Option Nat) (d v a : Nat) : (s.event k q d v a).groupPend = s.groupPend := (event_frame s k q d v a).1 .groupPend rfl
@[simp] theorem event_lastServed (k : Nat) (q : Option Nat) (d v a : Nat) : (s.event k q d v a).lastServed = s.lastServed := (event_frame s k q d v a).1 .lastServed rfl
@[simp] theorem event_errWin (k : Nat) (q : Option Nat) (d v a : Nat) : (s.event k q d v a).errWin = s.errWin := (event_frame s k q d v a).1 .errWin rfl
@[simp] theorem event_temps (k : Nat) (q : Option Nat) (d v a : Nat) : (s.event k q d v a).temps = s.temps := (event_frame s k q d v a).1 .temps rfl
@[simp] theorem event_volts (k : Nat) (q : Option Nat) (d v a : Nat) : (s.event k q d v a).volts = s.volts := (event_frame s k q d v a).1 .volts rfl
@[simp] theorem event_links (k : Nat) (q : Option Nat) (d v a : Nat) : (s.event k q d v a).links = s.links := (event_frame s k q d v a).1 .links rfl
@[simp] theorem event_conns (k : Nat) (q : Option Nat) (d v a : Nat) : (s.event k q d v a).conns = s.conns := (event_frame s k q d v a).1 .conns rfl
@[simp] theorem event_net (k : Nat) (q : Option Nat) (d v a : Nat) : (s.event k q d v a).net = s.net := (event_frame s k q d v a).1 .net rfl
@[simp] theorem event_arrived (k : Nat) (q : Option Nat) (d v a : Nat) : (s.event k q d v a).arrived = s.arrived := (event_frame s k q d v a).1 .arrived rfl
@[simp] theorem event_drain (k : Nat) (q : Option Nat) (d v a : Nat) : (s.event k q d v a).drain = s.drain := (event_frame s k q d v a).1 .drain rfl
@[simp] theorem event_notices (k : Nat) (q : Option Nat) (d v a : Nat) : (s.event k q d v a).notices = s.notices := (event_frame s k q d v a).1 .notices rfl
@[simp] theorem event_colls (k : Nat) (q : Option Nat) (d v a : Nat) : (s.event k q d v a).colls = s.colls := (event_frame s k q d v a).1 .colls rfl
@[simp] theorem event_sess (k : Nat) (q : Option Nat) (d v a : Nat) : (s.event k q d v a).sess = s.sess := (event_frame s k q d v a).1 .sess rfl
@[simp] theorem event_hsWin (k : Nat) (q : Option Nat) (d v a : Nat) : (s.event k q d v a).hsWin = s.hsWin := (event_frame s k q d v a).1 .hsWin rfl
@[simp] theorem event_echoWin (k : Nat) (q : Option Nat) (d v a : Nat) : (s.event k q d v a).echoWin = s.echoWin := (event_frame s k q d v a).1 .echoWin rfl
@[simp] theorem event_ethHold (k : Nat) (q : Option Nat) (d v a : Nat) : (s.event k q d v a).ethHold = s.ethHold := (event_frame s k q d v a).1 .ethHold rfl
@[simp] theorem event_mg (k : Nat) (q : Option Nat) (d v a : Nat) : (s.event k q d v a).mg = s.mg := (event_frame s k q d v a).1 .mg rfl
@[simp] theorem event_pw (k : Nat) (q : Option Nat) (d v a : Nat) : (s.event k q d v a).pw = s.pw := (event_frame s k q d v a).1 .pw rfl
@[simp] theorem event_nakAt (k : Nat) (q : Option Nat) (d v a : Nat) : (s.event k q d v a).nakAt = s.nakAt := (event_frame s k q d v a).1 .nakAt rfl
@[simp] theorem event_hbMissed (k : Nat) (q : Option Nat) (d v a : Nat) : (s.event k q d v a).hbMissed = s.hbMissed := (event_frame s k q d v a).1 .hbMissed rfl
@[simp] theorem event_termSeen (k : Nat) (q : Option Nat) (d v a : Nat) : (s.event k q d v a).termSeen = s.termSeen := (event_frame s k q d v a).1 .termSeen rfl
@[simp] theorem event_bridges (k : Nat) (q : Option Nat) (d v a : Nat) : (s.event k q d v a).bridges = s.bridges := (event_frame s k q d v a).1 .bridges rfl
@[simp] theorem event_lantern (k : Nat) (q : Option Nat) (d v a : Nat) : (s.event k q d v a).lantern = s.lantern := (event_frame s k q d v a).1 .lantern rfl
@[simp] theorem event_lanternFabric (k : Nat) (q : Option Nat) (d v a : Nat) : (s.event k q d v a).lanternFabric = s.lanternFabric := (event_frame s k q d v a).1 .lanternFabric rfl
@[simp] theorem event_ceRings (k : Nat) (q : Option Nat) (d v a : Nat) : (s.event k q d v a).ceRings = s.ceRings := (event_frame s k q d v a).1 .ceRings rfl
@[simp] theorem event_repairs (k : Nat) (q : Option Nat) (d v a : Nat) : (s.event k q d v a).repairs = s.repairs := (event_frame s k q d v a).1 .repairs rfl
@[simp] theorem event_nextTag (k : Nat) (q : Option Nat) (d v a : Nat) : (s.event k q d v a).nextTag = s.nextTag := (event_frame s k q d v a).1 .nextTag rfl
@[simp] theorem event_out (k : Nat) (q : Option Nat) (d v a : Nat) : (s.event k q d v a).out = s.out := (event_frame s k q d v a).1 .out rfl
@[simp] theorem event_freeCtr (k : Nat) (q : Option Nat) (d v a : Nat) : (s.event k q d v a).freeCtr = s.freeCtr := (event_frame s k q d v a).1 .freeCtr rfl
@[simp] theorem event_pending (k : Nat) (q : Option Nat) (d v a : Nat) : (s.event k q d v a).pending = s.pending := (event_frame s k q d v a).1 .pending rfl

@[simp] theorem errRec_shadow (c u : Nat) (o : Option OpRef) (y : List (Nat × Nat × Nat)) (b : Bool) (w : Option Nat) : (s.errRec c u o y b w).shadow = s.shadow := (errRec_frame s c u o y b w).1 .shadow rfl
@[simp] theorem errRec_acc (c u : Nat) (o : Option OpRef) (y : List (Nat × Nat × Nat)) (b : Bool) (w : Option Nat) : (s.errRec c u o y b w).acc = s.acc := (errRec_frame s c u o y b w).1 .acc rfl
@[simp] theorem errRec_runs (c u : Nat) (o : Option OpRef) (y : List (Nat × Nat × Nat)) (b : Bool) (w : Option Nat) : (s.errRec c u o y b w).runs = s.runs := (errRec_frame s c u o y b w).1 .runs rfl
@[simp] theorem errRec_cores (c u : Nat) (o : Option OpRef) (y : List (Nat × Nat × Nat)) (b : Bool) (w : Option Nat) : (s.errRec c u o y b w).cores = s.cores := (errRec_frame s c u o y b w).1 .cores rfl
@[simp] theorem errRec_units (c u : Nat) (o : Option OpRef) (y : List (Nat × Nat × Nat)) (b : Bool) (w : Option Nat) : (s.errRec c u o y b w).units = s.units := (errRec_frame s c u o y b w).1 .units rfl
@[simp] theorem errRec_scales (c u : Nat) (o : Option OpRef) (y : List (Nat × Nat × Nat)) (b : Bool) (w : Option Nat) : (s.errRec c u o y b w).scales = s.scales := (errRec_frame s c u o y b w).1 .scales rfl
@[simp] theorem errRec_devs (c u : Nat) (o : Option OpRef) (y : List (Nat × Nat × Nat)) (b : Bool) (w : Option Nat) : (s.errRec c u o y b w).devs = s.devs := (errRec_frame s c u o y b w).1 .devs rfl
@[simp] theorem errRec_sieve (c u : Nat) (o : Option OpRef) (y : List (Nat × Nat × Nat)) (b : Bool) (w : Option Nat) : (s.errRec c u o y b w).sieve = s.sieve := (errRec_frame s c u o y b w).1 .sieve rfl
@[simp] theorem errRec_quiesce (c u : Nat) (o : Option OpRef) (y : List (Nat × Nat × Nat)) (b : Bool) (w : Option Nat) : (s.errRec c u o y b w).quiesce = s.quiesce := (errRec_frame s c u o y b w).1 .quiesce rfl
@[simp] theorem errRec_groupPend (c u : Nat) (o : Option OpRef) (y : List (Nat × Nat × Nat)) (b : Bool) (w : Option Nat) : (s.errRec c u o y b w).groupPend = s.groupPend := (errRec_frame s c u o y b w).1 .groupPend rfl
@[simp] theorem errRec_lastServed (c u : Nat) (o : Option OpRef) (y : List (Nat × Nat × Nat)) (b : Bool) (w : Option Nat) : (s.errRec c u o y b w).lastServed = s.lastServed := (errRec_frame s c u o y b w).1 .lastServed rfl
@[simp] theorem errRec_temps (c u : Nat) (o : Option OpRef) (y : List (Nat × Nat × Nat)) (b : Bool) (w : Option Nat) : (s.errRec c u o y b w).temps = s.temps := (errRec_frame s c u o y b w).1 .temps rfl
@[simp] theorem errRec_volts (c u : Nat) (o : Option OpRef) (y : List (Nat × Nat × Nat)) (b : Bool) (w : Option Nat) : (s.errRec c u o y b w).volts = s.volts := (errRec_frame s c u o y b w).1 .volts rfl
@[simp] theorem errRec_links (c u : Nat) (o : Option OpRef) (y : List (Nat × Nat × Nat)) (b : Bool) (w : Option Nat) : (s.errRec c u o y b w).links = s.links := (errRec_frame s c u o y b w).1 .links rfl
@[simp] theorem errRec_conns (c u : Nat) (o : Option OpRef) (y : List (Nat × Nat × Nat)) (b : Bool) (w : Option Nat) : (s.errRec c u o y b w).conns = s.conns := (errRec_frame s c u o y b w).1 .conns rfl
@[simp] theorem errRec_net (c u : Nat) (o : Option OpRef) (y : List (Nat × Nat × Nat)) (b : Bool) (w : Option Nat) : (s.errRec c u o y b w).net = s.net := (errRec_frame s c u o y b w).1 .net rfl
@[simp] theorem errRec_arrived (c u : Nat) (o : Option OpRef) (y : List (Nat × Nat × Nat)) (b : Bool) (w : Option Nat) : (s.errRec c u o y b w).arrived = s.arrived := (errRec_frame s c u o y b w).1 .arrived rfl
@[simp] theorem errRec_drain (c u : Nat) (o : Option OpRef) (y : List (Nat × Nat × Nat)) (b : Bool) (w : Option Nat) : (s.errRec c u o y b w).drain = s.drain := (errRec_frame s c u o y b w).1 .drain rfl
@[simp] theorem errRec_notices (c u : Nat) (o : Option OpRef) (y : List (Nat × Nat × Nat)) (b : Bool) (w : Option Nat) : (s.errRec c u o y b w).notices = s.notices := (errRec_frame s c u o y b w).1 .notices rfl
@[simp] theorem errRec_colls (c u : Nat) (o : Option OpRef) (y : List (Nat × Nat × Nat)) (b : Bool) (w : Option Nat) : (s.errRec c u o y b w).colls = s.colls := (errRec_frame s c u o y b w).1 .colls rfl
@[simp] theorem errRec_sess (c u : Nat) (o : Option OpRef) (y : List (Nat × Nat × Nat)) (b : Bool) (w : Option Nat) : (s.errRec c u o y b w).sess = s.sess := (errRec_frame s c u o y b w).1 .sess rfl
@[simp] theorem errRec_hsWin (c u : Nat) (o : Option OpRef) (y : List (Nat × Nat × Nat)) (b : Bool) (w : Option Nat) : (s.errRec c u o y b w).hsWin = s.hsWin := (errRec_frame s c u o y b w).1 .hsWin rfl
@[simp] theorem errRec_echoWin (c u : Nat) (o : Option OpRef) (y : List (Nat × Nat × Nat)) (b : Bool) (w : Option Nat) : (s.errRec c u o y b w).echoWin = s.echoWin := (errRec_frame s c u o y b w).1 .echoWin rfl
@[simp] theorem errRec_ethHold (c u : Nat) (o : Option OpRef) (y : List (Nat × Nat × Nat)) (b : Bool) (w : Option Nat) : (s.errRec c u o y b w).ethHold = s.ethHold := (errRec_frame s c u o y b w).1 .ethHold rfl
@[simp] theorem errRec_pw (c u : Nat) (o : Option OpRef) (y : List (Nat × Nat × Nat)) (b : Bool) (w : Option Nat) : (s.errRec c u o y b w).pw = s.pw := (errRec_frame s c u o y b w).1 .pw rfl
@[simp] theorem errRec_nakAt (c u : Nat) (o : Option OpRef) (y : List (Nat × Nat × Nat)) (b : Bool) (w : Option Nat) : (s.errRec c u o y b w).nakAt = s.nakAt := (errRec_frame s c u o y b w).1 .nakAt rfl
@[simp] theorem errRec_hbMissed (c u : Nat) (o : Option OpRef) (y : List (Nat × Nat × Nat)) (b : Bool) (w : Option Nat) : (s.errRec c u o y b w).hbMissed = s.hbMissed := (errRec_frame s c u o y b w).1 .hbMissed rfl
@[simp] theorem errRec_termSeen (c u : Nat) (o : Option OpRef) (y : List (Nat × Nat × Nat)) (b : Bool) (w : Option Nat) : (s.errRec c u o y b w).termSeen = s.termSeen := (errRec_frame s c u o y b w).1 .termSeen rfl
@[simp] theorem errRec_bridges (c u : Nat) (o : Option OpRef) (y : List (Nat × Nat × Nat)) (b : Bool) (w : Option Nat) : (s.errRec c u o y b w).bridges = s.bridges := (errRec_frame s c u o y b w).1 .bridges rfl
@[simp] theorem errRec_lantern (c u : Nat) (o : Option OpRef) (y : List (Nat × Nat × Nat)) (b : Bool) (w : Option Nat) : (s.errRec c u o y b w).lantern = s.lantern := (errRec_frame s c u o y b w).1 .lantern rfl
@[simp] theorem errRec_lanternFabric (c u : Nat) (o : Option OpRef) (y : List (Nat × Nat × Nat)) (b : Bool) (w : Option Nat) : (s.errRec c u o y b w).lanternFabric = s.lanternFabric := (errRec_frame s c u o y b w).1 .lanternFabric rfl
@[simp] theorem errRec_ceRings (c u : Nat) (o : Option OpRef) (y : List (Nat × Nat × Nat)) (b : Bool) (w : Option Nat) : (s.errRec c u o y b w).ceRings = s.ceRings := (errRec_frame s c u o y b w).1 .ceRings rfl
@[simp] theorem errRec_repairs (c u : Nat) (o : Option OpRef) (y : List (Nat × Nat × Nat)) (b : Bool) (w : Option Nat) : (s.errRec c u o y b w).repairs = s.repairs := (errRec_frame s c u o y b w).1 .repairs rfl
@[simp] theorem errRec_nextTag (c u : Nat) (o : Option OpRef) (y : List (Nat × Nat × Nat)) (b : Bool) (w : Option Nat) : (s.errRec c u o y b w).nextTag = s.nextTag := (errRec_frame s c u o y b w).1 .nextTag rfl
@[simp] theorem errRec_out (c u : Nat) (o : Option OpRef) (y : List (Nat × Nat × Nat)) (b : Bool) (w : Option Nat) : (s.errRec c u o y b w).out = s.out := (errRec_frame s c u o y b w).1 .out rfl
@[simp] theorem errRec_freeCtr (c u : Nat) (o : Option OpRef) (y : List (Nat × Nat × Nat)) (b : Bool) (w : Option Nat) : (s.errRec c u o y b w).freeCtr = s.freeCtr := (errRec_frame s c u o y b w).1 .freeCtr rfl
@[simp] theorem errRec_pending (c u : Nat) (o : Option OpRef) (y : List (Nat × Nat × Nat)) (b : Bool) (w : Option Nat) : (s.errRec c u o y b w).pending = s.pending := (errRec_frame s c u o y b w).1 .pending rfl

end Sys2Proof.Laws
end

