-- ==== Sys2Proof/Tests/Slice0.lean ====
section
/-! SUPPORT. Witnesses for the statements, one theorem each: states and operands that meet their hypotheses; a term for each bound that
the well-formedness check refuses; and a few values worked out by hand. The theorems are elaborated one after another, which keeps the
memory they take small. -/

namespace Sys2Proof.Tests
set_option Elab.async false
open Machine

/-- A device that is READY (R428). -/
def up : State := State.reset.fs F.MGT_STATUS.STAGE 8

/-- Queue q enabled: its type, its ring of 16 entries, HEAD and TAIL. -/
def withQueue (s : State) (q type ring head tail : Nat) : State :=
  let s1 := ((s.fs F.QM_QDESC.TYPE type q).fs F.QM_QDESC.RING ring q).fs F.QM_QDESC.LOG2_ENTRIES 4 q
  (((s1.fs F.QM_QDESC.HEAD head q).fs F.QM_QDESC.TAIL tail q).fs F.QM_QDESC.EN 1 q).fs F.QM_QDESC.STATE 1 q

/-- Completion queue 2, and command queue 1 with `n` commands that wait, the first of them `ws`. -/
def withCommands (s : State) (ws : List Word) (n : Nat) : State :=
  ((withQueue (withQueue s 2 qCompletion 0x2000 0 0) 1 qCommand 0x1000 0 n).fs F.QM_QDESC.CQ 2 1).store 0x1000
    (ws.flatMap (fun w => leBytes 8 w.toNat)) []

/-- A command that queue 1 runs. -/
def running (s : State) (r : QRun) : State := (withCommands s [] 0).setRun 1 { r with busy := true }

/-- The owner's session 5, of identity 9. -/
def owned (s : State) : State :=
  (((s.fs F.QM_OWNER.OWNED 1).fs F.QM_OWNER.OWNER_ID 9).fs F.ETH_SESS.STATE 2 0 5).fs F.ETH_SESS.IDENTITY 9 0 5


/-! ### Queues and commands -/

theorem witness_DoorbellMovesItsPointer :
    When.doorbell (withQueue up 1 qCommand 0x1000 0 0) .mgmt 1 16 ∧ When.doorbell (withQueue up 2 qCompletion 0x2000 4294967295 0) .mgmt 2 0 ∧
    When.doorbell (withQueue (owned up) 1 qCommand 0x1000 0 15) (.session 5) 1 16 := by
  decide +kernel

theorem witness_EnablesAndDisables :
    When.queueEnable ((withQueue up 1 qEvent 0x1000 0 0).fs F.QM_QDESC.STATE 0 1) .mgmt 1
      ((withQueue up 1 qEvent 0x1000 0 0).rd ⟨.QM_QDESC_W0, 1, 0, 0⟩) ∧
    When.queueDisable (withCommands up [] 1) .sideband 1 ((withCommands up [] 1).rd ⟨.QM_QDESC_W0, 1, 0, 0⟩) ∧
    When.qmWrite up .mgmt ∧ up.coreBit F.QM_CORE_DIS_LO.CORES_LO F.QM_CORE_DIS_HI.CORES_HI 95 = false ∧
    (up.quiescing (.core 0)).isSome = false ∧ up.fb { F.QM_PORT_DIS.PORTS with lo := 7, w := 1 } = false := by
  decide +kernel

theorem witness_QuiesceEndsOrExpires :
    When.quiesceDone { (withCommands up [] 0).fs F.QM_QDESC.STATE 2 1 with quiesce := [⟨.queue 1, false, 0⟩] } (.queue 1) ∧
    When.quiesceDone { up with quiesce := [⟨.core 95, false, 0⟩] } (.core 95) ∧
    When.quiesceDone { up with quiesce := [⟨.port 7, false, 0⟩] } (.port 7) ∧
    (let s : State := { up with quiesce := [⟨.core 95, false, 0⟩, ⟨.port 7, false, 0⟩] }
     When.settled s ∧ (s.quiescing (.port 7)).isSome = true ∧ (s.quiescing (.core 95)).isSome = true ∧ s.resetting (uid 2 95) = false) := by
  decide +kernel

theorem reset_queue_stopped (q : Nat) : State.reset.fg F.QM_QDESC.STATE q = 0 := by
  have h : RegKey.resetWord ⟨F.QM_QDESC.STATE.reg, q, 0, 0⟩ = RegKey.resetWord ⟨F.QM_QDESC.STATE.reg, 0, 0, 0⟩ := by
    unfold RegKey.resetWord; congr 1
  change bitsOf (RegKey.resetWord ⟨F.QM_QDESC.STATE.reg, q, 0, 0⟩).toNat _ _ = 0
  rw [h]
  decide +kernel

theorem witness_ClaimAndRelease :
    When.claim ((owned up).fs F.QM_OWNER.OWNED 0) (.session 5) 0 9 ∧
    When.claim ((up.fs F.MGT_HOSTKEY.EN 1 15).fs F.MGT_HOSTKEY.IDENTITY 7 15) .mgmt 7 7 ∧
    ((owned up).live = true ∧ (owned up).ownerSess (5 : BitVec 12).toNat = true) ∧
    (up.live = true ∧ isMgmt .mgmt = true ∧ up.fg F.QM_OWNER.RELEASING = 0 ∧ ∀ q : Nat, q < 65536 → up.fg F.QM_QDESC.STATE q = 0) := by
  refine ⟨⟨by decide +kernel, by decide +kernel, .inl ⟨5, by decide +kernel⟩⟩, ⟨by decide +kernel, by decide +kernel, .inr (by decide +kernel)⟩,
    by decide +kernel, by decide +kernel, by decide +kernel, by decide +kernel, fun q hq => ?_⟩
  rw [up, Laws.fg_fs_name _ _ _ _ _ _ _ _ _ _ (by decide) (Laws.valid_mk hq (by decide) (by decide)), reset_queue_stopped]

theorem witness_CommandsStart :
    When.commandStart (withCommands up [6] 1) 1 ∧ When.commandStart (withCommands up [6 + 2 ^ 8] 2) 1 ∧
    (((running up { words := [6] }).run (1 : BitVec 16).toNat).busy = true ∧ ((running up { words := [6] }).run (1 : BitVec 16).toNat).opc = 6) := by
  decide +kernel

theorem witness_CommandsComplete :
    When.commandComplete (running up { words := [6], ready := true, finished := true }) 1 ∧
    (let s := running up { words := [6], ready := true, finished := true, record := some (List.replicate 32 0) }
     ((s.run 1).record = some (List.replicate 32 0)) ∧ When.cqRoom s (s.fg F.QM_QDESC.CQ 1) ∧
      s.hubReach (1 % 8) (s.tailSpan (s.fg F.QM_QDESC.CQ 1) qCompletion) = true) := by
  decide +kernel

/-- What an option holds meets a predicate. -/
theorem of_any {α : Type} (o : Option α) {p : α → Prop} [DecidablePred p] (h : o.any (fun x => decide (p x)) = true) : ∃ x, p x := by
  cases o with
  | none => exact absurd h Bool.false_ne_true
  | some x => exact ⟨x, of_decide_eq_true h⟩

/-- What an option holds, where it holds something that meets a predicate. -/
theorem some_of_any {α : Type} (o : Option α) {p : α → Prop} [DecidablePred p] (h : o.any (fun x => decide (p x)) = true) : ∃ x, o = some x ∧
  p x := by
  cases o with
  | none => exact absurd h Bool.false_ne_true
  | some x => exact ⟨x, rfl, of_decide_eq_true h⟩

/-! ### Matrix commands -/

/-- An LND at 0x8000: M = N = 2, K = 32, one distributed loop over M, operand entries with the flags given (R136 to R139). -/
def lndWords (dloops flagsA : Nat) : List Word :=
  [1 + 3 * 2 ^ 8 + dloops * 2 ^ 14 + 1 * 2 ^ 24 + 2 ^ 32, 32 + 127 * 2 ^ 40 + 127 * 2 ^ 47, 2 + 2 * 2 ^ 32, 2 ^ 20 * 2 ^ 24, 1, 0,
    128 * 2 ^ 4, 1 + 128 * 2 ^ 4, 2 + 32 * 2 ^ 4, 0, 0, 0, BitVec.ofNat 64 (0x8100 + flagsA * 2 ^ 48), 0x8140 + 7 * 2 ^ 48, 0x8180, 0, 0]

/-- The LND of a DECANT of a 2 × 2 ACC256 tensor. -/
def decantWords : List Word :=
  [1 + 2 * 2 ^ 8 + 2 ^ 14, 127 * 2 ^ 40 + 127 * 2 ^ 47, 2 + 2 * 2 ^ 32, 2 ^ 20 * 2 ^ 24, 0, 0,
    128 * 2 ^ 4, 1 + 128 * 2 ^ 4, 0, 0, 0, 0, 0x81C0 + 7 * 2 ^ 48, 0, 0x8180, 0, 0]

/-- A tensor descriptor (R141) of two rows. -/
def tdWords (base fmt cols stride : Nat) : List Word :=
  [BitVec.ofNat 64 (base + fmt * 2 ^ 48), BitVec.ofNat 64 cols, 2, BitVec.ofNat 64 stride, 0, 0, BitVec.ofNat 64 cols, 0]

/-- Words in memory. -/
def put (s : State) (a : Nat) (ws : List Word) : State := s.store a (ws.flatMap (fun w => leBytes 8 w.toNat)) []

/-- Queue 1 runs a matrix command on core 0, with its descriptors in memory: INT8 operands, an FP32 output. -/
def matrixRun (lnd : List Word) (opc : Nat) : State :=
  let s := running up { words := [BitVec.ofNat 64 opc, 0, 0, 0x8000, 6, 0, if opc = 1 then 31 else 0, 0], cores := [0] }
  put (put (put (put (put s 0x8000 lnd) 0x8100 (tdWords 0x9000 1 32 64)) 0x8140 (tdWords 0x9100 1 32 64)) 0x8180 (tdWords 0x9200 6 2 64))
    0x81C0 (tdWords 0x9400 8 2 64)

/-- The same once its setup is done. -/
def matrixReady (lnd : List Word) (opc : Nat) : State :=
  let s := (matrixRun lnd opc).fs F.TOP_UNIT_COUNT.CORES 1
  s.setRun 1 { When.fetched s 1 with ready := true }

/-- A tile of an operand that has landed in buffer 0 (R140). -/
def landedTile (op : Nat) : OpTile := { q := 1, op := op, inst := 0, buf := 0, box := ⟨0, 2, 0, 32⟩, landed := true }

/-- Core 0 holds index 0, at a segment, and its operands have landed. -/
def matrixHeld (seg : Nat) (eng : Eng) : State :=
  (matrixReady (lndWords 1 7) 1).setCore 0
    { held := [{ q := 1, index := 0, seg := seg }], eng := [eng, {}, {}, {}], tiles := [landedTile 0, landedTile 1] }

/-- Four long slots with closed chains. -/
def slotsTaken : Eng := { chains := (List.range 4).map (fun i => (i, { st := 1, q := 1, index := 9, closed := true })) }

theorem witness_StageGroupsAndSetup :
    (up.live = true ∧ up.reaches .mgmt (RegKey.addr ⟨.TOP_GROUP_HI, (15 : Fin 16).val, 0, 0⟩) = true ∧ up.groupBusy 15 = false) ∧
    (matrixRun (lndWords 1 7) 1).groupBusy 0 = true ∧
    When.matrixSetup (matrixRun (lndWords 1 7) 1) 1 1 ∧ When.matrixSetup (matrixRun decantWords 2) 1 2 ∧
    (0x202 : BitVec 42).toNat ∈ unitsOf ((matrixRun decantWords 2).run 1).lndAddr 136 := by
  decide +kernel

/-- The tile that round 0 of the multicast operand A needs, as core 0's last, in a buffer that the round does not fill. -/
def hasTile : State :=
  let s := matrixReady (lndWords 1 (7 + 32)) 1
  s.modCore 0 (fun k => { k with tiles := [{ landedTile 0 with buf := 1, box := When.roundTile (s.run 1) false }] })

/-- A VECTOR command of queue 1 over two rows of distributed indices, set up on core 0. -/
def vectorReady : State :=
  ((matrixRun [] 1).fs F.TOP_UNIT_COUNT.CORES 1).setRun 1
    { busy := true, words := [3, 0, 0, 0x8000, 0, 0, 0, 0], cores := [0], ready := true, units := 1, desc := [BitVec.ofNat 64 (1 + 2 ^ 8)] }

theorem witness_TileCounterAndMulticast :
    When.indexTake (matrixReady (lndWords 1 7) 1) 0 1 ∧ When.indexTake (matrixReady (lndWords 0 7) 1) 0 1 ∧ When.vectorTake vectorReady 0 1 ∧
    When.multicast (matrixReady (lndWords 1 (7 + 32)) 1) 1 false ∧
    (∀ d ∈ (matrixReady (lndWords 1 (7 + 32)) 1).mcReceivers 1, ((matrixReady (lndWords 1 (7 + 32)) 1).core d).lastTile 1 (b2n false) = none) ∧
    When.multicast hasTile 1 false ∧ When.sameTile hasTile 1 false := by
  refine ⟨by decide +kernel, by decide +kernel, by decide +kernel, by decide +kernel, by decide +kernel, by decide +kernel, ?_⟩
  intro d hd
  have h : ∀ d ∈ hasTile.mcReceivers 1, ((hasTile.core d).lastTile 1 (b2n false)).any
      (fun x => x.box == When.roundTile (hasTile.run 1) false) = true := by decide +kernel
  cases k : (hasTile.core d).lastTile 1 (b2n false) with
  | none => have := h d hd; rw [k] at this; exact absurd this Bool.false_ne_true
  | some x => have := h d hd; rw [k] at this; exact ⟨x, rfl, by simpa using this⟩

theorem witness_SegmentsRunThroughTheArray :
    (∃ n, When.longSlot (matrixHeld 0 {}) 0 0 n) ∧ (((matrixHeld 0 {}).core 0).engine 0).unitFor false = some 0 ∧
    (∃ n, When.longSlot (matrixHeld 0 slotsTaken) 0 0 n) ∧ (((matrixHeld 0 slotsTaken).core 0).engine 0).unitFor false = none ∧
    (∃ n, When.segment (matrixHeld 0 { chains := [(3, { st := 1, q := 1 })] }) 0 0 n 3) ∧
    (let s := matrixHeld 1 { chains := [(0, { st := 1, q := 1, closed := true })], seg := some ⟨0, true, 1⟩ }
     ((s.core (0 : Fin 96).val).engine (0 : Fin 4).val).seg = some ⟨0, true, 1⟩ ∧
      smFind ((s.core (0 : Fin 96).val).engine (0 : Fin 4).val).chains 0 = some { st := 1, q := 1, closed := true }) ∧
    (let s := matrixHeld 1 { mode32 := [3], chains := [(27, { st := 2, q := 1, closed := true, sat := true, shift := 3 })] }
     smFind ((s.core (0 : Fin 96).val).engine (0 : Fin 4).val).chains (4 + (23 : Fin 24).val) =
        some { st := 2, q := 1, closed := true, sat := true, shift := 3 } ∧
      ((s.core (0 : Fin 96).val).engine (0 : Fin 4).val).seg = none ∧
      ∃ b, (s.run 1).lnd.indices[0]? = some b ∧ s.coresReach [(0 : Fin 96).val] ((s.run 1).repeatSpans (When.repeatSegs (s.run 1) 0 b)) = true) :=
  ⟨of_any ((matrixHeld 0 {}).nextSeg 0) (by decide +kernel), by decide +kernel,
    of_any ((matrixHeld 0 slotsTaken).nextSeg 0) (by decide +kernel), by decide +kernel,
    of_any ((matrixHeld 0 { chains := [(3, { st := 1, q := 1 })] }).nextSeg 0) (by decide +kernel),
    by decide +kernel, by decide +kernel, by decide +kernel, some_of_any _ (by decide +kernel)⟩

/-- Core 0, whose engine 0 has one chain of queue 1, and the decant given. -/
def oneChain (k : Nat) (ch : Chain) (dec : Option Dec) : State := matrixHeld 1 { chains := [(k, { ch with q := 1, closed := true })], dec := dec }

theorem verdict_of {s : State} {c : Fin 96} {e : Fin 4} {d : Dec} (h1 : ((s.core c.val).engine e.val).dec = some d) (h2 : d.swept = true)
    (h3 : ((s.core c.val).engine e.val).seg = none) : When.verdict s c e d :=
  ⟨h1, h2, fun g u hg => by rw [h3] at hg; cases hg⟩

/-- Core 0 decants an ACC256 tensor, whose tile has landed. -/
def decanting : State := (matrixReady decantWords 2).setCore 0 { held := [{ q := 1, index := 0 }], tiles := [landedTile 0] }

/-- A decant whose sweep has been made. -/
def swept : Dec := { unit := some 0, q := 1, index := 0, tile := 0, swept := true }

/-- A decant that overflows, of a command with RETRY_MAX = 8. -/
def overflows (raise : Nat) : State :=
  (oneChain 0 { st := 3 } (some { swept with overflow := true, raise := raise })).modRun 1
    (fun r => { r with words := [1, 0, 0, 0x8000, 6 + 8 * 2 ^ 6, 0, 31, 0] })

/-- A tile with a BF16 addend in memory, whose addend has not been fetched; and one whose addend is in its region. -/
def withAddend (reads : List RdJob) : State :=
  ((oneChain 0 { st := 1 } none).modRun 1 (fun r => { r with words := [1, 0, 0, 0x8000, 6 + 1 * 2 ^ 10, 0, 31, 0] })).modCore 0
    (fun k => { k with reads := reads })

theorem witness_DecantsSweepAndDecide :
    (∃ x, (withAddend []).sweepSrc (0 : Fin 96).val (0 : Fin 4).val (.slot 0) = some x ∧
      ((withAddend []).alloc (0 : Fin 96).val ((withAddend []).run x.q) ((withAddend []).run x.q).decantOrder).2 = none ∧
      ((withAddend []).run x.q).dec.add ≠ 0 ∧ ((withAddend []).core (0 : Fin 96).val).rdJob x.q x.index x.tile (0 : Fin 4).val = none) ∧
    (let j : RdJob := { q := 1, index := 0, tile := 0, unit := 0, todo := [] }
     ∃ x, (withAddend [j]).sweepSrc (0 : Fin 96).val (0 : Fin 4).val (.slot 0) = some x ∧
      ((withAddend [j]).core (0 : Fin 96).val).rdJob x.q x.index x.tile (0 : Fin 4).val = some j ∧
        ((withAddend [j]).core (0 : Fin 96).val).rdDone j = true) ∧
    (∃ x, When.sweep (oneChain 0 { st := 1 } none) 0 0 (.slot 0) x) ∧ (∃ x, When.sweep (oneChain 27 { st := 2 } none) 0 0 (.tile 23) x) ∧
    (∃ x, When.sweep decanting 0 0 (.acc256 0) x) ∧
    (When.verdict (oneChain 0 { st := 3 } (some { swept with failed := true })) 0 0 { swept with failed := true } ∧
      When.tileFailed (oneChain 0 { st := 3 } (some { swept with failed := true })) 0 0 { swept with failed := true } = true) ∧
    (let d : Dec := { swept with overflow := true, raise := 7 }
     When.verdict (overflows 7) 0 0 d ∧ When.tileFailed (overflows 7) 0 0 d = false ∧ d.raise < ((overflows 7).run d.q).dec.retryMax) ∧
    (let d : Dec := { swept with overflow := true, raise := 8 }
     When.verdict (overflows 8) 0 0 d ∧ When.tileFailed (overflows 8) 0 0 d = false ∧ ((overflows 8).run d.q).dec.retryMax ≤ d.raise ∧
      sampled ((overflows 8).run d.q) ((Lnd.ofWords ((overflows 8).run d.q).desc).tileOrigin d.index d.tile) = false) := by
  refine ⟨some_of_any _ (by decide +kernel), some_of_any _ (by decide +kernel),
    of_any ((oneChain 0 { st := 1 } none).sweepSrc (0 : Fin 96).val (0 : Fin 4).val (.slot 0)) (by decide +kernel),
    of_any ((oneChain 27 { st := 2 } none).sweepSrc (0 : Fin 96).val (0 : Fin 4).val (.tile 23)) (by decide +kernel),
    of_any (decanting.sweepSrc (0 : Fin 96).val (0 : Fin 4).val (.acc256 0)) (by decide +kernel),
    ⟨verdict_of (by decide +kernel) (by decide +kernel) (by decide +kernel), by decide +kernel⟩,
    ⟨verdict_of (by decide +kernel) (by decide +kernel) (by decide +kernel), by decide +kernel⟩,
    ⟨verdict_of (by decide +kernel) (by decide +kernel) (by decide +kernel), by decide +kernel⟩⟩

/-! ### Streams and combines -/

/-- A descriptor that copies 64 bytes from 0xA000 to 0xB000 (R168, R169). -/
def stridedWords : List Word := [1 + 2 ^ 4, 0xA000, 0xB000, 64, 2 ^ 48, 0, 2 ^ 48, 0, 2 ^ 48, 0, 2 ^ 48, 0, 0, 0, 0, 0]

/-- One that converts an element, one that gathers and one that scatters a record (R171, R173). -/
def convertWords : List Word := [2, 0x8100, 0x8180, 0, 0, 0, 1, 1, 0, 0, 0, 0, 0, 0, 0, 0]
def indexWords (kind : Nat) : List Word := [BitVec.ofNat 64 kind, 0xA000, 0xB000, 0xC000, 1, 64, 64, 1, 64, 0, 0, 0, 0, 0, 0, 0]

/-- Core 0 has a stream of queue 1 on context 1. -/
def streaming (cx : Ctx) (xs : List Xfer) : State :=
  (((matrixRun [] 1).fs F.TOP_UNIT_COUNT.CORES 1).setRun 1 { busy := true, words := [4, 0, 0, 0x8000, 17, 0, 0, 0], ready := true }).setCore 0
    { ctx := [{}, { cx with q := some 1 }, {}, {}], xfers := xs }

/-- A transfer of queue 1 that writes 64 bytes. -/
def xfer : Xfer := { ctx := 1, q := 1, idx := 0, wr := { addr := 0xB000, bytes := List.replicate 64 7 } }

/-- The request at the head of an atomic unit, and the unit's queue. -/
def combining (op k n : Nat) : State × CombReq :=
  let r : CombReq := { comb := op + k * 2 ^ 4, wr := { addr := 0xB000, bytes := List.replicate n 0 }, home := .none }
  ({ up with units := [(63, [r])] }, r)

theorem witness_StreamsReadTheirDescriptors :
    (let s := (streaming { list := 0x8000, count := 17 } []).setRun 1 { busy := true, words := [4, 0, 0, 0x8000, 17, 0, 0, 0] }
     (s.run (1 : BitVec 16).toNat).busy = true ∧ (s.run (1 : BitVec 16).toNat).opc = 4 ∧ (s.run (1 : BitVec 16).toNat).ready = false ∧
      s.ctxOf (s.run (1 : BitVec 16).toNat).core (1 : BitVec 16).toNat = some 1 ∧
        ((s.core (s.run (1 : BitVec 16).toNat).core).context 1).list % 128 = 0 ∧
      ((s.core (s.run (1 : BitVec 16).toNat).core).context 1).count ≠ 0 ∧ (s.run (1 : BitVec 16).toNat).comb.ok = true) ∧
    When.batch (streaming { list := 0x8000, count := 17 } []) 0 0 1 ∧
    When.batch (streaming { list := 0x8000, count := 17, fetched := 16, buf := List.replicate 16 stridedWords } []) 0 0 1 ∧
    (When.descriptor (streaming { buf := [stridedWords] } []) 0 0 1 1 stridedWords [] ∧
      When.descGood (streaming { buf := [stridedWords] } []) 1 stridedWords) ∧
    (let s := streaming { buf := [convertWords] } []
     When.descriptor s 0 0 1 2 convertWords [] ∧ When.descGood (When.convSeen s 0 1 convertWords []) 1 convertWords) ∧
    (let s : State := { streaming { buf := [convertWords] } [] with marks := [(0x204, true)] }
     When.descriptor s 0 0 1 2 convertWords [] ∧ (When.convSeen s 0 1 convertWords []).descOk false (s.run 1).comb convertWords = true ∧
      (When.convSeen s 0 1 convertWords []).tdPoisoned convertWords = true) ∧
    (When.descriptor (streaming { buf := [indexWords 3] } []) 0 0 1 3 (indexWords 3) [] ∧
      When.descGood (streaming { buf := [indexWords 3] } []) 1 (indexWords 3)) ∧
    (When.descriptor (streaming { buf := [indexWords 4] } []) 0 0 1 4 (indexWords 4) [] ∧
      When.descGood (streaming { buf := [indexWords 4] } []) 1 (indexWords 4)) := by
  refine ⟨?_, ?_, ?_, ⟨?_, ?_⟩, ⟨?_, ?_⟩, ⟨?_, ?_, ?_⟩, ⟨?_, ?_⟩, ⟨?_, ?_⟩⟩ <;> decide +kernel

/-- A fetch of operand B of index 0, and core 0, which has formed it (R134, R140). -/
def operandFetch : Fetch := { id := 9, q := 1, index := 0, op := 1, inst := 0, buf := 0, box := ⟨0, 2, 0, 32⟩, receivers := [0] }
def fetching : State := (matrixHeld 0 {}).modCore 0 (fun k => { k with fetches := [operandFetch] })

theorem witness_TransfersMoveBytes :
    (let w : StagedWr := { q := 1, index := 0, tile := 0, wr := { addr := 0xB3C0, bytes := List.replicate 128 7 } }
     When.stagedIssue ((streaming {} []).setCore 0 { ctx := [{ staged := [w] }, {}, {}, {}] }) 0 w [] 64) ∧
    (let w : StagedWr := { q := 1, index := 0, tile := 0, wr := { addr := 0xB000, bytes := List.replicate 128 7 }, src := tileBase + 960 }
     When.stagedIssue ((streaming {} []).setCore 0 { ctx := [{ staged := [w] }, {}, {}, {}] }) 0 w [] 64) ∧
    (let p : RdPiece := { src := 0xA000, len := 64, dst := 0 }
     let j : RdJob := { q := 1, index := 0, tile := 0, unit := 0, todo := [p] }
     let s := (streaming {} []).setCore 0 { reads := [j] }
     s.ctxTurn (0 : Fin 96).val = some 0 ∧ s.nextZero (0 : Fin 96).val = some (.read j)) ∧
    When.stridedIssue (streaming { cur := some { words := stridedWords, idx := 0 } } []) 0 0 1 { words := stridedWords, idx := 0 }
      0xA000 0xB000 64 ∧
    (fetching.ctxTurn (0 : Fin 96).val = some 0 ∧ fetching.nextFetch (0 : Fin 96).val = some operandFetch) ∧
    When.landing (streaming {} [xfer]) 0 0 xfer := by
  decide +kernel

/-- A stream that ends with a handle for queue 3. -/
def handling : State :=
  withQueue (streaming { count := 1, next := 1, ended := true, lastDesc := [BitVec.ofNat 64 (1 + 2 ^ 4 + 2 ^ 9 + 3 * 2 ^ 16)] } []) 3 qHandle 0x3000 0 15

theorem witness_StreamsEndAndPostHandles :
    When.streamEnd (streaming { count := 1, next := 1, ended := true, lastDesc := stridedWords } []) 0 1 1 ∧
    (((streaming { count := 1, next := 1, ended := true, lastDesc := stridedWords } []).core (0 : Fin 96).val).context (1 : Fin 4).val).endHandle 0 0 = none ∧
    (When.streamEnd handling 0 1 1 ∧ ∃ hb, ((handling.core (0 : Fin 96).val).context (1 : Fin 4).val).endHandle (0 : Fin 96).val (handling.run 1).seq = some hb ∧
      When.handleRoom handling hb.1) ∧ handling.mayPost (0 : Fin 96).val ((0 : Fin 3).val + 1) = true ∧
    (let s := withQueue (streaming { handle := some (3, List.replicate 32 0) } []) 3 qHandle 0x3000 0 15
     ((s.core (0 : Fin 96).val).context ((0 : Fin 3).val + 1)).handle = some (3, List.replicate 32 0) ∧
      ((s.core (0 : Fin 96).val).context ((0 : Fin 3).val + 1)).q = some 1 ∧ When.handleRoom s 3 ∧
        s.mayPost (0 : Fin 96).val ((0 : Fin 3).val + 1) = true) := by
  refine ⟨by decide +kernel, by decide +kernel, ⟨by decide +kernel, some_of_any _ (by decide +kernel)⟩, by decide +kernel, by decide +kernel⟩

theorem witness_CombinesApplyAtTheMemory :
    (∀ op ∈ [1, 2, 3, 4, 5, 6, 8], When.combine (combining op 0 128).1 63 op (combining op 0 128).2 [] ∧ (combining op 0 128).2.home = .none) ∧
    When.combine (combining 7 15 256).1 63 7 (combining 7 15 256).2 [] := by
  decide +kernel

/-! ### Vector operations -/

/-- Core 0 runs a vector operation of queue 1 over two tags from 5 on, with its setup made; `held`: it holds index 0; and what it reads. -/
def vector (opc : Nat) (held : Bool) (reads : List RdJob := []) : State :=
  (((matrixRun [] 1).fs F.TOP_UNIT_COUNT.CORES 1).setRun 1
    { busy := true, words := [3, 0, 0, 0x8000, 0, 0, 0, 0], cores := [0], solo := some 0, ready := true,
      desc := [BitVec.ofNat 64 (1 + opc * 2 ^ 8 + 2 ^ 16), 2 * 2 ^ 32, 0, 0, 0, 0, 0, 0, 0, 0, 0, 0, 0, 0, 5, 2 ^ 20 * 2 ^ 24] }).setCore 0
    { held := if held then [{ q := 1, index := 0 }] else [], reads := reads }

/-- Everything that was read has landed. -/
def haveRead : RdJob := { q := 1, index := 0, tile := 0xFFFF, unit := 4, todo := [] }

theorem witness_VectorOperationsRunAnIndex :
    ∀ opc ∈ [0x01, 0x02, 0x03, 0x04, 0x05, 0x06, 0x07, 0x08, 0x09, 0x0B, 0x0C],
      When.vecIndex (vector opc true [haveRead]) 0 1 opc { q := 1, index := 0 } haveRead ∧
      clashes ((vector opc true).run 1) (Vod.ofWords ((vector opc true).run 1).desc) = [] := by
  decide +kernel

/-- An operation whose reads have landed may run. -/
theorem vecSole_of {s : State} {c : Fin 96} {q opc : Nat} {j : RdJob} (h : When.soleHere s c q opc)
    (h1 : (s.core c.val).rdJob q 0 0xFFFF 4 = some j ∧ (s.core c.val).rdDone j = true)
    (h2 : (When.soleSeen s c q).dataFault (Vod.ofWords (s.run q).desc) = none) : When.vecSole s c q opc := ⟨h, .inr ⟨j, h1⟩, h2⟩

theorem witness_TablesAndPartials :
    (∀ opc ∈ [0x0A, 0x0E, 0x10], When.soleUnread (vector opc false) 0 1 opc) ∧
    (∀ opc ∈ [0x0A, 0x0D, 0x0E, 0x0F, 0x10, 0x11],
      When.vecSole (vector opc false [haveRead]) 0 1 opc ∧ clashes ((vector opc false).run 1) (Vod.ofWords ((vector opc false).run 1).desc) = []) ∧
    (∀ opc ∈ [0x0D, 0x0F], ((vector opc false).core 0).rdJob 1 0 0xFFFF 4 = none ∧ When.soleTodo (vector opc false) 1 = []) := by
  refine ⟨by decide +kernel, fun opc h => ⟨?_, ?_⟩, by decide +kernel⟩
  · have a : ∀ opc ∈ [0x0A, 0x0D, 0x0E, 0x0F, 0x10, 0x11], When.soleHere (vector opc false [haveRead]) 0 1 opc := by decide +kernel
    have b : ∀ opc ∈ [0x0A, 0x0D, 0x0E, 0x0F, 0x10, 0x11], ((vector opc false [haveRead]).core (0 : Fin 96).val).rdJob 1 0 0xFFFF 4 = some haveRead ∧
        ((vector opc false [haveRead]).core (0 : Fin 96).val).rdDone haveRead = true := by decide +kernel
    have c : ∀ opc ∈ [0x0A, 0x0D, 0x0E, 0x0F, 0x10, 0x11],
        (When.soleSeen (vector opc false [haveRead]) 0 1).dataFault (Vod.ofWords ((vector opc false [haveRead]).run 1).desc) = none := by decide +kernel
    exact vecSole_of (a opc h) (b opc h) (c opc h)
  · have a : ∀ opc ∈ [0x0A, 0x0D, 0x0E, 0x0F, 0x10, 0x11],
        clashes ((vector opc false).run 1) (Vod.ofWords ((vector opc false).run 1).desc) = [] := by decide +kernel
    exact a opc h

/-! ### Collectives -/

/-- A collective of queue 1 over lane 0 and level 1, in a phase. -/
def collState (op whisk n phase : Nat) : CollSt :=
  { ctx := 0, lanes := [0], ready := true, gts := [(1, { n := n, rank := 0, next := 8, prev := 16 })], bounds := [0, 1, 2], srcs := [{ fmt := 6 }]
    words := [BitVec.ofNat 64 (1 + op * 2 ^ 8 + 2 ^ 12 + whisk * 2 ^ 15 + 2 ^ 16), 0xA000, 0, 0xB000, 0, 0, 0, 0, 0, 0xC000, 0, 32, 0, 0, 0, 0]
    phase := phase, sent := [(0, 2)], recv := if n = 1 then [(0, 2)] else [] }

def collecting (op whisk n phase : Nat) : State :=
  { running up { words := [5], ready := true } with colls := [(1, collState op whisk n phase)], notices := [⟨7, 128, 16, 0xA000⟩, ⟨7, 640, 16, 0xA000⟩] }

def theColl (op whisk n phase : Nat) : Coll := { d := CDesc.ofWords (collState op whisk n phase).words, k := collState op whisk n phase, q := 1 }

/-- Phases that come after and have nothing to send or receive. -/
theorem lastPhase_of {s : State} {q op : Nat} {whisk : Bool} {c : Coll} {p : CPhase} (l : Nat)
    (h : s.coll q = some c ∧ c.d.op = op ∧ c.d.whisk = whisk ∧ c.now = some p ∧ (s.run q).busy = true ∧ (s.run q).opc = 5 ∧
      (s.run q).finished = false ∧ (s.run q).st = [] ∧ (∀ x ∈ c.k.conns, s.collConnOk x = true) ∧ s.collOwes q = false)
    (h2 : ∀ r ∈ c.d.phases.drop (c.k.phase + 1), (r = .ag l ∨ r = .bc l))
    (h3 : (c.gt l).n = 1) (h4 : c.dist l = 0) : When.lastPhase s q op whisk c p := by
  obtain ⟨a1, a2, a3, a4, a5, a6, a7, a8, a9, a10⟩ := h
  refine ⟨a1, a2, a3, a4, a5, a6, a7, a8, a9, a10, fun r hr => ⟨l, h2 r hr, fun i => ?_⟩⟩
  rcases h2 r hr with rfl | rfl <;> simp [Coll.sends, Coll.recvs, h3, h4]

/-- The phase that the witness of each collective is in. -/
abbrev reduction (op whisk phase : Nat) (p : CPhase) : Prop :=
  When.lastPhase (collecting op whisk 1 phase) 1 op (whisk == 1) (theColl op whisk 1 phase) p

theorem witness_OwnersActionEndsTheCollective :
    (reduction 1 0 2 .own ∧ reduction 2 0 2 .own ∧ reduction 3 0 2 .own ∧ reduction 4 0 0 .own ∧ reduction 5 0 0 .own ∧ reduction 7 0 2 .own) ∧
    ∀ x ∈ [(1, 2), (2, 2), (3, 2), (4, 0), (5, 0), (7, 2)],
      ((collecting x.1 0 1 x.2).collMet 1 (unitList [])).ownReach (theColl x.1 0 1 x.2) = true := by
  refine ⟨⟨?_, ?_, ?_, ?_, ?_, ?_⟩, by decide +kernel⟩ <;> exact lastPhase_of 1 (by decide +kernel) (by decide +kernel) (by decide +kernel) (by decide +kernel)

theorem witness_TokensMovesAndRecordsEndTheCollective :
    (reduction 6 0 0 (.tok 1) ∧ (theColl 6 0 1 0).sentN 0 = 2 ∧ (theColl 6 0 1 0).recvN 0 = 2) ∧ reduction 8 0 2 .move ∧ reduction 8 1 4 .move ∧
    (reduction 9 0 2 .recs ∧ (theColl 9 0 1 2).sentN 0 ≠ 0 ∧
      (collecting 9 0 1 2).heardFrom 1 (((collecting 9 0 1 2).collMet 1 (unitList [])).a2aFrom (theColl 9 0 1 2) .recs) = true) ∧
    (∀ x ∈ [(8, 0, 2), (8, 1, 4), (9, 0, 2)],
      ((collecting x.1 x.2.1 1 x.2.2).collMet 1 (unitList [])).flatReach (theColl x.1 x.2.1 1 x.2.2) = true) ∧
    (let s : State := { collecting 2 0 2 1 with notices := [] }
     s.coll (1 : BitVec 16).toNat = some (theColl 2 0 2 1) ∧ s.awaited (theColl 2 0 2 1) = some (0, 16) ∧ (theColl 2 0 2 1).hub 0 < 8) := by
  refine ⟨⟨?_, by decide +kernel⟩, ?_, ?_, ⟨?_, by decide +kernel⟩, by decide +kernel, by decide +kernel⟩ <;>
    exact lastPhase_of 1 (by decide +kernel) (by decide +kernel) (by decide +kernel) (by decide +kernel)

/-- The state once a piece's notice is taken. -/
def noticed (op phase tag : Nat) : State := { collecting op 0 2 phase with notices := [⟨7, tag, 16, 0xA000⟩] }

theorem piece_of {op phase tag left step j : Nat} {ch : Nat × Nat} {p : CPhase}
    (h : (collecting op 0 2 phase).colls.find? (fun x => x.2.ready && x.2.ctx == bitsOf tag 3 2 && x.2.lanes[bitsOf tag 0 3]? == some 0) =
        some (1, collState op 0 2 phase) ∧ (collecting op 0 2 phase).coll 1 = some (theColl op 0 2 phase))
    (h2 : (theColl op 0 2 phase).now = some p ∧
      ((theColl op 0 2 phase).recvs p (bitsOf tag 0 3))[(theColl op 0 2 phase).recvN (bitsOf tag 0 3)]? = some (step, ch, j))
    (h3 : (collecting op 0 2 phase).takeNotice ((theColl op 0 2 phase).prevConn (bitsOf tag 7 2) (bitsOf tag 0 3)) tag =
      some (⟨7, tag, 16, 0xA000⟩, noticed op phase left))
    (h4 : bitOf tag 10 = false ∧ bitsOf tag 7 2 ≠ 0 ∧ tag < 2 ^ 11) :
    When.piece (collecting op 0 2 phase) 0 7 tag (theColl op 0 2 phase) p step ch j ⟨7, tag, 16, 0xA000⟩ (noticed op phase left) :=
  ⟨⟨_, h.1, h.2⟩, h2.1, h2.2, h3, rfl, h4⟩

/-- The bytes of the first piece of a reduction are there (R18). -/
abbrev pathThere (op : Nat) : Prop :=
  (collecting op 0 2 1).hubWay 0 ((theColl op 0 2 1).inRun ((theColl op 0 2 1).piece (0, 16) 0)).1
    ((theColl op 0 2 1).inRun ((theColl op 0 2 1).piece (0, 16) 0)).2 = true

theorem witness_PiecesAreAddedOrKept :
    (When.piece (collecting 2 0 2 1) 0 7 128 (theColl 2 0 2 1) (.rs 1) 0 (0, 16) 0 ⟨7, 128, 16, 0xA000⟩ (noticed 2 1 640) ∧ pathThere 2) ∧
    (When.piece (collecting 1 0 2 1) 0 7 128 (theColl 1 0 2 1) (.rs 1) 0 (0, 16) 0 ⟨7, 128, 16, 0xA000⟩ (noticed 1 1 640) ∧ pathThere 1) ∧
    (bitOf 128 9 = false ∧ bitsOf 128 5 2 = (theColl 2 0 2 1).recvN (bitsOf 128 0 3) % 4 ∧ bitsOf 128 7 2 = 1) ∧
    (When.piece (collecting 2 0 2 3) 0 7 640 (theColl 2 0 2 3) (.ag 1) 0 (16, 32) 0 ⟨7, 640, 16, 0xA000⟩ (noticed 2 3 128) ∧
      bitOf 640 9 = true ∧ bitsOf 640 7 2 = 1) := by
  refine ⟨⟨?_, by decide +kernel⟩, ⟨?_, by decide +kernel⟩, by decide +kernel, ⟨?_, by decide +kernel⟩⟩ <;>
    exact piece_of (by decide +kernel) (by decide +kernel) (by decide +kernel) (by decide +kernel)

/-! ### Links -/

/-- Device 0x0101, whose link 39 is in a state at a width and enabled, with device 0x0102 at its other end. -/
def linked (state width : Nat) : State :=
  let s := ((up.fs F.FAB_ID.VALID 1).fs F.FAB_ID.DEVICE_ID 0x0101).fs F.FAB_LINK_CTL.EN 1 7 4
  (((s.fs F.FAB_LINK_STATUS.STATE state 7 4).fs F.FAB_LINK_STATUS.WIDTH width 7 4).fs F.FAB_LINK_STATUS.NBR_VALID 1 7 4).fs
    F.FAB_LINK_STATUS.NBR_ID 0x0102 7 4

/-- The same while it trains at a width. -/
def training (width : Nat) : State := (linked 2 0).setLink 39 { tryWidth := width }

/-- A packet to device 0x0102. -/
def packet : Pkt := { zeroPkt with dst := 0x0102, src := 0x0101, ptype := 1, hops := 31, payload := List.replicate 64 5 }

/-- One that waits in a link's output queue. -/
def queued (s : State) : State := s.setLink 39 { outq := [{ p := packet, vc := 0, left := 1 }] }

theorem witness_LinksTrainAndGoDown :
    ((linked 1 0).lg F.FAB_LINK_STATUS.STATE (39 : Fin 40).val = 1 ∧ (linked 1 0).lg F.FAB_LINK_CTL.EN (39 : Fin 40).val = 1) ∧
    ((training 2).lg F.FAB_LINK_STATUS.STATE (39 : Fin 40).val = 2 ∧
      lanesFit ((training 2).link (39 : Fin 40).val).tryWidth (8 : BitVec 4).toNat = true ∧
      Nat.land (8 : BitVec 4).toNat ((training 2).link (39 : Fin 40).val).lanesOk = (8 : BitVec 4).toNat ∧
      ((training 2).link (39 : Fin 40).val).tryWidth ≤ 2 ∧ 2 ≤ ((training 2).link (39 : Fin 40).val).tryWidth) ∧
    ((training 1).lg F.FAB_LINK_STATUS.STATE (39 : Fin 40).val = 2 ∧ ((training 1).link (39 : Fin 40).val).tryWidth < 2) ∧
    ((linked 3 1).linkUp (39 : Fin 40).val = true ∧ (linked 3 1).lg F.FAB_LINK_STATUS.WIDTH (39 : Fin 40).val < 2) ∧
    ((linked 3 2).linkUp (39 : Fin 40).val = true ∧ 2 ≤ (linked 3 2).lg F.FAB_LINK_STATUS.WIDTH (39 : Fin 40).val) := by
  decide +kernel

theorem witness_RetunesAndLinkControl :
    ((linked 3 0).linkUp (39 : Fin 40).val = true ∧ ((linked 3 0).link (39 : Fin 40).val).outq = [] ∧
      (linked 3 0).resetting (uid 0xA (39 : Fin 40).val) = false ∧ When.taken (linked 3 0) .mgmt (linkCtlAddr (39 : Fin 40).val) ∧
      (linked 3 0).lg F.FAB_LINK_CTL.EN (39 : Fin 40).val = 1 ∧ bitOf (7 : Word).toNat 0 = true ∧
      (linked 3 0).inReset (linkCtlKey (39 : Fin 40).val) = false) ∧
    ((queued (linked 3 0)).linkUp (39 : Fin 40).val = true ∧ ((queued (linked 3 0)).link (39 : Fin 40).val).outq ≠ []) ∧
    (linked 4 0).lg F.FAB_LINK_STATUS.STATE (39 : Fin 40).val = 4 ∧
    (When.taken (linked 3 0) .mgmt (linkCtlAddr (39 : Fin 40).val) ∧ bitOf (6 : Word).toNat 0 = false ∧
      (linked 3 0).lg F.FAB_LINK_STATUS.STATE (39 : Fin 40).val ≠ 0) ∧
    (let s := up.fs F.FAB_LINK_CTL.EN 0 7 4
     When.taken s .sideband (linkCtlAddr (39 : Fin 40).val) ∧ bitOf (7 : Word).toNat 0 = true ∧ s.lg F.FAB_LINK_STATUS.STATE (39 : Fin 40).val = 0 ∧
      s.lg F.FAB_LINK_CTL.EN (39 : Fin 40).val = 0 ∧ s.inReset (linkCtlKey (39 : Fin 40).val) = false) := by
  decide +kernel

/-- A flit group of zeros with its CRC (R318). -/
def zeroGroup : FlitGroup :=
  { fecBad := 0, bytes := List.replicate 388 0 ++ leBytes 4 (crc32c (List.replicate 512 0)) ++ List.replicate 120 0 }

/-- A link that discards groups until the one it expects next. -/
def discarding : State := (linked 3 0).setLink 39 { rxNext := 4095, rxBad := true }

set_option maxRecDepth 100000 in
theorem witness_LinkFlitsAreTakenAndFormed :
    ((linked 3 0).linkUp (39 : Fin 40).val = true ∧ (linked 3 0).drain = none ∧ When.settled (linked 3 0) ∧
      When.accepted (linked 3 0) (39 : Fin 40).val zeroGroup = true ∧
      When.accepted (linked 3 0) (39 : Fin 40).val { zeroGroup with fecBad := 1 } = false ∧ ((linked 3 0).link (39 : Fin 40).val).rxBad = false) ∧
    (discarding.linkUp (39 : Fin 40).val = true ∧ When.settled discarding ∧ (discarding.link (39 : Fin 40).val).rxBad = true ∧
      When.gseq zeroGroup ≠ (discarding.link (39 : Fin 40).val).rxNext) ∧
    (let s := (linked 3 0).setLink 39 { rxBad := true }
     s.linkUp (39 : Fin 40).val = true ∧ When.settled s ∧ When.accepted s (39 : Fin 40).val { zeroGroup with fecBad := 1 } = false ∧
      When.gseq { zeroGroup with fecBad := 1 } = (s.link (39 : Fin 40).val).rxNext) := by
  decide +kernel

theorem witness_LinkFlitsAreTakenAndFormed_formed :
    (List.replicate 4 ({ hdr := 2 ^ 16 - 1, data := List.replicate 120 0xFF } : Flit)).length ≤ 4 ∧
    (∀ f ∈ List.replicate 4 ({ hdr := 2 ^ 16 - 1, data := List.replicate 120 0xFF } : Flit), f.hdr < 2 ^ 16 ∧ f.data.length = 120) ∧
    ({ ackDue := some 4095 } : LinkSt).ackDue = some 4095 ∧ ({ nakDue := some 4095 } : LinkSt).nakDue = some 4095 := by
  decide +kernel

/-! ### Routing -/

/-- A device that routes to device 0x0102 by link 39 in its active bank 0, with packets in its router. -/
def routing (credits : SMap Nat) (ns : List NetPkt) : State :=
  let s := ((linked 3 0).fs F.FAB_EPOCH.BANK0 2).fs F.FAB_ROUTE_MEMBER.CAND (2 ^ 39) 0 0 2
  { (s.fs F.FAB_ROUTE_MEMBER.FALLBACK 39 0 0 2).setLink 39 { credits := credits } with net := ns }

/-- A packet for this device, and one that has no hops left. -/
def forMe : Pkt := { packet with dst := 0x0101, src := 0x0102 }

theorem witness_RoutingSendsPacketsOn :
    (When.inRouter (routing [] [{ p := forMe }]) forMe none { p := forMe } ∧ (routing [] [{ p := forMe }]).fate { p := forMe } = .deliver) ∧
    (let np : NetPkt := { p := { packet with hops := 0 }, src := some 0 }
     When.inRouter (routing [] [np]) { packet with hops := 0 } (some 0) np ∧ (routing [] [np]).fate np = .drop F.FAB_DROP.HOPLIMIT) ∧
    (let np : NetPkt := { p := packet, src := some 0 }
     When.inRouter (routing [] [np]) packet (some 0) np ∧ (routing [] [np]).fate np = .port 39 ∧ (routing [] [np]).drain = none) ∧
    ((routing [] []).linkUp (39 : Fin 40).val = true ∧ (routing [] []).net.find? (fun n => n.p = packet ∧
      n.src = some (39 : Fin 40).val) = none) := by
  decide +kernel

theorem witness_EscapeAndOccupancy :
    (let np : NetPkt := { p := packet }
     let q : NetPkt := { p := { packet with esc := true } }
     let s := routing [(vcOf packet, 0)] [np]
     s.net[0]? = some np ∧ s.stuck np = true ∧ ({ s with net := s.net.set 0 q } : State).fate q = .port 39) ∧
    (let np : NetPkt := { p := packet }
     let q : NetPkt := { p := { packet with esc := true } }
     let s := routing [(vcOf packet, 0), (vcOf q.p, 0)] [np]
     s.net[0]? = some np ∧ s.stuck np = true ∧ ({ s with net := s.net.set 0 q } : State).fate q = .wait) := by
  decide +kernel

/-! ### Packets of a connection -/

/-- Connection 4095 to device 0x0102 is OPEN, of generation 15, and expects a PSN; its register and its ends. -/
def connected (epsn : Nat) (k : ConnSt) : State :=
  let s := (((linked 3 0).fs F.FAB_CONN.STATE 1 0 4095).fs F.FAB_CONN.EN 1 0 4095).fs F.FAB_CONN.PEER_ID 0x0102 0 4095
  (((s.fs F.FAB_CONN.GEN 15 0 4095).fs F.FAB_CONN.RX_EPSN epsn 0 4095).fs F.FAB_CONN.DB 1 0 4095).setConn 4095 k

/-- A packet of a type from its peer. -/
def fromPeer (t : BitVec 4) (psn : BitVec 32) (addr : BitVec 48) (payload : List Byte) : Pkt :=
  { zeroPkt with dst := 0x0101, src := 0x0102, ptype := t, dconn := 4095, gen := 15, psn := psn, addr := addr, payload := payload }

/-- A doorbell of queue 1 carries its new TAIL. -/
def bell : Pkt := fromPeer 6 0 (BitVec.ofNat 48 (bellBase + 64)) (leBytes 8 1)

/-- A transfer of core 0 that waits for 64 bytes from connection 4095. -/
def remoteRead : Xfer := { ctx := 1, q := 1, idx := 0, wr := { addr := 0xA000, bytes := [] }, conn := some 4095, remoteSrc := true, rd := 64 }
def reading : State := (connected 0 {}).setCore 0 { xfers := [remoteRead] }

theorem witness_SequencedPacketsAreApplied :
    When.applied (connected 4294967295 {}) (fromPeer 1 254 0xA000 (List.replicate 64 5)) 1 ∧
    When.applied (connected 0 {}) (fromPeer 2 0 0xA000 (leBytes 8 2 ++ List.replicate 4 5)) 2 ∧
    When.applied (connected 0 {}) (fromPeer 3 0 0xA000 (leBytes 6 0xB000 ++ leBytes 2 4095)) 3 ∧
    (When.applied (connected 0 {}) (fromPeer 4 0 0xA000 (List.replicate 64 5)) 4 ∧
      (connected 0 {}).awaiting (4095 : BitVec 12).toNat (fromPeer 4 0 0xA000 (List.replicate 64 5)) = none) ∧
    (When.applied reading (fromPeer 4 0 0xA000 (List.replicate 64 5)) 4 ∧
      reading.awaiting (4095 : BitVec 12).toNat (fromPeer 4 0 0xA000 (List.replicate 64 5)) = some (0, remoteRead)) ∧
    (When.applied (connected 0 {}) (fromPeer 5 0 0xA000 (leBytes 8 1)) 5 ∧ errHit .none = none ∧
      bitOf (fromPeer 5 0 0xA000 (leBytes 8 1)).tag.toNat 15 = false) ∧
    (let s := withQueue (connected 0 {}) 1 qCommand 0x1000 0 0
     When.applied s bell 6 ∧ s.fb F.FAB_CONN.DB 0 bell.dconn.toNat = true ∧ (bell.addr.toNat - bellBase) / 64 = 1 ∧ leNat (bell.payload.take 8) = 1 ∧
      s.fg F.QM_QDESC.STATE 1 = 1 ∧ 0 < (1 + 2 ^ 32 - When.pointer s 1) % 2 ^ 32 ∧ (1 + 2 ^ 32 - When.pointer s 1) % 2 ^ 32 < 2 ^ 31 ∧
      (1 + 2 ^ 32 - When.pointer s 1) % 2 ^ 32 ≤ When.room s 1) := by
  refine ⟨?_, ?_, ?_, ?_, ?_, ?_, ?_⟩ <;> decide +kernel

theorem witness_TheExpectedPacketMovesTheWindow :
    ((connected 4294967295 {}).conn (4095 : BitVec 12).toNat).rx = [] ∧
    (let p := fromPeer 1 4294967295 0xA000 (List.replicate 64 5)
     When.ahead (connected 4294967295 {}) p = 0 ∧ When.applied (connected 4294967295 {}) p 1) ∧
    (let p := fromPeer 2 0 0xA000 (leBytes 8 2 ++ List.replicate 4 5); When.ahead (connected 0 {}) p = 0 ∧ When.applied (connected 0 {}) p 2) ∧
    (let p := fromPeer 3 0 0xA000 (leBytes 6 0xB000 ++ leBytes 2 4095); When.ahead (connected 0 {}) p = 0 ∧ When.applied (connected 0 {}) p 3) ∧
    (let p := fromPeer 4 0 0xA000 (List.replicate 64 5); When.ahead (connected 0 {}) p = 0 ∧ When.applied (connected 0 {}) p 4) ∧
    (let p := fromPeer 5 0 0xA000 (leBytes 8 1); When.ahead (connected 0 {}) p = 0 ∧ When.applied (connected 0 {}) p 5) ∧
    (When.ahead (connected 0 {}) bell = 0 ∧ When.applied (connected 0 {}) bell 6) := by
  refine ⟨?_, ?_, ?_, ?_, ?_, ?_, ?_⟩ <;> decide +kernel

theorem witness_DuplicatesApplyNothing :
    ∀ n ∈ [1, 2, 3, 4, 5, 6],
      When.ofPeer (connected 0 {}) (fromPeer (BitVec.ofNat 4 n) 2147483648 0xA000 []) n ∧
        2 ^ 31 ≤ When.ahead (connected 0 {}) (fromPeer (BitVec.ofNat 4 n) 2147483648 0xA000 []) ∧
      When.ofPeer (connected 0 { rx := [(255, false)] }) (fromPeer (BitVec.ofNat 4 n) 255 0xA000 []) n ∧
        When.ahead (connected 0 { rx := [(255, false)] }) (fromPeer (BitVec.ofNat 4 n) 255 0xA000 []) < 256 ∧
        (smFind ((connected 0 { rx := [(255, false)] }).conn (4095 : BitVec 12).toNat).rx (255 : BitVec 32).toNat).isSome = true := by
  decide +kernel

/-- An unacknowledged WRITE of queue 1's transfer. -/
def unacked (sends : Nat) (home : TxHome) : TxPkt := { p := { packet with psn := 7 }, sends := sends, home := home }

/-- An unacknowledged COMBINE of queue 1's transfer, whose target met an uncorrectable unit. -/
def combineSent : TxPkt := { unacked 1 (.xfer 1 0 0) with p := { packet with ptype := 2, psn := 7 } }
def foundLost : CombFound := { psn := 7, poisoned := 0, saturated := 0, fmt := 0, lost := true }

theorem witness_AcknowledgementsAreTaken :
    (let s := connected 0 { tx := [combineSent] }
     let p := fromPeer 8 8 0 []
     When.fromPeer s p 8 ∧ combineSent ∈ (s.conn (4095 : BitVec 12).toNat).tx ∧ combineSent.p.ptype = 2 ∧ combineSent.home = .xfer 1 0 0 ∧
      (p.psn.toNat + 2 ^ 32 - combineSent.p.psn.toNat) % 2 ^ 32 < 2 ^ 31 ∧ combineSent.p.psn.toNat ≠ p.psn.toNat ∧
      foundLost.psn = combineSent.p.psn ∧ foundLost.lost = true) ∧
    (let s := connected 0 { tx := [unacked 1 (.xfer 1 0 0)] }
     When.fromPeer s (fromPeer 8 8 0 []) 8 ∧
     (When.fromPeer s { fromPeer 9 7 0 [] with ncode := 1 } 9 ∧ (s.conn (4095 : BitVec 12).toNat).wait = [] ∧ When.sourcesFree s 4095 7 ∧
      ∀ x ∈ (s.conn (4095 : BitVec 12).toNat).tx, x.sends ≤ s.fg F.FAB_E2E.RETRY_MAX) ∧
     (When.fromPeer s { fromPeer 9 7 0 [] with ncode := 2 } 9 ∧
      (s.conn (4095 : BitVec 12).toNat).tx.find? (fun x => x.p.psn.toNat == (7 : BitVec 32).toNat) = some (unacked 1 (.xfer 1 0 0))) ∧
     When.fromPeer s { fromPeer 9 7 0 [] with ncode := 3 } 9) ∧
    ((connected 0 { tx := [unacked 1 (.coll 1 0)] }).conn (4095 : BitVec 12).toNat).tx.find? (fun x => x.p.psn.toNat == (7 : BitVec 32).toNat) =
      some (unacked 1 (.coll 1 0)) ∧
    (let s := (connected 0 {}).fs F.FAB_CC.CC_EN 1
     When.fromPeer s (fromPeer 10 0 0 []) 10 ∧ s.fb F.FAB_CC.CC_EN = true ∧ (s.conn (4095 : BitVec 12).toNat).cutAt = none) := by
  decide +kernel

theorem witness_ConnectionTimersFire :
    ((connected 0 { arrived := 1 }).connOpen (4095 : BitVec 12).toNat = true ∧
      0 < ((connected 0 { arrived := 1 }).conn (4095 : BitVec 12).toNat).arrived) ∧
    ((connected 0 { gap := true }).connOpen (4095 : BitVec 12).toNat = true ∧
      ((connected 0 { gap := true }).conn (4095 : BitVec 12).toNat).gap = true) ∧
    (let s := connected 0 { tx := [unacked 1 .none] }
     s.connOpen (4095 : BitVec 12).toNat = true ∧ When.sourcesFree s 4095 (unacked 1 .none).p.psn.toNat ∧
      ∀ y ∈ (s.conn (4095 : BitVec 12).toNat).tx, y.sends ≤ s.fg F.FAB_E2E.RETRY_MAX) ∧
    (let s := connected 0 { tx := [unacked 255 .none] }
     s.connOpen (4095 : BitVec 12).toNat = true ∧ s.fg F.FAB_E2E.RETRY_MAX < (unacked 255 .none).sends) ∧
    (let s := (connected 0 { rt := 1000 }).fs F.FAB_CC.CC_EN 1
     s.fb F.FAB_CC.CC_EN = true ∧ (s.conn (4095 : BitVec 12).toNat).steps < s.fg F.FAB_CC.FAST_STEPS ∧ (s.conn (4095 : BitVec 12).toNat).rt ≤ 1000) ∧
    (let s := (connected 0 { steps := 15 }).fs F.FAB_CC.CC_EN 1
     s.fb F.FAB_CC.CC_EN = true ∧ s.fg F.FAB_CC.FAST_STEPS ≤ (s.conn (4095 : BitVec 12).toNat).steps) := by
  decide +kernel

/-! ### Epochs, tables, connections and management -/

theorem witness_BanksAreSealedSwitchedAndCleared :
    (When.taken up .mgmt epochAddr ∧ bitOf (2 ^ 11 : Word).toNat (11 + b2n false) = true ∧ bitOf (2 ^ 11 : Word).toNat (11 + b2n !false) = false ∧
      up.bank false = 0) ∧
    (When.taken up .mgmt epochAddr ∧ bitOf (2 ^ 12 : Word).toNat (11 + b2n true) = true ∧ bitOf (2 ^ 12 : Word).toNat (11 + b2n !true) = false ∧
      (up.fs F.FAB_EPOCH.BANK1 1).bank true = 1 ∧ When.taken (up.fs F.FAB_EPOCH.BANK1 1) .mgmt epochAddr) ∧
    (let s := up.fs F.FAB_EPOCH.BANK0 1
     When.taken s .sideband epochAddr ∧ bitOf (1 : Word).toNat 11 = false ∧ bitOf (1 : Word).toNat 12 = false ∧ s.bank s.cur = 1 ∧
       s.bank (!s.cur) < 2) ∧
    (let s := (up.fs F.FAB_EPOCH.BANK0 2).fs F.FAB_EPOCH.BANK1 1
     When.taken s (.mgmt) epochAddr ∧ s.bank s.cur = 2 ∧ s.bank (!s.cur) = 1 ∧ s.drain = none) := by
  decide +kernel

theorem witness_RoutingTablesAndConnectionEntries :
    (When.taken up .mgmt (⟨.FAB_ROUTE_MEMBER, 0, b2n true, (255 : BitVec 8).toNat⟩ : RegKey).addr ∧ up.bank true = 0) ∧
    (When.taken up .mgmt (⟨.FAB_ROUTE_GROUP, 0, b2n false, (255 : BitVec 8).toNat⟩ : RegKey).addr ∧ up.bank false = 0 ∧
      (up.fs F.FAB_EPOCH.BANK0 2).bank false ≠ 0) ∧
    (When.taken up .mgmt (connAddr (4095 : BitVec 12).toNat) ∧ up.fb F.FAB_CONN.EN 0 (4095 : BitVec 12).toNat = false) ∧
    (When.taken (connected 0 {}) .mgmt (connAddr (4095 : BitVec 12).toNat) ∧
      (connected 0 {}).fb F.FAB_CONN.EN 0 (4095 : BitVec 12).toNat = true) := by
  decide +kernel

/-- The spires are devices 0x0102 and 0x0101; TERM is 3. -/
def spired : State := (((linked 3 0).fs F.FAB_SPIRE.PRIMARY 0x0102).fs F.FAB_SPIRE.STANDBY 0x0101).fs F.FAB_ID.TERM 3

/-- The address of FAB_CTL, which the fabric may read and write (R353). -/
def ctlAddr : BitVec 48 := BitVec.ofNat 48 (⟨.FAB_CTL, 0, 0, 0⟩ : RegKey).addr

/-- A management packet of an operation, with a term and a status, from the primary spire. -/
def mgmt (op status : Nat) (term : BitVec 16) (addr : BitVec 48) : Pkt :=
  { zeroPkt with dst := 0x0101, src := 0x0102, ptype := 12, tag := term, addr := addr, payload := mgmtBytes op status 9 }

/-- A source-routed read: at position `pos` of its list of one link. -/
def routed (pos : Nat) : Pkt :=
  { mgmt 0 0 3 ctlAddr with ptype := 13, hops := 30, payload := leBytes 1 pos ++ leBytes 1 1 ++ [39] ++ List.replicate 29 0 ++ mgmtBytes 0 0 0 }

theorem witness_ManagementPacketsAreAnswered :
    (When.mgmtHere spired (mgmt 0 0 3 ctlAddr) 0 ∧ spired.mgmtRefused (mgmt 0 0 3 ctlAddr) = none ∧ ctlAddr.toNat % 8 = 0 ∧
      keyOf ctlAddr.toNat = some ⟨.FAB_CTL, 0, 0, 0⟩) ∧
    (When.mgmtHere spired (mgmt 0 0 2 ctlAddr) 0 ∧ spired.mgmtRefused (mgmt 0 0 2 ctlAddr) = some 1) ∧
    (When.mgmtHere spired (mgmt 1 0 3 ctlAddr) 1 ∧ spired.mgmtRefused (mgmt 1 0 3 ctlAddr) = none) ∧
    (When.mgmtHere spired (mgmt 1 0 3 0) 1 ∧ spired.mgmtRefused (mgmt 1 0 3 0) = some 3) ∧
    (When.mgmtHere spired (mgmt 2 1 4 0) 2 ∧ mgmtStatus (mgmt 2 1 4 0) ≠ 0 ∧ spired.spireTerm < (mgmt 2 1 4 0).tag.toNat) ∧
    (When.mgmtHere spired (mgmt 3 0 3 0) 3 ∧ (mgmt 3 0 3 0).src.toNat = spired.fg F.FAB_SPIRE.PRIMARY) := by
  decide +kernel

theorem witness_SourceRoutesAndSpires :
    (spired.live = true ∧ (routed 0).ptype = 13 ∧ 1 ≤ routeLen (routed 0) ∧ routeLen (routed 0) ≤ 30 ∧ (routed 0).payload.length = 48 ∧
      routePos (routed 0) < routeLen (routed 0) ∧ (routed 0).hops ≠ 0 ∧ (spired.arrivedAs (routed 0)).src = some 0 ∧
      (({ spired with arrived := [{ p := routed 0 }] } : State).arrivedAs (routed 0)).src = none ∧
      routePort (routed 0) = (39 : Fin 40).val ∧ spired.linkUp (39 : Fin 40).val = true ∧ spired.srReach (routed 0) = true) ∧
    (routeLen (routed 1) ≤ routePos (routed 1) ∧ mgmtOp (routed 1) = 0 ∧ spired.mgmtRefused (routed 1) = none ∧ (routed 1).payload.length = 48 ∧
      (routed 1).addr.toNat % 8 = 0 ∧ keyOf (routed 1).addr.toNat = some ⟨.FAB_CTL, 0, 0, 0⟩) ∧
    ((spired.fs F.FAB_SPIRE.ACTIVE 1).live = true ∧ (spired.fs F.FAB_SPIRE.ACTIVE 1).fb F.FAB_SPIRE.ACTIVE = true) ∧
    (let s : State := { spired.fs F.FAB_ID.ROLE 2 with hbMissed := 255 }
     s.live = true ∧ s.fg F.FAB_ID.ROLE = 2 ∧ s.fb F.FAB_SPIRE.ACTIVE = false ∧ s.fg F.FAB_SPIRE.HB_MISS ≤ s.hbMissed) := by
  decide +kernel

/-! ### Host ports -/

/-- A device whose port 7 is up, where key 15 is enabled. -/
def hosted : State := ((up.fs F.ETH_STATUS.LINK 2 7).fs F.MGT_HOSTKEY.EN 1 15).fs F.ETH_IP4.ADDR 0x0A000001 7

/-- A well-formed INIT (R405). -/
def goodInit : InitMsg :=
  { hrand := 0, qh := 0, qhValid := true, keyidx := 15, hqpn := 5, hpsn := 6, mtu := 5, ackt := 20, version := 1, length := 147, srcMac := 0, srcIp := 0 }

/-- Session 4095, the last of port 7, in a state, owning the device (R280); its ends beside its register. -/
def session (state : Nat) (x : SessSt) : State :=
  ((((((hosted.fs F.QM_OWNER.OWNED 1).fs F.QM_OWNER.OWNER_ID 9).fs F.ETH_SESS.STATE state 7 511).fs F.ETH_SESS.IDENTITY 9 7 511).fs
    F.ETH_SESS.PMTU 5 7 511).fs F.ETH_SESS.RATE 500 7 511).setSes 4095 { x with used := true }

/-- All slots of port 7 in use. -/
def allTaken : State :=
  let a := (⟨.ETH_SESS_W0, 7, 0, 0⟩ : RegKey).addr
  { hosted with regs := hosted.regs.filter (fun p => p.1 < a) ++ (List.range 512).map (fun n => ((⟨.ETH_SESS_W0, 7, n, 0⟩ : RegKey).addr, (2 : Word))) ++
      hosted.regs.filter (fun p => a < p.1) }

/-- Session 4095 in its handshake, and a FINISH of the right shape with a tag of its own. -/
def shaking : State := session 1 { hs := some { eph := 3, qh := [4], msgs := [1, 2] } }
def finishMsg (conf : BitVec 128) : FinishMsg := { version := 1, length := 120, hsig := 0, conf := conf }

/-- A FINISH holds whose CONF is the tag under the keys derived from it. -/
theorem finish_holds {s : State} {n : Nat} {h : Handshake} (hs : (s.ses n).hs = some h) :
    s.finishOk n (finishMsg (Config.confTag (h.keys n (finishMsg 0)).h2dKey (h.keys n (finishMsg 0)).h2dIv)) true = true := by
  simp only [State.finishOk, hs, Handshake.confOk, Handshake.keys, finishMsg, finishBytes, Bool.true_and, beq_self_eq_true]

theorem witness_HandshakesOpenSessions :
    (When.mayShake allTaken (7 : Fin 8).val ∧ allTaken.inHandshake (7 : Fin 8).val < 8 ∧ allTaken.initFault goodInit = none ∧
      allTaken.freeSess (7 : Fin 8).val = none) ∧
    (When.mayShake hosted (7 : Fin 8).val ∧ hosted.inHandshake (7 : Fin 8).val < 8 ∧ hosted.initFault goodInit = none ∧
      hosted.freeSess (7 : Fin 8).val = some (3584 : BitVec 12).toNat ∧ hosted.initFault { goodInit with keyidx := 16 } = some 1 ∧
      hosted.initFault { goodInit with mtu := 2 } = some 4) ∧
    ((hosted.fs F.ETH_HS.HS_RATE 0 7).portTakes (7 : Fin 8).val = true ∧ (hosted.fs F.ETH_HS.HS_RATE 0 7).hsFull (7 : Fin 8).val = true) ∧
    (shaking.sg F.ETH_SESS.STATE (4095 : BitVec 12).toNat = 1 ∧ shaking.portTakes ((4095 : BitVec 12).toNat / 512) = true ∧
      shaking.hsFull ((4095 : BitVec 12).toNat / 512) = false ∧ (finishMsg 0).version = 1 ∧ (finishMsg 0).length = 120 ∧
      (∃ c, shaking.finishOk (4095 : BitVec 12).toNat (finishMsg c) true = true) ∧
      shaking.finishOk (4095 : BitVec 12).toNat (finishMsg 0) false = false ∧ { finishMsg 0 with length := 119 }.length ≠ 120) ∧
    (let c : CertAsk := { version := 1, length := 14, offset := 5, srcIp := 0 }
     let s : State := { hosted with mg := { hosted.mg with flash := { hosted.mg.flash with chain := List.replicate 1029 7 } } }
     When.mayShake s (7 : Fin 8).val ∧ c.version = 1 ∧ c.length = 14 ∧ (1024 : BitVec 16).toNat ≤ 1024 ∧
      c.offset.toNat + (1024 : BitVec 16).toNat ≤ s.mg.flash.chain.length ∧ { c with length := 13 }.length ≠ 14 ∧
        1024 < (1025 : BitVec 16).toNat) := by
  exact ⟨by decide +kernel, by decide +kernel, by decide +kernel, ⟨by decide +kernel, by decide +kernel, by decide +kernel, rfl, rfl,
    ⟨_, finish_holds (h := { eph := 3, qh := [4], msgs := [1, 2] }) (by decide +kernel)⟩, rfl, by decide⟩, by decide +kernel⟩

theorem witness_SessionsRekeyAndClose :
    (When.sealedOk (session 2 {}) (4095 : BitVec 12).toNat { version := 1, length := 30, ctr := 1 } 30 true ∧
      (session 2 {}).sg F.ETH_SESS.TX_CTR (4095 : BitVec 12).toNat + 2 < 2 ^ 48) ∧
    ((session 2 { newSeen := true, old := some {} }).ses (4095 : BitVec 12).toNat).newSeen = true ∧
    When.sealedOk (session 2 {}) (4095 : BitVec 12).toNat { version := 1, length := 31, ctr := 1 } 31 true ∧
    (When.taken (session 2 {}) .mgmt (sessAddr (4095 : BitVec 12).toNat) ∧ (session 2 {}).inReset (sessKey (4095 : BitVec 12).toNat) = false ∧
      bitOf (2 ^ 36 : Word).toNat 36 = true ∧ (session 2 {}).sessOpen (4095 : BitVec 12).toNat = true) := by
  decide +kernel

/-- A RoCEv2 packet of session 4095. -/
def roce (opcode : Byte) (syndrome : Byte) (va : BitVec 64) (dmalen : BitVec 32) (payload : List Byte) : Roce :=
  { destqp := 0x10FF, opcode := opcode, pkey := 0xFFFF, psn := 0, kphase := false, ctr := 1, tagOk := true, ce := false, va := va, rkey := 0
    dmalen := dmalen, syndrome := syndrome, poison := 0, payload := payload, srcMac := 0, srcIp := 0 }

theorem witness_HostRequestsAreApplied :
    (let s := withQueue (session 2 {}) 1 qCommand 0x1000 0 15
     let p := roce 4 0 0 0 (leBytes 2 1 ++ leBytes 2 1 ++ leBytes 4 0 ++ List.replicate 64 6)
     When.roceOk s 7 p 4095 ∧ When.expected s p 4095 ∧ When.ctrLow s 4095 ∧ s.ownerSess 4095 = true ∧ s.qOn (1 : BitVec 16).toNat qCommand = true ∧
      0 < s.ringSize (1 : BitVec 16).toNat - s.ringHeld (1 : BitVec 16).toNat ∧ 72 ≤ s.pmtu 4095 ∧
      s.hostWay (7 : Fin 8).val (s.ringAddr (1 : BitVec 16).toNat (s.fg F.QM_QDESC.TAIL (1 : BitVec 16).toNat)) 64 = true) ∧
    (let s := (session 2 {}).fs F.QM_OWNER.OWNED 0
     When.roceOk s 7 (roce 4 0 0 0 []) 4095 ∧ When.expected s (roce 4 0 0 0 []) 4095 ∧ When.ctrLow s 4095 ∧ s.ownerSess 4095 = false) ∧
    (let p := roce 0x0A 0 0xA000 64 (List.replicate 64 7)
     When.roceOk (session 2 {}) 7 p 4095 ∧ When.expected (session 2 {}) p 4095 ∧ When.ctrLow (session 2 {}) 4095 ∧
      When.ownBytes (session 2 {}) 7 4095 p.va.toNat p.payload.length ∧ p.payload.length = p.dmalen.toNat ∧
        p.payload.length ≤ (session 2 {}).pmtu 4095 ∧
      p.rkey.toNat = ((session 2 {}).ses 4095).rkey) ∧
    (let p := roce 0x0C 0 0xA000 4096 []
     When.roceOk (session 2 {}) 7 p 4095 ∧ When.expected (session 2 {}) p 4095 ∧ When.ctrLow (session 2 {}) 4095 ∧
      (session 2 {}).fb F.ETH_STATUS.PAUSED 7 = false ∧ When.ownBytes (session 2 {}) 7 4095 p.va.toNat p.dmalen.toNat ∧
        p.dmalen.toNat ≤ (session 2 {}).pmtu 4095 ∧
      p.rkey.toNat = ((session 2 {}).ses 4095).rkey ∧ (session 2 {}).readsOut 4095 < 16) ∧
    (When.roceOk (session 2 {}) 7 (roce 0x11 31 0 0 []) 4095 ∧ (roce 0x11 31 0 0 []).syndrome.toNat < 32) ∧
    (When.roceOk (session 2 {}) 7 (roce 0x11 0x61 0 0 []) 4095 ∧ (0x61 : Byte).toNat / 32 = 3 ∧ (0x61 : Byte).toNat ≠ synSeq) ∧
    (let s := (session 2 {}).fs F.ETH_CC.CC (2 ^ F.FAB_CC.CC_EN.lo) 7
     When.roceOk s 7 (roce 0x81 0 0 0 []) 4095 ∧ s.ccField 7 F.FAB_CC.CC_EN ≠ 0 ∧ (s.ses 4095).cutAt = none) ∧
    (let s := session 2 { tx := [{ psn := 0, va := 0, bytes := [], tries := 7 }] }
     s.sessOpen (4095 : BitVec 12).toNat = true ∧ s.portUp ((4095 : BitVec 12).toNat / 512) = true ∧ ∃ x ∈ (s.ses (4095 : BitVec 12).toNat).tx,
       7 ≤ x.tries) ∧
    (let x : MirrorTx := { psn := 0, va := 0, bytes := [1], tries := 6 }
     let s := session 2 { tx := [x] }
     s.sessOpen (4095 : BitVec 12).toNat = true ∧ s.portUp ((4095 : BitVec 12).toNat / 512) = true ∧
       (∀ x ∈ (s.ses (4095 : BitVec 12).toNat).tx, x.tries < 7) ∧
      (s.ses (4095 : BitVec 12).toNat).tx = [x] ∧ When.ctrLow s (4095 : BitVec 12).toNat ∧
        s.fb F.ETH_STATUS.PAUSED ((4095 : BitVec 12).toNat / 512) = false) := by
  refine ⟨?_, ?_, ?_, ?_, ?_, ?_, ?_, ?_, ?_⟩ <;> decide +kernel

/-- A frame that passes the first checks (R403). -/
def frame : FrameHdr := { fcsOk := true, length := 4352, vid := none, dstMac := 0, srcMac := 0 }

theorem frameOk_of {s : State} {p : Nat} {h : FrameHdr} (h1 : s.portTakes p = true ∧ h.fcsOk = true ∧ h.length ≤ 4352)
    (h2 : h.vid = none ∧ s.fb F.ETH_CTL.VLAN_EN p = false) : When.frameOk s p h := by
  refine ⟨h1.1, h1.2.1, h1.2.2, ?_⟩
  rw [h2.1]
  exact h2.2

theorem witness_FramesAreAnsweredOrCounted :
    (When.frameOk hosted (7 : Fin 8).val frame ∧ (0x0A000001 : BitVec 32) ≠ 0 ∧
      (0x0A000001 : BitVec 32).toNat = hosted.fg F.ETH_IP4.ADDR (7 : Fin 8).val ∧
      (0x0A000002 : BitVec 32).toNat ≠ hosted.fg F.ETH_IP4.ADDR (7 : Fin 8).val) ∧
    (When.frameOk (hosted.fs F.ETH_IP6_LO.ADDR_LO 1 7) (7 : Fin 8).val frame ∧ (1 : BitVec 128) ≠ 0 ∧
      (1 : BitVec 128).toNat = (hosted.fs F.ETH_IP6_LO.ADDR_LO 1 7).ip6 (7 : Fin 8).val ∧ hosted.macMine (7 : Fin 8).val frame = true ∧
      (hosted.fs F.ETH_IP6_LO.ADDR_LO 1 7).ipMine (7 : Fin 8).val true (1 : BitVec 128).toNat = true ∧
        (hosted.fs F.ETH_IP6_LO.ADDR_LO 1 7).echoWin = []) ∧
    (hosted.ipMine (7 : Fin 8).val false (0x0A000001 : BitVec 128).toNat = true ∧ hosted.echoWin = []) ∧
    (When.frameOk (hosted.fs F.ETH_CTL.PFC_EN 1 7) (7 : Fin 8).val frame ∧
      (hosted.fs F.ETH_CTL.PFC_EN 1 7).fb F.ETH_CTL.PFC_EN (7 : Fin 8).val = true ∧
      bitOf (255 : BitVec 8).toNat ((hosted.fs F.ETH_CTL.PFC_EN 1 7).fg F.ETH_CTL.PFC_PRIO (7 : Fin 8).val) = true) ∧
    (let s : State := { hosted.fs F.ETH_STATUS.PAUSED 1 7 with ethHold := [.host 7 3584 0x11 [] [] {}] }
     s.fb F.ETH_STATUS.PAUSED (7 : Fin 8).val = true ∧ ∀ m ∈ s.ethHold, msgPort m = some (7 : Fin 8).val) ∧
    FrameKind.badUdpChecksum ≠ .notAddressed ∧
    (hosted.portTakes (7 : Fin 8).val = true ∧ { frame with fcsOk := false }.fcsOk = false ∧ 4352 < { frame with length := 4353 }.length) := by
  refine ⟨⟨frameOk_of (by decide +kernel) (by decide +kernel), by decide +kernel⟩,
    ⟨frameOk_of (by decide +kernel) (by decide +kernel), by decide +kernel⟩,
    by decide +kernel, ⟨frameOk_of (by decide +kernel) (by decide +kernel), by decide +kernel⟩, by decide +kernel⟩

theorem witness_PortsTrainAndGoDown :
    (up.live = true ∧ up.fb F.ETH_CTL.EN (7 : Fin 8).val = true ∧ up.fg F.ETH_STATUS.LINK (7 : Fin 8).val < 2 ∧
      (up.rates (7 : Fin 8).val (8 : BitVec 4).toNat).find? (bitOf (8 : BitVec 4).toNat) = some 3 ∧
      (up.rates (7 : Fin 8).val (8 : BitVec 4).toNat).find? (bitOf (0 : BitVec 4).toNat) = none) ∧
    hosted.portUp (7 : Fin 8).val = true ∧
    (let s := hosted.fs { F.QM_PORT_DIS.PORTS with lo := 7, w := 1 } 1
     When.taken s .mgmt (ethCtlAddr (7 : Fin 8).val) ∧ s.fb F.ETH_CTL.EN (7 : Fin 8).val = true ∧
      s.fb { F.QM_PORT_DIS.PORTS with lo := (7 : Fin 8).val, w := 1 } = true ∧ s.quiescing (.port 7) = none ∧
      s.inReset (ethCtlKey (7 : Fin 8).val) = false) ∧
    (hosted.inReset (ethCtlKey (7 : Fin 8).val) = false ∧ When.taken hosted .sideband (ethCtlAddr (7 : Fin 8).val) ∧
      hosted.fb F.ETH_CTL.EN (7 : Fin 8).val = true ∧
      hosted.fb { F.QM_PORT_DIS.PORTS with lo := (7 : Fin 8).val, w := 1 } = false) := by
  decide +kernel

/-! ### Memory controllers and reliability -/

/-- A device with two cores and one 64 GiB RDIMM. -/
def equipped : State :=
  let s := (up.fs F.TOP_UNIT_COUNT.CORES 2).fs F.MEM_DDR_SIZE.SIZE_GIB 64
  (((s.fs F.MEM_DDR_SIZE.CHANNELS 1).fs F.MEM_SCRUB_CTL.PERIOD_H 24).fs F.MEM_SCRUB_CTL.DDR_EN 1).fs F.TOP_CORE_MAP.SITE 1 1

theorem witness_MemoryIsScrubbedRepairedAndPlaced :
    (equipped.scrubs (.stack 0) = true ∧ equipped.dramAddr ((0 : BitVec 42).toNat * 64) = true ∧
      (equipped.dramOf ((0 : BitVec 42).toNat * 64)).1 = ctlNo (.stack 0) ∧
      equipped.memHeld ((0 : BitVec 42).toNat * 64) = false) ∧
    (let u : BitVec 42 := BitVec.ofNat 42 (ddrBase / 64)
     equipped.scrubs (.channel 0) = true ∧ equipped.dramAddr (u.toNat * 64) = true ∧ (equipped.dramOf (u.toNat * 64)).1 = ctlNo (.channel 0) ∧
      equipped.memHeld (u.toNat * 64) = false) ∧
    (When.taken equipped .mgmt (⟨.MEM_REPAIR_CMD, (7 : Fin 8).val, 0, 0⟩ : RegKey).addr ∧
      equipped.fb F.MEM_REPAIR_STATUS.BUSY (7 : Fin 8).val = false ∧
      bitsOf (3 : Word).toNat 0 3 ≤ 3 ∧ 4 ≤ bitsOf (4 : Word).toNat 0 3) ∧
    (let s := equipped.fs F.MEM_REPAIR_STATUS.BUSY 1 7
     When.settled s ∧ When.taken s .mgmt (⟨.MEM_REPAIR_CMD, (7 : Fin 8).val, 0, 0⟩ : RegKey).addr ∧
       s.fb F.MEM_REPAIR_STATUS.BUSY (7 : Fin 8).val = true) ∧
    When.taken equipped .sideband (⟨.MEM_PLACE, 0, 0, 0⟩ : RegKey).addr := by
  decide +kernel

/-- A tile of core 1 held for the sieve. -/
def sieveJob (m : Option (Nat × Nat × Nat)) : SieveJob :=
  { core := 1, e := 3, q := 1, index := 0, tile := 3, held := [{ q := 1, index := 0, tile := 3, wr := { addr := 0xB000, bytes := [1] } }]
    partner := 0, sameDie := true, mismatch := m }

theorem witness_SievesAndTestsJudgeCores :
    (let s : State := { equipped with sieve := [sieveJob none] }
     s.sieve.find? (fun x => x.core == (1 : Fin 96).val && x.e == (3 : Fin 4).val && x.mismatch.isNone) = some (sieveJob none) ∧
      s.canCheck (s.liveEngine (sieveJob none)).1 (sieveJob none) = true) ∧
    (let j := sieveJob (some (0, 1, 1))
     let s : State := { equipped with sieve := [j] }
     s.sieve.find? (fun x => x.core == (1 : Fin 96).val && x.e == (3 : Fin 4).val && x.mismatch.isSome) = some j ∧ s.canCheck (s.third j) j = true) ∧
    (let s := ((equipped.fs F.TOP_KAT_CTL.EN 1).fs F.TOP_KAT_STATUS.NEXT 1).fs F.TOP_CHECK_REGION.SIZE (2 ^ 20)
     s.live = true ∧ s.fb F.TOP_KAT_CTL.EN = true ∧ s.multicasting = false ∧ s.diesDown = false ∧ s.mg.testing = none ∧ s.katNext = some 1 ∧
       (s.core 1).held = [] ∧
      2 ^ 20 ≤ s.fg F.TOP_CHECK_REGION.SIZE) ∧
    (let s := ((equipped.fs F.TOP_KAT_CTL.EN 1).fs F.TOP_KAT_STATUS.NEXT 1).fs F.TOP_CHECK_REGION.SIZE 0
     s.katNext = some 1 ∧ s.multicasting = false ∧ s.diesDown = false ∧ s.mg.testing = none ∧ (s.core 1).held = [] ∧
      s.fg F.TOP_CHECK_REGION.SIZE < 2 ^ 20) ∧
    (let s := (((equipped.fs F.TOP_KAT_CTL.EN 1).fs F.TOP_KAT_STATUS.NEXT 1).fs F.TOP_CHECK_REGION.SIZE (2 ^ 20)).setCore 1
       { held := [{ q := 1, index := 0 }] }
     s.live = true ∧ s.multicasting = false ∧ s.diesDown = false ∧ s.mg.testing = none ∧ s.katNext = some 1 ∧ (s.core 1).held ≠ []) ∧
    (let s : State := { equipped with mg := { equipped.mg with testing := some 1 } }
     s.live = true ∧ s.diesDown = false ∧ s.mg.testing = some 1 ∧ s.present 1 = true ∧ (s.core 1).held = []) ∧
    (let s := equipped.setCoreBit F.TOP_KAT_HELD_LO.CORES_LO F.TOP_KAT_HELD_HI.CORES_HI 95 true
     When.taken s .mgmt (⟨if 64 ≤ (95 : Fin 96).val then .TOP_KAT_HELD_HI else .TOP_KAT_HELD_LO, 0, 0, 0⟩ : RegKey).addr ∧
      bitOf (2 ^ 31 : Word).toNat ((95 : Fin 96).val % 64) = true ∧ s.katHeld (95 : Fin 96).val = true) := by
  decide +kernel

/-- Eight cores, the last of them slow, measured in a window. -/
def window : List LagMeasure :=
  ([0, 1, 2, 3, 4, 5, 6, 7] : List (Fin 96)).map (fun c => { core := c, active := if c = 7 then 10 else 400, held := 100, window := 1000, stalls := 0 })

def judging : State := ((up.fs F.TOP_UNIT_COUNT.CORES 8).fs F.TOP_LAG_CTL.EN 1).fs F.TOP_LAG_CTL.WINDOWS 1

/-- Core 0 has been chosen for retirement. -/
def retiring : State := { equipped with mg := { equipped.mg with chosen := [(0, 7)] } }

theorem witness_LaggardsLanternAndRetirement :
    (judging.live = true ∧ judging.fb F.TOP_LAG_CTL.EN = true ∧ 8 ≤ (window.filter judging.judged).length ∧
      ((window.filter judging.judged).map (·.core)).Nodup ∧
      ∀ m ∈ window.filter judging.judged, m.core.val ≠ 95) ∧
    (When.taken up .mgmt (⟨.TOP_LANTERN, 0, 0, 0⟩ : RegKey).addr ∧ bitsOf (32767 : Word).toNat 0 15 ≠ 0 ∧ up.fb F.TOP_LANTERN.DONE = true) ∧
    (When.taken (up.fs F.TOP_LANTERN.DONE 0) .mgmt (⟨.TOP_LANTERN, 0, 0, 0⟩ : RegKey).addr ∧
      (up.fs F.TOP_LANTERN.DONE 0).fb F.TOP_LANTERN.DONE = false) ∧
    (let s : State := { up with lantern := [0x2000, uid 7 0] }
     (0x2000 : UnitId).toNat ∈ s.lantern ∧ (0x2000 : UnitId).toNat ≠ uid 7 0 ∧ uid 7 0 ∈ s.lantern ∧
      uid 7 0 ∉ ({ up with lantern := [0x2000] } : State).lantern) ∧
    (When.settled retiring ∧ retiring.live = true ∧ retiring.retirable (0 : Fin 96).val = true ∧ retiring.mg.chosen = [((0 : Fin 96).val, 7)] ∧
      (tryTests (retiring.spares (retiring.fg F.TOP_CORE_MAP.SITE (0 : Fin 96).val / 26)) [false, true]).2 = some 3 ∧
      (tryTests (retiring.spares (retiring.fg F.TOP_CORE_MAP.SITE (0 : Fin 96).val / 26)) (List.replicate 26 false)).2 = none) := by
  decide +kernel

/-! ### The management complex -/

/-- The first 160 bytes of an image of class 1 with an empty body, signed by key 1 (R435). -/
def imageHeader : List Byte :=
  leBytes 4 0x7200F1A0 ++ leBytes 1 1 ++ leBytes 1 0 ++ leBytes 2 0 ++ leBytes 4 1 ++ leBytes 4 0 ++
    beBytes 48 (Config.sha384 []).toNat ++ (beBytes 97 (Config.ecPoint 1).toNat).drop 1

/-- The image with its signature, and the same bytes where no key made the signature. -/
def good : ImgInfo :=
  { bytes := imageHeader ++ beBytes 96 (Config.ecdsaSign 1 2 (Config.sha384 imageHeader)).toNat, signer := some { key := 1, nonce := 2 } }
def badSig : ImgInfo := { good with signer := none }

/-- The fuses of a part whose root-key slots all hold the hash of that key. -/
def keyedFuses : Fuses := { rootHash := List.replicate 4 (Config.sha384 (imgPoint good)) }

/-- A slot that holds the hash of an image's signer is one of its key slots. -/
theorem keySlot_of {f : Fuses} {i : ImgInfo} {k : Nat} (h : f.rootHash[k]? = some (Config.sha384 (imgPoint i))) (hk : k < 4) : k ∈ f.keySlots i := by
  simp [Fuses.keySlots, h, hk]

/-- An image passes its checks where one of its key slots is not revoked and the rest of R436 holds. -/
theorem fails_none {f : Fuses} {cls : Nat} {i : ImgInfo} (h1 : f.rootHash[0]? = some (Config.sha384 (imgPoint i))) (h2 : f.revoked = [])
    (h3 : imgSigned i = true) (h4 : imgDigested i = true) (h5 : ¬ imgSvn i < f.svn cls) : f.fails cls i = none := by
  have h : (f.keySlots i).all f.revoked.contains = false := by
    rw [List.all_eq_false]
    exact ⟨0, keySlot_of h1 (by decide), by simp [h2]⟩
  simp [Fuses.fails, h, h3, h4, h5]

/-- An image whose signature does not verify fails. -/
theorem fails_some {f : Fuses} {cls : Nat} {i : ImgInfo} (h : i.signer = none) : f.fails cls i ≠ none := by
  have h1 : imgSigned i = false := by simp [imgSigned, h]
  unfold Fuses.fails
  rw [h1]
  split <;> simp

theorem good_signed : imgSigned good = true := by
  have h1 : (imgPoint good).drop 1 = (beBytes 97 (Config.ecPoint 1).toNat).drop 1 := rfl
  have h2 : good.bytes.take 160 = imageHeader := rfl
  have h3 : (good.bytes.drop 160).take 96 = beBytes 96 (Config.ecdsaSign 1 2 (Config.sha384 imageHeader)).toNat := rfl
  simp only [imgSigned, good] at h1 h2 h3 ⊢
  rw [h1, h2, h3, beq_self_eq_true, beq_self_eq_true]; rfl

theorem good_digested : imgDigested good = true := by
  have h1 : imgBody good = [] := rfl
  have h2 : (good.bytes.drop 16).take 48 = beBytes 48 (Config.sha384 []).toNat := rfl
  rw [imgDigested, h1, h2, beq_self_eq_true]

theorem good_passes {f : Fuses} {cls : Nat} (h1 : f.rootHash = List.replicate 4 (Config.sha384 (imgPoint good))) (h2 : f.revoked = [])
    (h3 : f.svn cls = 0) : f.fails cls good = none :=
  fails_none (by rw [h1]; rfl) h2 good_signed good_digested (by omega)

/-- The fuses of a new part (R428), whose root-key slots all hold the hash of that key. -/
def factory : FactoryFuses :=
  { disabled := [], grade := 0, baseMac := 0, serial := 0, rootHash := List.replicate 4 (Config.sha384 (imgPoint good)), seed := 0, debug := false }

/-- A start-up that finds good images in slot A of classes 1 and 2. -/
def goodStart : StartEnv :=
  { fuseParityOk := true, fuses := some factory, flashPresent := true, cfg := none, imgs := [(0, good), (2, good)], chain := none, hbm := [], ddr := []
    links := [], ports := [] }

/-- A store that is half done, and the queue it heads. -/
def storing (done tries : Nat) : State :=
  { up with mg := { up.mg with stores := [{ what := .cfg 0 [1, 2], steps := 2, done := done, tries := tries, unguarded := true }] } }

/-- The store of which slot is active, and a hold-up store that is full. -/
def bootJob : StoreJob := { what := .boot 1 1, steps := 1, upd := true }
def fullHoldup : Holdup := { capMf := 1000, divi := 4096, vminMv := 1000, pholdMw := 1000, tstepMs := 1 }

theorem fullHoldup_suffices : fullHoldup.suffices 4095 = true := by
  norm_num [Holdup.suffices, Holdup.need, Holdup.avail, Rat.mkRat_eq_div, fullHoldup]

theorem witness_StartUpAndStores :
    (State.reset.canStart = true ∧ When.imageGood State.reset goodStart 1 ∧ When.imageGood State.reset goodStart 2 ∧
      ({ State.reset with mg := { State.reset.mg with fuse := keyedFuses } } : State).mg.fuse ≠ {}) ∧
    (let b : CfgBlock := { seq := 1, recs := [] }
     let s := up.store 0xA000 b.bytes []
     When.taken s .mgmt (⟨.MGT_STORE_CMD, 0, 0, 0⟩ : RegKey).addr ∧ s.mg.stores.length < 5 ∧ bitsOf (0xA000 : Word).toNat 0 48 + 65536 ≤ hbmEnd ∧
      s.le (bitsOf (0xA000 : Word).toNat 0 48 + 8) 4 ≤ 65536 ∧ s.marked (bitsOf (0xA000 : Word).toNat 0 48) (s.le (bitsOf (0xA000 : Word).toNat 0 48 + 8) 4) = false ∧
      cfgParse (s.bytes (bitsOf (0xA000 : Word).toNat 0 48) (s.le (bitsOf (0xA000 : Word).toNat 0 48 + 8) 4)) = some b ∧
      (s.newBlock b.recs (bitOf (0xA000 : Word).toNat 49)).length ≤ 65536) ∧
    (let s : State := { up with mg := { up.mg with stores := List.replicate 5 { what := .revoke 0, steps := 1 } } }
     When.taken s .mgmt (⟨.MGT_STORE_CMD, 0, 0, 0⟩ : RegKey).addr ∧ 5 ≤ s.mg.stores.length) ∧
    (When.stepReady (storing 0 1) { what := .cfg 0 [1, 2], steps := 2, done := 0, tries := 1, unguarded := true } [] ∧
      When.stepReady (storing 1 2) { what := .cfg 0 [1, 2], steps := 2, done := 1, tries := 2, unguarded := true } [] ∧
      When.stepReady { up with mg := { up.mg with stores := [bootJob], sense := 4095, holdup := some fullHoldup } } bootJob []) ∧
    (up.powered = true ∧ (storing 0 0).powered = true) := by
  refine ⟨⟨by decide +kernel, ⟨good, rfl, good_passes rfl rfl rfl⟩, ⟨good, rfl, good_passes rfl rfl rfl⟩, by decide +kernel⟩, by decide +kernel,
    by decide +kernel, ⟨by decide +kernel, by decide +kernel, by decide +kernel, rfl, by decide +kernel, fullHoldup_suffices⟩, by decide +kernel⟩

/-- A device whose slots of every class hold images, those of slot B staged, and an image of class 1 in memory. -/
def imaged : State :=
  { up with
    mem := (List.range 256).map (fun i => (0xA000 + i, good.bytes.getD i 0))
    mg := { up.mg with
      fuse := keyedFuses
      flash := { up.mg.flash with imgs := [(0, good), (1, good), (2, good), (3, good), (4, good), (5, good)], staged := [1, 3, 5] } } }

/-- A point on brainpoolP384r1 (its generator, RFC 5639), as MGT_HOSTKEY_KEY holds it. -/
def keyBytes : List Byte :=
  4 :: ((leBytes 48 0x1D1C64F068CF45FFA2A63A81B7C13F6B8847A3E77EF14FE3DB7FCAFE0CBD10E8E826E03436D646AAEF87B2E247D4AF1E).reverse ++
    (leBytes 48 0x8ABE1D7520F9C2A45CB1EB8E95CFD55262B70B29FEEC5864E19C054FF99129280E4646217791811142820341263C5315).reverse)

def keyed : State :=
  (List.range 13).foldl (fun s w => s.wr ⟨.MGT_HOSTKEY_KEY, 15, w, 0⟩ (BitVec.ofNat 64 (leNat ((keyBytes.drop (8 * w)).take 8)))) up

set_option maxRecDepth 100000 in
theorem imaged_bytes : imaged.bytes (bitsOf (BitVec.ofNat 64 (0xA000 + 1 * 2 ^ 51) : Word).toNat 0 48) (256 + 0) = good.bytes := by
  have h : bitsOf (BitVec.ofNat 64 (0xA000 + 1 * 2 ^ 51) : Word).toNat 0 48 = 0xA000 := by decide +kernel
  rw [h]; rfl

theorem imaged_passes (cls : Nat) (h : cls < 4) : imaged.mg.fuse.fails cls good = none :=
  good_passes rfl rfl (by have : ∀ c < 4, imaged.mg.fuse.svn c = 0 := by decide +kernel
                          exact this cls h)

theorem witness_UpdatesKeysAndWatchdog :
    (let v : Word := BitVec.ofNat 64 (0xA000 + 1 * 2 ^ 51)
     (When.updTaken imaged .mgmt ∧ bitsOf v.toNat 51 2 = 1 ∧ imaged.imageHead (bitsOf v.toNat 0 48) 1 = some 0) ∧
      imaged.bytes (bitsOf v.toNat 0 48) (256 + 0) = good.bytes ∧
      imaged.mg.fuse.fails 1 good = none ∧ imaged.mg.stores.length < 5 ∧ imaged.mg.fuse.fails 1 badSig ≠ none ∧
      imaged.image 1 (1 - imaged.activeSlot 1) = some good ∧ imaged.mg.flash.staged.contains (imgKey 1 (1 - imaged.activeSlot 1)) = true ∧
      imaged.image 1 (imaged.activeSlot 1) = some good ∧ imgSvn good ≤ 63) ∧
    (let v : Word := BitVec.ofNat 64 (3 * 2 ^ 51)
     bitsOf v.toNat 51 2 = 3 ∧ When.settled imaged ∧ imaged.image 3 (1 - imaged.activeSlot 3) = some good ∧
      imaged.mg.flash.staged.contains (imgKey 3 (1 - imaged.activeSlot 3)) = true) ∧
    (let v : Word := BitVec.ofNat 64 (2 * 2 ^ 51)
     bitsOf v.toNat 51 2 = 2 ∧ imaged.image 2 (1 - imaged.activeSlot 2) = some good ∧ imaged.diesDown = false ∧
      (imaged.fs F.TOP_UNIT_COUNT.CORES 1).present (0 : Fin 96).val = true ∧ (imaged.fs F.PWR_STATUS.STATE 2).diesDown = true ∧
      When.settled (imaged.fs F.PWR_STATUS.STATE 2)) ∧
    (When.updTaken up .sideband ∧ up.mg.flash.staged.contains (imgKey 1 (1 - up.activeSlot 1)) = false) ∧
    ((0 : Nat) = bitsOf (0 : Word).toNat 53 2 ∧ ∃ m : Fin 4, m.val ≠ 0 ∧ m.val ∈ imaged.mg.fuse.keySlots good ∧ m.val ∉ imaged.mg.fuse.revoked) ∧
    (let v : Word := BitVec.ofNat 64 (3 * 2 ^ 53)
     bitsOf v.toNat 53 2 = 3 ∧ ∀ m : Fin 4, m.val ≠ 3 → m.val ∈ ({ imaged.mg.fuse with revoked := [0, 1, 2] } : Fuses).revoked) ∧
    (When.taken keyed .mgmt (⟨.MGT_HOSTKEY_W0, (15 : Fin 16).val, 0, 0⟩ : RegKey).addr ∧ pointOk (keyed.hostKey (15 : Fin 16).val) = true ∧
      pointOk (keyed.hostKey (14 : Fin 16).val) = false) ∧
    When.taken up .mgmt (⟨.RST_WDOG, 0, 0, 0⟩ : RegKey).addr ∧
    (let s := imaged.fs F.RST_WDOG.EN 1
     s.live = true ∧ s.fb F.RST_WDOG.EN = true ∧ s.mg.wdPending = false ∧ s.mg.handover = none ∧ s.image 1 (s.activeSlot 1) = some good ∧
      s.mg.fuse.fails 1 good = none ∧ ({ s with mg := { s.mg with handover := some (1, true) } } : State).mg.handover ≠ none ∧
      ({ s with mg := { s.mg with wdPending := true } } : State).mg.wdPending = true) ∧
    (let s : State := { up with mg := { up.mg with handover := some (1, true) } }
     s.pending = [] ∧ s.powered = true ∧ When.settled s ∧ s.mg.handover = some (1, true)) := by
  refine ⟨⟨by decide +kernel, imaged_bytes, imaged_passes 1 (by decide), by decide +kernel, fails_some rfl, rfl, by decide +kernel, rfl,
      by decide +kernel⟩, ⟨by decide +kernel, by decide +kernel, rfl, by decide +kernel⟩,
    ⟨by decide +kernel, rfl, by decide +kernel, by decide +kernel, by decide +kernel, by decide +kernel⟩, by decide +kernel,
    ⟨by decide +kernel, 1, by decide, keySlot_of rfl (by decide), by decide +kernel⟩, by decide +kernel, by decide +kernel, by decide +kernel,
    ⟨by decide +kernel, by decide +kernel, by decide +kernel, by decide +kernel, rfl, good_passes rfl rfl (by decide +kernel), by decide +kernel,
      by decide +kernel⟩, by decide +kernel⟩

/-- A DRAM place. -/
def place : DramLoc := { pc := 0, bank := 0, symbol := 0, row := 5, column := 0, syndrome := 0 }

theorem witness_PoliciesAct :
    (let s := (up.fs F.MGT_POLICY.POWER 2).fs F.MGT_PWR.CAP_W 100
     When.acting s F.MGT_POLICY.POWER ∧ s.fg F.MGT_PWR.CAP_W < (101 : BitVec 13).toNat ∧ ∃ e : Fin 4, 1000 < s.dieClk e.val) ∧
    (let s : State := { up.fs F.MGT_POLICY.THERMAL 2 with temps := [(78, 2040)] }
     When.acting s F.MGT_POLICY.THERMAL ∧ s.hottest (3 : Fin 4).val = some 2040 ∧ ((s.fg F.MGT_THERM.THROTTLE_C * 8 : Nat) : Int) < 2040 ∧
      1000 < s.dieClk (3 : Fin 4).val) ∧
    (let s := equipped.fs F.MGT_POLICY.VOLTAGE 2
     When.acting s F.MGT_POLICY.VOLTAGE ∧ s.present (1 : Fin 96).val = true ∧ smGet (fun _ => (0 : Int)) s.mg.vOff (1 : Fin 96).val = 0) ∧
    (let s := (linked 3 0).fs F.MGT_POLICY.LINKS 2
     When.acting s F.MGT_POLICY.LINKS ∧ smFind s.mg.retunedAt (39 : Fin 40).val = none ∧ s.linkUp (39 : Fin 40).val = true ∧ s.tuning = false ∧
      (s.link (39 : Fin 40).val).outq = [] ∧ s.resetting (uid 0xA (39 : Fin 40).val) = false) ∧
    (let s := (equipped.fs F.MGT_POLICY.RETIRE 2).setCoreBit F.TOP_LAG_LO.CORES_LO F.TOP_LAG_HI.CORES_HI 1 true
     When.acting s F.MGT_POLICY.RETIRE ∧ s.retireDue (1 : Fin 96).val .laggard = some 8 ∧ s.present (1 : Fin 96).val = true ∧
       0 ∉ (s.core (1 : Fin 96).val).out ∧
      1 ∉ (s.core (1 : Fin 96).val).out ∧ ∀ x ∈ s.mg.chosen, x.1 ≠ (1 : Fin 96).val) ∧
    (let s : State := { equipped.fs F.MGT_POLICY.REPAIR 2 with mg := { equipped.mg with ueRows := [(47, 0, 0, 5)] } }
     When.acting s F.MGT_POLICY.REPAIR ∧ s.repairDue (ctlNo (.channel 15)) .ueRow place = true ∧
      (7 : Fin 8).val = (if ctlNo (.channel 15) < 32 then ctlNo (.channel 15) / 4 else (ctlNo (.channel 15) - 32) / 2) ∧
      s.fb F.MEM_REPAIR_STATUS.BUSY (7 : Fin 8).val = false) := by
  decide +kernel

/-! ### The side-band -/

/-- An I3C target with a static address; one with a dynamic address and an endpoint identifier. -/
def sideBand (dyn : Option Nat) (eid : Nat) : State := { up with mg := { up.mg with i3cDynamic := dyn, i3cStatic := 0x2A, eid := eid } }

/-- The same, with a rail sampled. -/
def sampled : State := { sideBand (some 8) 1 with volts := [(13, 750)] }

theorem witness_SideBandQueriesAreAnswered :
    ((sideBand none 0).i3cUp = true ∧ (sideBand none 0).mg.i3cDynamic = none ∧ (0x2A : BitVec 7).toNat = (sideBand none 0).mg.i3cStatic) ∧
    (sideBand (some 8) 0).mctpCtl = true ∧ (sampled.mctpMsg = true ∧ (0 : Byte) = 0) ∧
    (sampled.mctpFull = true ∧ sampled.reading (.rail 13) = some 750 ∧ sampled.reading (.rail 12) = none ∧ 1 ≤ (6 : Byte).toNat ∧
      (6 : Byte).toNat ≤ 6) := by
  decide +kernel

/-- An update over PLDM at a stage, of class 1 and of the size of a header, with some of its bytes here. -/
def updating (stage : Nat) (image : List Byte) : State :=
  { sideBand (some 8) 1 with mg := { (sideBand (some 8) 1).mg with
      pldm := { stage := stage, cls := 1, size := 256, image := image }
      fuse := keyedFuses
      flash := { up.mg.flash with imgs := [(0, good), (1, good)], staged := [1] } } }

theorem updating_passes (stage : Nat) (image : List Byte) : (updating stage image).mg.fuse.fails 1 good = none := good_passes rfl rfl rfl

theorem witness_SideBandUpdatesAndRegisters :
    ((updating 0 []).mctpMsg = true ∧ (updating 0 []).mg.pldm.stage = 0 ∧ (updating 0 []).fb F.MGT_UPD_STATUS.BUSY = false) ∧
    ((updating 1 []).mg.pldm.stage = 1 ∧ (1 : BitVec 2) ≠ 0 ∧ (updating 6 []).mg.pldm.stage = 6 ∧ 256 ≤ slotBytes (1 : BitVec 2).toNat) ∧
    (let s := updating 3 (good.bytes.take 200)
     s.mg.pldm.stage = 3 ∧ 200 = s.mg.pldm.image.length ∧ 200 + (good.bytes.drop 200).length ≤ s.mg.pldm.size ∧
      (updating 3 good.bytes).mg.pldm.image.length = (updating 3 good.bytes).mg.pldm.size) ∧
    (let s := updating 4 good.bytes
     (s.mctpMsg = true ∧ s.mg.pldm.stage = 4 ∧ s.fb F.MGT_STATUS.RECOVERY = false ∧ s.mg.stores.length < 5) ∧
      s.mg.pldm.info { read := some good } = some good ∧ s.mg.fuse.fails s.mg.pldm.cls good = none ∧
      s.mg.pldm.info { read := none } = some badSig ∧ s.mg.fuse.fails s.mg.pldm.cls badSig ≠ none) ∧
    (let s := updating 5 good.bytes
     s.mg.flash.staged.contains (imgKey s.mg.pldm.cls (1 - s.activeSlot s.mg.pldm.cls)) = true ∧ s.mg.stores.any (fun j => j.upd) = false) ∧
    (let s := updating 6 good.bytes
     s.mg.pldm.cls = 1 ∧ s.image 1 (1 - s.activeSlot 1) = some good ∧ s.mg.flash.staged.contains (imgKey 1 (1 - s.activeSlot 1)) = true ∧
      s.mg.fuse.fails 1 good = none) ∧
    (let t : State := { updating 6 good.bytes with mg := { (updating 6 good.bytes).mg with pldmInfo := some good } }
     let s := t.fs F.MGT_STATUS.RECOVERY 1
     s.mctpMsg = true ∧ s.fb F.MGT_STATUS.RECOVERY = true ∧ s.mg.pldmInfo = some good ∧ s.mg.stores.length < 5) ∧
    (let k : RegKey := ⟨.FAB_CTL, 0, 0, 0⟩
     let a : Word := BitVec.ofNat 64 k.addr
     sampled.mctpFull = true ∧ vendorStatus a.toNat = 0 ∧ a.toNat < regBase + shadowOff ∧ keyOf a.toNat = some k ∧
       vendorStatus (a + 1).toNat ≠ 0) := by
  refine ⟨by decide +kernel, by decide +kernel, by decide +kernel,
    ⟨by decide +kernel, rfl, updating_passes 4 good.bytes, rfl, fails_some rfl⟩, by decide +kernel,
    ⟨rfl, rfl, by decide +kernel, updating_passes 6 good.bytes⟩, ⟨by decide +kernel, by decide +kernel, rfl, by decide +kernel⟩, by decide +kernel⟩

/-! ### Resets, power and the package -/

/-- A device in a power state (R504). -/
def inState (n : Nat) : State := up.fs F.PWR_STATUS.STATE n

/-- A copy of core microcode with an empty body, whose digest is right (R435). -/
def copied (s : State) : State :=
  { s with mem := (List.range 48).map (fun i => (fwBase + 16 + i, (beBytes 48 (Config.sha384 []).toNat).getD i 0)) }

/-- The digest of a copy with an empty body is right where the bytes of its header say so. -/
theorem copyOk_of {s : State} (h1 : s.le (fwBase + 12) 4 = 0) (h2 : s.marked fwBase 256 = false)
    (h3 : s.bytes (fwBase + 16) 48 = beBytes 48 (Config.sha384 []).toNat) : s.copyOk = true := by
  have h4 : decide (0 + 256 ≤ slotBytes 2) = true := by decide
  have h5 : s.bytes (fwBase + 256) 0 = [] := rfl
  simp only [State.copyOk, h1, h2, h3, h4, h5, Nat.add_zero, beq_self_eq_true, Bool.not_false, Bool.and_self]

theorem witness_ResetsClearWhatTheyReset :
    up.pw.tripped = false ∧ (When.taken up .mgmt rstCtlAddr ∧ bitsOf (0x5A : Word).toNat 0 8 = 0x5A ∧ bitsOf (0x5B : Word).toNat 0 8 ≠ 0x5A ∧
      up.fg F.PWR_STATUS.STATE ≠ 2) ∧
    (let s := up.fs F.MEM_STACK.TRAINED 1 7 3
     let v : Word := BitVec.ofNat 64 (uid 8 31)
     When.taken s .sideband blockCmdAddr ∧ s.fb F.RST_BLOCK_STATUS.BUSY = false ∧ bitsOf v.toNat 0 16 = uid 8 (31 : Fin 32).val ∧
      s.blockThere (uid 8 (31 : Fin 32).val) = true ∧ s.transition = false ∧ s.blockIdle (uid 8 (31 : Fin 32).val) = true ∧
      up.blockThere (bitsOf v.toNat 0 16) = false) ∧
    (let s := copied (up.fs F.RST_CTL.CORE_BUSY 1)
     (s.pending = [] ∧ s.powered = true ∧ When.settled s ∧ s.fb F.RST_CTL.CORE_BUSY = true ∧ s.pw.copyStale = false) ∧ s.copyOk = true) ∧
    (let b : BlockRst := { unit := uid 0xA 39, swDis := true }
     let s : State := { up with pw := { up.pw with block := some b } }
     s.pw.block = some b ∧ b.unit = uid 0xA (39 : Fin 40).val ∧ s.pw.domeStep = 0 ∧ s.fg F.PWR_STATUS.STATE ≠ 3 ∧ s.mg.retunes = []) := by
  refine ⟨by decide +kernel, by decide +kernel, by decide +kernel, ⟨by decide +kernel, copyOk_of (by decide +kernel) (by decide +kernel) rfl⟩,
    by decide +kernel⟩

/-- A device in DOME, with good images, and a wake or none. -/
def domed (wake : Option Nat) : State :=
  ({ imaged with pw := { imaged.pw with dome := true, wake := wake } }.fs F.DOME_WAKE.EN_PIN 1).fs F.DOME_WAKE.EN_I3C 1

/-- What a wake finds. -/
def wakeEnv (ok : Bool) : WakeEnv :=
  { saveOk := ok, mgmtA := { read := some good }, mgmtB := { read := none }, physFailed := [], links := [], ports := [] }

theorem witness_PowerStatesAndClocks :
    (let s := up.fs F.PWR_CTL.AUTO_IDLE 1
     s.live = true ∧ s.fb F.PWR_CTL.AUTO_IDLE = true ∧ s.fg F.PWR_STATUS.STATE = 0 ∧ s.transition = false ∧ s.coreRuns = false ∧
      s.queues.any s.coreReady = false ∧ s.sieve = [] ∧ s.mg.chosen = [] ∧ s.mg.testing = none ∧ s.fb F.RST_CTL.CORE_BUSY = false) ∧
    ((inState 1).fg F.PWR_STATUS.STATE = 1 ∧ (inState 1).coreJobs = false ∧ (inState 1).queues.any (inState 1).coreReady = false ∧
      ({ inState 1 with mg := { (inState 1).mg with testing := some 0 } } : State).coreJobs = true) ∧
    (When.taken up .mgmt pwrCtlAddr ∧ up.transition = false ∧ up.fg F.PWR_STATUS.STATE ≠ 2 ∧ up.pw.block = none ∧ up.mg.retunes = [] ∧
      up.mg.chosen = [] ∧
      up.fb F.RST_CTL.CORE_BUSY = false ∧ up.coreRuns = false ∧ up.mg.testing = none ∧ (running up { words := [1] }).coreRuns = true) ∧
    (inState 3).fg F.PWR_STATUS.STATE = 3 ∧
    ((inState 2).fg F.PWR_STATUS.STATE = 2 ∧ (inState 2).pw.domeStep = 0 ∧ (inState 2).fb F.MGT_STATUS.RECOVERY = false ∧
      When.taken (inState 2) .mgmt pwrCtlAddr) ∧
    (let s := copied (inState 4)
     (s.pending = [] ∧ s.powered = true ∧ When.settled s ∧ s.fb F.RST_CTL.CORE_BUSY = false ∧ s.fg F.PWR_STATUS.STATE = 4 ∧ s.pw.copyStale = false) ∧
      s.copyOk = true) ∧
    (let s := ((withCommands up [1] 1).fs F.PWR_STATUS.STATE 2).fs F.PWR_CTL.AUTO_WAKE 1
     s.live = true ∧ s.fb F.PWR_CTL.AUTO_WAKE = true ∧ s.queues.any s.coreReady = true) ∧
    (up.fb F.MGT_STORE_STATUS.BUSY = false ∧ up.fb F.MGT_UPD_STATUS.BUSY = false ∧ up.runs = [] ∧ up.queues = []) ∧
    (let s := up.fs F.MGT_STORE_STATUS.BUSY 1
     When.taken s .mgmt pwrCtlAddr ∧ s.transition = false ∧ s.fb F.MGT_STORE_STATUS.BUSY = true) ∧
    (let s := (domed none).fs F.DOME_WAKE.EN_TIMER 1
     s.wakes = true ∧ s.pw.wake = none ∧ s.fb F.DOME_WAKE.EN_PIN = true ∧ s.fb F.DOME_WAKE.EN_I3C = true ∧ s.fb F.DOME_WAKE.EN_TIMER = true ∧
      s.pw.dome = true) ∧
    (let s := copied (domed (some 1))
     (s.pw.dome = true ∧ s.pw.wake ≠ none ∧ s.pw.holdover = false ∧ s.pw.refMissing = false ∧ s.pw.tripped = false ∧ (wakeEnv false).saveOk = false ∧
      (wakeEnv true).saveOk = true ∧ s.fb F.MGT_STATUS.RECOVERY = false ∧ s.pw.copyStale = false) ∧
      smFind (s.mg.flash.checked (wakeEnv true).mgmtA (wakeEnv true).mgmtB).imgs (imgKey 1 (When.firstSlot s 1)) = some good ∧
      s.mg.fuse.fails 1 good = none ∧ s.copyOk = true) ∧
    (When.taken up .mgmt (⟨.DOME_PADS, 0, 0, 0⟩ : RegKey).addr ∧ up.pw.physDue = false ∧
      When.taken { up with pw := { up.pw with physDue := true } } .mgmt (⟨.DOME_PADS, 0, 0, 0⟩ : RegKey).addr) ∧
    (up.pw.dome = false ∧ up.pw.holdover = false ∧ up.pw.refMissing = false ∧ up.pw.tripped = false ∧
      ({ up with pw := { up.pw with holdover := true } } : State).pw.holdover = true) := by
  refine ⟨by decide +kernel, by decide +kernel, by decide +kernel, by decide +kernel, by decide +kernel,
    ⟨by decide +kernel, copyOk_of (by decide +kernel) (by decide +kernel) rfl⟩, by decide +kernel, by decide +kernel, by decide +kernel,
    by decide +kernel, ⟨by decide +kernel, rfl, good_passes rfl rfl rfl, copyOk_of (by decide +kernel) (by decide +kernel) rfl⟩, by decide +kernel,
    by decide +kernel⟩

theorem witness_RegistersSensorsAndJtag :
    ((∀ n, Req.mgmt ≠ .session n) ∧ up.live = true ∧ ∀ r ∈ When.plainWords, up.reaches .mgmt (⟨r, 0, 0, 0⟩ : RegKey).addr = true ∧
      (⟨r, 0, 0, 0⟩ : RegKey).valid = true ∧ up.deadWord ⟨r, 0, 0, 0⟩ = false ∧
        (BitVec.ofNat 64 (⟨r, 0, 0, 0⟩ : RegKey).addr).toNat = (⟨r, 0, 0, 0⟩ : RegKey).addr ∧
      up.inReset ⟨r, 0, 0, 0⟩ = false) ∧
    (let s : State := { up with pw := { up.pw with block := some { unit := uid 0xA 39, swDis := false } } }
     When.reached s .mgmt (linkCtlKey 39) ∧ s.inReset (linkCtlKey 39) = true ∧ (BitVec.ofNat 64 (linkCtlKey 39).addr).toNat = (linkCtlKey 39).addr) ∧
    (up.pw.tripped = false ∧ up.samples (.site 103) = true ∧ up.samples .dome = true ∧ up.pw.dome = false ∧ up.temps = [] ∧ (255 : Nat) ≤ 255) ∧
    up.mg.fuse.debug = false := by
  refine ⟨⟨fun n h => (by cases h), by decide +kernel, by decide +kernel⟩, ⟨⟨by decide +kernel, fun n h => (by cases h), by decide +kernel⟩,
    by decide +kernel⟩, by decide +kernel, by decide +kernel⟩

theorem witness_ControlStructuresFail :
    When.logRoom (withQueue up 1 qCommand 0x1000 0 0) ∧
    (let s := withQueue up 1 qCommand 0x1000 0 0
     s.live = true ∧ s.qmAllows .mgmt = true ∧ s.fg F.QM_QDESC.STATE (1 : BitVec 16).toNat = 1 ∧
       s.fg F.QM_QDESC.TYPE (1 : BitVec 16).toNat = qCommand) ∧
    (let np : NetPkt := { p := packet, src := some 0 }
     When.logRoom (routing [] [np]) ∧ When.inRouter (routing [] [np]) packet (some 0) np ∧ (routing [] [np]).readsEntry np = true) ∧
    (let s := connected 0 {}
     let p := fromPeer 1 0 0xA000 []
     When.logRoom s ∧ p.ptype = 1 ∧ p.dst.toNat = s.devId ∧ s.connOpen p.dconn.toNat = true) ∧
    (let t := vector 0x0E false [haveRead]
     let s := { t.setRun 1 { t.run 1 with desc := [BitVec.ofNat 64 (1 + 0x0E * 2 ^ 8), 2 ^ 32, 0, 0, 0, 0, 0, 0, 0, 0, 0, 0, 0, 0, 5, 0] } with scales := [(5, { cfg := 16 })] }
     When.logRoom s ∧ When.vecSole s 0 1 0x0E ∧ (Vod.ofWords (s.run 1).desc).tags = [(5 : BitVec 12).toNat] ∧
       (s.scaleRec (5 : BitVec 12).toNat).track = true ∧
      bitOf (Vod.ofWords (s.run 1).desc).func 0 = false) ∧
    (let s := vector 0x11 false [haveRead]
     When.logRoom s ∧ When.vecSole s 0 1 0x11 ∧ (6 : BitVec 12).toNat ∈ (Vod.ofWords (s.run 1).desc).tags) ∧
    (∀ r ∈ topControls, up.live = true ∧ up.reaches .mgmt (⟨r, 0, 0, 0⟩ : RegKey).addr = true ∧ (⟨r, 0, 0, 0⟩ : RegKey).valid = true) := by
  refine ⟨by decide +kernel, by decide +kernel, by decide +kernel, by decide +kernel,
    ⟨by decide +kernel, vecSole_of (j := haveRead) (by decide +kernel) (by decide +kernel) (by decide +kernel), by decide +kernel⟩,
    ⟨by decide +kernel, vecSole_of (j := haveRead) (by decide +kernel) (by decide +kernel) (by decide +kernel), by decide +kernel⟩, by decide +kernel⟩

/-! ### The whole device -/

/-- A device with a write of FAB_CTL in its queue. -/
def waiting : State := { up.store 0xA000 [1] [640] with pending := [.registerWrite .mgmt (BitVec.ofNat 64 (⟨.FAB_CTL, 0, 0, 0⟩ : RegKey).addr) 8 5] }

theorem witness_StepRunsTheFrontCommand :
    waiting.canonical = true ∧ waiting.pending = [.registerWrite .mgmt (BitVec.ofNat 64 (⟨.FAB_CTL, 0, 0, 0⟩ : RegKey).addr) 8 5] ∧ up.pending = [] ∧
    ({ up with mg := { up.mg with fuse := { up.mg.fuse with debug := true } } } : State).mg.fuse.debug = true := by
  decide +kernel

/-- What a state becomes where a step completes. -/
def after (o : Host.Outcome State Fault Refusal) : Option State :=
  match o with
  | .next t => some t
  | _ => none

theorem completes_of {o : Host.Outcome State Fault Refusal} {p : State → Prop} [DecidablePred p] (h : (after o).any (fun t => decide (p t)) = true) :
    ∃ t, o = .next t ∧ p t := by
  cases o with
  | next t => exact ⟨t, rfl, by simpa [after] using h⟩
  | fault _ => simp [after] at h
  | refused _ => simp [after] at h

theorem witness_EveryStepKeepsTheCanonicalForm : ∃ t, step waiting = .next t ∧ (waiting.canonical = true ∧ t.fg F.FAB_CTL.HOP_LIMIT = 5) :=
  completes_of (by decide +kernel)

theorem witness_NothingElseChanges : ∃ t, exec (.pfcPause 7 frame 0x80) up = .next t ∧ t.pending = [] :=
  completes_of (by decide +kernel)

theorem witness_OtherInstancesStay :
    (⟨.FAB_E2E, 0, 0, 0⟩ : RegKey).valid = true ∧ (⟨.FAB_CTL, 0, 0, 0⟩ : RegKey).valid = true ∧ (∀ x, Req.mgmt ≠ .session x) ∧
    (BitVec.ofNat 64 (⟨.FAB_CTL, 0, 0, 0⟩ : RegKey).addr).toNat = (⟨.FAB_CTL, 0, 0, 0⟩ : RegKey).addr ∧ RegName.FAB_CTL ∈ When.plainWords ∧
    (∃ t, exec (.registerWrite .mgmt (BitVec.ofNat 64 (⟨.FAB_CTL, 0, 0, 0⟩ : RegKey).addr) 8 5) up = .next t ∧ t.fg F.FAB_CTL.HOP_LIMIT = 5) ∧
    (⟨.MGT_HOSTKEY_W0, 1, 0, 0⟩ : RegKey) ≠ ⟨.MGT_HOSTKEY_W0, (0 : Fin 16).val, 0, 0⟩ ∧
    (∃ t, exec (.hostkeyEnable .mgmt 0 0) up = .next t ∧ t.pending = []) := by
  refine ⟨by decide +kernel, by decide +kernel, fun n h => (by cases h), by decide +kernel, by decide +kernel, completes_of (by decide +kernel),
    by decide +kernel, completes_of (by decide +kernel)⟩

theorem witness_JtagInstructionsReachTheTap :
    ({ up with pw := { up.pw with pinLow := true } } : State).pw.pinLow = true ∧ up.pw.pinLow = false ∧
    ({ up with mg := { up.mg with fuse := { up.mg.fuse with debug := true } } } : State).mg.fuse.debug = true ∧ up.mg.fuse.debug = false := by
  decide +kernel

theorem witness_MemoryReadsWhatWasStored :
    ([1, 2] : List Byte)[1]? = some 2 ∧ (640 : Nat) ∈ [640] ∧ (1 < ([1, 2] : List Byte).length ∧ (40960 + 1) / 64 = 640) ∧ up.canonical = true := by
  decide +kernel

/-! ### Commands that are not well formed -/

theorem wf_refuses_widths :
    (Instr.doorbell .mgmt ⟨1, .ok⟩ 0 0).wf = false ∧ (Instr.registerWrite .mgmt 0 4097 0).wf = false ∧
      (Instr.doorbell .mgmt ⟨1, .ok⟩ 4096 0).wf = true := by
  decide

theorem wf_refuses_tiles_and_words :
    (Instr.segmentIssue 0 0 (.rowsOfA [])).wf = false ∧ (Instr.segmentIssue 0 0 (.colsOfB [1, 1])).wf = false ∧
    (Instr.decantSweep 0 0 (.acc256 0xFFFF) .ok).wf = false := by
  decide +kernel

theorem wf_refuses_what_reads_and_landings_cannot_meet :
    (Instr.segmentIssue 0 0 (.lostRowsOfA 0 [])).wf = false ∧ (Instr.transferLanded 0 0 (.parity [1, 1] none)).wf = false ∧
    (Instr.accred ⟨0, [(7, .ok), (7, .corrected)]⟩).wf = false ∧ (Instr.barrier ⟨0, [(7, .ok), (7, .corrected)]⟩).wf = false ∧
    (Instr.repairHoldEnd 0 ⟨true, [(7, .ok), (7, .corrected)]⟩).wf = false := by
  decide +kernel

theorem wf_refuses_packets :
    (Instr.flitGroup 0 { fecBad := 0, bytes := [0] }).wf = false ∧
    (Instr.ack ⟨{ zeroPkt with payload := List.replicate 4097 0 }, .ok, []⟩).wf = false ∧
      (Instr.ack ⟨{ zeroPkt with poison := 2 }, .ok, []⟩).wf = false ∧
    (let f : CombFound := { psn := 3, poisoned := 0, saturated := 0, fmt := 0, lost := true }
     (Instr.ack ⟨zeroPkt, .ok, [f, f]⟩).wf = false) ∧ (Instr.spireTakeover [⟨2, 0⟩, ⟨2, 1⟩] true).wf = false ∧
    (Instr.route zeroPkt none (.payloadUnits 0)).wf = false ∧
    (Instr.acknowledge 0 (roce 0x11 0 0 0 (List.replicate 4097 0))).wf = false := by
  decide +kernel

theorem wf_refuses_what_surroundings_cannot_find :
    (Instr.laggardWindow [{ core := 1, active := 0, held := 0, window := 0, stalls := 0 }]).wf = false ∧
    (Instr.retirement 0 [] [1, 1]).wf = false ∧ (Instr.startUp { goodStart with imgs := [(0, good), (0, good)] }).wf = false ∧
    (Instr.startUp { goodStart with fuses := some { factory with rootHash := [] } }).wf = false ∧
    (Instr.startUp { goodStart with ddr := [(0, { gib := 40, twoRanks := false, x8 := true, ecc := true, rates := 7 }, true)] }).wf = false ∧
    (Instr.domeExit { wakeEnv true with ports := [(1, 0), (1, 1)] }).wf = false ∧ (Instr.sensorSample [(.dome, 0), (.dome, 1)] []).wf = false := by
  decide +kernel

theorem wf_refuses_updates :
    (Instr.updateComponent 1 (2 ^ 32)).wf = false ∧ (Instr.requestFirmwareData 0 []).wf = false ∧
      (Instr.requestFirmwareData (2 ^ 32) [1]).wf = false := by
  decide

/-! ### Values the spec or arithmetic gives -/

/-- R529 and the address map. -/
theorem test_addresses :
    (⟨.MGT_STATUS, 0, 0, 0⟩ : RegKey).addr = 0x300040000000 ∧ (⟨.FAB_CTL, 0, 0, 0⟩ : RegKey).addr = 0x300030100008 ∧
    (⟨.ETH_STATUS, 7, 0, 0⟩ : RegKey).addr = 0x300037300008 ∧ keyOf 0x300037300008 = some ⟨.ETH_STATUS, 7, 0, 0⟩ := by
  decide +kernel

/-- R41: 1000 does not fit INT8, and −3 × 2^-1 rounds to even; the check value of CRC-32C is that of "123456789". -/
theorem test_values :
    (encodeElem .int8 0 true (roundQ .near) (.num 1000)).1 = 127 ∧ (encodeElem .int8 1 true (roundQ .near) (.num (-3))).1 = 0xFE ∧
    (readElem .int4 2 true 0xF).v = .num (-4) ∧ (readElem .bf16 0 true 0x3F80).v = .num 1 ∧
    crc32c [0x31, 0x32, 0x33, 0x34, 0x35, 0x36, 0x37, 0x38, 0x39] = 0xE3069283 := by
  decide +kernel

/-- The worked examples of the spec: an FP32 block as TB8 (chapter 2, after R48) and a TB16 element as BF16 and FP32 (after R57). -/
theorem test_examples :
    (encodeBlock 8 0 (fun _ => roundQ .near) ([.num (mkRat 201 64), .num (mkRat (-3) 4), .num (mkRat 1 2), .num (mkRat 1 1000)] ++
      List.replicate 28 (.num 0))).blk = 0x3B ∧
    (encodeBlock 8 0 (fun _ => roundQ .near) ([.num (mkRat 201 64), .num (mkRat (-3) 4), .num (mkRat 1 2), .num (mkRat 1 1000)] ++
      List.replicate 28 (.num 0))).ms.take 4 = [100, -24, 16, 0] ∧
    (encodeElem .bf16 0 true (roundQ .near) (.num (32700 * pow2 (-15)))).1 = 0x3F7F ∧
    (encodeElem .fp32 0 true (roundQ .near) (.num (32700 * pow2 (-15)))).1 = 0x3F7F7800 := by
  decide +kernel

end Sys2Proof.Tests
end

section
/-! SUPPORT. The laws of the number formats: the roundings of R37, two's complement, writing and reading the integer formats (R41) and the
NaN of a poisoned value (R57); then the statements of the formats. -/

namespace Sys2Proof.Laws

open Sys2Proof.Machine

/-! ### Rounding (R37) -/

theorem ratAbs_eq_abs (x : Rat) : ratAbs x = |x| := by
  unfold ratAbs
  split
  · exact (abs_of_neg ‹_›).symm
  · exact (abs_of_nonneg (not_lt.mp ‹_›)).symm

theorem mkRat_one_two : mkRat 1 2 = 1 / 2 := by
  rw [Rat.mkRat_eq_div]
  rfl

theorem roundQ_near_of_fract_lt {x : Rat} (h : Int.fract x < 1 / 2) : roundQ .near x = ⌊x⌋ := by
  have hf : x - (x.floor : Rat) < mkRat 1 2 := mkRat_one_two ▸ h
  simp only [roundQ, roundSt, if_neg hf.not_gt, if_pos hf]
  rfl

theorem roundQ_near_of_lt_fract {x : Rat} (h : 1 / 2 < Int.fract x) : roundQ .near x = ⌊x⌋ + 1 := by
  have hf : mkRat 1 2 < x - (x.floor : Rat) := mkRat_one_two ▸ h
  simp only [roundQ, roundSt, if_pos hf]
  rfl

theorem roundQ_near_of_fract_eq {x : Rat} (h : Int.fract x = 1 / 2) :
    roundQ .near x = if ⌊x⌋ % 2 = 0 then ⌊x⌋ else ⌊x⌋ + 1 := by
  have hf : x - (x.floor : Rat) = mkRat 1 2 := mkRat_one_two ▸ h
  simp only [roundQ, roundSt, hf, lt_irrefl, if_false, Bool.false_eq_true]
  rfl

theorem roundQ_zero_of_nonneg {x : Rat} (h : 0 ≤ x) : roundQ .zero x = ⌊x⌋ := if_pos h

theorem ceil_eq_ite_fract (x : Rat) : ⌈x⌉ = if 0 < Int.fract x then ⌊x⌋ + 1 else ⌊x⌋ := by
  have hx := Int.self_sub_floor x
  have hlt := Int.lt_floor_add_one x
  have hlo := Int.fract_nonneg x
  rw [Int.ceil_eq_iff]
  split <;> push_cast <;> constructor <;> linarith

theorem roundQ_zero_of_neg {x : Rat} (h : x < 0) : roundQ .zero x = ⌈x⌉ := by
  rw [ceil_eq_ite_fract]
  simp only [roundQ, roundSt, if_neg h.not_ge, Bool.false_eq_true, or_false]
  rfl

theorem abs_sub_roundQ_near_le (x : Rat) : |x - roundQ .near x| ≤ 1 / 2 := by
  have hx := Int.self_sub_floor x
  have hlo := Int.fract_nonneg x
  have hhi := Int.fract_lt_one x
  rw [abs_le]
  rcases lt_trichotomy (Int.fract x) (1 / 2) with h | h | h
  · rw [roundQ_near_of_fract_lt h]
    constructor <;> linarith
  · rw [roundQ_near_of_fract_eq h]
    split <;> push_cast <;> constructor <;> linarith
  · rw [roundQ_near_of_lt_fract h]
    push_cast
    constructor <;> linarith

/-- The distance to the nearest integer is 1/2 only at a tie, and there the choice is the even one. -/
theorem roundQ_near_even_of_tie {x : Rat} (h : |x - roundQ .near x| = 1 / 2) : roundQ .near x % 2 = 0 := by
  have hx := Int.self_sub_floor x
  have hlo := Int.fract_nonneg x
  have hhi := Int.fract_lt_one x
  rcases lt_trichotomy (Int.fract x) (1 / 2) with hf | hf | hf
  · rw [roundQ_near_of_fract_lt hf, hx, abs_of_nonneg hlo] at h
    exact absurd h hf.ne
  · rw [roundQ_near_of_fract_eq hf]
    split <;> omega
  · rw [roundQ_near_of_lt_fract hf, abs_of_neg (by push_cast; linarith)] at h
    push_cast at h
    linarith

theorem abs_roundQ_zero_le (x : Rat) : |(roundQ .zero x : Rat)| ≤ |x| := by
  rcases le_or_gt 0 x with h | h
  · rw [roundQ_zero_of_nonneg h, abs_of_nonneg h, abs_of_nonneg (by exact_mod_cast Int.floor_nonneg.mpr h)]
    exact Int.floor_le x
  · rw [roundQ_zero_of_neg h, abs_of_neg h, abs_of_nonpos (by exact_mod_cast Int.ceil_le.mpr (by simpa using h.le))]
    exact neg_le_neg (Int.le_ceil x)

theorem abs_sub_roundQ_zero_lt_one (x : Rat) : |x - roundQ .zero x| < 1 := by
  rw [abs_lt]
  rcases le_or_gt 0 x with h | h
  · rw [roundQ_zero_of_nonneg h]
    constructor <;> linarith [Int.floor_le x, Int.lt_floor_add_one x]
  · rw [roundQ_zero_of_neg h]
    constructor <;> linarith [Int.le_ceil x, Int.ceil_lt_add_one x]

theorem mul_roundQ_zero_nonneg (x : Rat) : 0 ≤ x * roundQ .zero x := by
  rcases le_or_gt 0 x with h | h
  · rw [roundQ_zero_of_nonneg h]
    exact mul_nonneg h (by exact_mod_cast Int.floor_nonneg.mpr h)
  · rw [roundQ_zero_of_neg h]
    exact mul_nonneg_of_nonpos_of_nonpos h.le (by exact_mod_cast Int.ceil_le.mpr (by simpa using h.le))

/-! ### Two's complement -/

theorem tcBits_lt (w : Nat) (x : Int) : tcBits w x < 2 ^ w := by
  have hpos : (0 : Int) < 2 ^ w := by positivity
  have h := Int.emod_lt_of_pos x hpos
  unfold tcBits
  zify
  rwa [Int.toNat_of_nonneg (Int.emod_nonneg x hpos.ne')]

/-- The ends of the two's-complement range are in order. -/
theorem neg_two_pow_le_two_pow_sub_one (n : Nat) : -(2 ^ n : Int) ≤ 2 ^ n - 1 := by
  have hpos : (0 : Int) < 2 ^ n := by positivity
  omega

theorem sext_eq_bmod {w : Nat} (hw : 0 < w) (x : Nat) : sext w x = Int.bmod x (2 ^ w) := by
  obtain ⟨n, rfl⟩ := Nat.exists_eq_succ_of_ne_zero hw.ne'
  rw [Int.bmod_def]
  simp only [sext, Nat.succ_eq_add_one, Nat.add_sub_cancel, Nat.cast_pow, Nat.cast_ofNat]
  have hx : ((x % 2 ^ (n + 1) : Nat) : Int) = (x : Int) % 2 ^ (n + 1) := by push_cast; rfl
  have hhalf : ((2 : Int) ^ (n + 1) + 1) / 2 = ((2 ^ n : Nat) : Int) := by rw [pow_succ]; push_cast; omega
  rw [hhalf, ← hx]
  simp only [Nat.cast_lt]

/-- Sign extension undoes two's complement on the values that fit. -/
theorem sext_tcBits {w : Nat} (hw : 0 < w) {x : Int} (hlo : -2 ^ (w - 1) ≤ x) (hhi : x < 2 ^ (w - 1)) :
    sext w (tcBits w x) = x :=
  calc sext w (tcBits w x) = Int.bmod (tcBits w x) (2 ^ w) := sext_eq_bmod hw _
    _ = Int.bmod (x % (2 ^ w : Nat)) (2 ^ w) := by
      rw [tcBits, Int.toNat_of_nonneg (Int.emod_nonneg x (by positivity))]
      push_cast
      rfl
    _ = Int.bmod x (2 ^ w) := Int.emod_bmod x (2 ^ w)
    _ = x := by rw [← BitVec.toInt_ofInt, BitVec.toInt_ofInt_eq_self hw hlo hhi]

/-! ### Writing and reading the integer formats (R41) -/

theorem clampInt_eq_max_min {lo hi : Int} (h : lo ≤ hi) (x : Int) : clampInt lo hi x = max lo (min hi x) := by
  unfold clampInt
  split_ifs <;> omega

theorem clampInt_eq_self_iff {lo hi : Int} (h : lo ≤ hi) (x : Int) : clampInt lo hi x = x ↔ lo ≤ x ∧ x ≤ hi := by
  rw [clampInt_eq_max_min h]
  omega

theorem encodeElem_num_of_isInt {f : Fmt} (hf : f.isInt = true) (s : Int) (subn : Bool) (rnd : Rat → Int) (x : Rat) :
    encodeElem f s subn rnd (.num x) =
      let q := rnd (x / pow2 s)
      let c := clampInt (-(2 ^ (f.bits - 1))) (2 ^ (f.bits - 1) - 1) q
      (tcBits f.bits c, if c = q then .none else .sat) := by
  cases f with
  | int4 | int8 | int32 => rfl
  | _ => cases hf

theorem readElem_of_isInt {f : Fmt} (hf : f.isInt = true) (s : Int) (subn : Bool) (x : Nat) :
    readElem f s subn x = { v := .num ((sext f.bits x : Rat) * pow2 s) } := by
  cases f with
  | int4 | int8 | int32 => rfl
  | _ => cases hf

theorem fmt_bits_pos (f : Fmt) : 0 < f.bits := by
  cases f <;> decide

/-- R41: what a real value x written to an integer format decodes to. -/
theorem readElem_encodeElem_of_isInt {f : Fmt} (hf : f.isInt = true) (s : Int) (subn : Bool) (rnd : Rat → Int) (x : Rat) :
    (readElem f s subn (encodeElem f s subn rnd (.num x)).1).v =
      .num ((max (-(2 ^ (f.bits - 1))) (min (2 ^ (f.bits - 1) - 1) (rnd (x / pow2 s))) : Int) * pow2 s) := by
  have hrange := neg_two_pow_le_two_pow_sub_one (f.bits - 1)
  simp only [encodeElem_num_of_isInt hf, readElem_of_isInt hf, clampInt_eq_max_min hrange]
  rw [sext_tcBits (fmt_bits_pos f) (le_max_left _ _) (by omega)]

theorem encodeElem_lt_of_isInt {f : Fmt} (hf : f.isInt = true) (s : Int) (subn : Bool) (rnd : Rat → Int) (x : Rat) :
    (encodeElem f s subn rnd (.num x)).1 < 2 ^ f.bits := by
  rw [encodeElem_num_of_isInt hf]
  exact tcBits_lt _ _

/-- R41: a value counts as saturated exactly where it is clamped. -/
theorem saturated_encodeElem_of_isInt {f : Fmt} (hf : f.isInt = true) (s : Int) (subn : Bool) (rnd : Rat → Int) (x : Rat) :
    (encodeElem f s subn rnd (.num x)).2.ev.saturated =
      if -(2 ^ (f.bits - 1)) ≤ rnd (x / pow2 s) ∧ rnd (x / pow2 s) ≤ 2 ^ (f.bits - 1) - 1 then 0 else 1 := by
  rw [encodeElem_num_of_isInt hf]
  simp only [clampInt_eq_self_iff (neg_two_pow_le_two_pow_sub_one (f.bits - 1))]
  split <;> rfl

/-! ### The NaN of a poisoned value (R53, R57) -/

/-- R53: an encoding with all exponent bits set and a nonzero fraction is a NaN, and reads as poison of cause 0x08. -/
theorem readFp_nan {fb x : Nat} (subn : Bool) (hex : bitsOf x fb 8 = 255) (hfr : bitsOf x 0 fb ≠ 0) :
    (readFp fb subn x).v = .bad 0x08 := by
  simp only [readFp, if_pos hex, if_pos hfr]

end Sys2Proof.Laws

open Sys2Proof Sys2Proof.Machine Sys2Proof.Laws

/-- Settles O59: an integer format's element is the clamped quotient in two's complement, which sign extension reads back. -/
theorem valuesAreWrittenToIntegerFormats : Obligations.ValuesAreWrittenToIntegerFormats := by
  refine ⟨?_, ?_, fun x => ?_⟩
  · rintro f crnd S subn x hf -
    have hi : f.isInt = true := by rcases hf with rfl | rfl <;> rfl
    exact ⟨readElem_encodeElem_of_isInt hi S subn _ x, encodeElem_lt_of_isInt hi S subn _ x,
      saturated_encodeElem_of_isInt hi S subn _ x⟩
  · rintro _ x rfl
    simp only [ratAbs_eq_abs, mkRat_one_two]
    exact ⟨abs_sub_roundQ_near_le x, roundQ_near_even_of_tie⟩
  · simp only [ratAbs_eq_abs]
    exact ⟨abs_roundQ_zero_le x, abs_sub_roundQ_zero_lt_one x, mul_roundQ_zero_nonneg x⟩

/-- Settles O60: the bits written are all exponent bits, the quiet bit and the cause (R57), so the read finds a NaN (R53). -/
theorem poisonedValuesAreWritten : Obligations.PoisonedValuesAreWritten := by
  intro S subn rnd cause hc
  have hm : cause % 64 = cause := Nat.mod_eq_of_lt hc
  refine ⟨congrArg (0x7FC00000 + ·) hm, readFp_nan subn ?_ ?_, congrArg (0x7FC0 + ·) hm, readFp_nan subn ?_ ?_⟩ <;>
    (unfold bitsOf; omega)
end

section
/-! SUPPORT. The laws of the JTAG port (R554): what each instruction, TRST_N and a power-on reset do to the TAP; then the statement of the
port. -/

namespace Sys2Proof.Laws

open Sys2Proof.Machine

variable (s : State)

/-! ### The instruction in the TAP -/

@[simp] theorem tapIs_tap (n : Nat) : (s.tapIs n).pw.tap = some n := rfl

@[simp] theorem trstN_tap : (trstN s).pw.tap = none := rfl

@[simp] theorem porReset_tap : s.porReset.pw.tap = none := rfl

theorem mem_out_emit (m : Msg) : m ∈ (s.emit m).out :=
  List.mem_append_right s.out (List.mem_singleton_self m)

/-! ### The commands of the port -/

theorem exec_jtagInstruction (i : Jtag) : exec (.jtagInstruction i) s = jtag i s := rfl

theorem exec_trstN : exec .trstN s = .next (trstN s) := rfl

theorem exec_powerOnReset (src : PorSource) : exec (.powerOnReset src) s = .next s.porReset := rfl

/-! ### One equation for each instruction -/

theorem jtag_bypass : jtag .bypass s = .next (s.tapIs tapBypass) := rfl

theorem jtag_idcode : jtag .idcode s = .next ((s.tapIs tapIdcode).emit (.side 0x90 tapIdcode [partField])) := rfl

theorem jtag_samplePreload : jtag .samplePreload s = .next (s.tapIs tapSample) := rfl

variable {s}

theorem jtag_extest_of_pinLow (h : s.pw.pinLow = true) : jtag .extest s = .next (s.tapIs tapExtest) := by
  simp only [jtag, if_pos h]

theorem jtag_extest_of_not_pinLow (h : s.pw.pinLow = false) : jtag .extest s = jtag .bypass s := by
  simp only [jtag, h, Bool.false_eq_true, if_false]

theorem jtag_other_of_blown (h : s.mg.fuse.debug = true) (code : Nat) : jtag (.other code) s = .refused .debugLogic := by
  simp only [jtag, if_pos h]

theorem jtag_other_of_not_blown (h : s.mg.fuse.debug = false) (code : Nat) : jtag (.other code) s = jtag .bypass s := by
  simp only [jtag, h, Bool.false_eq_true, if_false]

end Sys2Proof.Laws

open Sys2Proof Sys2Proof.Machine Sys2Proof.Laws

/-- Settles O58: one equation for each instruction; the level of SYS_RESET_N decides EXTEST, and the debug fuse every instruction that R554
does not name (the TAP's numbers are those of log entry 42). -/
theorem jtagInstructionsReachTheTap : Obligations.JtagInstructionsReachTheTap := by
  intro s code src
  simp only [exec_jtagInstruction, exec_trstN, exec_powerOnReset]
  refine ⟨?bypass, ?idcode, ?sample, ?extestLow, jtag_extest_of_not_pinLow, ?blown, ?intact, ?trst, ?por⟩
  case bypass => exact ⟨_, jtag_bypass s, tapIs_tap s _⟩
  case idcode => exact ⟨_, jtag_idcode s, by rw [emit_pw, tapIs_tap], mem_out_emit _ _⟩
  case sample => exact ⟨_, jtag_samplePreload s, tapIs_tap s _⟩
  case extestLow => exact fun h => ⟨_, jtag_extest_of_pinLow h, tapIs_tap s _⟩
  case blown => exact fun h => jtag_other_of_blown h code
  case intact => exact fun h => jtag_other_of_not_blown h code
  case trst => exact ⟨_, rfl, trstN_tap s⟩
  case por => exact ⟨_, rfl, porReset_tap s⟩
end
